-- ==== Sys2Proof/Word.lean ====
section
/-! DEFINITION. The word types of the block: 32-bit register words, bytes, byte strings, and the two build sizes. -/

namespace Sys2Proof

/-- A register word of the Host Register Port (R8). -/
abbrev Word := BitVec 32

/-- One byte of a record, an image or a report. -/
abbrev Byte := BitVec 8

/-- A byte string: a record, a flit, an image, a message. -/
abbrev Bytes := List Byte

/-- The build size fixed at synthesis (R1). Log entry 5 (DESIGN CHOICE). -/
inductive Build where
  | spoke
  | hub
deriving DecidableEq, Repr

namespace Build

/-- Lanes of the build: one Scales, one Tree and one MAC tile each (R1). -/
def lanes : Build → Nat
  | spoke => 8
  | hub => 128

/-- Link ports of the build (R1). -/
def ports : Build → Nat
  | spoke => 4
  | hub => 96

/-- Kiosk cores of the build (R1). -/
def kioskCores : Build → Nat
  | spoke => 2
  | hub => 8

/-- Tally tiles of the build (spec/01, table of the tiles). -/
def tallyTiles : Build → Nat
  | spoke => 2
  | hub => 4

/-- Codec tiles of the build (spec/01, table of the tiles). -/
def codecTiles : Build → Nat
  | spoke => 2
  | hub => 16

/-- Pipelines that an image may hold (R11). -/
def pipelines : Build → Nat
  | spoke => 32
  | hub => 512

end Build

end Sys2Proof
end

