-- ==== Sys2Proof/Syntax.lean ====
section
/-! DEFINITION. The commands of the block: one constructor of `Instr` for each row of spec/opcode_table.json, and the
operands that they carry. A command is something from outside (a register access, a received record or report, an edge at a
port or pin) or an instant that the spec names (a boundary, a seal, the end of a timeout, the completion of work). Times in
operands are stamps of the local time counter in units of 125 ps (R71). -/

namespace Sys2Proof

/-- The three sources of register accesses (R47); the Kiosk cores run in machine or user mode (R436). -/
inductive Src where
  | host | kioskM | kioskU | xlp
deriving DecidableEq, Repr

/-- A register access: its source, its PRIV and STALL (R45), and when it arrives. Log entry 27 (DESIGN CHOICE). -/
structure Access where
  src : Src
  priv : Bool
  stall : BitVec 12
  t : Nat
deriving DecidableEq, Repr

/-- A received record: the port, the stamp of its first record flit, whether its frame came with ENC = 1 (R342), the
CORR of its envelope, and the record's bytes, header included (R341). Log entry 27 (DESIGN CHOICE). -/
structure Rx where
  port : Nat
  t : Nat
  enc : Bool
  corr : BitVec 64
  bytes : Bytes
deriving DecidableEq, Repr

/-- A Service Port report: the stamp at the rise of req and the body (R122, R307). Log entry 27 (DESIGN CHOICE). -/
structure Report where
  t : Nat
  body : BitVec 120
deriving DecidableEq, Repr

/-- A value that reaches a Scales tile (R146): its metric, its raw bits in the metric's IN_FMT, its stamp in 125 ps units,
flags of the value for MFLAGS (R153), and the TAG that the feeding pipeline sets (R145). -/
structure MetricValue where
  metric : Nat
  raw : BitVec 64
  t : Nat
  flags : Nat
  tag : BitVec 12
deriving DecidableEq, Repr

/-- What SECDED finds in the model store while a row is scored (R216): nothing, a single-bit error, or a double-bit error at a
tile's store word. -/
inductive StoreErr where
  | none
  | single
  | double (tile addr : Nat)
deriving DecidableEq, Repr

/-- The result of a Ledger read-back (R296). -/
inductive Readback where
  | ok | single | double | verify
deriving DecidableEq, Repr

/-- The commands, one per row of the opcode table, in the table's order. -/
inductive Instr where
  /-- POWER_UP (R301): Power-up from OFF clears the time counter, the Ledger and SEQ, and starts bring-up at FUSE. -/
  | powerUp (resetLow bootSel : Bool)
  /-- POWER_OFF (R468): Removal of the supply loses all state and enters OFF. -/
  | powerOff
  /-- BOOT_SEL_SAMPLE (R374): With RESET_N already released at power-up, BOOT_SEL is sampled 10 µs after the supply first reaches 0.55 V. -/
  | bootSelSample (level : Bool)
  /-- RESET_N_ASSERT (R50): An assertion of RESET_N that has lasted 50 ns drops every req and ack of the block and abandons transfers in progress. -/
  | resetNAssert (t : Nat)
  /-- RESET_N_RELEASE (R370): Release of RESET_N samples BOOT_SEL, closes open Ledger entries and restarts the bring-up phases at FUSE. -/
  | resetNRelease (t : Nat) (bootSel : Bool)
  /-- RESET_HELD_BEACON (R383): Once RESET_N has been held for HELD_MS, and every 1 ms after, HELD_RESET is sent on every UP port. -/
  | resetHeldBeacon
  /-- FUSE_READ_RESPONSE (R371): A Fuse Port word arrives and is checked and applied to its fuse section. -/
  | fuseReadResponse (t : Nat) (data : Word) (resp : BitVec 2)
  /-- BOOT_READ_RESPONSE (R43): A Boot Read Port response arrives for an image, model, descriptor, dump or checkpoint read. -/
  | bootReadResponse (t : Nat) (data : BitVec 128) (resp : BitVec 2)
  /-- IMAGE_CHECKED (R402): A fetched configuration image completes its checks and is loaded, staged or rejected with a cause code. -/
  | imageChecked
  /-- BCAST_WAIT_EXPIRY (R374): BCAST_WAIT_MS passes without an accepted broadcast image or host firmware object, and bring-up halts. -/
  | bcastWaitExpiry
  /-- KAT_DONE (R375): The known-answer runs complete and failing tiles are hidden or replaced by spares. -/
  | katDone (failed : List Nat)
  /-- WAVE_GATE_ACK (R376): The host raises ack on a wave gate, starting its settle time. -/
  | waveGateAck (t gate : Nat)
  /-- WAVE_SETTLE (R376): SETTLE_US after a gate's ack expires, releasing its inrush charge so that further gates or the next wave may rise. -/
  | waveSettle (gate : Nat)
  /-- WAVE_GATE_ACK_FALL (R378): The host lowers ack on a wave gate, allowing the next wave down to be lowered. -/
  | waveGateAckFall (t gate : Nat)
  /-- MARKET_OPEN_OCCURS (R380): After an accepted MARKET_OPEN write, market open occurs once the servo is LOCKED and the Cadence is adopted. -/
  | marketOpenOccurs
  /-- MARKET_OPEN (R380): A write of BRU_CTRL.MARKET_OPEN is accepted in phase READY or refused with MO_REFUSED. -/
  | marketOpen (a : Access) (w : Word)
  /-- WAVES_OFF (R378): A write of BRU_CTRL.WAVES_OFF lowers the wave gates in descending wave order. -/
  | wavesOff (a : Access) (w : Word)
  /-- WAVES_ON (R378): A write of BRU_CTRL.WAVES_ON runs the wave sequencing again. -/
  | wavesOn (a : Access) (w : Word)
  /-- RETRY (R370): A write of BRU_CTRL.RETRY resumes the bring-up sequence at the phase that failed. -/
  | retry (a : Access) (w : Word)
  /-- KAT_REQUEST (R375): A write of BRU_KAT_REQ.RUN in TEST runs the known-answer vectors on one tile. -/
  | katRequest (a : Access) (w : Word)
  /-- KAT_REQUEST_DONE (R375): A single-tile known-answer run completes and reports PASS. -/
  | katRequestDone (pass : Bool)
  /-- INBAND_SEND (R385): A write of BRU_INBAND.SEND makes the Pyrmeide root form and send an authenticated INBAND_RESET. -/
  | inbandSend (a : Access) (w : Word)
  /-- INBAND_RESET (R385): A received INBAND_RESET record is checked and, when accepted, acts as a 1 µs RESET_N assertion. -/
  | inbandReset (r : Rx)
  /-- HELD_RESET (R383): A received HELD_RESET record makes the neighbour count the sender ABSENT. -/
  | heldReset (r : Rx)
  /-- RESET_NOTICE (R387): A received RESET_NOTICE triggers a resend of unacknowledged summaries and, for an in-band cause, entry to RECOVERY. -/
  | resetNotice (r : Rx)
  /-- POWER_REQUEST (R468): A write of BLK_POWER_REQ requests a power state, or is refused under R469. -/
  | powerRequest (a : Access) (w : Word)
  /-- POWER_TRANSITION_DONE (R468): A pending power-state change completes once its condition holds, such as retained summaries acknowledged or sessions re-formed. -/
  | powerTransitionDone
  /-- POWER_NOTICE (R470): A received POWER_NOTICE makes the parent count the sender ABSENT for the named epoch. -/
  | powerNotice (r : Rx)
  /-- STATE_REQUEST (R24): A write of BLK_STATE_REQ records a pending service-state transition or is refused. -/
  | stateRequest (a : Access) (w : Word)
  /-- RECOVERY_COMPLETE (R19): The recovery action for the entry cause completes, and the block returns to SERVICE at the next boundary. -/
  | recoveryComplete
  /-- ROUTE_HANDSHAKE (R9): A 512-bit handshake on a lane route moves data between tiles after arbitration. -/
  | routeHandshake (lane : Nat) (routes : List Nat)
  /-- TILE_HUNG (R17): A route request unacknowledged beyond the watchdog declares the destination tile hung and isolates it. -/
  | tileHung (t tile : Nat)
  /-- PORT_STALL_TIMEOUT (R48): An initiator handshake unacknowledged beyond BLK_PORT_TIMEOUT sets STALLED, writes a Ledger entry and asserts ALERT_N. -/
  | portStallTimeout (port sub : Nat)
  /-- PHASE_ORDER_BREAK (R49): A host req or ack move that breaks the phase order discards the transfer and returns the channel to idle. -/
  | phaseOrderBreak (t port sub : Nat)
  /-- SPEED_WINDOW (R56): Each 1 µs window updates BLK_SPEED.RATE and sets BELOW when the rate is under the floor. -/
  | speedWindow (rate : BitVec 12)
  /-- HOST_MEMORY_WRITE_DONE (R43): A Host Memory Port write completes or ends with an error response. -/
  | hostMemoryWriteDone (t : Nat) (resp : BitVec 2)
  /-- ISSUE_GATE_REQ (R44): The host raises req on the issue gate, and ack is given or withheld by stepping, held dumps or step-mode checkpoints. -/
  | issueGateReq (t : Nat)
  /-- TBREF_LOST (R81): No TB_REF edge during 4,096 replica handshakes stops the counter, the Cadence and PULSE_OUT. -/
  | tbrefLost
  /-- TBREF_RETURN (R81): TB_REF edges return and the counter resumes from its frozen value. -/
  | tbrefReturn
  /-- SYNC_INTERVAL (R73): Each Sync interval a LOCKED, HOLDOVER or acting-grandmaster unit sends Sync and Follow_Up downstream. -/
  | syncInterval
  /-- PDELAY_INTERVAL (R73): Each peer-delay interval the unit starts a peer-delay exchange on every time-carrying link. -/
  | pdelayInterval
  /-- SYNC (R83): A received Sync message is accepted on a ranked upstream port or discarded. -/
  | sync (r : Rx)
  /-- FOLLOW_UP (R75): A received Follow_Up completes an offset sample, which drives the servo. -/
  | followUp (r : Rx)
  /-- PDELAY_REQ (R73): A received Pdelay_Req is stamped and answered. -/
  | pdelayReq (r : Rx)
  /-- PDELAY_RESP (R75): A received Pdelay_Resp supplies the neighbour's stamps of a peer-delay exchange. -/
  | pdelayResp (r : Rx)
  /-- PDELAY_RESP_FOLLOW_UP (R75): A received Pdelay_Resp_Follow_Up completes the exchange and updates MEAN_DELAY. -/
  | pdelayRespFollowUp (r : Rx)
  /-- SYNC_PORT_LOSS (R83): No Sync for LOSS_COUNT intervals loses the port, moving to the next port or to HOLDOVER or FREE. -/
  | syncPortLoss
  /-- GM_LOSS (R84): GM_LOSS_US without Sync of lower rank makes a backup, or a cold-start master, the acting grandmaster. -/
  | gmLoss
  /-- RELOCK (R82): A write of TIM_CTRL.RELOCK in TEST or RECOVERY returns the servo to FREE. -/
  | relock (a : Access) (w : Word)
  /-- GM_RESUME (R84): A write of TIM_CTRL.GM_RESUME makes the master resume as grandmaster. -/
  | gmResume (a : Access) (w : Word)
  /-- TIM_ADJ (R78): A write of TIM_ADJ at the acting grandmaster slews the counter or is refused. -/
  | timAdj (a : Access) (w : Word)
  /-- PERIOD_WRITE (R90): A write of PERIOD_US at the Cadence source sets the period from the second boundary after it, or sets PERIOD_BAD. -/
  | periodWrite (a : Access) (w : Word)
  /-- SEAL_LAG_WRITE (R484): A write of TIM_SEAL_LAG is clamped and takes effect at the next boundary. -/
  | sealLagWrite (a : Access) (w : Word)
  /-- CADENCE_ANNOUNCEMENT (R88): A received Cadence announcement updates the schedule and is forwarded downward. -/
  | cadenceAnnouncement (r : Rx)
  /-- SYNC_IN_EDGE (R91): A SYNC_IN rising edge is stamped and, at the Cadence source in mode 2, may pull the next boundary. -/
  | syncInEdge (t : Nat)
  /-- EPOCH_BOUNDARY (R88): The scheduled Cadence boundary closes one epoch and opens the next, announcing it at the Cadence source. -/
  | epochBoundary
  /-- SEAL (R146): TIM_SEAL_LAG after the boundary, or at the next boundary if sooner, the closing epoch is sealed. -/
  | seal
  /-- PULSE_ARM (R93): A write of ARM = 1 latches a PULSE_OUT channel's schedule or rejects it with BADCFG. -/
  | pulseArm (a : Access) (k : Nat) (w : Word)
  /-- PULSE_DISARM (R93): A write of ARM = 0 stops the channel after the current pulse. -/
  | pulseDisarm (a : Access) (k : Nat) (w : Word)
  /-- PULSE_EDGE (R94): The programmed time of a leading edge arrives and PULSE_OUT fires. -/
  | pulseEdge (k : Nat)
  /-- PULSE_TRAILING_EDGE (R94): WIDTH after a leading edge, the pulse's trailing edge is driven. -/
  | pulseTrailingEdge (k : Nat)
  /-- SWEEP_PASS_START (R111): The Tally starts a background sweep pass as soon as the previous one ends. -/
  | sweepPassStart
  /-- BRACKET_PREPASS (R112): At B − n × d the Tally starts the bracket pre-pass over bracket counters. -/
  | bracketPrepass
  /-- TALLY_READ_RESPONSE (R108): A Tally Port response is stamped, checked for FAULT, GEN and NOT_COUNTING, and accepted or discarded. -/
  | tallyReadResponse (t : Nat) (value : BitVec 48) (gen status : BitVec 4)
  /-- GEN_STUCK (R118): GEN mismatches persisting for 4 epochs count STUCK, write a Ledger entry and assert ALERT_N. -/
  | genStuck (ctr : Nat)
  /-- MAP_ENTRY_WRITE (R109): A privileged write of a map entry's EVENT or GEN takes effect at once or is held until the seal. -/
  | mapEntryWrite (a : Access) (ctr : Nat) (w : Word)
  /-- SERVICE_REPORT_ARRIVAL (R306): A Service Port report is acknowledged and queued, or discarded when the FIFO is full or its TYPE undefined. -/
  | serviceReportArrival (t : Nat) (typ : Byte) (body : BitVec 120)
  /-- RA_POST (R123): An RA_POST report opens or extends a run-ahead ticket, or is refused. -/
  | raPost (r : Report)
  /-- RA_COMMIT (R124): An RA_COMMIT report makes a ticket's entries final and frees it. -/
  | raCommit (r : Report)
  /-- RA_CANCEL (R124): An RA_CANCEL report removes a ticket's deltas, in place or by retraction. -/
  | raCancel (r : Report)
  /-- RA_TICKET_EXPIRY (R125): A ticket still outstanding TIMEOUT boundaries after its first post expires as cancelled. -/
  | raTicketExpiry (ticket : Nat)
  /-- SAMPLE (R128): A SAMPLE report counts a sample for a MODE 1 counter and writes a sample record, or is dropped. -/
  | sample (r : Report)
  /-- HOST_REPORT (R308): A report of an image-declared host TYPE feeds its KIND 2 metrics, REPORT inputs and STREAM triggers. -/
  | hostReport (typ : Byte) (r : Report)
  /-- SCALES_VALUE (R146): A value arriving at a Scales tile is converted and accumulated into the bank of its stamp's epoch. -/
  | scalesValue (v : MetricValue)
  /-- CHILD_SUMMARY (R166): A child's summary arrives at a merge point and is taken, replaced, refused or discarded as a duplicate. -/
  | childSummary (r : Rx) (parts : List Bytes)
  /-- MERGE_DEADLINE (R167): WAIT_US after the seal the merge starts with whatever children have arrived. -/
  | mergeDeadline
  /-- MERGE_COMPLETE (R162): The merged summary is complete and is forwarded or published by the root. -/
  | mergeComplete
  /-- LATE_BUNDLE (R169): A received late bundle is merged, forwarded or merged into the root's retained result. -/
  | lateBundle (r : Rx) (recs : List Bytes)
  /-- CONTRIBUTOR_RECORD (R171): A received contributor record updates the kept slot maps. -/
  | contributorRecord (r : Rx)
  /-- RETRACTION_RECORD (R173): A received retraction record is applied, forwarded or discarded as orphan or expired. -/
  | retractionRecord (r : Rx)
  /-- SOURCE_VALUE_RECORD (R180): A received source-value record supplies per-Spoke values for the straggler search and CHILD rows. -/
  | sourceValueRecord (r : Rx)
  /-- STRAGGLER_RECORD (R185): A received straggler record is merged into the ranked list. -/
  | stragglerRecord (r : Rx)
  /-- REFERENCE_RECORD (R181): A received reference record gives tray nodes the domain median and MAD. -/
  | referenceRecord (r : Rx)
  /-- EPOCH_ACK (R174): A received EPOCH_ACK frees the acknowledged summary from reduction staging. -/
  | epochAck (r : Rx)
  /-- DERAILLEUR_COMMIT (R177): A write of RED_DRL_CTRL.COMMIT schedules the shadow tables, or is refused as LATE. -/
  | derailleurCommit (a : Access) (w : Word)
  /-- STREAM_TRIGGER (R197): A trigger named by a STREAM model forms a row, queued or dropped when the queue is full. -/
  | streamTrigger (slot t : Nat) (value : MetricValue)
  /-- ROW_SCORED (R204): A row's scoring completes and its scores enter Scales as KIND 4 values. -/
  | rowScored (slot : Nat) (err : StoreErr)
  /-- DRIFT_RESET (R223): A write of a detector's RESET restarts its state at 0. -/
  | driftReset (a : Access) (d : Nat) (w : Word)
  /-- MODEL_LOAD (R232): INF_MDL_CTRL.OP = LOAD starts fetching a model image into a slot. -/
  | modelLoad (a : Access) (w : Word)
  /-- MODEL_FETCH_COMPLETE (R232): A fetched model image is authenticated and checked, then staged or rejected. -/
  | modelFetchComplete
  /-- MODEL_COMMIT (R237): OP = COMMIT makes a staged model PENDING for the target epoch, or is refused. -/
  | modelCommit (a : Access) (w : Word)
  /-- MODEL_UNLOAD (R237): OP = UNLOAD schedules the slot to empty at the target boundary. -/
  | modelUnload (a : Access) (w : Word)
  /-- MODEL_ABORT (R237): OP = ABORT discards a staged or pending model image. -/
  | modelAbort (a : Access) (w : Word)
  /-- MODEL_RESUME (R235): OP = RESUME makes a suspended slot leave SUSPENDED at the next boundary. -/
  | modelResume (a : Access) (w : Word)
  /-- EPOCH_BUDGET_EXPIRY (R234): EPOCH_US after the seal the summary leaves without waiting, and the overrun is counted. -/
  | epochBudgetExpiry
  /-- CHILD_BUDGET_EXPIRY (R234): CHILD_US after merge start the tray node forwards without waiting for CHILD models. -/
  | childBudgetExpiry
  /-- ALARM_RECORD (R243): A received alarm, finding or notice record is forwarded on alarm routes or discarded as a duplicate. -/
  | alarmRecord (r : Rx)
  /-- TRACE_PACKET (R254): A trace packet head word is stamped and the packet accepted, stalled or dropped. -/
  | tracePacket (t chan : Nat) (head : BitVec 64) (conts : List (BitVec 64))
  /-- TRACE_STALL_TIMEOUT (R271): STALL_LIMIT_US of a withheld ack expires, and the channel acks and discards packets. -/
  | traceStallTimeout (chan : Nat)
  /-- SEQ_TIME_EVENT (R257): Local time reaches TRC_SEQ.TIME, giving event 7 to the sequencer. -/
  | seqTimeEvent (q : Nat)
  /-- SEQ_FIRE (R257): A write of TRC_SEQ.FIRE gives event 5 to the sequencer. -/
  | seqFire (a : Access) (q : Nat) (w : Word)
  /-- SEQ_RESTART (R258): A write of TRC_SEQ.RESTART returns the sequencer to state 0 without entry actions. -/
  | seqRestart (a : Access) (q : Nat) (w : Word)
  /-- BLOCK_AGE_EXPIRY (R260): FLUSH_US after a block opened, the block closes. -/
  | blockAgeExpiry (stream : Nat)
  /-- BLOCK_CODED (R262): The codec finishes coding a closed block into a frame, which goes to a Pannier buffer. -/
  | blockCoded (stream : Nat)
  /-- TRACE_FLUSH (R266): A write of TRC_FLUSH closes open blocks of the named streams and sets BUSY. -/
  | traceFlush (a : Access) (w : Word)
  /-- TRACE_SYNC (R265): A write of TRC_SYNC forms a sync point in the named streams. -/
  | traceSync (a : Access) (w : Word)
  /-- PANNIER_START (R270): A START command opens the stream at HEAD in RUN or WAIT. -/
  | pannierStart (a : Access) (stream : Nat) (w : Word)
  /-- PANNIER_APPEND (R270): An APPEND command continues an EXHAUSTED stream at HEAD. -/
  | pannierAppend (a : Access) (stream : Nat) (w : Word)
  /-- PANNIER_STOP (R270): A STOP command ends intake and closes the open block with LAST. -/
  | pannierStop (a : Access) (stream : Nat) (w : Word)
  /-- PANNIER_POLL (R270): Every POLL_US in WAIT the block polls the next descriptor's OWN. -/
  | pannierPoll (stream : Nat)
  /-- LEDGER_FOLD (R289): The fold stage takes a waiting event and folds it into an open entry or queues it. -/
  | ledgerFold
  /-- LEDGER_QUEUE_TAKE (R289): The write engine takes a queued event, which folds or opens a new entry. -/
  | ledgerQueueTake
  /-- LEDGER_ENTRY_WRITE (R287): The write engine writes a due open, boundary or closing entry to SRAM. -/
  | ledgerEntryWrite
  /-- LEDGER_READBACK (R296): An entry write's read-back completes, merging the shadow tally or detecting a memory fault. -/
  | ledgerReadback (result : Readback)
  /-- LEDGER_FOLD_TIMEOUT (R286): FOLD_US with no repeat closes an open entry. -/
  | ledgerFoldTimeout (seq : Nat)
  /-- CMD_MARK (R324): A CMD_MARK report starts or queues a latch pass, and may stop run-to-break. -/
  | cmdMark (r : Report)
  /-- LATCH_PASS_DONE (R325): A latch pass completes and writes a latch record. -/
  | latchPassDone
  /-- PC_SAMPLE (R326): A PC_SAMPLE report writes a PC-sample record, or is dropped beyond the limit. -/
  | pcSample (r : Report)
  /-- OPCOUNT (R327): An OPCOUNT report adds COUNT to a cell of the live operation table. -/
  | opcount (r : Report)
  /-- TENSOR_TAG (R328): A TENSOR_TAG matching the armed dump is held pending. -/
  | tensorTag (r : Report)
  /-- TENSOR_LEN (R328): A TENSOR_LEN of the tagged tensor triggers the dump copy. -/
  | tensorLen (r : Report)
  /-- DUMP_ARM (R328): A write of SVC_DUMP_CTRL.ARM arms the dump for the named tensor and step. -/
  | dumpArm (a : Access) (w : Word)
  /-- DIG_OPEN (R311): A DIG_OPEN report opens a collective digest or is refused. -/
  | digOpen (r : Report)
  /-- DIG_TAP (R310): A DIG_TAP report folds a word into the collective's digest. -/
  | digTap (r : Report)
  /-- DIG_CLOSE (R311): A DIG_CLOSE report emits the digest record and frees the entry. -/
  | digClose (r : Report)
  /-- COLL_TIMEOUT (R311): A collective open for COLL_TIMEOUT boundaries is closed as ABORTED. -/
  | collTimeout (coll : Nat)
  /-- DIGEST_RECORD (R313): A received digest record is paired and judged, held, or forwarded. -/
  | digestRecord (r : Rx)
  /-- DIGEST_PAIR_EXPIRY (R313): The root's PAIR_WINDOW hold expires and unpaired records are reported UNPAIRED. -/
  | digestPairExpiry
  /-- DUP_PLAN_WRITE (R315): During epoch E − 1 the block writes the keyed duplicate plan for E to host memory. -/
  | dupPlanWrite
  /-- DUP_RESULT (R316): A DUP_RESULT report is matched against the plan and charges tiles on mismatch. -/
  | dupResult (r : Report)
  /-- DUP_RESULT_WINDOW_CLOSE (R316): The result window closes and selected slots with no result are counted MISSED. -/
  | dupResultWindowClose
  /-- POISON (R317): A POISON report charges the origin tile and sends a finding. -/
  | poison (r : Report)
  /-- CHECK (R317): A CHECK report with differing values charges the producer tile. -/
  | check (r : Report)
  /-- NUMERIC (R317): A NUMERIC report with NaN outputs is counted and may charge the tile. -/
  | numeric (r : Report)
  /-- FT_RESULT (R318): An FT_RESULT report returns the tile to NORMAL or moves it to FAILED. -/
  | ftResult (r : Report)
  /-- FT_TIMEOUT (R319): A tile still SUSPECT or TESTING TIMEOUT epochs after its request is requested again. -/
  | ftTimeout (tile : Nat)
  /-- FT_REQ_TEST (R318): A write of SVC_FT_REQ with TEST = 1 puts the tile in TESTING and queues a field test. -/
  | ftReqTest (a : Access) (w : Word)
  /-- FT_REQ_CLEAR (R318): A write of SVC_FT_REQ with CLEAR = 1 returns a FAILED tile to NORMAL. -/
  | ftReqClear (a : Access) (w : Word)
  /-- FT_ACK (R319): A write of SVC_FT_PEND.ACK removes the oldest field-test request. -/
  | ftAck (a : Access) (w : Word)
  /-- STEP_GRANT (R321): A write of SVC_STEP.GRANT adds credit for issue-gate grants. -/
  | stepGrant (a : Access) (w : Word)
  /-- STEP_MODE_WRITE (R321): A write of SVC_STEP.MODE in TEST selects free, step or run-to-break. -/
  | stepModeWrite (a : Access) (w : Word)
  /-- GROUP_SEND (R339): A Link port sends its next group of a control flit and 15 payload slots by class priority. -/
  | groupSend (port t : Nat)
  /-- GROUP_RECEIVED (R346): A received group is delivered when its CRCs match, or a retry is requested. -/
  | groupReceived (port t : Nat) (flits : List Bytes)
  /-- LINK_SILENCE_TIMEOUT (R347): No flit for 1 µs takes the port DOWN. -/
  | linkSilenceTimeout (port : Nat)
  /-- LINK_UP (R354): A link comes up and starts HELLO, discovery and session formation. -/
  | linkUp (port t : Nat)
  /-- FRAME_AGE_EXPIRY (R348): A queued frame reaches its class age limit and is dropped, replaced or shed. -/
  | frameAgeExpiry (port : Nat)
  /-- CONTROL_REQUEST (R350): A received Control request is queued, served as a register access or refused with a status code. -/
  | controlRequest (r : Rx)
  /-- CONTROL_RESPONSE (R349): A Control response reaches its requester and completes the request. -/
  | controlResponse (r : Rx)
  /-- CONTROL_TIMEOUT (R350): No response within TIMEOUT_US makes the requester form TIMEOUT. -/
  | controlTimeout (txn : Nat)
  /-- HELLO (R354): A received HELLO is checked against the cabling plan, marking MISCABLED or SWAPPED ports. -/
  | hello (r : Rx)
  /-- DISCOVERY_PERIOD (R352): Every PERIOD epochs a Hub sends DISCOVER on each Chain's ends. -/
  | discoveryPeriod
  /-- DISCOVER (R352): A received DISCOVER records END and HOPS, is forwarded and answered with DISC_REPLY. -/
  | discover (r : Rx)
  /-- DISC_REPLY (R352): A received DISC_REPLY lets the Hub check positions and report topology events. -/
  | discReply (r : Rx)
  /-- HEARTBEAT_INTERVAL (R359): Every 50 µs a Hub sends HEARTBEAT with LAST_EPOCH to its sibling. -/
  | heartbeatInterval
  /-- HEARTBEAT (R359): A received HEARTBEAT records the sibling's last merged epoch. -/
  | heartbeat (r : Rx)
  /-- TAKEOVER_DETECT (R359): DETECT_US after a seal without the sibling's heartbeat advancing, the sibling sends TAKE. -/
  | takeoverDetect
  /-- TAKE (R359): A received TAKE puts the failed Hub's Link tiles into RELAY. -/
  | take (r : Rx)
  /-- TAKEOVER (R359): A received TAKEOVER is a path change, and Chain heads replay their summaries. -/
  | takeover (r : Rx)
  /-- TKO_TAKE (R359): A write of LNK_TKO.TAKE sends TAKE now. -/
  | tkoTake (a : Access) (w : Word)
  /-- TKO_HANDBACK (R360): A write of LNK_TKO.HANDBACK schedules return of the Chains at a target epoch. -/
  | tkoHandback (a : Access) (w : Word)
  /-- BCAST_CHUNK (R356): A received broadcast chunk is stored in staging and forwarded downstream. -/
  | bcastChunk (r : Rx)
  /-- BCAST_NACK (R356): A received BCAST_NACK makes the parent resend the chunk by unicast. -/
  | bcastNack (r : Rx)
  /-- SPARE_START (R361): A write of LNK_SPARE.START begins shadow admission of a candidate Spoke. -/
  | spareStart (a : Access) (w : Word)
  /-- SPARE_ADMIT (R361): A write of LNK_SPARE.ADMIT in READY moves the slot to the candidate at the target epoch. -/
  | spareAdmit (a : Access) (w : Word)
  /-- SHADOW_FEED (R361): A received shadow-feed record gives the candidate the raw inputs of an EPOCH row. -/
  | shadowFeed (r : Rx)
  /-- SHADOW_DIG (R361): A received SHADOW_DIG is compared with its pair, advancing or resetting the match count. -/
  | shadowDig (r : Rx)
  /-- SPLIT_VIEW_PERSIST (R362): A management and data-path disagreement lasting EPOCHS sets ACTIVE and asserts ALERT_N. -/
  | splitViewPersist (child row : Nat)
  /-- TRAY_WINDOW_ACCESS (R355): An access to the tray window becomes a Control request to the selected Spoke. -/
  | trayWindowAccess (a : Access) (addr : Nat) (write : Bool) (w : Word)
  /-- KEYX (R429): A received KEYX starts key exchange and is answered with an attestation record. -/
  | keyx (r : Rx)
  /-- ATTESTATION_RECORD (R429): A received attestation record is checked and, when valid, session keys are derived. -/
  | attestationRecord (r : Rx)
  /-- CREDENTIAL_RECORD (R429): A received operator credential record is checked in place of an attestation. -/
  | credentialRecord (r : Rx)
  /-- SESSION_RETRY (R429): Every 10 ms a port left in HELLO by a failed check tries the exchange again. -/
  | sessionRetry (port : Nat)
  /-- REKEY (R430): A frame count reaching 2^32 runs KEYX again with KEY_ID + 1. -/
  | rekey (port : Nat)
  /-- KEY_OVERLAP_EXPIRY (R430): 1 ms after the first frame under a new key the old key is no longer accepted. -/
  | keyOverlapExpiry (port : Nat)
  /-- DOMAIN_KEY_RECORD (R433): A received domain key record is installed for its target epoch and forwarded downstream. -/
  | domainKeyRecord (r : Rx)
  /-- SEAL_RECORD (R426): A child's received seal record is checked for SEQ gaps, PREV_CHAIN and CHAIN. -/
  | sealRecord (r : Rx)
  /-- SIG_VERIFY_DONE (R427): A queued signature verification completes, possibly making the child UNVERIFIED. -/
  | sigVerifyDone
  /-- VERIFY_LAG_EXPIRY (R427): A seal still unverified after LAG rounds is dropped from the queue and counted. -/
  | verifyLagExpiry
  /-- FLOOR_SET (R419): A write of SEC_FLOOR_SET raises the version floor. -/
  | floorSet (a : Access) (w : Word)
  /-- DEBUG_LEVEL_REQUEST (R420): A write of SEC_DBG.LEVEL lowers the debug level at once or requests a raise. -/
  | debugLevelRequest (a : Access) (w : Word)
  /-- TOKEN_CHECKED (R420): A fetched debug token is checked and the level raised, deriving new keys, or refused. -/
  | tokenChecked
  /-- DEBUG_TOKEN_EXPIRY (R420): At the boundary opening NOT_AFTER the debug level falls to SEALED. -/
  | debugTokenExpiry
  /-- ATTESTATION_REQUEST (R422): A write of SEC_ATT.GO forms an attestation record in the window. -/
  | attestationRequest (a : Access) (w : Word)
  /-- IMAGE_STAGE (R403): BLK_IMG_CTRL.OP = STAGE fetches and checks an in-service image. -/
  | imageStage (a : Access) (w : Word)
  /-- IMAGE_COMMIT (R403): OP = COMMIT makes a staged image PENDING for a target epoch, or is refused with 0x16. -/
  | imageCommit (a : Access) (w : Word)
  /-- IMAGE_ABORT (R403): OP = ABORT discards a staged or pending image. -/
  | imageAbort (a : Access) (w : Word)
  /-- IMAGE_SHADOW_BUILD (R406): 50 µs before the target boundary the new tables are built in shadow and the windows close. -/
  | imageShadowBuild
  /-- CKPT (R445): A write of CON_CTRL.CKPT schedules a checkpoint for a target epoch, or is refused. -/
  | ckpt (a : Access) (w : Word)
  /-- CKPT_COPY_DONE (R447): The checkpoint trailer is written and the checkpoint is DONE. -/
  | ckptCopyDone
  /-- CKPT_ABORT (R460): A write of CON_CTRL.ABORT abandons a checkpoint with cause 3. -/
  | ckptAbort (a : Access) (w : Word)
  /-- RESTORE (R450): A write of CON_CTRL.RESTORE reads a checkpoint for restore. -/
  | restore (a : Access) (w : Word)
  /-- RESTORE_APPLIED (R451): A read checkpoint is checked and applied section by section, or rejected. -/
  | restoreApplied
  /-- KIOSK_READY (R453): New Kiosk firmware writes CON_KSK_STAT.READY, completing the handoff. -/
  | kioskReady (a : Access) (w : Word)
  /-- KIOSK_START_TIMEOUT (R453): START_US without READY returns the pair to the old firmware and fails the switch. -/
  | kioskStartTimeout (pair : Nat)
  /-- LOCKSTEP_MISMATCH (R454): A lockstep divergence discards later writes and restarts the pair from ENTRY. -/
  | lockstepMismatch (pair : Nat)
  /-- FI_ARM (R456): A write of CON_FI_CTRL.ARM arms the fault-injection schedule or sets REFUSED. -/
  | fiArm (a : Access) (w : Word)
  /-- FI_DISARM (R462): A write of CON_FI_CTRL.DISARM disarms the schedule. -/
  | fiDisarm (a : Access) (w : Word)
  /-- FI_ENTRY_DUE (R455): A schedule entry falls due and injects its fault, or is skipped. -/
  | fiEntryDue
  /-- FI_DURATION_END (R455): An injected fault's DURATION_US ends. -/
  | fiDurationEnd
  /-- H2K_POST (R481): A write of KSK_MBOX.H2K_POST posts a host message to the Kiosk cores. -/
  | h2kPost (a : Access) (w : Word)
  /-- H2K_TAKEN (R481): A write of KSK_MBOX.H2K_TAKEN by Kiosk machine mode clears H2K_FULL. -/
  | h2kTaken (a : Access) (w : Word)
  /-- K2H_POST (R481): A write of KSK_MBOX.K2H_POST by Kiosk machine mode posts a message to host firmware. -/
  | k2hPost (a : Access) (w : Word)
  /-- TIM_NOW_CAPTURE (R70): A read of TIM_NOW_LO captures the whole 80-bit time for the access source. -/
  | timNowCapture (a : Access)
  /-- PAIR_LO_CAPTURE (R100): A read of the LO word of a time pair captures its HI word for the source. -/
  | pairLoCapture (a : Access) (addr : Nat)
  /-- COUNTER_WINDOW_CAPTURE (R129): A read of a counter's VALUE_LO captures all four words of its entry. -/
  | counterWindowCapture (a : Access) (ctr : Nat)
  /-- SEALED_SUM_CAPTURE (R160): A read of sealed-sum word +0x00 captures the metric's sixteen words. -/
  | sealedSumCapture (a : Access) (metric : Nat)
  /-- CLASS_LINE_CAPTURE (R291): A read of TOTAL_LO captures a Ledger class-table line. -/
  | classLineCapture (a : Access) (cls : Nat)
  /-- LEDGER_ENTRY_CAPTURE (R294): A read of entry word +0x0 captures a whole Ledger entry. -/
  | ledgerEntryCapture (a : Access) (index : Nat)
  /-- MIRROR_CAPTURE (R305): A read of LED_MIRROR at 0x07_0040 captures all mirror words. -/
  | mirrorCapture (a : Access)
  /-- OPTABLE_CAPTURE (R338): A read of an operation-table cell's low word captures both words. -/
  | optableCapture (a : Access) (cell : Nat)
  /-- REGISTER_WRITE (R6): A write to a register with no row of its own sets RW fields or clears RW1C bits. -/
  | registerWrite (a : Access) (addr : Nat) (w : Word)
  /-- BLK_CLR_DENY (R32): BLK_CTR_CLR.CLR_DENY clears BLK_DENY. -/
  | blkClrDeny (a : Access)
  /-- BLK_CLR_LANE_WAIT (R32): BLK_CTR_CLR.CLR_LANE_WAIT clears every BLK_LANE_WAIT. -/
  | blkClrLaneWait (a : Access)
  /-- BLK_CLR_STATE (R32): BLK_CTR_CLR.CLR_STATE clears BLK_STATE.REFUSALS. -/
  | blkClrState (a : Access)
  /-- BLK_CLR_TILE_FAULT (R32): BLK_CTR_CLR.CLR_TILE_FAULT clears BLK_TILE_FAULT.COUNT. -/
  | blkClrTileFault (a : Access)
  /-- CLR_REGERR (R66): BLK_PORT_CLR.CLR_REGERR clears BLK_REGERR. -/
  | clrRegerr (a : Access)
  /-- CLR_MIN_RATE (R66): BLK_PORT_CLR.CLR_MIN_RATE sets BLK_SPEED.MIN_RATE to 0xFFF. -/
  | clrMinRate (a : Access)
  /-- TIM_CLR_JUMP (R102): TIM_CTR_CLR.CLR_JUMP clears TIM_JUMP. -/
  | timClrJump (a : Access)
  /-- TIM_CLR_SYNC (R102): TIM_CTR_CLR.CLR_SYNC clears TIM_SYNC_STAT. -/
  | timClrSync (a : Access)
  /-- TAL_CLR_EXT (R137): TAL_CTR_CLR.CLR_EXT clears TAL_EXT_STAT. -/
  | talClrExt (a : Access)
  /-- TAL_CLR_GEN (R137): TAL_CTR_CLR.CLR_GEN clears TAL_GEN_STAT and TAL_GEN_LAST. -/
  | talClrGen (a : Access)
  /-- TAL_CLR_STN (R137): TAL_CTR_CLR.CLR_STN clears TAL_STN_STAT. -/
  | talClrStn (a : Access)
  /-- TAL_CLR_RA (R137): TAL_CTR_CLR.CLR_RA clears the run-ahead counts. -/
  | talClrRa (a : Access)
  /-- TAL_CLR_SAMPLE (R137): TAL_CTR_CLR.CLR_SAMPLE clears TAL_SAMPLE_STAT.DROPPED. -/
  | talClrSample (a : Access)
  /-- SCL_CLR_CONV (R159): SCL_CTR_CLR.CLR_CONV clears SCL_CONV_STAT. -/
  | sclClrConv (a : Access)
  /-- SCL_CLR_HIST (R159): SCL_CTR_CLR.CLR_HIST clears SCL_HIST_STAT. -/
  | sclClrHist (a : Access)
  /-- SCL_CLR_LATE (R159): SCL_CTR_CLR.CLR_LATE clears SCL_LATE_STAT. -/
  | sclClrLate (a : Access)
  /-- RED_CLR_MERGE (R195): RED_CTR_CLR.CLR_MERGE clears RED_MERGE_STAT. -/
  | redClrMerge (a : Access)
  /-- RED_CLR_LATE (R195): RED_CTR_CLR.CLR_LATE clears RED_LATE_STAT and RED_CORR_STAT. -/
  | redClrLate (a : Access)
  /-- RED_CLR_INCOMPLETE (R195): RED_CTR_CLR.CLR_INCOMPLETE clears RED_INCOMPLETE and RED_LAT.MAX_US. -/
  | redClrIncomplete (a : Access)
  /-- RED_CLR_RETAIN (R195): RED_CTR_CLR.CLR_RETAIN clears RED_RETAIN_STAT and RED_UPLINK_STAT. -/
  | redClrRetain (a : Access)
  /-- RED_CLR_STRAG (R195): RED_CTR_CLR.CLR_STRAG clears RED_STRAG_STAT. -/
  | redClrStrag (a : Access)
  /-- INF_CLR_ROW (R222): INF_CTR_CLR.CLR_ROW clears INF_ROW_DROP. -/
  | infClrRow (a : Access)
  /-- INF_CLR_MISS (R222): INF_CTR_CLR.CLR_MISS clears INF_MISS_STAT. -/
  | infClrMiss (a : Access)
  /-- INF_CLR_NUM (R222): INF_CTR_CLR.CLR_NUM clears INF_NUM_STAT. -/
  | infClrNum (a : Access)
  /-- INF_CLR_FAULT (R222): INF_CTR_CLR.CLR_FAULT clears INF_FAULT and INF_FAULT_ADDR. -/
  | infClrFault (a : Access)
  /-- INF_CLR_WAIT (R222): INF_CTR_CLR.CLR_WAIT clears INF_TILE_WAIT. -/
  | infClrWait (a : Access)
  /-- INF_CLR_DRIFT (R222): INF_CTR_CLR.CLR_DRIFT clears INF_DRIFT.ALARMS. -/
  | infClrDrift (a : Access)
  /-- MDL_CLR_BUDGET (R249): INF_MDL_CLR.CLR_BUDGET clears INF_BUDGET_STAT. -/
  | mdlClrBudget (a : Access)
  /-- MDL_CLR_CRIER (R249): INF_MDL_CLR.CLR_CRIER clears INF_CRIER_STAT. -/
  | mdlClrCrier (a : Access)
  /-- MDL_CLR_SWAP (R249): INF_MDL_CLR.CLR_SWAP clears INF_SWAP_STAT and INF_MDL_STAT.REJECTS. -/
  | mdlClrSwap (a : Access)
  /-- TRC_CLR_CHAN (R278): TRC_CTR_CLR.CLR_CHAN clears every TRC_CHAN_STAT. -/
  | trcClrChan (a : Access)
  /-- TRC_CLR_PAN (R278): TRC_CTR_CLR.CLR_PAN clears every TRC_PAN counter and TRC_UNROUTED. -/
  | trcClrPan (a : Access)
  /-- TRC_CLR_SEQ (R278): TRC_CTR_CLR.CLR_SEQ clears every TRANSITIONS. -/
  | trcClrSeq (a : Access)
  /-- LED_CLR_FOLD (R305): LED_CTR_CLR.CLR_FOLD clears LED_FOLD and LED_FOLD.FOLDED. -/
  | ledClrFold (a : Access)
  /-- LED_CLR_LOST (R305): LED_CTR_CLR.CLR_LOST clears LED_LOST. -/
  | ledClrLost (a : Access)
  /-- LED_CLR_CORR (R305): LED_CTR_CLR.CLR_CORR clears LED_FAULT.CORRECTED. -/
  | ledClrCorr (a : Access)
  /-- SVC_CLR_STAT (R336): SVC_CTR_CLR.CLR_STAT clears SVC_STAT and SVC_DROP. -/
  | svcClrStat (a : Access)
  /-- SVC_CLR_DUP (R336): SVC_CTR_CLR.CLR_DUP clears SVC_DUP_STAT and SVC_DUP_STAT2. -/
  | svcClrDup (a : Access)
  /-- SVC_CLR_DIG (R336): SVC_CTR_CLR.CLR_DIG clears SVC_DIG_STAT. -/
  | svcClrDig (a : Access)
  /-- SVC_CLR_CHK (R336): SVC_CTR_CLR.CLR_CHK clears SVC_CHK_STAT. -/
  | svcClrChk (a : Access)
  /-- SVC_CLR_PCS (R336): SVC_CTR_CLR.CLR_PCS clears SVC_PCS.DROPPED, SVC_STEP.SLIP and SVC_FT_PEND.QFULL. -/
  | svcClrPcs (a : Access)
  /-- LNK_CLR_SVC (R368): LNK_CTR_CLR.CLR_SVC clears LNK_SVC_STAT0 to 2. -/
  | lnkClrSvc (a : Access)
  /-- LNK_CLR_PORT (R368): LNK_CTR_CLR.CLR_PORT clears every port's counters. -/
  | lnkClrPort (a : Access)
  /-- LNK_CLR_MISC (R368): LNK_CTR_CLR.CLR_MISC clears LNK_PGEN_STAT, SPLITS, LNK_TKO_STAT and tray errors. -/
  | lnkClrMisc (a : Access)
  /-- BRU_CLR_KAT (R395): BRU_CTR_CLR.CLR_KAT clears the BRU_KAT counts. -/
  | bruClrKat (a : Access)
  /-- BRU_CLR_WAVE (R395): BRU_CTR_CLR.CLR_WAVE clears OVER, TIMEOUTS and PEAK. -/
  | bruClrWave (a : Access)
  /-- BRU_CLR_INBAND (R395): BRU_CTR_CLR.CLR_INBAND clears BRU_INBAND_STAT. -/
  | bruClrInband (a : Access)
  /-- BRU_CLR_ANSWER (R395): BRU_CTR_CLR.CLR_ANSWER clears BRU_ANSWER_STAT. -/
  | bruClrAnswer (a : Access)
  /-- SEC_CLR_CHAIN (R444): SEC_CTR_CLR.CLR_CHAIN clears SEC_CHAIN_STAT. -/
  | secClrChain (a : Access)
  /-- SEC_CLR_LINK (R444): SEC_CTR_CLR.CLR_LINK clears SEC_LINK_STAT. -/
  | secClrLink (a : Access)
  /-- SEC_CLR_AUTH (R444): SEC_CTR_CLR.CLR_AUTH clears SEC_AUTH_STAT. -/
  | secClrAuth (a : Access)
  /-- SEC_CLR_KEY (R444): SEC_CTR_CLR.CLR_KEY clears REKEYS and OPEN_PEERS. -/
  | secClrKey (a : Access)
  /-- INBAND_RESET_RELEASE (R385): The 1 µs reset assertion that an accepted INBAND_RESET stands for ends, and the block leaves reset and restarts bring-up at FUSE. -/
  | inbandResetRelease
  /-- ATTESTATION_FORMED (R443): The Pyrmeide root finishes signing a requested attestation record, places it in the window at 0x5B_0000, clears SEC_ATT.BUSY and sets DONE. -/
  | attestationFormed
  /-- REGISTER_READ (R21): A register or window read that ends with ERR_DECODE, ERR_DENIED or ERR_RETRY is counted in BLK_DENY or BLK_REGERR, with its cause and Stall recorded. -/
  | registerRead (a : Access) (addr : Nat)
  /-- TCK_EDGE (R60): An edge on the IEEE 1149.1 TCK input clocks the test logic in the lifecycle states that allow the test port, and is ignored in every other state. -/
  | tckEdge (rising tms tdi : Bool)
deriving DecidableEq, Repr

end Sys2Proof
end

