-- ==== Sys2Proof/Config.lean ====
section
/-! DEFINITION. What an implementation fixes and the spec does not: free values. Each constant has no body, so no proof can see
a value of it; the log entries say which rule leaves it open. A `Nat` argument named `n` is the state's free counter, which
the step reads and advances, so that each use has a value of its own. -/

namespace Sys2Proof.Config

/-- A fresh octet string of the Pyrmeide root: nonces (R429). Log entry 11 (DESIGN CHOICE). -/
opaque nonce : Nat → Nat → Byte

/-- A fresh ephemeral P-384 scalar (R429). Log entry 11 (DESIGN CHOICE). -/
opaque ephemeral : Nat → Nat

/-- RATE after one step of the proportional-integral loop, in ppt, before the clamp (R76), from the old rate, the offset in
2⁻¹⁶ ns and TAU. Log entry 12 (DESIGN CHOICE). -/
opaque servoRate : Nat → Int → Int → Nat → Int

/-- RATE from the slope of the sixteen ACQUIRE samples, in ppt, before the clamp (R76). Log entry 12 (DESIGN CHOICE). -/
opaque acquireRate : List (Nat × Int) → Int

/-- The average of RATE while LOCKED that HOLDOVER keeps, in ppt (R76). Log entry 12 (DESIGN CHOICE). -/
opaque holdoverRate : Nat → Int → Int

/-- SEQ in a mirror entry that has no entry behind it (R297). Log entry 19 (DESIGN CHOICE). -/
opaque mirrorSeq : Nat → Nat

/-- SUM of a metric once COUNT_OVF is set: no defined value (R144); from the free counter and the metric. Log entry 13 (DESIGN CHOICE). -/
opaque sumOvf : Nat → Nat → Int

/-- SUMSQ of a metric once COUNT_OVF is set: no defined value (R144). Log entry 13 (DESIGN CHOICE). -/
opaque sumsqOvf : Nat → Nat → Nat

/-- V(B) by EXTRAP when the two readings carry the same stamp (R119): from the last value and the time to the boundary. Log entry 14 (DESIGN CHOICE). -/
opaque extrapTie : Nat → Nat → Nat

/-- How many units in the last place the fixed algorithms of exp (0) and logistic (1) move from the correctly rounded result, plus 2 and
modulo 5 (R206): from the operation and its operand. Log entry 15 (DESIGN CHOICE). -/
opaque ulpOffset : Nat → Nat → Nat

/-- A drift state whose exact result does not fit its 32 signed bits (R184): from that result. Log entry 16 (DESIGN CHOICE). -/
opaque driftWide : Int → Int

/-- SEVERITY of the alarm that tells of suppressed ones (R242 and R244 give it none). Log entry 19 (DESIGN CHOICE). -/
opaque suppressionSeverity : Nat

/-- The DEFLATE stream of a block at LEVEL 1 to 3 (R263): the method is bounded and not given bit by bit. Log entry 17 (DESIGN CHOICE). -/
opaque deflate : Nat → Bytes → Bytes

/-- The tile and the address of a double-bit error injected on schedule (R455 names the slot alone): from the free counter. Log entry 18 (DESIGN CHOICE). -/
opaque injectTile : Nat → Nat
opaque injectAddr : Nat → Nat

/-- RETRY_US of a Control response with STATUS BUSY (R350 gives the code a RETRY_US and no value). Log entry 19 (DESIGN CHOICE). -/
opaque busyRetry : Nat → Nat

/-- Where a Hub's host keeps the host firmware object behind the Boot Read Port (R379 gives no address). Log entry 19 (DESIGN CHOICE). -/
opaque firmwareAddr : Nat

/-- IEEE 1149.1 (R476): lengths of the instruction and boundary registers, the instruction codes, and the manufacturer field. Log entry 31 (PRESUMED). -/
opaque irLength : Nat
opaque boundaryLength : Nat
opaque tapIdcode : Nat
opaque tapSample : Nat
opaque tapExtest : Nat
opaque manufacturer : Nat

/-- What a boundary cell captures: from the free counter and the cell. Log entry 31 (PRESUMED). -/
opaque boundaryCell : Nat → Nat → Bool

end Sys2Proof.Config
end

