-- ==== Sys2Proof/Machine/Bits.lean ====
section
/-! DEFINITION. Bit fields of register words, little-endian bytes (R5), and small arithmetic shared by every family. -/

namespace Sys2Proof.Machine

/-- A field of a register: the word's byte address and the bits [hi:lo]. -/
structure Fld where
  addr : Nat
  hi : Nat
  lo : Nat
deriving DecidableEq, Repr

/-- Access codes of R6; reserved bits have no field. -/
inductive Acc where
  | ro | rw | rw1c | wo | ros
deriving DecidableEq, Repr

/-- Reset entries of R7. -/
inductive Rst where
  | val (v : Nat)
  | build | fuse | image | kept
deriving DecidableEq, Repr

/-- One field of a register row. -/
structure RegField where
  fld : Fld
  acc : Acc
  rst : Rst
deriving DecidableEq, Repr

/-- One row of the register index: an array of `count` words, `stride` bytes apart, all of the same fields. -/
structure RegRow where
  name : String
  base : Nat
  count : Nat
  stride : Nat
  fields : List RegField
deriving DecidableEq, Repr

/-- Width of a field. -/
def Fld.width (f : Fld) : Nat := f.hi + 1 - f.lo

/-- The bits of a field, in place. -/
def Fld.mask (f : Fld) : Word := (BitVec.ofNat 32 (2 ^ f.width - 1)) <<< f.lo

/-- The value of a field of a word. -/
def Fld.get (f : Fld) (w : Word) : Nat := (w >>> f.lo).toNat % 2 ^ f.width

/-- A word with a field replaced; the value is taken modulo the field's width. -/
def Fld.put (f : Fld) (w : Word) (v : Nat) : Word :=
  (w &&& ~~~f.mask) ||| ((BitVec.ofNat 32 (v % 2 ^ f.width)) <<< f.lo)

/-- Largest value a field holds. -/
def Fld.max (f : Fld) : Nat := 2 ^ f.width - 1

/-- Bits [hi:lo] of a number. -/
def bits (v hi lo : Nat) : Nat := (v / 2 ^ lo) % 2 ^ (hi + 1 - lo)

/-- Bit `k` of a number. -/
def bit (v k : Nat) : Bool := (v / 2 ^ k) % 2 = 1

/-- 1 or 0. -/
def b2n (b : Bool) : Nat := if b then 1 else 0

/-- Saturating addition to a limit. -/
def satAdd (limit a b : Nat) : Nat := min limit (a + b)

/-- The value of `n` little-endian bytes at the head of a byte string (R5); bytes that are not there count 0. -/
def leHead : Nat → Bytes → Nat
  | 0, _ => 0
  | _ + 1, [] => 0
  | n + 1, b :: bs => b.toNat + 256 * leHead n bs

/-- The little-endian value of the `n` bytes at offset `off` (R5). Log entry 26 (DEDUCED). -/
def le (bs : Bytes) (off n : Nat) : Nat := leHead n (bs.drop off)

/-- The `n` little-endian bytes of a number (R5). Log entry 26 (DEDUCED). -/
def toLE : Nat → Nat → Bytes
  | 0, _ => []
  | n + 1, v => BitVec.ofNat 8 v :: toLE n (v / 256)

/-- The big-endian value of a byte string (octet strings of the standards, R5). Log entry 26 (DEDUCED). -/
def be (bs : Bytes) : Nat := bs.foldl (fun a b => 256 * a + b.toNat) 0

/-- The `n` big-endian bytes of a number. Log entry 26 (DEDUCED). -/
def toBE (n v : Nat) : Bytes := (toLE n v).reverse

/-- `n` bytes at offset `off`; bytes that are not there are 0. -/
def slice (bs : Bytes) (off n : Nat) : Bytes :=
  let x := (bs.drop off).take n
  x ++ List.replicate (n - x.length) 0

/-- A byte string with the bytes `v` laid over it at offset `off`. -/
def overlay (bs : Bytes) (off : Nat) (v : Bytes) : Bytes :=
  bs.take off ++ List.replicate (off - bs.length) 0 ++ v ++ bs.drop (off + v.length)

/-- A byte string of `len` bytes holding little-endian fields (offset, size, value), zeros elsewhere. Log entry 26 (DEDUCED). -/
def layout (len : Nat) (fs : List (Nat × Nat × Nat)) : Bytes :=
  fs.foldl (fun bs f => overlay bs f.1 (toLE f.2.1 f.2.2)) (List.replicate len 0)

/-- Zero padding of a byte string to a multiple of `m`. -/
def padTo (m : Nat) (bs : Bytes) : Bytes := bs ++ List.replicate ((m - bs.length % m) % m) 0

/-- A signed reading of the low `n` bits of a number. -/
def sext (n v : Nat) : Int :=
  let u := v % 2 ^ n
  if 2 ^ n ≤ 2 * u then (u : Int) - (2 ^ n : Nat) else u

/-- Two's complement of an integer in `n` bits. -/
def twos (n : Nat) (i : Int) : Nat := (i % ((2 ^ n : Nat) : Int)).toNat

/-- An integer clamped to [lo, hi]. -/
def clampI (lo hi i : Int) : Int := max lo (min hi i)

/-- A number clamped to [lo, hi]. -/
def clampN (lo hi n : Nat) : Nat := max lo (min hi n)

/-- The list with element `i` changed by `f`; unchanged past the end. -/
def modNth {α : Type} (l : List α) (i : Nat) (f : α → α) : List α :=
  match l, i with
  | [], _ => []
  | x :: xs, 0 => f x :: xs
  | x :: xs, i + 1 => x :: modNth xs i f

/-- The first element that satisfies `p` is removed. -/
def eraseFirst {α : Type} (p : α → Bool) : List α → List α
  | [] => []
  | x :: xs => if p x then xs else x :: eraseFirst p xs

/-- Insertion into a list kept in ascending order of `key`, after equal keys. -/
def insertBy {α : Type} (key : α → Nat) (x : α) : List α → List α
  | [] => [x]
  | y :: ys => if key y ≤ key x then y :: insertBy key x ys else x :: y :: ys

/-- A list sorted in ascending order of `key`, stable. -/
def sortBy {α : Type} (key : α → Nat) (l : List α) : List α := l.foldl (fun acc x => insertBy key x acc) []

end Sys2Proof.Machine
end

