-- ==== Sys2Proof/Machine/Crypto.lean ====
section
/-! DEFINITION. The published functions that spec/00 names ("Xastan 3.1 uses the following published standards"): CRC-32C and
the CRC-8 of R476, SHA-384, HMAC-SHA-384, the field GF(2^64) of R310, ECDSA P-384 and AES-256-GCM. The spec names the standards and
gives no constants: these are the standards' own (PRESUMED, log entry 20). -/

namespace Sys2Proof.Machine

/-! ### Cyclic redundancy checks -/

/-- One bit step of a reflected 32-bit CRC with polynomial 0x1EDC6F41 (reflected 0x82F63B78). -/
def crc32cBit (c : BitVec 32) : BitVec 32 :=
  if c.getLsbD 0 then (c >>> 1) ^^^ 0x82F63B78#32 else c >>> 1

/-- `n` bit steps. -/
def crc32cBits : Nat → BitVec 32 → BitVec 32
  | 0, c => c
  | n + 1, c => crc32cBits n (crc32cBit c)

/-- The register of CRC-32C after a byte string. -/
def crc32cFrom (c : BitVec 32) (bs : Bytes) : BitVec 32 :=
  bs.foldl (fun c b => crc32cBits 8 (c ^^^ b.setWidth 32)) c

/-- CRC-32C of a byte string. Log entry 20 (PRESUMED). -/
def crc32c (bs : Bytes) : Nat := (~~~(crc32cFrom 0xFFFFFFFF#32 bs)).toNat

/-- One bit step of the CRC-8 with polynomial 0x07, most significant bit first. -/
def crc8Bit (c : BitVec 8) : BitVec 8 :=
  if c.getLsbD 7 then (c <<< 1) ^^^ 0x07#8 else c <<< 1

/-- `n` bit steps. -/
def crc8Bits : Nat → BitVec 8 → BitVec 8
  | 0, c => c
  | n + 1, c => crc8Bits n (crc8Bit c)

/-- CRC-8 of a byte string (R476). Log entry 20 (PRESUMED). -/
def crc8 (bs : Bytes) : Byte := bs.foldl (fun c b => crc8Bits 8 (c ^^^ b)) 0#8

/-! ### SHA-384 and HMAC-SHA-384 -/

/-- The eighty round constants of SHA-512 and SHA-384, first half. -/
def sha512K0 : List Nat := [
  0x428a2f98d728ae22, 0x7137449123ef65cd, 0xb5c0fbcfec4d3b2f, 0xe9b5dba58189dbbc, 0x3956c25bf348b538, 0x59f111f1b605d019, 0x923f82a4af194f9b, 0xab1c5ed5da6d8118,
  0xd807aa98a3030242, 0x12835b0145706fbe, 0x243185be4ee4b28c, 0x550c7dc3d5ffb4e2, 0x72be5d74f27b896f, 0x80deb1fe3b1696b1, 0x9bdc06a725c71235, 0xc19bf174cf692694,
  0xe49b69c19ef14ad2, 0xefbe4786384f25e3, 0x0fc19dc68b8cd5b5, 0x240ca1cc77ac9c65, 0x2de92c6f592b0275, 0x4a7484aa6ea6e483, 0x5cb0a9dcbd41fbd4, 0x76f988da831153b5,
  0x983e5152ee66dfab, 0xa831c66d2db43210, 0xb00327c898fb213f, 0xbf597fc7beef0ee4, 0xc6e00bf33da88fc2, 0xd5a79147930aa725, 0x06ca6351e003826f, 0x142929670a0e6e70,
  0x27b70a8546d22ffc, 0x2e1b21385c26c926, 0x4d2c6dfc5ac42aed, 0x53380d139d95b3df, 0x650a73548baf63de, 0x766a0abb3c77b2a8, 0x81c2c92e47edaee6, 0x92722c851482353b]

/-- The round constants, second half. -/
def sha512K1 : List Nat := [
  0xa2bfe8a14cf10364, 0xa81a664bbc423001, 0xc24b8b70d0f89791, 0xc76c51a30654be30, 0xd192e819d6ef5218, 0xd69906245565a910, 0xf40e35855771202a, 0x106aa07032bbd1b8,
  0x19a4c116b8d2d0c8, 0x1e376c085141ab53, 0x2748774cdf8eeb99, 0x34b0bcb5e19b48a8, 0x391c0cb3c5c95a63, 0x4ed8aa4ae3418acb, 0x5b9cca4f7763e373, 0x682e6ff3d6b2b8a3,
  0x748f82ee5defb2fc, 0x78a5636f43172f60, 0x84c87814a1f0ab72, 0x8cc702081a6439ec, 0x90befffa23631e28, 0xa4506cebde82bde9, 0xbef9a3f7b2c67915, 0xc67178f2e372532b,
  0xca273eceea26619c, 0xd186b8c721c0c207, 0xeada7dd6cde0eb1e, 0xf57d4f7fee6ed178, 0x06f067aa72176fba, 0x0a637dc5a2c898a6, 0x113f9804bef90dae, 0x1b710b35131c471b,
  0x28db77f523047d84, 0x32caab7b40c72493, 0x3c9ebe0a15c9bebc, 0x431d67c49c100d4c, 0x4cc5d4becb3e42b6, 0x597f299cfc657e2a, 0x5fcb6fab3ad6faec, 0x6c44198c4a475817]

/-- The eight working variables. -/
structure Sha where
  a : BitVec 64
  b : BitVec 64
  c : BitVec 64
  d : BitVec 64
  e : BitVec 64
  f : BitVec 64
  g : BitVec 64
  h : BitVec 64
deriving DecidableEq, Repr

/-- The initial value of SHA-384. -/
def sha384Init : Sha :=
  ⟨0xcbbb9d5dc1059ed8#64, 0x629a292a367cd507#64, 0x9159015a3070dd17#64, 0x152fecd8f70e5939#64,
   0x67332667ffc00b31#64, 0x8eb44a8768581511#64, 0xdb0c2e0d64f98fa7#64, 0x47b5481dbefa4fa4#64⟩

/-- One round. -/
def shaRound (s : Sha) (k w : BitVec 64) : Sha :=
  let s1 := s.e.rotateRight 14 ^^^ s.e.rotateRight 18 ^^^ s.e.rotateRight 41
  let ch := (s.e &&& s.f) ^^^ (~~~s.e &&& s.g)
  let t1 := s.h + s1 + ch + k + w
  let s0 := s.a.rotateRight 28 ^^^ s.a.rotateRight 34 ^^^ s.a.rotateRight 39
  let mj := (s.a &&& s.b) ^^^ (s.a &&& s.c) ^^^ (s.b &&& s.c)
  ⟨t1 + s0 + mj, s.a, s.b, s.c, s.d + t1, s.e, s.f, s.g⟩

/-- The rounds over the constants; the message schedule is a window of sixteen words, oldest first. -/
def shaRounds : List Nat → List (BitVec 64) → Sha → Sha
  | [], _, s => s
  | _, [], s => s
  | k :: ks, w :: ws, s =>
    let w1 := ws.getD 0 0
    let w9 := ws.getD 8 0
    let w14 := ws.getD 13 0
    let g0 := w1.rotateRight 1 ^^^ w1.rotateRight 8 ^^^ (w1 >>> 7)
    let g1 := w14.rotateRight 19 ^^^ w14.rotateRight 61 ^^^ (w14 >>> 6)
    shaRounds ks (ws ++ [w + g0 + w9 + g1]) (shaRound s (BitVec.ofNat 64 k) w)

/-- The `n` big-endian 64-bit words of a block. -/
def shaWords : Nat → Bytes → List (BitVec 64)
  | 0, _ => []
  | n + 1, bs => BitVec.ofNat 64 (be (bs.take 8)) :: shaWords n (bs.drop 8)

/-- One block of 128 bytes. -/
def shaBlock (s : Sha) (blk : Bytes) : Sha :=
  let r := shaRounds (sha512K0 ++ sha512K1) (shaWords 16 blk) s
  ⟨s.a + r.a, s.b + r.b, s.c + r.c, s.d + r.d, s.e + r.e, s.f + r.f, s.g + r.g, s.h + r.h⟩

/-- `n` blocks. -/
def shaBlocks : Nat → Bytes → Sha → Sha
  | 0, _, s => s
  | n + 1, bs, s => shaBlocks n (bs.drop 128) (shaBlock s (bs.take 128))

/-- SHA-384 of a byte string, 48 bytes. Log entry 20 (PRESUMED). -/
def sha384 (m : Bytes) : Bytes :=
  let p := m ++ [0x80#8] ++ List.replicate ((240 - (m.length + 1) % 128) % 128) 0#8 ++ toBE 16 (8 * m.length)
  let r := shaBlocks (p.length / 128) p sha384Init
  [r.a, r.b, r.c, r.d, r.e, r.f].flatMap (fun w => toBE 8 w.toNat)

/-- HMAC-SHA-384, 48 bytes. Log entry 20 (PRESUMED). -/
def hmac384 (key m : Bytes) : Bytes :=
  let k0 := if 128 < key.length then sha384 key else key
  let k := k0 ++ List.replicate (128 - k0.length) 0#8
  sha384 (k.map (· ^^^ 0x5c#8) ++ sha384 (k.map (· ^^^ 0x36#8) ++ m))

/-! ### GF(2^64) and GF(2^128) -/

/-- Product in GF(2^64) modulo x^64 + x^4 + x^3 + x + 1 (R310), by `n` steps over the bits of `b` from the top. -/
def gf64MulAux : Nat → BitVec 64 → BitVec 64 → BitVec 64 → BitVec 64
  | 0, _, _, acc => acc
  | n + 1, a, b, acc =>
    let acc2 := if acc.getLsbD 63 then (acc <<< 1) ^^^ 0x1B#64 else acc <<< 1
    gf64MulAux n a b (if b.getLsbD n then acc2 ^^^ a else acc2)

/-- Product in GF(2^64). -/
def gf64Mul (a b : BitVec 64) : BitVec 64 := gf64MulAux 64 a b 0#64

/-- Power in GF(2^64), by `n` bits of the exponent from the top. -/
def gf64PowAux : Nat → BitVec 64 → Nat → BitVec 64 → BitVec 64
  | 0, _, _, acc => acc
  | n + 1, a, e, acc =>
    let sq := gf64Mul acc acc
    gf64PowAux n a e (if bit e n then gf64Mul sq a else sq)

/-- Power in GF(2^64) for exponents below 2^64. -/
def gf64Pow (a : BitVec 64) (e : Nat) : BitVec 64 := gf64PowAux 64 a e 1#64

/-- GHASH product of AES-GCM: bit 127 of a number is the first bit of the block. -/
def ghashMulAux : Nat → BitVec 128 → BitVec 128 → BitVec 128 → BitVec 128
  | 0, _, _, z => z
  | n + 1, x, v, z =>
    let z2 := if x.getLsbD n then z ^^^ v else z
    let v2 := if v.getLsbD 0 then (v >>> 1) ^^^ (0xE1#128 <<< 120) else v >>> 1
    ghashMulAux n x v2 z2

/-- GHASH product. -/
def ghashMul (x y : BitVec 128) : BitVec 128 := ghashMulAux 128 x y 0#128

/-! ### AES-256 and GCM -/

/-- Doubling in GF(2^8) of AES. -/
def aesX (a : BitVec 8) : BitVec 8 := if a.getLsbD 7 then (a <<< 1) ^^^ 0x1b#8 else a <<< 1

/-- Product in GF(2^8) of AES. -/
def aesMulAux : Nat → BitVec 8 → BitVec 8 → BitVec 8 → BitVec 8
  | 0, _, _, acc => acc
  | n + 1, a, b, acc => aesMulAux n a b (if b.getLsbD n then aesX acc ^^^ a else aesX acc)

/-- Product in GF(2^8) of AES. -/
def aesMul (a b : BitVec 8) : BitVec 8 := aesMulAux 8 a b 0#8

/-- Inverse in GF(2^8) of AES: the 254th power. -/
def aesInv (a : BitVec 8) : BitVec 8 :=
  let a2 := aesMul a a
  let a4 := aesMul a2 a2
  let a8 := aesMul a4 a4
  let a16 := aesMul a8 a8
  let a32 := aesMul a16 a16
  let a64 := aesMul a32 a32
  let a128 := aesMul a64 a64
  aesMul a128 (aesMul a64 (aesMul a32 (aesMul a16 (aesMul a8 (aesMul a4 a2)))))

/-- The S-box of AES, computed. -/
def aesSub (a : BitVec 8) : BitVec 8 :=
  let i := aesInv a
  i ^^^ i.rotateLeft 1 ^^^ i.rotateLeft 2 ^^^ i.rotateLeft 3 ^^^ i.rotateLeft 4 ^^^ 0x63#8

/-- A list of bytes xored position by position. -/
def xorBytes (a b : Bytes) : Bytes := List.zipWith (· ^^^ ·) a b

/-- Key expansion of AES-256: 4-byte words, newest first; `n` words still to make, `i` the index of the next. -/
def aesExpandAux : Nat → Nat → BitVec 8 → List Bytes → List Bytes
  | 0, _, _, ws => ws
  | n + 1, i, rc, ws =>
    let p := ws.getD 0 []
    let q := ws.getD 7 []
    let t :=
      if i % 8 = 0 then
        let r := (p.drop 1 ++ p.take 1).map aesSub
        xorBytes r [rc, 0, 0, 0]
      else if i % 8 = 4 then p.map aesSub else p
    aesExpandAux n (i + 1) (if i % 8 = 0 then aesX rc else rc) (xorBytes q t :: ws)

/-- A byte string cut into pieces of `k` bytes, `n` of them. -/
def pieces : Nat → Nat → Bytes → List Bytes
  | 0, _, _ => []
  | n + 1, k, bs => bs.take k :: pieces n k (bs.drop k)

/-- The fifteen round keys of AES-256. -/
def aesKeys (key : Bytes) : List Bytes :=
  let ws := (aesExpandAux 52 8 1#8 (pieces 8 4 key).reverse).reverse
  pieces 15 16 ws.flatten

/-- ShiftRows on a block held column by column. -/
def aesShift (s : Bytes) : Bytes := (List.range 16).map (fun i => s.getD ((i + 4 * (i % 4)) % 16) 0)

/-- MixColumns on one column. -/
def aesMixCol (c : Bytes) : Bytes :=
  let a := c.getD 0 0
  let b := c.getD 1 0
  let d := c.getD 2 0
  let e := c.getD 3 0
  [aesX a ^^^ (aesX b ^^^ b) ^^^ d ^^^ e, a ^^^ aesX b ^^^ (aesX d ^^^ d) ^^^ e,
   a ^^^ b ^^^ aesX d ^^^ (aesX e ^^^ e), (aesX a ^^^ a) ^^^ b ^^^ d ^^^ aesX e]

/-- The rounds after the first key. -/
def aesRounds : List Bytes → Bytes → Bytes
  | [], s => s
  | [k], s => xorBytes (aesShift (s.map aesSub)) k
  | k :: ks, s => aesRounds ks (xorBytes ((pieces 4 4 (aesShift (s.map aesSub))).flatMap aesMixCol) k)

/-- AES-256 of one block under expanded keys. Log entry 20 (PRESUMED). -/
def aesBlock (ks : List Bytes) (blk : Bytes) : Bytes :=
  match ks with
  | [] => blk
  | k :: r => aesRounds r (xorBytes blk k)

/-- GHASH over `n` blocks of a padded string. -/
def ghashAux : Nat → BitVec 128 → Bytes → BitVec 128 → BitVec 128
  | 0, _, _, y => y
  | n + 1, h, bs, y => ghashAux n h (bs.drop 16) (ghashMul (y ^^^ BitVec.ofNat 128 (be (slice bs 0 16))) h)

/-- Counter mode over `n` blocks from counter `c`. -/
def gctrAux : Nat → List Bytes → Bytes → Nat → Bytes → Bytes
  | 0, _, _, _, _ => []
  | n + 1, ks, iv, c, bs =>
    xorBytes (bs.take 16) (aesBlock ks (iv ++ toBE 4 c)) ++ gctrAux n ks iv (c + 1) (bs.drop 16)

/-- Counter-mode transform of AES-256-GCM (encryption and decryption alike), 12-byte IV. Log entry 20 (PRESUMED). -/
def gcmCrypt (key iv txt : Bytes) : Bytes := gctrAux ((txt.length + 15) / 16) (aesKeys key) iv 2 txt

/-- Tag of AES-256-GCM over the associated data and the ciphertext, 16 bytes. Log entry 20 (PRESUMED). -/
def gcmTag (key iv aad ct : Bytes) : Bytes :=
  let ks := aesKeys key
  let h := BitVec.ofNat 128 (be (aesBlock ks (List.replicate 16 0#8)))
  let x := padTo 16 aad ++ padTo 16 ct ++ toBE 8 (8 * aad.length) ++ toBE 8 (8 * ct.length)
  let y := ghashAux (x.length / 16) h x 0#128
  xorBytes (toBE 16 y.toNat) (aesBlock ks (iv ++ toBE 4 1))

/-! ### ECDSA and key agreement on P-384 -/

/-- The field prime of P-384. -/
def p384P : Nat := 2 ^ 384 - 2 ^ 128 - 2 ^ 96 + 2 ^ 32 - 1
/-- The group order of P-384. -/
def p384N : Nat := 0xffffffffffffffffffffffffffffffffffffffffffffffffc7634d81f4372ddf581a0db248b0a77aecec196accc52973
/-- The coefficient b of P-384. -/
def p384B : Nat := 0xb3312fa7e23ee7e4988e056be3f82d19181d9c6efe8141120314088f5013875ac656398d8a2ed19d2a85c8edd3ec2aef
/-- The base point's x. -/
def p384Gx : Nat := 0xaa87ca22be8b05378eb1c71ef320ad746e1d3b628ba79b9859f741e082542a385502f25dbf55296c3a545e3872760ab7
/-- The base point's y. -/
def p384Gy : Nat := 0x3617de4a96262c6f5d9e98bf9292dc29f8f41dbd289a147ce9da3113b5f0b8c00a60b1ce1d7e819d7a431d7c90ea0e5f

/-- Modular power by `n` bits of the exponent from the top. -/
def modPowAux : Nat → Nat → Nat → Nat → Nat → Nat
  | 0, _, _, _, acc => acc
  | n + 1, m, a, e, acc =>
    let sq := acc * acc % m
    modPowAux n m a e (if bit e n then sq * a % m else sq)

/-- Inverse modulo a prime below 2^384. -/
def modInv (m a : Nat) : Nat := modPowAux 384 m (a % m) (m - 2) 1

/-- A point of P-384 in affine coordinates; none is the point at infinity. -/
abbrev Point := Option (Nat × Nat)

/-- The slope's use: the sum of two points with slope `l`. -/
def pointFrom (l x1 y1 x2 : Nat) : Point :=
  let x3 := (l * l + 2 * p384P - x1 - x2) % p384P
  some (x3, (l * (x1 + p384P - x3) + p384P - y1) % p384P)

/-- Sum of two points of P-384. -/
def pointAdd : Point → Point → Point
  | none, q => q
  | p, none => p
  | some (x1, y1), some (x2, y2) =>
    if x1 = x2 then
      if (y1 + y2) % p384P = 0 then none
      else pointFrom ((3 * x1 * x1 + p384P - 3) * modInv p384P (2 * y1) % p384P) x1 y1 x2
    else pointFrom ((y2 + p384P - y1) * modInv p384P (x2 + p384P - x1) % p384P) x1 y1 x2

/-- Multiple of a point by `n` bits of the scalar from the top. -/
def pointMulAux : Nat → Nat → Point → Point → Point
  | 0, _, _, acc => acc
  | n + 1, k, p, acc =>
    let d := pointAdd acc acc
    pointMulAux n k p (if bit k n then pointAdd d p else d)

/-- Multiple of a point of P-384. -/
def pointMul (k : Nat) (p : Point) : Point := pointMulAux 384 k p none

/-- The base point. -/
def p384G : Point := some (p384Gx, p384Gy)

/-- Membership of the curve. -/
def onCurve (x y : Nat) : Bool :=
  x < p384P && y < p384P && (y * y) % p384P = (x * x * x + (p384P - 3) * x + p384B) % p384P

/-- A public key of 96 octets: x then y, big-endian; none if it is no point of the curve. -/
def readPoint (bs : Bytes) : Point :=
  let x := be (slice bs 0 48)
  let y := be (slice bs 48 48)
  if onCurve x y then some (x, y) else none

/-- The 96 octets of a point; zeros for infinity. -/
def writePoint : Point → Bytes
  | none => List.replicate 96 0
  | some (x, y) => toBE 48 x ++ toBE 48 y

/-- The public key of a private scalar. -/
def publicKey (d : Nat) : Bytes := writePoint (pointMul d p384G)

/-- ECDSA P-384 verification of a 96-octet signature (r then s) over a SHA-384 digest. Log entry 20 (PRESUMED). -/
def ecdsaVerify (pk digest sig : Bytes) : Bool :=
  let r := be (slice sig 0 48)
  let s := be (slice sig 48 48)
  let e := be (slice digest 0 48)
  match readPoint pk with
  | none => false
  | some q =>
    if r = 0 || p384N ≤ r || s = 0 || p384N ≤ s then false
    else
      let w := modInv p384N s
      match pointAdd (pointMul (e * w % p384N) p384G) (pointMul (r * w % p384N) (some q)) with
      | none => false
      | some (x, _) => x % p384N = r

/-- The deterministic nonce of RFC 6979 with HMAC-SHA-384: candidates until one lies in range, `n` tries. -/
def nonceAux : Nat → Bytes → Bytes → Nat
  | 0, _, _ => 1
  | n + 1, k, v =>
    let v1 := hmac384 k v
    let c := be v1
    if 0 < c && c < p384N then c
    else
      let k2 := hmac384 k (v1 ++ [0#8])
      nonceAux n k2 (hmac384 k2 v1)

/-- The deterministic nonce of RFC 6979. -/
def detNonce (d : Nat) (digest : Bytes) : Nat :=
  let x := toBE 48 d
  let h := toBE 48 (be (slice digest 0 48) % p384N)
  let v0 := List.replicate 48 1#8
  let k1 := hmac384 (List.replicate 48 0#8) (v0 ++ [0#8] ++ x ++ h)
  let v1 := hmac384 k1 v0
  let k2 := hmac384 k1 (v1 ++ [1#8] ++ x ++ h)
  nonceAux 4 k2 (hmac384 k2 v1)

/-- ECDSA P-384 signature, 96 octets, by a private scalar over a SHA-384 digest. Log entry 20 (PRESUMED). -/
def ecdsaSign (d : Nat) (digest : Bytes) : Bytes :=
  let k := detNonce d digest
  let e := be (slice digest 0 48)
  match pointMul k p384G with
  | none => List.replicate 96 0
  | some (x, _) =>
    let r := x % p384N
    toBE 48 r ++ toBE 48 (modInv p384N k * (e + r * d) % p384N)

/-- ECDH on P-384: the shared x coordinate, 48 octets. Log entry 20 (PRESUMED). -/
def ecdh (d : Nat) (peer : Bytes) : Bytes :=
  match pointMul d (readPoint peer) with
  | none => List.replicate 48 0
  | some (x, _) => toBE 48 x

end Sys2Proof.Machine
end

