-- ==== Sys2Proof/Machine/Fields.lean ====
section
/-! DEFINITION. Register fields of the Host Register Port map: one constant per field, at the address and the
bits that the field tables of spec/00 to spec/18 give it (the register's name, then the field's; a register of one 32-bit
field has its own name alone; an array's constant takes the index). -/

namespace Sys2Proof.Machine

abbrev F.BLK_IDENT_BLOCK_CODE : Fld := ⟨0x000000, 15, 0⟩
abbrev F.BLK_IDENT_VENDOR_CODE : Fld := ⟨0x000000, 31, 16⟩
abbrev F.BLK_VERSION_MAJOR : Fld := ⟨0x000004, 31, 16⟩
abbrev F.BLK_VERSION_MINOR : Fld := ⟨0x000004, 15, 0⟩
abbrev F.BLK_BUILD_LANES : Fld := ⟨0x000008, 7, 0⟩
abbrev F.BLK_BUILD_LINK_PORTS : Fld := ⟨0x000008, 15, 8⟩
abbrev F.BLK_BUILD_KIOSK_CORES : Fld := ⟨0x000008, 19, 16⟩
abbrev F.BLK_ROLE : Fld := ⟨0x00000c, 1, 0⟩
abbrev F.BLK_ROLE_PIPELINES : Fld := ⟨0x00000c, 17, 8⟩
abbrev F.BLK_STATE : Fld := ⟨0x000010, 1, 0⟩
abbrev F.BLK_STATE_PEND_TARGET : Fld := ⟨0x000010, 3, 2⟩
abbrev F.BLK_STATE_PEND_VALID : Fld := ⟨0x000010, 4, 4⟩
abbrev F.BLK_STATE_REQ_REFUSED : Fld := ⟨0x000010, 5, 5⟩
abbrev F.BLK_STATE_REQ_CANCELLED : Fld := ⟨0x000010, 6, 6⟩
abbrev F.BLK_STATE_ENTRY_CAUSE : Fld := ⟨0x000010, 15, 8⟩
abbrev F.BLK_STATE_REFUSALS : Fld := ⟨0x000010, 23, 16⟩
abbrev F.BLK_STATE_REQ_TARGET : Fld := ⟨0x000014, 1, 0⟩
abbrev F.BLK_TILES0_LANES : Fld := ⟨0x000018, 7, 0⟩
abbrev F.BLK_TILES0_TREE_TILES : Fld := ⟨0x000018, 15, 8⟩
abbrev F.BLK_TILES0_MAC_TILES : Fld := ⟨0x000018, 23, 16⟩
abbrev F.BLK_TILES0_LINK_TILES : Fld := ⟨0x000018, 31, 24⟩
abbrev F.BLK_TILES1_TALLY_TILES : Fld := ⟨0x00001c, 7, 0⟩
abbrev F.BLK_TILES1_CODEC_TILES : Fld := ⟨0x00001c, 15, 8⟩
abbrev F.BLK_TILES1_KIOSK_PAIRS : Fld := ⟨0x00001c, 19, 16⟩
abbrev F.BLK_DENY_COUNT : Fld := ⟨0x000020, 15, 0⟩
abbrev F.BLK_DENY_LAST_CAUSE : Fld := ⟨0x000020, 19, 16⟩
abbrev F.BLK_DENY_LAST_STALL : Fld := ⟨0x000020, 31, 20⟩
abbrev F.BLK_CTR_CLR_CLR_DENY : Fld := ⟨0x000024, 0, 0⟩
abbrev F.BLK_CTR_CLR_CLR_LANE_WAIT : Fld := ⟨0x000024, 1, 1⟩
abbrev F.BLK_CTR_CLR_CLR_STATE : Fld := ⟨0x000024, 2, 2⟩
abbrev F.BLK_CTR_CLR_CLR_TILE_FAULT : Fld := ⟨0x000024, 3, 3⟩
abbrev F.BLK_TILE_FAULT_COUNT : Fld := ⟨0x000028, 15, 0⟩
abbrev F.BLK_TILE_FAULT_LAST_TILE : Fld := ⟨0x000028, 24, 16⟩
abbrev F.BLK_REGERR_COUNT : Fld := ⟨0x00002c, 15, 0⟩
abbrev F.BLK_REGERR_LAST_CAUSE : Fld := ⟨0x00002c, 18, 16⟩
abbrev F.BLK_SPEED_RATE : Fld := ⟨0x000030, 11, 0⟩
abbrev F.BLK_SPEED_MIN_RATE : Fld := ⟨0x000030, 23, 12⟩
abbrev F.BLK_SPEED_BELOW : Fld := ⟨0x000030, 24, 24⟩
abbrev F.BLK_SPEED_FLOOR : Fld := ⟨0x000034, 11, 0⟩
abbrev F.BLK_SPEED_FLOOR_ALERT_EN : Fld := ⟨0x000034, 12, 12⟩
abbrev F.BLK_PORT_FAULT_STALLED : Fld := ⟨0x000038, 8, 0⟩
abbrev F.BLK_PORT_FAULT_PROTO : Fld := ⟨0x000038, 24, 16⟩
abbrev F.BLK_PORT_TIMEOUT_TIMEOUT_US : Fld := ⟨0x00003c, 9, 0⟩
abbrev F.BLK_PORT_CLR_CLR_REGERR : Fld := ⟨0x000040, 0, 0⟩
abbrev F.BLK_PORT_CLR_CLR_MIN_RATE : Fld := ⟨0x000040, 1, 1⟩
abbrev F.BLK_ALERT_PENDING : Fld := ⟨0x000044, 13, 0⟩
abbrev F.BLK_ALERT_EN : Fld := ⟨0x000048, 13, 0⟩
abbrev F.BLK_WATCHDOG_WATCHDOG_US : Fld := ⟨0x00004c, 6, 0⟩
abbrev F.BLK_IMG_CTRL_OP : Fld := ⟨0x000050, 2, 0⟩
abbrev F.BLK_IMG_CTRL_SRC : Fld := ⟨0x000050, 3, 3⟩
abbrev F.BLK_IMG_CTRL_ALERT_EN : Fld := ⟨0x000050, 4, 4⟩
abbrev F.BLK_IMG_SRC_LO : Fld := ⟨0x000054, 31, 0⟩
abbrev F.BLK_IMG_SRC_HI : Fld := ⟨0x000058, 31, 0⟩
abbrev F.BLK_IMG_LEN_LENGTH : Fld := ⟨0x00005c, 25, 0⟩
abbrev F.BLK_IMG_EPOCH_LO : Fld := ⟨0x000060, 31, 0⟩
abbrev F.BLK_IMG_EPOCH_HI_EPOCH : Fld := ⟨0x000064, 15, 0⟩
abbrev F.BLK_IMG_STAT_STATE : Fld := ⟨0x000068, 2, 0⟩
abbrev F.BLK_IMG_STAT_LAST_REJECT : Fld := ⟨0x000068, 11, 4⟩
abbrev F.BLK_IMG_STAT_REJECTS : Fld := ⟨0x000068, 19, 12⟩
abbrev F.BLK_IMG_STAT_DONE : Fld := ⟨0x000068, 20, 20⟩
abbrev F.BLK_IMG_STAT_REJECTED : Fld := ⟨0x000068, 21, 21⟩
abbrev F.BLK_IMG_STAT_CANCELLED : Fld := ⟨0x000068, 22, 22⟩
abbrev F.BLK_IMG_STAT_FAILED : Fld := ⟨0x000068, 23, 23⟩
abbrev F.BLK_IMG_STAT_SWITCHES : Fld := ⟨0x000068, 31, 24⟩
abbrev F.BLK_IMG_ID : Fld := ⟨0x00006c, 31, 0⟩
abbrev F.BLK_IMG_VER : Fld := ⟨0x000070, 31, 0⟩
abbrev F.BLK_IMG_INFO_MIN_MV : Fld := ⟨0x000074, 9, 0⟩
abbrev F.BLK_IMG_INFO_FROM_SWITCH : Fld := ⟨0x000074, 10, 10⟩
abbrev F.BLK_PROFILE_TALLY : Fld := ⟨0x000078, 3, 0⟩
abbrev F.BLK_PROFILE_REDUCTION : Fld := ⟨0x000078, 7, 4⟩
abbrev F.BLK_PROFILE_TRACE : Fld := ⟨0x000078, 11, 8⟩
abbrev F.BLK_PROFILE_SERVICES : Fld := ⟨0x000078, 15, 12⟩
abbrev F.BLK_PROFILE_TIME : Fld := ⟨0x000078, 19, 16⟩
abbrev F.BLK_PROFILE_LINKS : Fld := ⟨0x000078, 23, 20⟩
abbrev F.BLK_PROFILE_EXPERT_WRITE : Fld := ⟨0x000078, 24, 24⟩
abbrev F.BLK_POWER_REQ_TARGET : Fld := ⟨0x000080, 1, 0⟩
abbrev F.BLK_POWER_STATE : Fld := ⟨0x000084, 1, 0⟩
abbrev F.BLK_POWER_PEND_VALID : Fld := ⟨0x000084, 2, 2⟩
abbrev F.BLK_POWER_PEND_TARGET : Fld := ⟨0x000084, 4, 3⟩
abbrev F.BLK_POWER_REFUSED : Fld := ⟨0x000084, 5, 5⟩
abbrev F.BLK_POWER_QUIET_ENTRIES : Fld := ⟨0x000084, 15, 8⟩
abbrev F.BLK_POWER_HOLD_ENTRIES : Fld := ⟨0x000084, 23, 16⟩
abbrev F.BLK_POWER_REFUSALS : Fld := ⟨0x000084, 31, 24⟩
abbrev F.BLK_LANE_WAIT (i : Nat) : Fld := ⟨0x000100 + 4 * i, 31, 0⟩
abbrev F.BLK_LANE_LOAD_ROUTES (i : Nat) : Fld := ⟨0x000300 + 4 * i, 4, 0⟩
abbrev F.BLK_LANE_LOAD_LOAD_PERMILLE (i : Nat) : Fld := ⟨0x000300 + 4 * i, 25, 16⟩
abbrev F.TIM_NOW_FRAC : Fld := ⟨0x010000, 15, 0⟩
abbrev F.TIM_NOW_LO : Fld := ⟨0x010004, 31, 0⟩
abbrev F.TIM_NOW_HI : Fld := ⟨0x010008, 31, 0⟩
abbrev F.TIM_STATUS_SERVO : Fld := ⟨0x01000c, 2, 0⟩
abbrev F.TIM_STATUS_TBREF_LOST : Fld := ⟨0x01000c, 3, 3⟩
abbrev F.TIM_STATUS_JUMP_PERSIST : Fld := ⟨0x01000c, 4, 4⟩
abbrev F.TIM_STATUS_ACTING_GM : Fld := ⟨0x01000c, 5, 5⟩
abbrev F.TIM_STATUS_GM_RANK : Fld := ⟨0x01000c, 8, 6⟩
abbrev F.TIM_STATUS_UP_PORT : Fld := ⟨0x01000c, 15, 9⟩
abbrev F.TIM_STATUS_ASYM_MISSING : Fld := ⟨0x01000c, 16, 16⟩
abbrev F.TIM_STATUS_CADENCE_ADOPTED : Fld := ⟨0x01000c, 17, 17⟩
abbrev F.TIM_STATUS_CADENCE_LATE : Fld := ⟨0x01000c, 18, 18⟩
abbrev F.TIM_STATUS_PERIOD_BAD : Fld := ⟨0x01000c, 19, 19⟩
abbrev F.TIM_CTRL_SYNC_MODE : Fld := ⟨0x010010, 1, 0⟩
abbrev F.TIM_CTRL_CADENCE_SRC : Fld := ⟨0x010010, 2, 2⟩
abbrev F.TIM_CTRL_RELOCK : Fld := ⟨0x010010, 3, 3⟩
abbrev F.TIM_CTRL_GM_RESUME : Fld := ⟨0x010010, 4, 4⟩
abbrev F.TIM_CTRL_ALERT_EN : Fld := ⟨0x010010, 5, 5⟩
abbrev F.TIM_RATE_RATE_PPT : Fld := ⟨0x010014, 28, 0⟩
abbrev F.TIM_OFFSET : Fld := ⟨0x010018, 31, 0⟩
abbrev F.TIM_JUMP_LIMIT_LIMIT_NS : Fld := ⟨0x01001c, 15, 0⟩
abbrev F.TIM_JUMP_LIMIT_PERSIST : Fld := ⟨0x01001c, 19, 16⟩
abbrev F.TIM_JUMP_REFUSED : Fld := ⟨0x010020, 15, 0⟩
abbrev F.TIM_JUMP_LAST_US : Fld := ⟨0x010020, 31, 16⟩
abbrev F.TIM_SYNC_CFG_LOG_SYNC : Fld := ⟨0x010024, 3, 0⟩
abbrev F.TIM_SYNC_CFG_LOG_PDELAY : Fld := ⟨0x010024, 7, 4⟩
abbrev F.TIM_SYNC_CFG_LOSS_COUNT : Fld := ⟨0x010024, 11, 8⟩
abbrev F.TIM_SYNC_CFG_TAU : Fld := ⟨0x010024, 15, 12⟩
abbrev F.TIM_SYNC_CFG_GM_LOSS_US : Fld := ⟨0x010024, 31, 16⟩
abbrev F.TIM_GM_RANK : Fld := ⟨0x010028, 2, 0⟩
abbrev F.TIM_UPSTREAM_PORT0 : Fld := ⟨0x01002c, 6, 0⟩
abbrev F.TIM_UPSTREAM_PORT1 : Fld := ⟨0x01002c, 14, 8⟩
abbrev F.TIM_UPSTREAM_PORT2 : Fld := ⟨0x01002c, 22, 16⟩
abbrev F.TIM_UPSTREAM_PORT3 : Fld := ⟨0x01002c, 30, 24⟩
abbrev F.TIM_STEPS : Fld := ⟨0x010030, 7, 0⟩
abbrev F.TIM_ADJ : Fld := ⟨0x010034, 31, 0⟩
abbrev F.TIM_EPOCH_PERIOD_PERIOD_US : Fld := ⟨0x010040, 19, 0⟩
abbrev F.TIM_EPOCH_LO : Fld := ⟨0x010044, 31, 0⟩
abbrev F.TIM_EPOCH_HI : Fld := ⟨0x010048, 15, 0⟩
abbrev F.TIM_OPEN_LO : Fld := ⟨0x01004c, 31, 0⟩
abbrev F.TIM_OPEN_HI : Fld := ⟨0x010050, 31, 0⟩
abbrev F.TIM_NEXT_LO : Fld := ⟨0x010054, 31, 0⟩
abbrev F.TIM_NEXT_HI : Fld := ⟨0x010058, 31, 0⟩
abbrev F.TIM_SEAL_LAG_LAG_US : Fld := ⟨0x01005c, 9, 0⟩
abbrev F.TIM_SYNC_STAT_ACCEPTED : Fld := ⟨0x010060, 7, 0⟩
abbrev F.TIM_SYNC_STAT_OUTSIDE : Fld := ⟨0x010060, 15, 8⟩
abbrev F.TIM_SYNC_STAT_EXTRA : Fld := ⟨0x010060, 23, 16⟩
abbrev F.TIM_SYNC_STAT_LATE_ANN : Fld := ⟨0x010060, 31, 24⟩
abbrev F.TIM_SYNC_LAST_LO : Fld := ⟨0x010064, 31, 0⟩
abbrev F.TIM_SYNC_LAST_HI : Fld := ⟨0x010068, 31, 0⟩
abbrev F.TIM_CTR_CLR_CLR_JUMP : Fld := ⟨0x01006c, 0, 0⟩
abbrev F.TIM_CTR_CLR_CLR_SYNC : Fld := ⟨0x01006c, 1, 1⟩
abbrev F.TIM_ASYM_LAT_TX_LAT (i : Nat) : Fld := ⟨0x011000 + 16 * i, 15, 0⟩
abbrev F.TIM_ASYM_LAT_RX_LAT (i : Nat) : Fld := ⟨0x011000 + 16 * i, 31, 16⟩
abbrev F.TIM_ASYM (i : Nat) : Fld := ⟨0x011004 + 16 * i, 19, 0⟩
abbrev F.TIM_ASYM_EXT_EXT_DELAY (i : Nat) : Fld := ⟨0x011008 + 16 * i, 23, 0⟩
abbrev F.TIM_ASYM_EXT_EXT_MODE (i : Nat) : Fld := ⟨0x011008 + 16 * i, 24, 24⟩
abbrev F.TIM_ASYM_EXT_VALID (i : Nat) : Fld := ⟨0x011008 + 16 * i, 31, 31⟩
abbrev F.TIM_ASYM_DELAY_MEAN_DELAY (i : Nat) : Fld := ⟨0x01100c + 16 * i, 23, 0⟩
abbrev F.TIM_PULSE_START_LO (i : Nat) : Fld := ⟨0x012000 + 32 * i, 31, 0⟩
abbrev F.TIM_PULSE_START_HI (i : Nat) : Fld := ⟨0x012004 + 32 * i, 31, 0⟩
abbrev F.TIM_PULSE_PERIOD (i : Nat) : Fld := ⟨0x012008 + 32 * i, 31, 0⟩
abbrev F.TIM_PULSE_WIDTH (i : Nat) : Fld := ⟨0x01200c + 32 * i, 31, 0⟩
abbrev F.TIM_PULSE_COUNT (i : Nat) : Fld := ⟨0x012010 + 32 * i, 31, 0⟩
abbrev F.TIM_PULSE_CTRL_ARM (i : Nat) : Fld := ⟨0x012014 + 32 * i, 0, 0⟩
abbrev F.TIM_PULSE_CTRL_POLARITY (i : Nat) : Fld := ⟨0x012014 + 32 * i, 1, 1⟩
abbrev F.TIM_PULSE_CTRL_EPOCH_MODE (i : Nat) : Fld := ⟨0x012014 + 32 * i, 2, 2⟩
abbrev F.TIM_PULSE_CTRL_LATE (i : Nat) : Fld := ⟨0x012014 + 32 * i, 3, 3⟩
abbrev F.TIM_PULSE_CTRL_DONE (i : Nat) : Fld := ⟨0x012014 + 32 * i, 4, 4⟩
abbrev F.TIM_PULSE_CTRL_BADCFG (i : Nat) : Fld := ⟨0x012014 + 32 * i, 5, 5⟩
abbrev F.TAL_CTRL_SWEEP_EN : Fld := ⟨0x020000, 0, 0⟩
abbrev F.TAL_CTRL_BRACKET_EN : Fld := ⟨0x020000, 1, 1⟩
abbrev F.TAL_CTRL_RA_EN : Fld := ⟨0x020000, 2, 2⟩
abbrev F.TAL_CTRL_SAMPLE_EN : Fld := ⟨0x020000, 3, 3⟩
abbrev F.TAL_CTRL_ALERT_EN : Fld := ⟨0x020000, 4, 4⟩
abbrev F.TAL_MAP_COUNTERS : Fld := ⟨0x020004, 17, 0⟩
abbrev F.TAL_MAP_BRACKETS : Fld := ⟨0x020004, 30, 18⟩
abbrev F.TAL_SWEEP_PASS_US : Fld := ⟨0x020008, 15, 0⟩
abbrev F.TAL_SWEEP_PASSES : Fld := ⟨0x020008, 31, 16⟩
abbrev F.TAL_LIMITS_STALE_US : Fld := ⟨0x02000c, 11, 0⟩
abbrev F.TAL_LIMITS_EXTRAP_MAX_US : Fld := ⟨0x02000c, 23, 12⟩
abbrev F.TAL_METHOD_COUNT (i : Nat) : Fld := ⟨0x020010 + 4 * i, 17, 0⟩
abbrev F.TAL_SKEW_MAX : Fld := ⟨0x020020, 15, 0⟩
abbrev F.TAL_SKEW_MEAN : Fld := ⟨0x020020, 31, 16⟩
abbrev F.TAL_EXT_STAT_WRAPS : Fld := ⟨0x020024, 15, 0⟩
abbrev F.TAL_EXT_STAT_MULTI : Fld := ⟨0x020024, 23, 16⟩
abbrev F.TAL_EXT_STAT_BACKSTEP : Fld := ⟨0x020024, 31, 24⟩
abbrev F.TAL_GEN_STAT_MISMATCH : Fld := ⟨0x020028, 15, 0⟩
abbrev F.TAL_GEN_STAT_STUCK : Fld := ⟨0x020028, 23, 16⟩
abbrev F.TAL_GEN_LAST_STATION : Fld := ⟨0x02002c, 11, 0⟩
abbrev F.TAL_GEN_LAST_COUNTER : Fld := ⟨0x02002c, 16, 12⟩
abbrev F.TAL_STN_STAT_FAULT : Fld := ⟨0x020030, 11, 0⟩
abbrev F.TAL_STN_STAT_NOT_COUNTING : Fld := ⟨0x020030, 23, 12⟩
abbrev F.TAL_STN_STAT_STALE_EPOCHS : Fld := ⟨0x020030, 31, 24⟩
abbrev F.TAL_RA_CFG_TIMEOUT : Fld := ⟨0x020040, 4, 0⟩
abbrev F.TAL_RA_POSTED : Fld := ⟨0x020044, 31, 0⟩
abbrev F.TAL_RA_COMMITTED : Fld := ⟨0x020048, 31, 0⟩
abbrev F.TAL_RA_CANCELLED : Fld := ⟨0x02004c, 31, 0⟩
abbrev F.TAL_RA_RETRACTED : Fld := ⟨0x020050, 31, 0⟩
abbrev F.TAL_RA_EXPIRED : Fld := ⟨0x020054, 31, 0⟩
abbrev F.TAL_RA_REFUSED_FULL : Fld := ⟨0x020058, 7, 0⟩
abbrev F.TAL_RA_REFUSED_ENTRIES : Fld := ⟨0x020058, 15, 8⟩
abbrev F.TAL_RA_REFUSED_BADTARGET : Fld := ⟨0x020058, 23, 16⟩
abbrev F.TAL_RA_REFUSED_UNKNOWN : Fld := ⟨0x020058, 31, 24⟩
abbrev F.TAL_RA_OPEN_TICKETS : Fld := ⟨0x02005c, 12, 0⟩
abbrev F.TAL_RA_OPEN_ENTRIES : Fld := ⟨0x02005c, 27, 13⟩
abbrev F.TAL_RA_LOST_DISCARDED : Fld := ⟨0x020060, 15, 0⟩
abbrev F.TAL_SAMPLE_CFG_MAX_PER_EPOCH : Fld := ⟨0x020064, 15, 0⟩
abbrev F.TAL_SAMPLE_STAT_ACCEPTED : Fld := ⟨0x020068, 15, 0⟩
abbrev F.TAL_SAMPLE_STAT_DROPPED : Fld := ⟨0x020068, 31, 16⟩
abbrev F.TAL_CTR_CLR_CLR_EXT : Fld := ⟨0x020070, 0, 0⟩
abbrev F.TAL_CTR_CLR_CLR_GEN : Fld := ⟨0x020070, 1, 1⟩
abbrev F.TAL_CTR_CLR_CLR_STN : Fld := ⟨0x020070, 2, 2⟩
abbrev F.TAL_CTR_CLR_CLR_RA : Fld := ⟨0x020070, 3, 3⟩
abbrev F.TAL_CTR_CLR_CLR_SAMPLE : Fld := ⟨0x020070, 4, 4⟩
abbrev F.SCL_CTRL_ACC_EN : Fld := ⟨0x030000, 0, 0⟩
abbrev F.SCL_CTRL_LATE_MODE : Fld := ⟨0x030000, 1, 1⟩
abbrev F.SCL_CTRL_ALERT_EN : Fld := ⟨0x030000, 2, 2⟩
abbrev F.SCL_CAT_ID : Fld := ⟨0x030004, 31, 0⟩
abbrev F.SCL_METRICS : Fld := ⟨0x030008, 10, 0⟩
abbrev F.SCL_METRICS_HIST_METRICS : Fld := ⟨0x030008, 26, 16⟩
abbrev F.SCL_MEM_BANK_KIB : Fld := ⟨0x03000c, 15, 0⟩
abbrev F.SCL_MEM_TILE_MAX_KIB : Fld := ⟨0x03000c, 31, 16⟩
abbrev F.SCL_CONV_STAT_NAN : Fld := ⟨0x030010, 15, 0⟩
abbrev F.SCL_CONV_STAT_SAT : Fld := ⟨0x030010, 31, 16⟩
abbrev F.SCL_HIST_STAT_OUT_WINDOW : Fld := ⟨0x030014, 15, 0⟩
abbrev F.SCL_HIST_STAT_CLAMPED : Fld := ⟨0x030014, 31, 16⟩
abbrev F.SCL_LATE_STAT_FOLDED : Fld := ⟨0x030018, 15, 0⟩
abbrev F.SCL_LATE_STAT_DROPPED : Fld := ⟨0x030018, 31, 16⟩
abbrev F.SCL_SEAL_PARTS : Fld := ⟨0x03001c, 7, 0⟩
abbrev F.SCL_SEAL_BYTES : Fld := ⟨0x03001c, 31, 8⟩
abbrev F.SCL_CTR_CLR_CLR_CONV : Fld := ⟨0x030020, 0, 0⟩
abbrev F.SCL_CTR_CLR_CLR_HIST : Fld := ⟨0x030020, 1, 1⟩
abbrev F.SCL_CTR_CLR_CLR_LATE : Fld := ⟨0x030020, 2, 2⟩
abbrev F.RED_CTRL_MERGE_EN : Fld := ⟨0x040000, 0, 0⟩
abbrev F.RED_CTRL_STRAG_EN : Fld := ⟨0x040000, 1, 1⟩
abbrev F.RED_CTRL_CRIER_EN : Fld := ⟨0x040000, 2, 2⟩
abbrev F.RED_CTRL_ALERT_EN : Fld := ⟨0x040000, 3, 3⟩
abbrev F.RED_NODE_NODE_ID : Fld := ⟨0x040004, 19, 0⟩
abbrev F.RED_NODE_LEVEL : Fld := ⟨0x040004, 22, 20⟩
abbrev F.RED_UPLINK_PORT0 : Fld := ⟨0x040008, 6, 0⟩
abbrev F.RED_UPLINK_PORT1 : Fld := ⟨0x040008, 14, 8⟩
abbrev F.RED_UPLINK_PORT2 : Fld := ⟨0x040008, 22, 16⟩
abbrev F.RED_UPLINK_PORT3 : Fld := ⟨0x040008, 30, 24⟩
abbrev F.RED_WAIT_WAIT_US : Fld := ⟨0x04000c, 9, 0⟩
abbrev F.RED_WAIT_LATE_WINDOW : Fld := ⟨0x04000c, 19, 16⟩
abbrev F.RED_WAIT_RETAIN : Fld := ⟨0x04000c, 23, 20⟩
abbrev F.RED_ALIGN_TOL_NS : Fld := ⟨0x040010, 15, 0⟩
abbrev F.RED_CONTRIB : Fld := ⟨0x040014, 19, 0⟩
abbrev F.RED_EXPECTED : Fld := ⟨0x040018, 19, 0⟩
abbrev F.RED_LAT_LAST_US : Fld := ⟨0x04001c, 9, 0⟩
abbrev F.RED_LAT_MAX_US : Fld := ⟨0x04001c, 25, 16⟩
abbrev F.RED_MERGE_STAT_DUP : Fld := ⟨0x040020, 7, 0⟩
abbrev F.RED_MERGE_STAT_CAT_MISMATCH : Fld := ⟨0x040020, 15, 8⟩
abbrev F.RED_MERGE_STAT_MISALIGNED : Fld := ⟨0x040020, 23, 16⟩
abbrev F.RED_MERGE_STAT_REPLACED : Fld := ⟨0x040020, 31, 24⟩
abbrev F.RED_LATE_STAT_FORWARDED : Fld := ⟨0x040024, 15, 0⟩
abbrev F.RED_LATE_STAT_EXPIRED : Fld := ⟨0x040024, 31, 16⟩
abbrev F.RED_CORR_STAT_APPLIED : Fld := ⟨0x040028, 15, 0⟩
abbrev F.RED_CORR_STAT_ORPHAN : Fld := ⟨0x040028, 23, 16⟩
abbrev F.RED_CORR_STAT_EXPIRED : Fld := ⟨0x040028, 31, 24⟩
abbrev F.RED_INCOMPLETE_EPOCHS : Fld := ⟨0x04002c, 15, 0⟩
abbrev F.RED_INCOMPLETE_MISSING_MAX : Fld := ⟨0x04002c, 31, 16⟩
abbrev F.RED_RETAIN_STAT_DROPPED : Fld := ⟨0x040030, 15, 0⟩
abbrev F.RED_RETAIN_STAT_REPLAYED : Fld := ⟨0x040030, 31, 16⟩
abbrev F.RED_UPLINK_STAT_FAILOVERS : Fld := ⟨0x040034, 15, 0⟩
abbrev F.RED_UPLINK_STAT_NO_ROUTE : Fld := ⟨0x040034, 31, 16⟩
abbrev F.RED_UPLINK_SHADOW_PORT0 : Fld := ⟨0x04003c, 6, 0⟩
abbrev F.RED_UPLINK_SHADOW_PORT1 : Fld := ⟨0x04003c, 14, 8⟩
abbrev F.RED_UPLINK_SHADOW_PORT2 : Fld := ⟨0x04003c, 22, 16⟩
abbrev F.RED_UPLINK_SHADOW_PORT3 : Fld := ⟨0x04003c, 30, 24⟩
abbrev F.RED_DRL_CTRL_COMMIT : Fld := ⟨0x040040, 0, 0⟩
abbrev F.RED_DRL_CTRL_PENDING : Fld := ⟨0x040040, 1, 1⟩
abbrev F.RED_DRL_CTRL_LATE : Fld := ⟨0x040040, 2, 2⟩
abbrev F.RED_DRL_EPOCH_LO : Fld := ⟨0x040044, 31, 0⟩
abbrev F.RED_DRL_EPOCH_HI : Fld := ⟨0x040048, 15, 0⟩
abbrev F.RED_STRAG_STAT_FLAGGED : Fld := ⟨0x040050, 15, 0⟩
abbrev F.RED_STRAG_STAT_LATE_SCORED : Fld := ⟨0x040050, 23, 16⟩
abbrev F.RED_STRAG_STAT_REF_FALLBACK : Fld := ⟨0x040050, 31, 24⟩
abbrev F.RED_TOPK_ROOT_LEN : Fld := ⟨0x040054, 7, 0⟩
abbrev F.RED_CTR_CLR_CLR_MERGE : Fld := ⟨0x040060, 0, 0⟩
abbrev F.RED_CTR_CLR_CLR_LATE : Fld := ⟨0x040060, 1, 1⟩
abbrev F.RED_CTR_CLR_CLR_INCOMPLETE : Fld := ⟨0x040060, 2, 2⟩
abbrev F.RED_CTR_CLR_CLR_RETAIN : Fld := ⟨0x040060, 3, 3⟩
abbrev F.RED_CTR_CLR_CLR_STRAG : Fld := ⟨0x040060, 4, 4⟩
abbrev F.INF_CTRL_ENG_EN : Fld := ⟨0x050000, 0, 0⟩
abbrev F.INF_CTRL_STREAM_EN : Fld := ⟨0x050000, 1, 1⟩
abbrev F.INF_CTRL_DRIFT_EN : Fld := ⟨0x050000, 2, 2⟩
abbrev F.INF_CTRL_ALERT_EN : Fld := ⟨0x050000, 3, 3⟩
abbrev F.INF_CAPS_WALKERS : Fld := ⟨0x050004, 11, 0⟩
abbrev F.INF_CAPS_MACS : Fld := ⟨0x050004, 25, 12⟩
abbrev F.INF_CAPS_MAX_DEPTH : Fld := ⟨0x050004, 29, 26⟩
abbrev F.INF_ROWS : Fld := ⟨0x050008, 31, 0⟩
abbrev F.INF_ROW_DROP_DROPPED : Fld := ⟨0x05000c, 15, 0⟩
abbrev F.INF_ROW_DROP_QUEUE_MAX : Fld := ⟨0x05000c, 22, 16⟩
abbrev F.INF_MISS_STAT_MISSING : Fld := ⟨0x050010, 15, 0⟩
abbrev F.INF_MISS_STAT_CAT_UNKNOWN : Fld := ⟨0x050010, 23, 16⟩
abbrev F.INF_MISS_STAT_DIV_ZERO : Fld := ⟨0x050010, 31, 24⟩
abbrev F.INF_NUM_STAT_SAT : Fld := ⟨0x050014, 15, 0⟩
abbrev F.INF_NUM_STAT_OVERFLOW : Fld := ⟨0x050014, 23, 16⟩
abbrev F.INF_NUM_STAT_BAD_WEIGHT : Fld := ⟨0x050014, 31, 24⟩
abbrev F.INF_FAULT_CORRECTED : Fld := ⟨0x050018, 15, 0⟩
abbrev F.INF_FAULT_UNCORRECTED : Fld := ⟨0x050018, 23, 16⟩
abbrev F.INF_FAULT_ADDR : Fld := ⟨0x05001c, 21, 0⟩
abbrev F.INF_FAULT_ADDR_TILE : Fld := ⟨0x05001c, 30, 22⟩
abbrev F.INF_TILE_WAIT : Fld := ⟨0x050020, 31, 0⟩
abbrev F.INF_DRIFT_ACTIVE : Fld := ⟨0x050024, 9, 0⟩
abbrev F.INF_DRIFT_ALARMS : Fld := ⟨0x050024, 31, 16⟩
abbrev F.INF_CTR_CLR_CLR_ROW : Fld := ⟨0x050028, 0, 0⟩
abbrev F.INF_CTR_CLR_CLR_MISS : Fld := ⟨0x050028, 1, 1⟩
abbrev F.INF_CTR_CLR_CLR_NUM : Fld := ⟨0x050028, 2, 2⟩
abbrev F.INF_CTR_CLR_CLR_FAULT : Fld := ⟨0x050028, 3, 3⟩
abbrev F.INF_CTR_CLR_CLR_WAIT : Fld := ⟨0x050028, 4, 4⟩
abbrev F.INF_CTR_CLR_CLR_DRIFT : Fld := ⟨0x050028, 5, 5⟩
abbrev F.INF_MDL_CTRL_OP : Fld := ⟨0x050040, 2, 0⟩
abbrev F.INF_MDL_CTRL_SRC : Fld := ⟨0x050040, 3, 3⟩
abbrev F.INF_MDL_CTRL_KEEP_OLD : Fld := ⟨0x050040, 4, 4⟩
abbrev F.INF_MDL_CTRL_SLOT : Fld := ⟨0x050040, 15, 8⟩
abbrev F.INF_MDL_SRC_LO : Fld := ⟨0x050044, 31, 0⟩
abbrev F.INF_MDL_SRC_HI : Fld := ⟨0x050048, 31, 0⟩
abbrev F.INF_MDL_LEN_LENGTH : Fld := ⟨0x05004c, 25, 0⟩
abbrev F.INF_MDL_EPOCH_LO : Fld := ⟨0x050050, 31, 0⟩
abbrev F.INF_MDL_EPOCH_HI_EPOCH : Fld := ⟨0x050054, 15, 0⟩
abbrev F.INF_MDL_STAT_LOAD_STATE : Fld := ⟨0x050058, 2, 0⟩
abbrev F.INF_MDL_STAT_LAST_REJECT : Fld := ⟨0x050058, 7, 4⟩
abbrev F.INF_MDL_STAT_REJECTS : Fld := ⟨0x050058, 15, 8⟩
abbrev F.INF_MDL_STAT_SLOT : Fld := ⟨0x050058, 23, 16⟩
abbrev F.INF_MDL_STAT_DONE : Fld := ⟨0x050058, 24, 24⟩
abbrev F.INF_MDL_STAT_REJECTED : Fld := ⟨0x050058, 25, 25⟩
abbrev F.INF_STORE_FREE_KIB : Fld := ⟨0x05005c, 15, 0⟩
abbrev F.INF_STORE_USED_KIB : Fld := ⟨0x05005c, 31, 16⟩
abbrev F.INF_BUDGET_EPOCH_US : Fld := ⟨0x050060, 9, 0⟩
abbrev F.INF_BUDGET_CHILD_US : Fld := ⟨0x050060, 19, 10⟩
abbrev F.INF_BUDGET_OVERRUN_LIMIT : Fld := ⟨0x050060, 23, 20⟩
abbrev F.INF_BUDGET_ALERT_EN : Fld := ⟨0x050060, 24, 24⟩
abbrev F.INF_BUDGET_STAT_OVERRUNS : Fld := ⟨0x050064, 15, 0⟩
abbrev F.INF_BUDGET_STAT_SUSPENDS : Fld := ⟨0x050064, 31, 16⟩
abbrev F.INF_CRIER_MAX_PER_EPOCH : Fld := ⟨0x050068, 7, 0⟩
abbrev F.INF_CRIER_PORT_X0 : Fld := ⟨0x050068, 14, 8⟩
abbrev F.INF_CRIER_PORT_X1 : Fld := ⟨0x050068, 22, 16⟩
abbrev F.INF_CRIER_STAT_SENT : Fld := ⟨0x05006c, 15, 0⟩
abbrev F.INF_CRIER_STAT_SUPPRESSED : Fld := ⟨0x05006c, 23, 16⟩
abbrev F.INF_CRIER_STAT_NO_ROUTE : Fld := ⟨0x05006c, 27, 24⟩
abbrev F.INF_CRIER_STAT_DUP : Fld := ⟨0x05006c, 31, 28⟩
abbrev F.INF_SWAP_STAT_STALE_ROWS : Fld := ⟨0x050070, 15, 0⟩
abbrev F.INF_SWAP_STAT_CANCELLED : Fld := ⟨0x050070, 23, 16⟩
abbrev F.INF_SWAP_STAT_SWAPS : Fld := ⟨0x050070, 31, 24⟩
abbrev F.INF_MDL_CLR_CLR_BUDGET : Fld := ⟨0x050074, 0, 0⟩
abbrev F.INF_MDL_CLR_CLR_CRIER : Fld := ⟨0x050074, 1, 1⟩
abbrev F.INF_MDL_CLR_CLR_SWAP : Fld := ⟨0x050074, 2, 2⟩
abbrev F.TRC_CTRL_EN : Fld := ⟨0x060000, 0, 0⟩
abbrev F.TRC_CTRL_ALERT_EN : Fld := ⟨0x060000, 1, 1⟩
abbrev F.TRC_FLUSH_STREAM : Fld := ⟨0x060004, 5, 0⟩
abbrev F.TRC_FLUSH_ALL : Fld := ⟨0x060004, 6, 6⟩
abbrev F.TRC_FLUSH_CLOSE_BUF : Fld := ⟨0x060004, 7, 7⟩
abbrev F.TRC_FLUSH_BUSY : Fld := ⟨0x060004, 8, 8⟩
abbrev F.TRC_SYNC_STREAM : Fld := ⟨0x060008, 5, 0⟩
abbrev F.TRC_SYNC_ALL : Fld := ⟨0x060008, 6, 6⟩
abbrev F.TRC_LIMITS_STALL_LIMIT_US : Fld := ⟨0x06000c, 9, 0⟩
abbrev F.TRC_LIMITS_POLL_US : Fld := ⟨0x06000c, 19, 10⟩
abbrev F.TRC_LIMITS_FLUSH_US : Fld := ⟨0x06000c, 31, 20⟩
abbrev F.TRC_CTR_CLR_CLR_CHAN : Fld := ⟨0x060010, 0, 0⟩
abbrev F.TRC_CTR_CLR_CLR_PAN : Fld := ⟨0x060010, 1, 1⟩
abbrev F.TRC_CTR_CLR_CLR_SEQ : Fld := ⟨0x060010, 2, 2⟩
abbrev F.TRC_ROUTE_SAMPLE : Fld := ⟨0x060014, 6, 0⟩
abbrev F.TRC_ROUTE_SCORE : Fld := ⟨0x060014, 13, 7⟩
abbrev F.TRC_ROUTE_SERVICE : Fld := ⟨0x060014, 20, 14⟩
abbrev F.TRC_ROUTE_DUMP : Fld := ⟨0x060014, 27, 21⟩
abbrev F.TRC_UNROUTED : Fld := ⟨0x060018, 31, 0⟩
abbrev F.TRC_CHAN_EN (i : Nat) : Fld := ⟨0x060040 + 4 * i, 0, 0⟩
abbrev F.TRC_CHAN_STALL_EN (i : Nat) : Fld := ⟨0x060040 + 4 * i, 1, 1⟩
abbrev F.TRC_CHAN_STREAM (i : Nat) : Fld := ⟨0x060040 + 4 * i, 7, 2⟩
abbrev F.TRC_CHAN_SEQ (i : Nat) : Fld := ⟨0x060040 + 4 * i, 9, 8⟩
abbrev F.TRC_CHAN_STAT_ACC (i : Nat) : Fld := ⟨0x060100 + 16 * i, 31, 0⟩
abbrev F.TRC_CHAN_STAT_DROP (i : Nat) : Fld := ⟨0x060104 + 16 * i, 31, 0⟩
abbrev F.TRC_CHAN_STAT_FILT (i : Nat) : Fld := ⟨0x060108 + 16 * i, 31, 0⟩
abbrev F.TRC_CHAN_STAT_STALL_STALLS (i : Nat) : Fld := ⟨0x06010c + 16 * i, 15, 0⟩
abbrev F.TRC_CHAN_STAT_STALL_BAD_TYPE (i : Nat) : Fld := ⟨0x06010c + 16 * i, 23, 16⟩
abbrev F.TRC_CHAN_STAT_STALL_STALL_TIMEOUTS (i : Nat) : Fld := ⟨0x06010c + 16 * i, 31, 24⟩
abbrev F.TRC_CMP_CHANNEL (i : Nat) : Fld := ⟨0x060200 + 16 * i, 3, 0⟩
abbrev F.TRC_CMP_ANY (i : Nat) : Fld := ⟨0x060200 + 16 * i, 4, 4⟩
abbrev F.TRC_CMP_TYPE_CMP (i : Nat) : Fld := ⟨0x060200 + 16 * i, 12, 5⟩
abbrev F.TRC_CMP_TYPE_MASK (i : Nat) : Fld := ⟨0x060200 + 16 * i, 20, 13⟩
abbrev F.TRC_CMP_METRIC_EN (i : Nat) : Fld := ⟨0x060200 + 16 * i, 21, 21⟩
abbrev F.TRC_CMP_MATCH (i : Nat) : Fld := ⟨0x060204 + 16 * i, 31, 0⟩
abbrev F.TRC_CMP_MASK (i : Nat) : Fld := ⟨0x060208 + 16 * i, 31, 0⟩
abbrev F.TRC_CMP_COUNT (i : Nat) : Fld := ⟨0x06020c + 16 * i, 15, 0⟩
abbrev F.TRC_SEQ_STATE (i : Nat) : Fld := ⟨0x060300 + 64 * i, 2, 0⟩
abbrev F.TRC_SEQ_EN (i : Nat) : Fld := ⟨0x060300 + 64 * i, 3, 3⟩
abbrev F.TRC_SEQ_RESTART (i : Nat) : Fld := ⟨0x060300 + 64 * i, 4, 4⟩
abbrev F.TRC_SEQ_FIRE (i : Nat) : Fld := ⟨0x060300 + 64 * i, 5, 5⟩
abbrev F.TRC_SEQ_POST_POST_KIB (i : Nat) : Fld := ⟨0x060304 + 64 * i, 15, 0⟩
abbrev F.TRC_SEQ_TIME_LO (i : Nat) : Fld := ⟨0x060308 + 64 * i, 31, 0⟩
abbrev F.TRC_SEQ_TIME_HI (i : Nat) : Fld := ⟨0x06030c + 64 * i, 31, 0⟩
abbrev F.TRC_SEQ_TRANS (i : Nat) : Fld := ⟨0x060310 + 64 * i, 31, 0⟩
abbrev F.TRC_SEQ_W0_EV_A (i : Nat) : Fld := ⟨0x060320 + 64 * i, 4, 0⟩
abbrev F.TRC_SEQ_W0_NEXT_A (i : Nat) : Fld := ⟨0x060320 + 64 * i, 7, 5⟩
abbrev F.TRC_SEQ_W0_EV_B (i : Nat) : Fld := ⟨0x060320 + 64 * i, 12, 8⟩
abbrev F.TRC_SEQ_W0_NEXT_B (i : Nat) : Fld := ⟨0x060320 + 64 * i, 15, 13⟩
abbrev F.TRC_SEQ_W0_CAPTURE (i : Nat) : Fld := ⟨0x060320 + 64 * i, 16, 16⟩
abbrev F.TRC_SEQ_W0_FLUSH (i : Nat) : Fld := ⟨0x060320 + 64 * i, 17, 17⟩
abbrev F.TRC_SEQ_W0_MARK (i : Nat) : Fld := ⟨0x060320 + 64 * i, 18, 18⟩
abbrev F.TRC_SEQ_W0_SYNC (i : Nat) : Fld := ⟨0x060320 + 64 * i, 19, 19⟩
abbrev F.TRC_SEQ_W0_STOP (i : Nat) : Fld := ⟨0x060320 + 64 * i, 20, 20⟩
abbrev F.TRC_SEQ_W1_EV_A (i : Nat) : Fld := ⟨0x060324 + 64 * i, 4, 0⟩
abbrev F.TRC_SEQ_W1_NEXT_A (i : Nat) : Fld := ⟨0x060324 + 64 * i, 7, 5⟩
abbrev F.TRC_SEQ_W1_EV_B (i : Nat) : Fld := ⟨0x060324 + 64 * i, 12, 8⟩
abbrev F.TRC_SEQ_W1_NEXT_B (i : Nat) : Fld := ⟨0x060324 + 64 * i, 15, 13⟩
abbrev F.TRC_SEQ_W1_CAPTURE (i : Nat) : Fld := ⟨0x060324 + 64 * i, 16, 16⟩
abbrev F.TRC_SEQ_W1_FLUSH (i : Nat) : Fld := ⟨0x060324 + 64 * i, 17, 17⟩
abbrev F.TRC_SEQ_W1_MARK (i : Nat) : Fld := ⟨0x060324 + 64 * i, 18, 18⟩
abbrev F.TRC_SEQ_W1_SYNC (i : Nat) : Fld := ⟨0x060324 + 64 * i, 19, 19⟩
abbrev F.TRC_SEQ_W1_STOP (i : Nat) : Fld := ⟨0x060324 + 64 * i, 20, 20⟩
abbrev F.TRC_SEQ_W2_EV_A (i : Nat) : Fld := ⟨0x060328 + 64 * i, 4, 0⟩
abbrev F.TRC_SEQ_W2_NEXT_A (i : Nat) : Fld := ⟨0x060328 + 64 * i, 7, 5⟩
abbrev F.TRC_SEQ_W2_EV_B (i : Nat) : Fld := ⟨0x060328 + 64 * i, 12, 8⟩
abbrev F.TRC_SEQ_W2_NEXT_B (i : Nat) : Fld := ⟨0x060328 + 64 * i, 15, 13⟩
abbrev F.TRC_SEQ_W2_CAPTURE (i : Nat) : Fld := ⟨0x060328 + 64 * i, 16, 16⟩
abbrev F.TRC_SEQ_W2_FLUSH (i : Nat) : Fld := ⟨0x060328 + 64 * i, 17, 17⟩
abbrev F.TRC_SEQ_W2_MARK (i : Nat) : Fld := ⟨0x060328 + 64 * i, 18, 18⟩
abbrev F.TRC_SEQ_W2_SYNC (i : Nat) : Fld := ⟨0x060328 + 64 * i, 19, 19⟩
abbrev F.TRC_SEQ_W2_STOP (i : Nat) : Fld := ⟨0x060328 + 64 * i, 20, 20⟩
abbrev F.TRC_SEQ_W3_EV_A (i : Nat) : Fld := ⟨0x06032c + 64 * i, 4, 0⟩
abbrev F.TRC_SEQ_W3_NEXT_A (i : Nat) : Fld := ⟨0x06032c + 64 * i, 7, 5⟩
abbrev F.TRC_SEQ_W3_EV_B (i : Nat) : Fld := ⟨0x06032c + 64 * i, 12, 8⟩
abbrev F.TRC_SEQ_W3_NEXT_B (i : Nat) : Fld := ⟨0x06032c + 64 * i, 15, 13⟩
abbrev F.TRC_SEQ_W3_CAPTURE (i : Nat) : Fld := ⟨0x06032c + 64 * i, 16, 16⟩
abbrev F.TRC_SEQ_W3_FLUSH (i : Nat) : Fld := ⟨0x06032c + 64 * i, 17, 17⟩
abbrev F.TRC_SEQ_W3_MARK (i : Nat) : Fld := ⟨0x06032c + 64 * i, 18, 18⟩
abbrev F.TRC_SEQ_W3_SYNC (i : Nat) : Fld := ⟨0x06032c + 64 * i, 19, 19⟩
abbrev F.TRC_SEQ_W3_STOP (i : Nat) : Fld := ⟨0x06032c + 64 * i, 20, 20⟩
abbrev F.TRC_SEQ_W4_EV_A (i : Nat) : Fld := ⟨0x060330 + 64 * i, 4, 0⟩
abbrev F.TRC_SEQ_W4_NEXT_A (i : Nat) : Fld := ⟨0x060330 + 64 * i, 7, 5⟩
abbrev F.TRC_SEQ_W4_EV_B (i : Nat) : Fld := ⟨0x060330 + 64 * i, 12, 8⟩
abbrev F.TRC_SEQ_W4_NEXT_B (i : Nat) : Fld := ⟨0x060330 + 64 * i, 15, 13⟩
abbrev F.TRC_SEQ_W4_CAPTURE (i : Nat) : Fld := ⟨0x060330 + 64 * i, 16, 16⟩
abbrev F.TRC_SEQ_W4_FLUSH (i : Nat) : Fld := ⟨0x060330 + 64 * i, 17, 17⟩
abbrev F.TRC_SEQ_W4_MARK (i : Nat) : Fld := ⟨0x060330 + 64 * i, 18, 18⟩
abbrev F.TRC_SEQ_W4_SYNC (i : Nat) : Fld := ⟨0x060330 + 64 * i, 19, 19⟩
abbrev F.TRC_SEQ_W4_STOP (i : Nat) : Fld := ⟨0x060330 + 64 * i, 20, 20⟩
abbrev F.TRC_SEQ_W5_EV_A (i : Nat) : Fld := ⟨0x060334 + 64 * i, 4, 0⟩
abbrev F.TRC_SEQ_W5_NEXT_A (i : Nat) : Fld := ⟨0x060334 + 64 * i, 7, 5⟩
abbrev F.TRC_SEQ_W5_EV_B (i : Nat) : Fld := ⟨0x060334 + 64 * i, 12, 8⟩
abbrev F.TRC_SEQ_W5_NEXT_B (i : Nat) : Fld := ⟨0x060334 + 64 * i, 15, 13⟩
abbrev F.TRC_SEQ_W5_CAPTURE (i : Nat) : Fld := ⟨0x060334 + 64 * i, 16, 16⟩
abbrev F.TRC_SEQ_W5_FLUSH (i : Nat) : Fld := ⟨0x060334 + 64 * i, 17, 17⟩
abbrev F.TRC_SEQ_W5_MARK (i : Nat) : Fld := ⟨0x060334 + 64 * i, 18, 18⟩
abbrev F.TRC_SEQ_W5_SYNC (i : Nat) : Fld := ⟨0x060334 + 64 * i, 19, 19⟩
abbrev F.TRC_SEQ_W5_STOP (i : Nat) : Fld := ⟨0x060334 + 64 * i, 20, 20⟩
abbrev F.TRC_SEQ_W6_EV_A (i : Nat) : Fld := ⟨0x060338 + 64 * i, 4, 0⟩
abbrev F.TRC_SEQ_W6_NEXT_A (i : Nat) : Fld := ⟨0x060338 + 64 * i, 7, 5⟩
abbrev F.TRC_SEQ_W6_EV_B (i : Nat) : Fld := ⟨0x060338 + 64 * i, 12, 8⟩
abbrev F.TRC_SEQ_W6_NEXT_B (i : Nat) : Fld := ⟨0x060338 + 64 * i, 15, 13⟩
abbrev F.TRC_SEQ_W6_CAPTURE (i : Nat) : Fld := ⟨0x060338 + 64 * i, 16, 16⟩
abbrev F.TRC_SEQ_W6_FLUSH (i : Nat) : Fld := ⟨0x060338 + 64 * i, 17, 17⟩
abbrev F.TRC_SEQ_W6_MARK (i : Nat) : Fld := ⟨0x060338 + 64 * i, 18, 18⟩
abbrev F.TRC_SEQ_W6_SYNC (i : Nat) : Fld := ⟨0x060338 + 64 * i, 19, 19⟩
abbrev F.TRC_SEQ_W6_STOP (i : Nat) : Fld := ⟨0x060338 + 64 * i, 20, 20⟩
abbrev F.TRC_SEQ_W7_EV_A (i : Nat) : Fld := ⟨0x06033c + 64 * i, 4, 0⟩
abbrev F.TRC_SEQ_W7_NEXT_A (i : Nat) : Fld := ⟨0x06033c + 64 * i, 7, 5⟩
abbrev F.TRC_SEQ_W7_EV_B (i : Nat) : Fld := ⟨0x06033c + 64 * i, 12, 8⟩
abbrev F.TRC_SEQ_W7_NEXT_B (i : Nat) : Fld := ⟨0x06033c + 64 * i, 15, 13⟩
abbrev F.TRC_SEQ_W7_CAPTURE (i : Nat) : Fld := ⟨0x06033c + 64 * i, 16, 16⟩
abbrev F.TRC_SEQ_W7_FLUSH (i : Nat) : Fld := ⟨0x06033c + 64 * i, 17, 17⟩
abbrev F.TRC_SEQ_W7_MARK (i : Nat) : Fld := ⟨0x06033c + 64 * i, 18, 18⟩
abbrev F.TRC_SEQ_W7_SYNC (i : Nat) : Fld := ⟨0x06033c + 64 * i, 19, 19⟩
abbrev F.TRC_SEQ_W7_STOP (i : Nat) : Fld := ⟨0x06033c + 64 * i, 20, 20⟩
abbrev F.TRC_PAN_CTRL_EN (i : Nat) : Fld := ⟨0x061000 + 64 * i, 0, 0⟩
abbrev F.TRC_PAN_CTRL_RING (i : Nat) : Fld := ⟨0x061000 + 64 * i, 1, 1⟩
abbrev F.TRC_PAN_CTRL_CODEC (i : Nat) : Fld := ⟨0x061000 + 64 * i, 3, 2⟩
abbrev F.TRC_PAN_CTRL_LEVEL (i : Nat) : Fld := ⟨0x061000 + 64 * i, 5, 4⟩
abbrev F.TRC_PAN_CTRL_BLOCK_KIB (i : Nat) : Fld := ⟨0x061000 + 64 * i, 12, 6⟩
abbrev F.TRC_PAN_CTRL_STRIDE_M1 (i : Nat) : Fld := ⟨0x061000 + 64 * i, 15, 13⟩
abbrev F.TRC_PAN_CTRL_PRIV (i : Nat) : Fld := ⟨0x061000 + 64 * i, 16, 16⟩
abbrev F.TRC_PAN_CTRL_OWNER (i : Nat) : Fld := ⟨0x061000 + 64 * i, 28, 17⟩
abbrev F.TRC_PAN_HEAD_LO (i : Nat) : Fld := ⟨0x061004 + 64 * i, 31, 0⟩
abbrev F.TRC_PAN_HEAD_HI (i : Nat) : Fld := ⟨0x061008 + 64 * i, 31, 0⟩
abbrev F.TRC_PAN_CMD_START (i : Nat) : Fld := ⟨0x06100c + 64 * i, 0, 0⟩
abbrev F.TRC_PAN_CMD_APPEND (i : Nat) : Fld := ⟨0x06100c + 64 * i, 1, 1⟩
abbrev F.TRC_PAN_CMD_STOP (i : Nat) : Fld := ⟨0x06100c + 64 * i, 2, 2⟩
abbrev F.TRC_PAN_STAT_STATE (i : Nat) : Fld := ⟨0x061010 + 64 * i, 2, 0⟩
abbrev F.TRC_PAN_STAT_FILLED (i : Nat) : Fld := ⟨0x061010 + 64 * i, 3, 3⟩
abbrev F.TRC_PAN_STAT_STOP_PENDING (i : Nat) : Fld := ⟨0x061010 + 64 * i, 4, 4⟩
abbrev F.TRC_PAN_STAT_FAULT_SEEN (i : Nat) : Fld := ⟨0x061010 + 64 * i, 5, 5⟩
abbrev F.TRC_PAN_CUR_LO (i : Nat) : Fld := ⟨0x061014 + 64 * i, 31, 0⟩
abbrev F.TRC_PAN_CUR_HI (i : Nat) : Fld := ⟨0x061018 + 64 * i, 31, 0⟩
abbrev F.TRC_PAN_BLOCK_SEQ (i : Nat) : Fld := ⟨0x06101c + 64 * i, 31, 0⟩
abbrev F.TRC_PAN_FRAMES (i : Nat) : Fld := ⟨0x061020 + 64 * i, 31, 0⟩
abbrev F.TRC_PAN_RECDROP (i : Nat) : Fld := ⟨0x061024 + 64 * i, 31, 0⟩
abbrev F.TRC_PAN_LOST_BLOCKS_LOST (i : Nat) : Fld := ⟨0x061028 + 64 * i, 15, 0⟩
abbrev F.TRC_PAN_LOST_OVERWRITES (i : Nat) : Fld := ⟨0x061028 + 64 * i, 31, 16⟩
abbrev F.TRC_PAN_EXH_EXHAUSTIONS (i : Nat) : Fld := ⟨0x06102c + 64 * i, 15, 0⟩
abbrev F.TRC_PAN_EXH_WAITS (i : Nat) : Fld := ⟨0x06102c + 64 * i, 31, 16⟩
abbrev F.TRC_PAN_BAD_BAD_CMD (i : Nat) : Fld := ⟨0x061030 + 64 * i, 7, 0⟩
abbrev F.TRC_PAN_ORIG_KIB (i : Nat) : Fld := ⟨0x061034 + 64 * i, 31, 0⟩
abbrev F.TRC_PAN_OUT_KIB (i : Nat) : Fld := ⟨0x061038 + 64 * i, 31, 0⟩
abbrev F.LED_CTRL_FOLD_US : Fld := ⟨0x070000, 15, 0⟩
abbrev F.LED_CTRL_ALERT_EN : Fld := ⟨0x070000, 16, 16⟩
abbrev F.LED_CFG_KEEP : Fld := ⟨0x070004, 15, 0⟩
abbrev F.LED_SEQ : Fld := ⟨0x070008, 31, 0⟩
abbrev F.LED_WPTR : Fld := ⟨0x07000c, 20, 0⟩
abbrev F.LED_FOLD_SHADOW : Fld := ⟨0x070010, 15, 0⟩
abbrev F.LED_FOLD_EVICTIONS : Fld := ⟨0x070010, 31, 16⟩
abbrev F.LED_LOST_EVENTS : Fld := ⟨0x070014, 15, 0⟩
abbrev F.LED_LOST_LAST_CLASS : Fld := ⟨0x070014, 21, 16⟩
abbrev F.LED_FAULT_CORRECTED : Fld := ⟨0x070018, 15, 0⟩
abbrev F.LED_FAULT_UNCORRECTED : Fld := ⟨0x070018, 23, 16⟩
abbrev F.LED_FAULT_RETIRED : Fld := ⟨0x070018, 30, 24⟩
abbrev F.LED_STATE : Fld := ⟨0x07001c, 1, 0⟩
abbrev F.LED_STATE_OPEN : Fld := ⟨0x07001c, 5, 2⟩
abbrev F.LED_WIN_PAGE : Fld := ⟨0x070020, 4, 0⟩
abbrev F.LED_FOLD_FOLDED : Fld := ⟨0x070024, 31, 0⟩
abbrev F.LED_CTR_CLR_CLR_FOLD : Fld := ⟨0x070028, 0, 0⟩
abbrev F.LED_CTR_CLR_CLR_LOST : Fld := ⟨0x070028, 1, 1⟩
abbrev F.LED_CTR_CLR_CLR_CORR : Fld := ⟨0x070028, 2, 2⟩
abbrev F.LED_MIRROR (i : Nat) : Fld := ⟨0x070040 + 4 * i, 31, 0⟩
abbrev F.SVC_CTRL_DIG_EN : Fld := ⟨0x080000, 0, 0⟩
abbrev F.SVC_CTRL_DUP_EN : Fld := ⟨0x080000, 1, 1⟩
abbrev F.SVC_CTRL_CHK_EN : Fld := ⟨0x080000, 2, 2⟩
abbrev F.SVC_CTRL_LATCH_EN : Fld := ⟨0x080000, 3, 3⟩
abbrev F.SVC_CTRL_PCS_EN : Fld := ⟨0x080000, 4, 4⟩
abbrev F.SVC_CTRL_OPS_EN : Fld := ⟨0x080000, 5, 5⟩
abbrev F.SVC_CTRL_FT_EN : Fld := ⟨0x080000, 6, 6⟩
abbrev F.SVC_CTRL_CHARGE_NAN : Fld := ⟨0x080000, 7, 7⟩
abbrev F.SVC_CTRL_ALERT_EN : Fld := ⟨0x080000, 8, 8⟩
abbrev F.SVC_STAT_BAD_TYPE : Fld := ⟨0x080004, 15, 0⟩
abbrev F.SVC_STAT_STATE_DROP : Fld := ⟨0x080004, 31, 16⟩
abbrev F.SVC_DROP_DIGEST : Fld := ⟨0x080008, 15, 0⟩
abbrev F.SVC_DROP_OTHER : Fld := ⟨0x080008, 31, 16⟩
abbrev F.SVC_HOST_TILES : Fld := ⟨0x08000c, 12, 0⟩
abbrev F.SVC_HOST_LOG_RATE : Fld := ⟨0x08000c, 19, 16⟩
abbrev F.SVC_HOST_RESULT_WINDOW : Fld := ⟨0x08000c, 23, 20⟩
abbrev F.SVC_PLAN_LO : Fld := ⟨0x080010, 31, 0⟩
abbrev F.SVC_PLAN_HI : Fld := ⟨0x080014, 31, 0⟩
abbrev F.SVC_DIG_CFG_PAIR_WINDOW : Fld := ⟨0x080018, 3, 0⟩
abbrev F.SVC_DIG_CFG_COLL_TIMEOUT : Fld := ⟨0x080018, 7, 4⟩
abbrev F.SVC_DUP_STAT_MISMATCH : Fld := ⟨0x08001c, 15, 0⟩
abbrev F.SVC_DUP_STAT_MISSED : Fld := ⟨0x08001c, 31, 16⟩
abbrev F.SVC_DUP_STAT2_UNPLANNED : Fld := ⟨0x080020, 15, 0⟩
abbrev F.SVC_DUP_STAT2_REPEAT : Fld := ⟨0x080020, 23, 16⟩
abbrev F.SVC_DUP_STAT2_PLAN_LATE : Fld := ⟨0x080020, 31, 24⟩
abbrev F.SVC_DUP_MATCH : Fld := ⟨0x080024, 31, 0⟩
abbrev F.SVC_DIG_STAT_MISMATCH : Fld := ⟨0x080028, 7, 0⟩
abbrev F.SVC_DIG_STAT_UNPAIRED : Fld := ⟨0x080028, 15, 8⟩
abbrev F.SVC_DIG_STAT_UNCHECKED : Fld := ⟨0x080028, 23, 16⟩
abbrev F.SVC_DIG_STAT_REFUSED : Fld := ⟨0x080028, 31, 24⟩
abbrev F.SVC_DIG_MATCH : Fld := ⟨0x08002c, 31, 0⟩
abbrev F.SVC_CHK_STAT_POISON : Fld := ⟨0x080030, 7, 0⟩
abbrev F.SVC_CHK_STAT_CHECK_FAIL : Fld := ⟨0x080030, 15, 8⟩
abbrev F.SVC_CHK_STAT_EQUAL : Fld := ⟨0x080030, 23, 16⟩
abbrev F.SVC_CHK_STAT_NAN_REPORTS : Fld := ⟨0x080030, 31, 24⟩
abbrev F.SVC_STEP_MODE : Fld := ⟨0x080034, 1, 0⟩
abbrev F.SVC_STEP_HELD : Fld := ⟨0x080034, 2, 2⟩
abbrev F.SVC_STEP_CREDIT : Fld := ⟨0x080034, 11, 4⟩
abbrev F.SVC_STEP_GRANT : Fld := ⟨0x080034, 19, 12⟩
abbrev F.SVC_STEP_SLIP : Fld := ⟨0x080034, 27, 20⟩
abbrev F.SVC_STEP_BRK : Fld := ⟨0x080038, 31, 0⟩
abbrev F.SVC_LATCH_CFG_N : Fld := ⟨0x08003c, 5, 0⟩
abbrev F.SVC_PCS_MAX_PER_EPOCH : Fld := ⟨0x080040, 15, 0⟩
abbrev F.SVC_PCS_DROPPED : Fld := ⟨0x080040, 31, 16⟩
abbrev F.SVC_DUMP_ID_TENSOR_ID : Fld := ⟨0x080044, 23, 0⟩
abbrev F.SVC_DUMP_STEP : Fld := ⟨0x080048, 31, 0⟩
abbrev F.SVC_DUMP_CTRL_ARM : Fld := ⟨0x08004c, 0, 0⟩
abbrev F.SVC_DUMP_CTRL_HOLD : Fld := ⟨0x08004c, 1, 1⟩
abbrev F.SVC_DUMP_CTRL_BUSY : Fld := ⟨0x08004c, 2, 2⟩
abbrev F.SVC_DUMP_CTRL_DONE : Fld := ⟨0x08004c, 3, 3⟩
abbrev F.SVC_DUMP_CTRL_TORN : Fld := ⟨0x08004c, 4, 4⟩
abbrev F.SVC_DUMP_CTRL_FAIL : Fld := ⟨0x08004c, 5, 5⟩
abbrev F.SVC_FT_THRESH : Fld := ⟨0x080050, 7, 0⟩
abbrev F.SVC_FT_WINDOW : Fld := ⟨0x080050, 15, 8⟩
abbrev F.SVC_FT_TIMEOUT : Fld := ⟨0x080050, 23, 16⟩
abbrev F.SVC_FT_REQ_TILE : Fld := ⟨0x080054, 11, 0⟩
abbrev F.SVC_FT_REQ_TEST : Fld := ⟨0x080054, 12, 12⟩
abbrev F.SVC_FT_REQ_CLEAR : Fld := ⟨0x080054, 13, 13⟩
abbrev F.SVC_FT_PEND_TILE : Fld := ⟨0x080058, 11, 0⟩
abbrev F.SVC_FT_PEND_DEPTH : Fld := ⟨0x080058, 16, 12⟩
abbrev F.SVC_FT_PEND_ACK : Fld := ⟨0x080058, 17, 17⟩
abbrev F.SVC_FT_PEND_QFULL : Fld := ⟨0x080058, 25, 18⟩
abbrev F.SVC_CTR_CLR_CLR_STAT : Fld := ⟨0x08005c, 0, 0⟩
abbrev F.SVC_CTR_CLR_CLR_DUP : Fld := ⟨0x08005c, 1, 1⟩
abbrev F.SVC_CTR_CLR_CLR_DIG : Fld := ⟨0x08005c, 2, 2⟩
abbrev F.SVC_CTR_CLR_CLR_CHK : Fld := ⟨0x08005c, 3, 3⟩
abbrev F.SVC_CTR_CLR_CLR_PCS : Fld := ⟨0x08005c, 4, 4⟩
abbrev F.SVC_LATCH_STATION (i : Nat) : Fld := ⟨0x080100 + 4 * i, 11, 0⟩
abbrev F.SVC_LATCH_COUNTER (i : Nat) : Fld := ⟨0x080100 + 4 * i, 16, 12⟩
abbrev F.LNK_CTRL_DISC_EN : Fld := ⟨0x090000, 0, 0⟩
abbrev F.LNK_CTRL_ACCEPT_SWAP : Fld := ⟨0x090000, 1, 1⟩
abbrev F.LNK_CTRL_TKO_EN : Fld := ⟨0x090000, 2, 2⟩
abbrev F.LNK_CTRL_ALERT_EN : Fld := ⟨0x090000, 3, 3⟩
abbrev F.LNK_DISC_PERIOD : Fld := ⟨0x090004, 9, 0⟩
abbrev F.LNK_SVC_DELAY_US : Fld := ⟨0x090008, 9, 0⟩
abbrev F.LNK_SVC_STALL_OUT : Fld := ⟨0x090008, 13, 10⟩
abbrev F.LNK_SVC_TIMEOUT_US : Fld := ⟨0x090008, 23, 14⟩
abbrev F.LNK_SVC_BULK_MS : Fld := ⟨0x090008, 31, 24⟩
abbrev F.LNK_SVC_STAT0_LATE : Fld := ⟨0x09000c, 15, 0⟩
abbrev F.LNK_SVC_STAT0_BUSY : Fld := ⟨0x09000c, 31, 16⟩
abbrev F.LNK_SVC_STAT1_QUOTA : Fld := ⟨0x090010, 15, 0⟩
abbrev F.LNK_SVC_STAT1_SHED : Fld := ⟨0x090010, 31, 16⟩
abbrev F.LNK_SVC_STAT2_NO_ROUTE : Fld := ⟨0x090014, 15, 0⟩
abbrev F.LNK_SVC_STAT2_TIMEOUT : Fld := ⟨0x090014, 31, 16⟩
abbrev F.LNK_PGEN_STAT_STALE : Fld := ⟨0x090018, 15, 0⟩
abbrev F.LNK_TKO_SIB_PORT : Fld := ⟨0x090020, 6, 0⟩
abbrev F.LNK_TKO_DETECT_US : Fld := ⟨0x090020, 17, 8⟩
abbrev F.LNK_TKO_TAKEN : Fld := ⟨0x090020, 18, 18⟩
abbrev F.LNK_TKO_RELAYING : Fld := ⟨0x090020, 19, 19⟩
abbrev F.LNK_TKO_TAKE : Fld := ⟨0x090020, 20, 20⟩
abbrev F.LNK_TKO_HANDBACK : Fld := ⟨0x090020, 21, 21⟩
abbrev F.LNK_TKO_REFUSED : Fld := ⟨0x090020, 22, 22⟩
abbrev F.LNK_TKO_EPOCH_LO : Fld := ⟨0x090024, 31, 0⟩
abbrev F.LNK_TKO_EPOCH_HI_EPOCH : Fld := ⟨0x090028, 15, 0⟩
abbrev F.LNK_TKO_STAT_TAKEOVERS : Fld := ⟨0x09002c, 15, 0⟩
abbrev F.LNK_TKO_STAT_HANDBACKS : Fld := ⟨0x09002c, 31, 16⟩
abbrev F.LNK_SPLIT_SPLITS : Fld := ⟨0x090030, 15, 0⟩
abbrev F.LNK_SPLIT_LAST_CHILD : Fld := ⟨0x090030, 22, 16⟩
abbrev F.LNK_SPLIT_ACTIVE : Fld := ⟨0x090030, 23, 23⟩
abbrev F.LNK_SPLIT_EPOCHS : Fld := ⟨0x090030, 27, 24⟩
abbrev F.LNK_SPARE_STATE : Fld := ⟨0x090034, 2, 0⟩
abbrev F.LNK_SPARE_START : Fld := ⟨0x090034, 3, 3⟩
abbrev F.LNK_SPARE_ADMIT : Fld := ⟨0x090034, 4, 4⟩
abbrev F.LNK_SPARE_SHADOW_EPOCHS : Fld := ⟨0x090034, 9, 5⟩
abbrev F.LNK_SPARE_MATCHED : Fld := ⟨0x090034, 17, 10⟩
abbrev F.LNK_SPARE_MISMATCHES : Fld := ⟨0x090034, 20, 18⟩
abbrev F.LNK_SPARE_WORK_SOURCE : Fld := ⟨0x090038, 19, 0⟩
abbrev F.LNK_SPARE_CAND_SOURCE : Fld := ⟨0x09003c, 19, 0⟩
abbrev F.LNK_TRAY_SEL_SLOT : Fld := ⟨0x090040, 8, 0⟩
abbrev F.LNK_TRAY_SEL_PAGE : Fld := ⟨0x090040, 12, 9⟩
abbrev F.LNK_TRAY_STAT_LAST_STATUS : Fld := ⟨0x090044, 3, 0⟩
abbrev F.LNK_TRAY_STAT_ERRORS : Fld := ⟨0x090044, 31, 16⟩
abbrev F.LNK_CTR_CLR_CLR_SVC : Fld := ⟨0x090048, 0, 0⟩
abbrev F.LNK_CTR_CLR_CLR_PORT : Fld := ⟨0x090048, 1, 1⟩
abbrev F.LNK_CTR_CLR_CLR_MISC : Fld := ⟨0x090048, 2, 2⟩
abbrev F.LNK_PORT_FUNC (i : Nat) : Fld := ⟨0x091000 + 64 * i, 2, 0⟩
abbrev F.LNK_PORT_FUNC_SWITCHED (i : Nat) : Fld := ⟨0x091000 + 64 * i, 3, 3⟩
abbrev F.LNK_PORT_FUNC_ENC (i : Nat) : Fld := ⟨0x091000 + 64 * i, 4, 4⟩
abbrev F.LNK_PORT_PLAN_PLAN_PEER (i : Nat) : Fld := ⟨0x091004 + 64 * i, 19, 0⟩
abbrev F.LNK_PORT_PLAN_PLAN_PORT (i : Nat) : Fld := ⟨0x091004 + 64 * i, 26, 20⟩
abbrev F.LNK_PORT_PLAN_PLAN_VALID (i : Nat) : Fld := ⟨0x091004 + 64 * i, 27, 27⟩
abbrev F.LNK_PORT_STATE_LSTATE (i : Nat) : Fld := ⟨0x091008 + 64 * i, 2, 0⟩
abbrev F.LNK_PORT_STATE_PEER_PORT (i : Nat) : Fld := ⟨0x091008 + 64 * i, 9, 3⟩
abbrev F.LNK_PORT_STATE_SWAPPED (i : Nat) : Fld := ⟨0x091008 + 64 * i, 10, 10⟩
abbrev F.LNK_PORT_STATE_HEAD_SIDE (i : Nat) : Fld := ⟨0x091008 + 64 * i, 11, 11⟩
abbrev F.LNK_PORT_STATE_CHAIN_POS (i : Nat) : Fld := ⟨0x091008 + 64 * i, 15, 12⟩
abbrev F.LNK_PORT_STATE_DECL (i : Nat) : Fld := ⟨0x091008 + 64 * i, 17, 16⟩
abbrev F.LNK_PORT_PEER_PEER_ID (i : Nat) : Fld := ⟨0x09100c + 64 * i, 19, 0⟩
abbrev F.LNK_PORT_CREDIT (i : Nat) : Fld := ⟨0x091010 + 64 * i, 29, 0⟩
abbrev F.LNK_PORT_TX (i : Nat) : Fld := ⟨0x091014 + 64 * i, 31, 0⟩
abbrev F.LNK_PORT_RX (i : Nat) : Fld := ⟨0x091018 + 64 * i, 31, 0⟩
abbrev F.LNK_PORT_REPLAY_REPLAYS (i : Nat) : Fld := ⟨0x09101c + 64 * i, 15, 0⟩
abbrev F.LNK_PORT_REPLAY_GROUP_ERR (i : Nat) : Fld := ⟨0x09101c + 64 * i, 31, 16⟩
abbrev F.LNK_PORT_FRAME_ERR_ECRC_FAIL (i : Nat) : Fld := ⟨0x091020 + 64 * i, 7, 0⟩
abbrev F.LNK_PORT_FRAME_ERR_GCM_FAIL (i : Nat) : Fld := ⟨0x091020 + 64 * i, 15, 8⟩
abbrev F.LNK_PORT_FRAME_ERR_HCHK_FAIL (i : Nat) : Fld := ⟨0x091020 + 64 * i, 23, 16⟩
abbrev F.LNK_PORT_FRAME_ERR_BODY_FAIL (i : Nat) : Fld := ⟨0x091020 + 64 * i, 31, 24⟩
abbrev F.LNK_PORT_PREEMPT (i : Nat) : Fld := ⟨0x091024 + 64 * i, 31, 0⟩
abbrev F.LNK_PORT_CWAIT (i : Nat) : Fld := ⟨0x091028 + 64 * i, 31, 0⟩
abbrev F.LNK_PORT_MISC_PTP_OTHER (i : Nat) : Fld := ⟨0x09102c + 64 * i, 7, 0⟩
abbrev F.LNK_PORT_MISC_BAD_KIND (i : Nat) : Fld := ⟨0x09102c + 64 * i, 15, 8⟩
abbrev F.LNK_PORT_MISC_AGED (i : Nat) : Fld := ⟨0x09102c + 64 * i, 23, 16⟩
abbrev F.LNK_PORT_MISC_DOWN_COUNT (i : Nat) : Fld := ⟨0x09102c + 64 * i, 31, 24⟩
abbrev F.BRU_STATUS_PHASE : Fld := ⟨0x0a0000, 2, 0⟩
abbrev F.BRU_STATUS_HALT_CAUSE : Fld := ⟨0x0a0000, 7, 4⟩
abbrev F.BRU_STATUS_IMG_CAUSE : Fld := ⟨0x0a0000, 15, 8⟩
abbrev F.BRU_STATUS_TRIM_DEFAULT : Fld := ⟨0x0a0000, 16, 16⟩
abbrev F.BRU_STATUS_FROM_BCAST : Fld := ⟨0x0a0000, 17, 17⟩
abbrev F.BRU_STATUS_HOSTFW_DONE : Fld := ⟨0x0a0000, 18, 18⟩
abbrev F.BRU_STATUS_MO_REFUSED : Fld := ⟨0x0a0000, 19, 19⟩
abbrev F.BRU_CTRL_MARKET_OPEN : Fld := ⟨0x0a0004, 0, 0⟩
abbrev F.BRU_CTRL_WAVES_OFF : Fld := ⟨0x0a0004, 1, 1⟩
abbrev F.BRU_CTRL_WAVES_ON : Fld := ⟨0x0a0004, 2, 2⟩
abbrev F.BRU_CTRL_RETRY : Fld := ⟨0x0a0004, 3, 3⟩
abbrev F.BRU_CTRL_ALERT_EN : Fld := ⟨0x0a0004, 4, 4⟩
abbrev F.BRU_DEFECT_ENTRIES : Fld := ⟨0x0a0008, 10, 0⟩
abbrev F.BRU_DEFECT_ROW_MAX : Fld := ⟨0x0a0008, 19, 11⟩
abbrev F.BRU_DEFECT_ROW_OVER : Fld := ⟨0x0a0008, 20, 20⟩
abbrev F.BRU_DEFECT_LINKS_HIDDEN : Fld := ⟨0x0a0008, 27, 21⟩
abbrev F.BRU_DEFECT_IGNORED : Fld := ⟨0x0a0008, 31, 28⟩
abbrev F.BRU_BOOT_LO : Fld := ⟨0x0a000c, 31, 0⟩
abbrev F.BRU_BOOT_HI : Fld := ⟨0x0a0010, 31, 0⟩
abbrev F.BRU_BOOT_CFG_TRIES : Fld := ⟨0x0a0014, 1, 0⟩
abbrev F.BRU_BOOT_CFG_FALLBACK : Fld := ⟨0x0a0014, 2, 2⟩
abbrev F.BRU_BOOT_CFG_INBAND_EN : Fld := ⟨0x0a0014, 3, 3⟩
abbrev F.BRU_BOOT_CFG_HELD_MS : Fld := ⟨0x0a0014, 15, 4⟩
abbrev F.BRU_BOOT_CFG_BCAST_WAIT_MS : Fld := ⟨0x0a0014, 27, 16⟩
abbrev F.BRU_KAT_PASSED : Fld := ⟨0x0a0018, 9, 0⟩
abbrev F.BRU_KAT_FAILED : Fld := ⟨0x0a0018, 18, 10⟩
abbrev F.BRU_KAT_LAST_TILE : Fld := ⟨0x0a0018, 27, 19⟩
abbrev F.BRU_INRUSH_BUDGET : Fld := ⟨0x0a001c, 15, 0⟩
abbrev F.BRU_INRUSH_PEAK : Fld := ⟨0x0a001c, 31, 16⟩
abbrev F.BRU_WAVE_STAT_WAVE : Fld := ⟨0x0a0020, 3, 0⟩
abbrev F.BRU_WAVE_STAT_GATES_ON : Fld := ⟨0x0a0020, 10, 4⟩
abbrev F.BRU_WAVE_STAT_OVER : Fld := ⟨0x0a0020, 18, 11⟩
abbrev F.BRU_WAVE_STAT_TIMEOUTS : Fld := ⟨0x0a0020, 26, 19⟩
abbrev F.BRU_RESET_LAST_CAUSE : Fld := ⟨0x0a0024, 1, 0⟩
abbrev F.BRU_RESET_COUNT : Fld := ⟨0x0a0024, 17, 2⟩
abbrev F.BRU_RESET_HELD : Fld := ⟨0x0a0024, 18, 18⟩
abbrev F.BRU_INBAND_SEND : Fld := ⟨0x0a0028, 0, 0⟩
abbrev F.BRU_INBAND_BUSY : Fld := ⟨0x0a0028, 1, 1⟩
abbrev F.BRU_INBAND_DONE : Fld := ⟨0x0a0028, 2, 2⟩
abbrev F.BRU_INBAND_TGT_TARGET : Fld := ⟨0x0a002c, 19, 0⟩
abbrev F.BRU_INBAND_TGT_PORT : Fld := ⟨0x0a002c, 26, 20⟩
abbrev F.BRU_INBAND_STAT_ACCEPTED : Fld := ⟨0x0a0030, 7, 0⟩
abbrev F.BRU_INBAND_STAT_BAD_MAC : Fld := ⟨0x0a0030, 15, 8⟩
abbrev F.BRU_INBAND_STAT_STALE : Fld := ⟨0x0a0030, 23, 16⟩
abbrev F.BRU_INBAND_STAT_IGNORED : Fld := ⟨0x0a0030, 31, 24⟩
abbrev F.BRU_NONCE_LO : Fld := ⟨0x0a0034, 31, 0⟩
abbrev F.BRU_NONCE_HI : Fld := ⟨0x0a0038, 31, 0⟩
abbrev F.BRU_ANSWER_STAT_ABSENT : Fld := ⟨0x0a003c, 15, 0⟩
abbrev F.BRU_ANSWER_STAT_UPDATING : Fld := ⟨0x0a003c, 31, 16⟩
abbrev F.BRU_RETRY : Fld := ⟨0x0a0040, 31, 0⟩
abbrev F.BRU_CTR_CLR_CLR_KAT : Fld := ⟨0x0a0044, 0, 0⟩
abbrev F.BRU_CTR_CLR_CLR_WAVE : Fld := ⟨0x0a0044, 1, 1⟩
abbrev F.BRU_CTR_CLR_CLR_INBAND : Fld := ⟨0x0a0044, 2, 2⟩
abbrev F.BRU_CTR_CLR_CLR_ANSWER : Fld := ⟨0x0a0044, 3, 3⟩
abbrev F.BRU_KAT_REQ_TILE : Fld := ⟨0x0a0048, 8, 0⟩
abbrev F.BRU_KAT_REQ_RUN : Fld := ⟨0x0a0048, 9, 9⟩
abbrev F.BRU_KAT_REQ_BUSY : Fld := ⟨0x0a0048, 10, 10⟩
abbrev F.BRU_KAT_REQ_PASS : Fld := ⟨0x0a0048, 11, 11⟩
abbrev F.BRU_DLY_TRIM_FUSE_CODE (i : Nat) : Fld := ⟨0x0a0100 + 4 * i, 5, 0⟩
abbrev F.BRU_DLY_TRIM_ADD_CODE (i : Nat) : Fld := ⟨0x0a0100 + 4 * i, 11, 8⟩
abbrev F.BRU_DLY_TRIM_EFFECTIVE (i : Nat) : Fld := ⟨0x0a0100 + 4 * i, 21, 16⟩
abbrev F.BRU_WAVE_VALID (i : Nat) : Fld := ⟨0x0a0800 + 4 * i, 0, 0⟩
abbrev F.BRU_WAVE_OPTIONAL (i : Nat) : Fld := ⟨0x0a0800 + 4 * i, 1, 1⟩
abbrev F.BRU_WAVE (i : Nat) : Fld := ⟨0x0a0800 + 4 * i, 5, 2⟩
abbrev F.BRU_WAVE_INRUSH (i : Nat) : Fld := ⟨0x0a0800 + 4 * i, 17, 6⟩
abbrev F.BRU_WAVE_SETTLE_US (i : Nat) : Fld := ⟨0x0a0800 + 4 * i, 27, 18⟩
abbrev F.SEC_STATE_LIFECYCLE : Fld := ⟨0x0b0000, 2, 0⟩
abbrev F.SEC_STATE_DEBUG : Fld := ⟨0x0b0000, 4, 3⟩
abbrev F.SEC_STATE_POWER : Fld := ⟨0x0b0000, 6, 5⟩
abbrev F.SEC_STATE_ENDORSED : Fld := ⟨0x0b0000, 7, 7⟩
abbrev F.SEC_STATE_DKEY_VALID : Fld := ⟨0x0b0000, 8, 8⟩
abbrev F.SEC_STATE_DKEY_GEN : Fld := ⟨0x0b0000, 23, 16⟩
abbrev F.SEC_ALIAS_ID : Fld := ⟨0x0b0004, 31, 0⟩
abbrev F.SEC_SERIAL_LO : Fld := ⟨0x0b0008, 31, 0⟩
abbrev F.SEC_SERIAL_HI : Fld := ⟨0x0b000c, 31, 0⟩
abbrev F.SEC_FLOOR_GEN : Fld := ⟨0x0b0010, 15, 0⟩
abbrev F.SEC_FLOOR_FUSE_GEN : Fld := ⟨0x0b0010, 22, 16⟩
abbrev F.SEC_FLOOR_SET_GEN : Fld := ⟨0x0b0014, 15, 0⟩
abbrev F.SEC_DBG_LEVEL : Fld := ⟨0x0b0018, 1, 0⟩
abbrev F.SEC_DBG_TOKEN : Fld := ⟨0x0b0018, 2, 2⟩
abbrev F.SEC_DBG_SRC : Fld := ⟨0x0b0018, 3, 3⟩
abbrev F.SEC_DBG_BUSY : Fld := ⟨0x0b0018, 4, 4⟩
abbrev F.SEC_DBG_REFUSED : Fld := ⟨0x0b0018, 5, 5⟩
abbrev F.SEC_TOKEN_LO : Fld := ⟨0x0b001c, 31, 0⟩
abbrev F.SEC_TOKEN_HI : Fld := ⟨0x0b0020, 31, 0⟩
abbrev F.SEC_ATT_GO : Fld := ⟨0x0b0024, 0, 0⟩
abbrev F.SEC_ATT_BUSY : Fld := ⟨0x0b0024, 1, 1⟩
abbrev F.SEC_ATT_DONE : Fld := ⟨0x0b0024, 2, 2⟩
abbrev F.SEC_ATT_NONCE (i : Nat) : Fld := ⟨0x0b0028 + 4 * i, 31, 0⟩
abbrev F.SEC_CTRL_PRIV_FROM : Fld := ⟨0x0b0038, 2, 0⟩
abbrev F.SEC_CTRL_ALERT_EN : Fld := ⟨0x0b0038, 3, 3⟩
abbrev F.SEC_CTRL_LAG : Fld := ⟨0x0b0038, 7, 4⟩
abbrev F.SEC_CHAIN_STAT_GAP : Fld := ⟨0x0b003c, 7, 0⟩
abbrev F.SEC_CHAIN_STAT_HASH_FAIL : Fld := ⟨0x0b003c, 15, 8⟩
abbrev F.SEC_CHAIN_STAT_SIG_FAIL : Fld := ⟨0x0b003c, 23, 16⟩
abbrev F.SEC_CHAIN_STAT_LAG_EXCEEDED : Fld := ⟨0x0b003c, 31, 24⟩
abbrev F.SEC_LINK_STAT_ATT_FAIL : Fld := ⟨0x0b0040, 7, 0⟩
abbrev F.SEC_LINK_STAT_CLEAR_DROP : Fld := ⟨0x0b0040, 15, 8⟩
abbrev F.SEC_LINK_STAT_PRIV_STRIP : Fld := ⟨0x0b0040, 23, 16⟩
abbrev F.SEC_LINK_STAT_REPLAY : Fld := ⟨0x0b0040, 31, 24⟩
abbrev F.SEC_AUTH_STAT_IMAGE : Fld := ⟨0x0b0044, 7, 0⟩
abbrev F.SEC_AUTH_STAT_MODEL : Fld := ⟨0x0b0044, 15, 8⟩
abbrev F.SEC_AUTH_STAT_HOSTFW : Fld := ⟨0x0b0044, 23, 16⟩
abbrev F.SEC_AUTH_STAT_TOKEN : Fld := ⟨0x0b0044, 31, 24⟩
abbrev F.SEC_KEY_STAT_REKEYS : Fld := ⟨0x0b0048, 15, 0⟩
abbrev F.SEC_KEY_STAT_OPEN_PEERS : Fld := ⟨0x0b0048, 23, 16⟩
abbrev F.SEC_KEY_STAT_UNVERIFIED : Fld := ⟨0x0b0048, 31, 24⟩
abbrev F.SEC_CTR_CLR_CLR_CHAIN : Fld := ⟨0x0b004c, 0, 0⟩
abbrev F.SEC_CTR_CLR_CLR_LINK : Fld := ⟨0x0b004c, 1, 1⟩
abbrev F.SEC_CTR_CLR_CLR_AUTH : Fld := ⟨0x0b004c, 2, 2⟩
abbrev F.SEC_CTR_CLR_CLR_KEY : Fld := ⟨0x0b004c, 3, 3⟩
abbrev F.CON_CTRL_CKPT : Fld := ⟨0x0c0000, 0, 0⟩
abbrev F.CON_CTRL_RESTORE : Fld := ⟨0x0c0000, 1, 1⟩
abbrev F.CON_CTRL_ABORT : Fld := ⟨0x0c0000, 2, 2⟩
abbrev F.CON_CTRL_STEP_MODE : Fld := ⟨0x0c0000, 3, 3⟩
abbrev F.CON_CTRL_ALERT_EN : Fld := ⟨0x0c0000, 4, 4⟩
abbrev F.CON_CKPT_ADDR_LO : Fld := ⟨0x0c0004, 31, 0⟩
abbrev F.CON_CKPT_ADDR_HI : Fld := ⟨0x0c0008, 31, 0⟩
abbrev F.CON_CKPT_LEN_LEN_KIB : Fld := ⟨0x0c000c, 19, 0⟩
abbrev F.CON_CKPT_EPOCH_LO : Fld := ⟨0x0c0010, 31, 0⟩
abbrev F.CON_CKPT_EPOCH_HI_EPOCH : Fld := ⟨0x0c0014, 15, 0⟩
abbrev F.CON_CKPT_STAT_STATE : Fld := ⟨0x0c0018, 2, 0⟩
abbrev F.CON_CKPT_STAT_LAST_CAUSE : Fld := ⟨0x0c0018, 5, 3⟩
abbrev F.CON_CKPT_STAT_CKPTS : Fld := ⟨0x0c0018, 13, 6⟩
abbrev F.CON_CKPT_STAT_ABANDONS : Fld := ⟨0x0c0018, 21, 14⟩
abbrev F.CON_CKPT_STAT_HOLD_MAX_US : Fld := ⟨0x0c0018, 31, 22⟩
abbrev F.CON_RST_STAT_STATE : Fld := ⟨0x0c001c, 1, 0⟩
abbrev F.CON_RST_STAT_REJECT : Fld := ⟨0x0c001c, 4, 2⟩
abbrev F.CON_RST_STAT_SKIPPED : Fld := ⟨0x0c001c, 8, 5⟩
abbrev F.CON_RST_STAT_RESTORES : Fld := ⟨0x0c001c, 16, 9⟩
abbrev F.CON_FI_CTRL_ARM : Fld := ⟨0x0c0020, 0, 0⟩
abbrev F.CON_FI_CTRL_DISARM : Fld := ⟨0x0c0020, 1, 1⟩
abbrev F.CON_FI_CTRL_ARMED : Fld := ⟨0x0c0020, 2, 2⟩
abbrev F.CON_FI_CTRL_REFUSED : Fld := ⟨0x0c0020, 3, 3⟩
abbrev F.CON_FI_CTRL_NEXT : Fld := ⟨0x0c0020, 7, 4⟩
abbrev F.CON_FI_STAT_INJECTED : Fld := ⟨0x0c0024, 15, 0⟩
abbrev F.CON_FI_STAT_SKIPPED : Fld := ⟨0x0c0024, 23, 16⟩
abbrev F.CON_FI_STAT_OVER_BOUND : Fld := ⟨0x0c0024, 31, 24⟩
abbrev F.CON_KSK_STAT_READY : Fld := ⟨0x0c0028, 3, 0⟩
abbrev F.CON_KSK_STAT_START_US : Fld := ⟨0x0c0028, 13, 4⟩
abbrev F.CON_KSK_STAT_MISMATCHES : Fld := ⟨0x0c0028, 21, 14⟩
abbrev F.CON_FI_A (i : Nat) : Fld := ⟨0x0c0100 + 16 * i, 31, 0⟩
abbrev F.CON_FI_B_EPOCH_HI (i : Nat) : Fld := ⟨0x0c0104 + 16 * i, 15, 0⟩
abbrev F.CON_FI_B_CLASS (i : Nat) : Fld := ⟨0x0c0104 + 16 * i, 19, 16⟩
abbrev F.CON_FI_B_VALID (i : Nat) : Fld := ⟨0x0c0104 + 16 * i, 20, 20⟩
abbrev F.CON_FI_C_OFFSET_US (i : Nat) : Fld := ⟨0x0c0108 + 16 * i, 9, 0⟩
abbrev F.CON_FI_C_TARGET (i : Nat) : Fld := ⟨0x0c0108 + 16 * i, 18, 10⟩
abbrev F.CON_FI_D_DURATION_US (i : Nat) : Fld := ⟨0x0c010c + 16 * i, 15, 0⟩
abbrev F.KSK_H2K (i : Nat) : Fld := ⟨0x0d0000 + 4 * i, 31, 0⟩
abbrev F.KSK_K2H (i : Nat) : Fld := ⟨0x0d0020 + 4 * i, 31, 0⟩
abbrev F.KSK_MBOX_H2K_POST : Fld := ⟨0x0d0040, 0, 0⟩
abbrev F.KSK_MBOX_H2K_FULL : Fld := ⟨0x0d0040, 1, 1⟩
abbrev F.KSK_MBOX_H2K_TAKEN : Fld := ⟨0x0d0040, 2, 2⟩
abbrev F.KSK_MBOX_H2K_OVR : Fld := ⟨0x0d0040, 3, 3⟩
abbrev F.KSK_MBOX_K2H_POST : Fld := ⟨0x0d0040, 4, 4⟩
abbrev F.KSK_MBOX_K2H_FULL : Fld := ⟨0x0d0040, 5, 5⟩
abbrev F.CTR_VALUE_LO (i : Nat) : Fld := ⟨0x200000 + 16 * i, 31, 0⟩
abbrev F.CTR_VALUE_HI (i : Nat) : Fld := ⟨0x200004 + 16 * i, 31, 0⟩
abbrev F.CTR_TS (i : Nat) : Fld := ⟨0x200008 + 16 * i, 31, 0⟩
abbrev F.CTR_STAT_GEN (i : Nat) : Fld := ⟨0x20000c + 16 * i, 3, 0⟩
abbrev F.CTR_STAT_LAST_STATUS (i : Nat) : Fld := ⟨0x20000c + 16 * i, 7, 4⟩
abbrev F.CTR_STAT_FLAGS (i : Nat) : Fld := ⟨0x20000c + 16 * i, 15, 8⟩
abbrev F.MAP_A_EVENT (i : Nat) : Fld := ⟨0x400000 + 8 * i, 11, 0⟩
abbrev F.MAP_A_GEN (i : Nat) : Fld := ⟨0x400000 + 8 * i, 15, 12⟩
abbrev F.MAP_A_MODE (i : Nat) : Fld := ⟨0x400000 + 8 * i, 17, 16⟩
abbrev F.MAP_A_RATE (i : Nat) : Fld := ⟨0x400000 + 8 * i, 19, 18⟩
abbrev F.MAP_A_BRACKET (i : Nat) : Fld := ⟨0x400000 + 8 * i, 20, 20⟩
abbrev F.MAP_A_PRESENT (i : Nat) : Fld := ⟨0x400000 + 8 * i, 21, 21⟩
abbrev F.MAP_B_OWNER (i : Nat) : Fld := ⟨0x400004 + 8 * i, 11, 0⟩
abbrev F.MAP_B_SHARED (i : Nat) : Fld := ⟨0x400004 + 8 * i, 12, 12⟩
abbrev F.CAT_A_KIND (i : Nat) : Fld := ⟨0x500000 + 16 * i, 2, 0⟩
abbrev F.CAT_A_IN_FMT (i : Nat) : Fld := ⟨0x500000 + 16 * i, 5, 3⟩
abbrev F.CAT_A_FRAC (i : Nat) : Fld := ⟨0x500000 + 16 * i, 12, 6⟩
abbrev F.CAT_A_HIST (i : Nat) : Fld := ⟨0x500000 + 16 * i, 13, 13⟩
abbrev F.CAT_A_EXTREMES (i : Nat) : Fld := ⟨0x500000 + 16 * i, 14, 14⟩
abbrev F.CAT_A_OWNER (i : Nat) : Fld := ⟨0x500000 + 16 * i, 27, 16⟩
abbrev F.CAT_A_SHARED (i : Nat) : Fld := ⟨0x500000 + 16 * i, 28, 28⟩
abbrev F.CAT_A_PROFILE (i : Nat) : Fld := ⟨0x500000 + 16 * i, 31, 29⟩
abbrev F.CAT_B_WIN_LO (i : Nat) : Fld := ⟨0x500004 + 16 * i, 5, 0⟩
abbrev F.CAT_B_WIN_HI (i : Nat) : Fld := ⟨0x500004 + 16 * i, 11, 6⟩
abbrev F.CAT_B_SELECT (i : Nat) : Fld := ⟨0x500004 + 16 * i, 23, 12⟩
abbrev F.CAT_C_STRAG (i : Nat) : Fld := ⟨0x500008 + 16 * i, 0, 0⟩
abbrev F.CAT_C_SIDE (i : Nat) : Fld := ⟨0x500008 + 16 * i, 2, 1⟩
abbrev F.CAT_C_REF (i : Nat) : Fld := ⟨0x500008 + 16 * i, 3, 3⟩
abbrev F.CAT_C_THRESH (i : Nat) : Fld := ⟨0x500008 + 16 * i, 15, 4⟩
abbrev F.CAT_C_WINDOW (i : Nat) : Fld := ⟨0x500008 + 16 * i, 19, 16⟩
abbrev F.CAT_C_NEED (i : Nat) : Fld := ⟨0x500008 + 16 * i, 23, 20⟩
abbrev F.CAT_C_DRIFT (i : Nat) : Fld := ⟨0x500008 + 16 * i, 25, 24⟩
abbrev F.CAT_C_TOPK (i : Nat) : Fld := ⟨0x500008 + 16 * i, 31, 27⟩
abbrev F.CAT_D_PARAM_A (i : Nat) : Fld := ⟨0x50000c + 16 * i, 15, 0⟩
abbrev F.CAT_D_PARAM_B (i : Nat) : Fld := ⟨0x50000c + 16 * i, 31, 16⟩
abbrev F.CHILD_A_PORT_A (i : Nat) : Fld := ⟨0x530000 + 16 * i, 6, 0⟩
abbrev F.CHILD_A_PORT_B (i : Nat) : Fld := ⟨0x530000 + 16 * i, 14, 8⟩
abbrev F.CHILD_A_TYPE (i : Nat) : Fld := ⟨0x530000 + 16 * i, 17, 16⟩
abbrev F.CHILD_A_EXCLUDED (i : Nat) : Fld := ⟨0x530000 + 16 * i, 18, 18⟩
abbrev F.CHILD_B_CHILD_ID (i : Nat) : Fld := ⟨0x530004 + 16 * i, 19, 0⟩
abbrev F.CHILD_C_EXPECTED (i : Nat) : Fld := ⟨0x530008 + 16 * i, 19, 0⟩
abbrev F.CHILD_C_SLOT_BASE (i : Nat) : Fld := ⟨0x530008 + 16 * i, 28, 20⟩
abbrev F.CHILD_D_STATE (i : Nat) : Fld := ⟨0x53000c + 16 * i, 1, 0⟩
abbrev F.CHILD_D_LATE_COUNT (i : Nat) : Fld := ⟨0x53000c + 16 * i, 31, 16⟩
abbrev F.SLOT_CFG_STATE (i : Nat) : Fld := ⟨0x550000 + 32 * i, 2, 0⟩
abbrev F.SLOT_CFG_ROW_KIND (i : Nat) : Fld := ⟨0x550000 + 32 * i, 4, 3⟩
abbrev F.SLOT_CFG_ENGINE (i : Nat) : Fld := ⟨0x550000 + 32 * i, 5, 5⟩
abbrev F.SLOT_CFG_OWNER (i : Nat) : Fld := ⟨0x550000 + 32 * i, 19, 8⟩
abbrev F.SLOT_CFG_K_MINUS_1 (i : Nat) : Fld := ⟨0x550000 + 32 * i, 23, 20⟩
abbrev F.SLOT_ID (i : Nat) : Fld := ⟨0x550004 + 32 * i, 31, 0⟩
abbrev F.SLOT_VER (i : Nat) : Fld := ⟨0x550008 + 32 * i, 31, 0⟩
abbrev F.SLOT_OTHER (i : Nat) : Fld := ⟨0x55000c + 32 * i, 31, 0⟩
abbrev F.SLOT_KIB_STORE_KIB (i : Nat) : Fld := ⟨0x550010 + 32 * i, 15, 0⟩
abbrev F.SLOT_KIB_OTHER_KIB (i : Nat) : Fld := ⟨0x550010 + 32 * i, 31, 16⟩
abbrev F.SLOT_SCORE_LAST_10NS (i : Nat) : Fld := ⟨0x550014 + 32 * i, 15, 0⟩
abbrev F.SLOT_SCORE_OVERRUNS (i : Nat) : Fld := ⟨0x550014 + 32 * i, 23, 16⟩
abbrev F.SLOT_ALARMS (i : Nat) : Fld := ⟨0x550018 + 32 * i, 31, 0⟩
abbrev F.DRIFT_CFG_TYPE (i : Nat) : Fld := ⟨0x560000 + 32 * i, 1, 0⟩
abbrev F.DRIFT_CFG_SIDE (i : Nat) : Fld := ⟨0x560000 + 32 * i, 3, 2⟩
abbrev F.DRIFT_CFG_PER_EPOCH (i : Nat) : Fld := ⟨0x560000 + 32 * i, 4, 4⟩
abbrev F.DRIFT_CFG_SRC_KIND (i : Nat) : Fld := ⟨0x560000 + 32 * i, 5, 5⟩
abbrev F.DRIFT_CFG_SRC (i : Nat) : Fld := ⟨0x560000 + 32 * i, 16, 6⟩
abbrev F.DRIFT_CFG_MODEL (i : Nat) : Fld := ⟨0x560000 + 32 * i, 24, 17⟩
abbrev F.DRIFT_PARAM_PARAM_A (i : Nat) : Fld := ⟨0x560004 + 32 * i, 15, 0⟩
abbrev F.DRIFT_PARAM_PARAM_B (i : Nat) : Fld := ⟨0x560004 + 32 * i, 31, 16⟩
abbrev F.DRIFT_S (i : Nat) : Fld := ⟨0x560008 + 32 * i, 31, 0⟩
abbrev F.DRIFT_M (i : Nat) : Fld := ⟨0x56000c + 32 * i, 31, 0⟩
abbrev F.DRIFT_CTL_DRIFTING (i : Nat) : Fld := ⟨0x560010 + 32 * i, 0, 0⟩
abbrev F.DRIFT_CTL_RESET (i : Nat) : Fld := ⟨0x560010 + 32 * i, 1, 1⟩
abbrev F.DRIFT_MU (i : Nat) : Fld := ⟨0x560014 + 32 * i, 31, 0⟩
abbrev F.DRIFT_INV (i : Nat) : Fld := ⟨0x560018 + 32 * i, 31, 0⟩
abbrev F.QUOTA_MAX_SLOTS (i : Nat) : Fld := ⟨0x570000 + 4 * i, 7, 0⟩
abbrev F.QUOTA_MAX_KIB (i : Nat) : Fld := ⟨0x570000 + 4 * i, 23, 8⟩
abbrev F.HTILE_STATE (i : Nat) : Fld := ⟨0x590000 + 16 * i, 1, 0⟩
abbrev F.HTILE_STATE_SCORE (i : Nat) : Fld := ⟨0x590000 + 16 * i, 15, 8⟩
abbrev F.HTILE_DUP_DUP_MISMATCH (i : Nat) : Fld := ⟨0x590004 + 16 * i, 15, 0⟩
abbrev F.HTILE_DUP_MISSED (i : Nat) : Fld := ⟨0x590004 + 16 * i, 31, 16⟩
abbrev F.HTILE_POISON (i : Nat) : Fld := ⟨0x590008 + 16 * i, 15, 0⟩
abbrev F.HTILE_POISON_CHECK_FAIL (i : Nat) : Fld := ⟨0x590008 + 16 * i, 31, 16⟩
abbrev F.HTILE_NAN_NAN_REPORTS (i : Nat) : Fld := ⟨0x59000c + 16 * i, 15, 0⟩
abbrev F.HTILE_NAN_FT_PASS (i : Nat) : Fld := ⟨0x59000c + 16 * i, 23, 16⟩
abbrev F.HTILE_NAN_FT_FAIL (i : Nat) : Fld := ⟨0x59000c + 16 * i, 31, 24⟩
abbrev F.GRANT_TALLY (i : Nat) : Fld := ⟨0x5c0000 + 4 * i, 0, 0⟩
abbrev F.GRANT_SCALES (i : Nat) : Fld := ⟨0x5c0000 + 4 * i, 1, 1⟩
abbrev F.GRANT_CONTROL (i : Nat) : Fld := ⟨0x5c0000 + 4 * i, 2, 2⟩

end Sys2Proof.Machine
end

