-- ==== Sys2Proof/Machine/RegTable.lean ====
section
/-! DEFINITION. The register map of spec/18 (R479, R480): every register and writable window with its base address, its
count and stride, and for each field its access code (R6) and its Reset entry (R7), as the field tables give them. -/

namespace Sys2Proof.Machine

def regRows0 : List RegRow := [
  ⟨"BLK_IDENT", 0x000000, 1, 4, [⟨F.BLK_IDENT_BLOCK_CODE, .ro, .val 0x7a51⟩, ⟨F.BLK_IDENT_VENDOR_CODE, .ro, .val 0xb40⟩]⟩,
  ⟨"BLK_VERSION", 0x000004, 1, 4, [⟨F.BLK_VERSION_MAJOR, .ro, .val 3⟩, ⟨F.BLK_VERSION_MINOR, .ro, .val 1⟩]⟩,
  ⟨"BLK_BUILD", 0x000008, 1, 4, [⟨F.BLK_BUILD_LANES, .ro, .build⟩, ⟨F.BLK_BUILD_LINK_PORTS, .ro, .build⟩, ⟨F.BLK_BUILD_KIOSK_CORES, .ro, .build⟩]⟩,
  ⟨"BLK_ROLE", 0x00000c, 1, 4, [⟨F.BLK_ROLE, .ro, .val 0⟩, ⟨F.BLK_ROLE_PIPELINES, .ro, .val 0⟩]⟩,
  ⟨"BLK_STATE", 0x000010, 1, 4, [⟨F.BLK_STATE, .ro, .val 0⟩, ⟨F.BLK_STATE_PEND_TARGET, .ro, .val 0⟩, ⟨F.BLK_STATE_PEND_VALID, .ro, .val 0⟩, ⟨F.BLK_STATE_REQ_REFUSED, .rw1c, .val 0⟩, ⟨F.BLK_STATE_REQ_CANCELLED, .rw1c, .val 0⟩, ⟨F.BLK_STATE_ENTRY_CAUSE, .ro, .val 0⟩, ⟨F.BLK_STATE_REFUSALS, .ro, .val 0⟩]⟩,
  ⟨"BLK_STATE_REQ", 0x000014, 1, 4, [⟨F.BLK_STATE_REQ_TARGET, .wo, .val 0⟩]⟩,
  ⟨"BLK_TILES0", 0x000018, 1, 4, [⟨F.BLK_TILES0_LANES, .ro, .fuse⟩, ⟨F.BLK_TILES0_TREE_TILES, .ro, .fuse⟩, ⟨F.BLK_TILES0_MAC_TILES, .ro, .fuse⟩, ⟨F.BLK_TILES0_LINK_TILES, .ro, .fuse⟩]⟩,
  ⟨"BLK_TILES1", 0x00001c, 1, 4, [⟨F.BLK_TILES1_TALLY_TILES, .ro, .fuse⟩, ⟨F.BLK_TILES1_CODEC_TILES, .ro, .fuse⟩, ⟨F.BLK_TILES1_KIOSK_PAIRS, .ro, .fuse⟩]⟩,
  ⟨"BLK_DENY", 0x000020, 1, 4, [⟨F.BLK_DENY_COUNT, .ro, .val 0⟩, ⟨F.BLK_DENY_LAST_CAUSE, .ro, .val 0⟩, ⟨F.BLK_DENY_LAST_STALL, .ro, .val 0⟩]⟩,
  ⟨"BLK_CTR_CLR", 0x000024, 1, 4, [⟨F.BLK_CTR_CLR_CLR_DENY, .wo, .val 0⟩, ⟨F.BLK_CTR_CLR_CLR_LANE_WAIT, .wo, .val 0⟩, ⟨F.BLK_CTR_CLR_CLR_STATE, .wo, .val 0⟩, ⟨F.BLK_CTR_CLR_CLR_TILE_FAULT, .wo, .val 0⟩]⟩,
  ⟨"BLK_TILE_FAULT", 0x000028, 1, 4, [⟨F.BLK_TILE_FAULT_COUNT, .ro, .val 0⟩, ⟨F.BLK_TILE_FAULT_LAST_TILE, .ro, .val 0⟩]⟩,
  ⟨"BLK_REGERR", 0x00002c, 1, 4, [⟨F.BLK_REGERR_COUNT, .ro, .val 0⟩, ⟨F.BLK_REGERR_LAST_CAUSE, .ro, .val 0⟩]⟩,
  ⟨"BLK_SPEED", 0x000030, 1, 4, [⟨F.BLK_SPEED_RATE, .ro, .val 0⟩, ⟨F.BLK_SPEED_MIN_RATE, .ro, .val 0xfff⟩, ⟨F.BLK_SPEED_BELOW, .rw1c, .val 0⟩]⟩,
  ⟨"BLK_SPEED_FLOOR", 0x000034, 1, 4, [⟨F.BLK_SPEED_FLOOR, .rw, .val 0⟩, ⟨F.BLK_SPEED_FLOOR_ALERT_EN, .rw, .val 0⟩]⟩,
  ⟨"BLK_PORT_FAULT", 0x000038, 1, 4, [⟨F.BLK_PORT_FAULT_STALLED, .ro, .val 0⟩, ⟨F.BLK_PORT_FAULT_PROTO, .rw1c, .val 0⟩]⟩,
  ⟨"BLK_PORT_TIMEOUT", 0x00003c, 1, 4, [⟨F.BLK_PORT_TIMEOUT_TIMEOUT_US, .rw, .val 0x64⟩]⟩,
  ⟨"BLK_PORT_CLR", 0x000040, 1, 4, [⟨F.BLK_PORT_CLR_CLR_REGERR, .wo, .val 0⟩, ⟨F.BLK_PORT_CLR_CLR_MIN_RATE, .wo, .val 0⟩]⟩,
  ⟨"BLK_ALERT", 0x000044, 1, 4, [⟨F.BLK_ALERT_PENDING, .rw1c, .val 0⟩]⟩,
  ⟨"BLK_ALERT_EN", 0x000048, 1, 4, [⟨F.BLK_ALERT_EN, .rw, .val 0x3fff⟩]⟩,
  ⟨"BLK_WATCHDOG", 0x00004c, 1, 4, [⟨F.BLK_WATCHDOG_WATCHDOG_US, .rw, .image⟩]⟩,
  ⟨"BLK_IMG_CTRL", 0x000050, 1, 4, [⟨F.BLK_IMG_CTRL_OP, .wo, .val 0⟩, ⟨F.BLK_IMG_CTRL_SRC, .rw, .val 0⟩, ⟨F.BLK_IMG_CTRL_ALERT_EN, .rw, .val 0⟩]⟩,
  ⟨"BLK_IMG_SRC_LO", 0x000054, 1, 4, [⟨F.BLK_IMG_SRC_LO, .rw, .val 0⟩]⟩,
  ⟨"BLK_IMG_SRC_HI", 0x000058, 1, 4, [⟨F.BLK_IMG_SRC_HI, .rw, .val 0⟩]⟩,
  ⟨"BLK_IMG_LEN", 0x00005c, 1, 4, [⟨F.BLK_IMG_LEN_LENGTH, .rw, .val 0⟩]⟩,
  ⟨"BLK_IMG_EPOCH_LO", 0x000060, 1, 4, [⟨F.BLK_IMG_EPOCH_LO, .rw, .val 0⟩]⟩,
  ⟨"BLK_IMG_EPOCH_HI", 0x000064, 1, 4, [⟨F.BLK_IMG_EPOCH_HI_EPOCH, .rw, .val 0⟩]⟩,
  ⟨"BLK_IMG_STAT", 0x000068, 1, 4, [⟨F.BLK_IMG_STAT_STATE, .ro, .val 0⟩, ⟨F.BLK_IMG_STAT_LAST_REJECT, .ro, .val 0⟩, ⟨F.BLK_IMG_STAT_REJECTS, .ro, .val 0⟩, ⟨F.BLK_IMG_STAT_DONE, .rw1c, .val 0⟩, ⟨F.BLK_IMG_STAT_REJECTED, .rw1c, .val 0⟩, ⟨F.BLK_IMG_STAT_CANCELLED, .rw1c, .val 0⟩, ⟨F.BLK_IMG_STAT_FAILED, .rw1c, .val 0⟩, ⟨F.BLK_IMG_STAT_SWITCHES, .ro, .val 0⟩]⟩,
  ⟨"BLK_IMG_ID", 0x00006c, 1, 4, [⟨F.BLK_IMG_ID, .ro, .image⟩]⟩,
  ⟨"BLK_IMG_VER", 0x000070, 1, 4, [⟨F.BLK_IMG_VER, .ro, .image⟩]⟩,
  ⟨"BLK_IMG_INFO", 0x000074, 1, 4, [⟨F.BLK_IMG_INFO_MIN_MV, .ro, .image⟩, ⟨F.BLK_IMG_INFO_FROM_SWITCH, .ro, .val 0⟩]⟩,
  ⟨"BLK_PROFILE", 0x000078, 1, 4, [⟨F.BLK_PROFILE_TALLY, .ro, .image⟩, ⟨F.BLK_PROFILE_REDUCTION, .ro, .image⟩, ⟨F.BLK_PROFILE_TRACE, .ro, .image⟩, ⟨F.BLK_PROFILE_SERVICES, .ro, .image⟩, ⟨F.BLK_PROFILE_TIME, .ro, .image⟩, ⟨F.BLK_PROFILE_LINKS, .ro, .image⟩, ⟨F.BLK_PROFILE_EXPERT_WRITE, .rw1c, .val 0⟩]⟩,
  ⟨"BLK_POWER_REQ", 0x000080, 1, 4, [⟨F.BLK_POWER_REQ_TARGET, .wo, .val 0⟩]⟩,
  ⟨"BLK_POWER", 0x000084, 1, 4, [⟨F.BLK_POWER_STATE, .ro, .val 0⟩, ⟨F.BLK_POWER_PEND_VALID, .ro, .val 0⟩, ⟨F.BLK_POWER_PEND_TARGET, .ro, .val 0⟩, ⟨F.BLK_POWER_REFUSED, .rw1c, .val 0⟩, ⟨F.BLK_POWER_QUIET_ENTRIES, .ro, .kept⟩, ⟨F.BLK_POWER_HOLD_ENTRIES, .ro, .kept⟩, ⟨F.BLK_POWER_REFUSALS, .ro, .kept⟩]⟩,
  ⟨"BLK_LANE_WAIT", 0x000100, 128, 4, [⟨F.BLK_LANE_WAIT 0, .ro, .val 0⟩]⟩,
  ⟨"BLK_LANE_LOAD", 0x000300, 128, 4, [⟨F.BLK_LANE_LOAD_ROUTES 0, .ro, .image⟩, ⟨F.BLK_LANE_LOAD_LOAD_PERMILLE 0, .ro, .image⟩]⟩,
  ⟨"TIM_NOW_FRAC", 0x010000, 1, 4, [⟨F.TIM_NOW_FRAC, .ro, .kept⟩]⟩,
  ⟨"TIM_NOW_LO", 0x010004, 1, 4, [⟨F.TIM_NOW_LO, .ro, .kept⟩]⟩,
  ⟨"TIM_NOW_HI", 0x010008, 1, 4, [⟨F.TIM_NOW_HI, .ro, .kept⟩]⟩,
  ⟨"TIM_STATUS", 0x01000c, 1, 4, [⟨F.TIM_STATUS_SERVO, .ro, .kept⟩, ⟨F.TIM_STATUS_TBREF_LOST, .ro, .kept⟩, ⟨F.TIM_STATUS_JUMP_PERSIST, .rw1c, .kept⟩, ⟨F.TIM_STATUS_ACTING_GM, .ro, .kept⟩, ⟨F.TIM_STATUS_GM_RANK, .ro, .kept⟩, ⟨F.TIM_STATUS_UP_PORT, .ro, .kept⟩, ⟨F.TIM_STATUS_ASYM_MISSING, .ro, .val 0⟩, ⟨F.TIM_STATUS_CADENCE_ADOPTED, .ro, .kept⟩, ⟨F.TIM_STATUS_CADENCE_LATE, .rw1c, .val 0⟩, ⟨F.TIM_STATUS_PERIOD_BAD, .rw1c, .val 0⟩]⟩,
  ⟨"TIM_CTRL", 0x010010, 1, 4, [⟨F.TIM_CTRL_SYNC_MODE, .rw, .image⟩, ⟨F.TIM_CTRL_CADENCE_SRC, .ro, .image⟩, ⟨F.TIM_CTRL_RELOCK, .wo, .val 0⟩, ⟨F.TIM_CTRL_GM_RESUME, .wo, .val 0⟩, ⟨F.TIM_CTRL_ALERT_EN, .rw, .val 1⟩]⟩]

def regRows1 : List RegRow := [
  ⟨"TIM_RATE", 0x010014, 1, 4, [⟨F.TIM_RATE_RATE_PPT, .ro, .kept⟩]⟩,
  ⟨"TIM_OFFSET", 0x010018, 1, 4, [⟨F.TIM_OFFSET, .ro, .kept⟩]⟩,
  ⟨"TIM_JUMP_LIMIT", 0x01001c, 1, 4, [⟨F.TIM_JUMP_LIMIT_LIMIT_NS, .rw, .val 0x1f4⟩, ⟨F.TIM_JUMP_LIMIT_PERSIST, .rw, .val 8⟩]⟩,
  ⟨"TIM_JUMP", 0x010020, 1, 4, [⟨F.TIM_JUMP_REFUSED, .ro, .val 0⟩, ⟨F.TIM_JUMP_LAST_US, .ro, .val 0⟩]⟩,
  ⟨"TIM_SYNC_CFG", 0x010024, 1, 4, [⟨F.TIM_SYNC_CFG_LOG_SYNC, .rw, .val 6⟩, ⟨F.TIM_SYNC_CFG_LOG_PDELAY, .rw, .val 0xa⟩, ⟨F.TIM_SYNC_CFG_LOSS_COUNT, .rw, .val 8⟩, ⟨F.TIM_SYNC_CFG_TAU, .rw, .val 4⟩, ⟨F.TIM_SYNC_CFG_GM_LOSS_US, .rw, .val 0x7d0⟩]⟩,
  ⟨"TIM_GM", 0x010028, 1, 4, [⟨F.TIM_GM_RANK, .ro, .image⟩]⟩,
  ⟨"TIM_UPSTREAM", 0x01002c, 1, 4, [⟨F.TIM_UPSTREAM_PORT0, .ro, .image⟩, ⟨F.TIM_UPSTREAM_PORT1, .ro, .image⟩, ⟨F.TIM_UPSTREAM_PORT2, .ro, .image⟩, ⟨F.TIM_UPSTREAM_PORT3, .ro, .image⟩]⟩,
  ⟨"TIM_STEPS", 0x010030, 1, 4, [⟨F.TIM_STEPS, .ros, .kept⟩]⟩,
  ⟨"TIM_ADJ", 0x010034, 1, 4, [⟨F.TIM_ADJ, .wo, .val 0⟩]⟩,
  ⟨"TIM_EPOCH_PERIOD", 0x010040, 1, 4, [⟨F.TIM_EPOCH_PERIOD_PERIOD_US, .rw, .val 0x3e8⟩]⟩,
  ⟨"TIM_EPOCH_LO", 0x010044, 1, 4, [⟨F.TIM_EPOCH_LO, .ro, .kept⟩]⟩,
  ⟨"TIM_EPOCH_HI", 0x010048, 1, 4, [⟨F.TIM_EPOCH_HI, .ro, .kept⟩]⟩,
  ⟨"TIM_OPEN_LO", 0x01004c, 1, 4, [⟨F.TIM_OPEN_LO, .ro, .kept⟩]⟩,
  ⟨"TIM_OPEN_HI", 0x010050, 1, 4, [⟨F.TIM_OPEN_HI, .ro, .kept⟩]⟩,
  ⟨"TIM_NEXT_LO", 0x010054, 1, 4, [⟨F.TIM_NEXT_LO, .ro, .kept⟩]⟩,
  ⟨"TIM_NEXT_HI", 0x010058, 1, 4, [⟨F.TIM_NEXT_HI, .ro, .kept⟩]⟩,
  ⟨"TIM_SEAL_LAG", 0x01005c, 1, 4, [⟨F.TIM_SEAL_LAG_LAG_US, .rw, .image⟩]⟩,
  ⟨"TIM_SYNC_STAT", 0x010060, 1, 4, [⟨F.TIM_SYNC_STAT_ACCEPTED, .ro, .val 0⟩, ⟨F.TIM_SYNC_STAT_OUTSIDE, .ro, .val 0⟩, ⟨F.TIM_SYNC_STAT_EXTRA, .ro, .val 0⟩, ⟨F.TIM_SYNC_STAT_LATE_ANN, .ro, .val 0⟩]⟩,
  ⟨"TIM_SYNC_LAST_LO", 0x010064, 1, 4, [⟨F.TIM_SYNC_LAST_LO, .ro, .val 0⟩]⟩,
  ⟨"TIM_SYNC_LAST_HI", 0x010068, 1, 4, [⟨F.TIM_SYNC_LAST_HI, .ro, .val 0⟩]⟩,
  ⟨"TIM_CTR_CLR", 0x01006c, 1, 4, [⟨F.TIM_CTR_CLR_CLR_JUMP, .wo, .val 0⟩, ⟨F.TIM_CTR_CLR_CLR_SYNC, .wo, .val 0⟩]⟩,
  ⟨"TIM_ASYM_LAT", 0x011000, 96, 16, [⟨F.TIM_ASYM_LAT_TX_LAT 0, .rw, .val 0⟩, ⟨F.TIM_ASYM_LAT_RX_LAT 0, .rw, .val 0⟩]⟩,
  ⟨"TIM_ASYM", 0x011004, 96, 16, [⟨F.TIM_ASYM 0, .rw, .val 0⟩]⟩,
  ⟨"TIM_ASYM_EXT", 0x011008, 96, 16, [⟨F.TIM_ASYM_EXT_EXT_DELAY 0, .rw, .val 0⟩, ⟨F.TIM_ASYM_EXT_EXT_MODE 0, .rw, .val 0⟩, ⟨F.TIM_ASYM_EXT_VALID 0, .rw, .val 0⟩]⟩,
  ⟨"TIM_ASYM_DELAY", 0x01100c, 96, 16, [⟨F.TIM_ASYM_DELAY_MEAN_DELAY 0, .ro, .val 0⟩]⟩,
  ⟨"TIM_PULSE_START_LO", 0x012000, 8, 32, [⟨F.TIM_PULSE_START_LO 0, .rw, .val 0⟩]⟩,
  ⟨"TIM_PULSE_START_HI", 0x012004, 8, 32, [⟨F.TIM_PULSE_START_HI 0, .rw, .val 0⟩]⟩,
  ⟨"TIM_PULSE_PERIOD", 0x012008, 8, 32, [⟨F.TIM_PULSE_PERIOD 0, .rw, .val 0⟩]⟩,
  ⟨"TIM_PULSE_WIDTH", 0x01200c, 8, 32, [⟨F.TIM_PULSE_WIDTH 0, .rw, .val 0⟩]⟩,
  ⟨"TIM_PULSE_COUNT", 0x012010, 8, 32, [⟨F.TIM_PULSE_COUNT 0, .rw, .val 0⟩]⟩,
  ⟨"TIM_PULSE_CTRL", 0x012014, 8, 32, [⟨F.TIM_PULSE_CTRL_ARM 0, .rw, .val 0⟩, ⟨F.TIM_PULSE_CTRL_POLARITY 0, .rw, .val 0⟩, ⟨F.TIM_PULSE_CTRL_EPOCH_MODE 0, .rw, .val 0⟩, ⟨F.TIM_PULSE_CTRL_LATE 0, .rw1c, .val 0⟩, ⟨F.TIM_PULSE_CTRL_DONE 0, .ro, .val 0⟩, ⟨F.TIM_PULSE_CTRL_BADCFG 0, .rw1c, .val 0⟩]⟩,
  ⟨"TAL_CTRL", 0x020000, 1, 4, [⟨F.TAL_CTRL_SWEEP_EN, .rw, .image⟩, ⟨F.TAL_CTRL_BRACKET_EN, .rw, .image⟩, ⟨F.TAL_CTRL_RA_EN, .rw, .image⟩, ⟨F.TAL_CTRL_SAMPLE_EN, .rw, .image⟩, ⟨F.TAL_CTRL_ALERT_EN, .rw, .val 1⟩]⟩,
  ⟨"TAL_MAP", 0x020004, 1, 4, [⟨F.TAL_MAP_COUNTERS, .ro, .image⟩, ⟨F.TAL_MAP_BRACKETS, .ro, .image⟩]⟩,
  ⟨"TAL_SWEEP", 0x020008, 1, 4, [⟨F.TAL_SWEEP_PASS_US, .ro, .val 0⟩, ⟨F.TAL_SWEEP_PASSES, .ro, .val 0⟩]⟩,
  ⟨"TAL_LIMITS", 0x02000c, 1, 4, [⟨F.TAL_LIMITS_STALE_US, .rw, .val 0x7d0⟩, ⟨F.TAL_LIMITS_EXTRAP_MAX_US, .rw, .val 0x3e8⟩]⟩,
  ⟨"TAL_METHOD", 0x020010, 4, 4, [⟨F.TAL_METHOD_COUNT 0, .ro, .val 0⟩]⟩,
  ⟨"TAL_SKEW", 0x020020, 1, 4, [⟨F.TAL_SKEW_MAX, .ro, .val 0⟩, ⟨F.TAL_SKEW_MEAN, .ro, .val 0⟩]⟩,
  ⟨"TAL_EXT_STAT", 0x020024, 1, 4, [⟨F.TAL_EXT_STAT_WRAPS, .ro, .val 0⟩, ⟨F.TAL_EXT_STAT_MULTI, .ro, .val 0⟩, ⟨F.TAL_EXT_STAT_BACKSTEP, .ro, .val 0⟩]⟩,
  ⟨"TAL_GEN_STAT", 0x020028, 1, 4, [⟨F.TAL_GEN_STAT_MISMATCH, .ro, .val 0⟩, ⟨F.TAL_GEN_STAT_STUCK, .ro, .val 0⟩]⟩,
  ⟨"TAL_GEN_LAST", 0x02002c, 1, 4, [⟨F.TAL_GEN_LAST_STATION, .ro, .val 0⟩, ⟨F.TAL_GEN_LAST_COUNTER, .ro, .val 0⟩]⟩]

def regRows2 : List RegRow := [
  ⟨"TAL_STN_STAT", 0x020030, 1, 4, [⟨F.TAL_STN_STAT_FAULT, .ro, .val 0⟩, ⟨F.TAL_STN_STAT_NOT_COUNTING, .ro, .val 0⟩, ⟨F.TAL_STN_STAT_STALE_EPOCHS, .ro, .val 0⟩]⟩,
  ⟨"TAL_RA_CFG", 0x020040, 1, 4, [⟨F.TAL_RA_CFG_TIMEOUT, .rw, .val 6⟩]⟩,
  ⟨"TAL_RA_POSTED", 0x020044, 1, 4, [⟨F.TAL_RA_POSTED, .ro, .val 0⟩]⟩,
  ⟨"TAL_RA_COMMITTED", 0x020048, 1, 4, [⟨F.TAL_RA_COMMITTED, .ro, .val 0⟩]⟩,
  ⟨"TAL_RA_CANCELLED", 0x02004c, 1, 4, [⟨F.TAL_RA_CANCELLED, .ro, .val 0⟩]⟩,
  ⟨"TAL_RA_RETRACTED", 0x020050, 1, 4, [⟨F.TAL_RA_RETRACTED, .ro, .val 0⟩]⟩,
  ⟨"TAL_RA_EXPIRED", 0x020054, 1, 4, [⟨F.TAL_RA_EXPIRED, .ro, .val 0⟩]⟩,
  ⟨"TAL_RA_REFUSED", 0x020058, 1, 4, [⟨F.TAL_RA_REFUSED_FULL, .ro, .val 0⟩, ⟨F.TAL_RA_REFUSED_ENTRIES, .ro, .val 0⟩, ⟨F.TAL_RA_REFUSED_BADTARGET, .ro, .val 0⟩, ⟨F.TAL_RA_REFUSED_UNKNOWN, .ro, .val 0⟩]⟩,
  ⟨"TAL_RA_OPEN", 0x02005c, 1, 4, [⟨F.TAL_RA_OPEN_TICKETS, .ro, .val 0⟩, ⟨F.TAL_RA_OPEN_ENTRIES, .ro, .val 0⟩]⟩,
  ⟨"TAL_RA_LOST", 0x020060, 1, 4, [⟨F.TAL_RA_LOST_DISCARDED, .ros, .kept⟩]⟩,
  ⟨"TAL_SAMPLE_CFG", 0x020064, 1, 4, [⟨F.TAL_SAMPLE_CFG_MAX_PER_EPOCH, .rw, .val 0x1000⟩]⟩,
  ⟨"TAL_SAMPLE_STAT", 0x020068, 1, 4, [⟨F.TAL_SAMPLE_STAT_ACCEPTED, .ro, .val 0⟩, ⟨F.TAL_SAMPLE_STAT_DROPPED, .ro, .val 0⟩]⟩,
  ⟨"TAL_CTR_CLR", 0x020070, 1, 4, [⟨F.TAL_CTR_CLR_CLR_EXT, .wo, .val 0⟩, ⟨F.TAL_CTR_CLR_CLR_GEN, .wo, .val 0⟩, ⟨F.TAL_CTR_CLR_CLR_STN, .wo, .val 0⟩, ⟨F.TAL_CTR_CLR_CLR_RA, .wo, .val 0⟩, ⟨F.TAL_CTR_CLR_CLR_SAMPLE, .wo, .val 0⟩]⟩,
  ⟨"SCL_CTRL", 0x030000, 1, 4, [⟨F.SCL_CTRL_ACC_EN, .rw, .image⟩, ⟨F.SCL_CTRL_LATE_MODE, .rw, .val 0⟩, ⟨F.SCL_CTRL_ALERT_EN, .rw, .val 0⟩]⟩,
  ⟨"SCL_CAT_ID", 0x030004, 1, 4, [⟨F.SCL_CAT_ID, .ro, .image⟩]⟩,
  ⟨"SCL_METRICS", 0x030008, 1, 4, [⟨F.SCL_METRICS, .ro, .image⟩, ⟨F.SCL_METRICS_HIST_METRICS, .ro, .image⟩]⟩,
  ⟨"SCL_MEM", 0x03000c, 1, 4, [⟨F.SCL_MEM_BANK_KIB, .ro, .image⟩, ⟨F.SCL_MEM_TILE_MAX_KIB, .ro, .image⟩]⟩,
  ⟨"SCL_CONV_STAT", 0x030010, 1, 4, [⟨F.SCL_CONV_STAT_NAN, .ro, .val 0⟩, ⟨F.SCL_CONV_STAT_SAT, .ro, .val 0⟩]⟩,
  ⟨"SCL_HIST_STAT", 0x030014, 1, 4, [⟨F.SCL_HIST_STAT_OUT_WINDOW, .ro, .val 0⟩, ⟨F.SCL_HIST_STAT_CLAMPED, .ro, .val 0⟩]⟩,
  ⟨"SCL_LATE_STAT", 0x030018, 1, 4, [⟨F.SCL_LATE_STAT_FOLDED, .ro, .val 0⟩, ⟨F.SCL_LATE_STAT_DROPPED, .ro, .val 0⟩]⟩,
  ⟨"SCL_SEAL", 0x03001c, 1, 4, [⟨F.SCL_SEAL_PARTS, .ro, .val 0⟩, ⟨F.SCL_SEAL_BYTES, .ro, .val 0⟩]⟩,
  ⟨"SCL_CTR_CLR", 0x030020, 1, 4, [⟨F.SCL_CTR_CLR_CLR_CONV, .wo, .val 0⟩, ⟨F.SCL_CTR_CLR_CLR_HIST, .wo, .val 0⟩, ⟨F.SCL_CTR_CLR_CLR_LATE, .wo, .val 0⟩]⟩,
  ⟨"RED_CTRL", 0x040000, 1, 4, [⟨F.RED_CTRL_MERGE_EN, .rw, .image⟩, ⟨F.RED_CTRL_STRAG_EN, .rw, .image⟩, ⟨F.RED_CTRL_CRIER_EN, .rw, .image⟩, ⟨F.RED_CTRL_ALERT_EN, .rw, .val 0⟩]⟩,
  ⟨"RED_NODE", 0x040004, 1, 4, [⟨F.RED_NODE_NODE_ID, .ro, .image⟩, ⟨F.RED_NODE_LEVEL, .ro, .image⟩]⟩,
  ⟨"RED_UPLINK", 0x040008, 1, 4, [⟨F.RED_UPLINK_PORT0, .ro, .image⟩, ⟨F.RED_UPLINK_PORT1, .ro, .image⟩, ⟨F.RED_UPLINK_PORT2, .ro, .image⟩, ⟨F.RED_UPLINK_PORT3, .ro, .image⟩]⟩,
  ⟨"RED_WAIT", 0x04000c, 1, 4, [⟨F.RED_WAIT_WAIT_US, .rw, .image⟩, ⟨F.RED_WAIT_LATE_WINDOW, .rw, .val 8⟩, ⟨F.RED_WAIT_RETAIN, .rw, .val 4⟩]⟩,
  ⟨"RED_ALIGN", 0x040010, 1, 4, [⟨F.RED_ALIGN_TOL_NS, .rw, .val 0x3e8⟩]⟩,
  ⟨"RED_CONTRIB", 0x040014, 1, 4, [⟨F.RED_CONTRIB, .ro, .val 0⟩]⟩,
  ⟨"RED_EXPECTED", 0x040018, 1, 4, [⟨F.RED_EXPECTED, .ro, .val 0⟩]⟩,
  ⟨"RED_LAT", 0x04001c, 1, 4, [⟨F.RED_LAT_LAST_US, .ro, .val 0⟩, ⟨F.RED_LAT_MAX_US, .ro, .val 0⟩]⟩,
  ⟨"RED_MERGE_STAT", 0x040020, 1, 4, [⟨F.RED_MERGE_STAT_DUP, .ro, .val 0⟩, ⟨F.RED_MERGE_STAT_CAT_MISMATCH, .ro, .val 0⟩, ⟨F.RED_MERGE_STAT_MISALIGNED, .ro, .val 0⟩, ⟨F.RED_MERGE_STAT_REPLACED, .ro, .val 0⟩]⟩,
  ⟨"RED_LATE_STAT", 0x040024, 1, 4, [⟨F.RED_LATE_STAT_FORWARDED, .ro, .val 0⟩, ⟨F.RED_LATE_STAT_EXPIRED, .ro, .val 0⟩]⟩,
  ⟨"RED_CORR_STAT", 0x040028, 1, 4, [⟨F.RED_CORR_STAT_APPLIED, .ro, .val 0⟩, ⟨F.RED_CORR_STAT_ORPHAN, .ro, .val 0⟩, ⟨F.RED_CORR_STAT_EXPIRED, .ro, .val 0⟩]⟩,
  ⟨"RED_INCOMPLETE", 0x04002c, 1, 4, [⟨F.RED_INCOMPLETE_EPOCHS, .ro, .val 0⟩, ⟨F.RED_INCOMPLETE_MISSING_MAX, .ro, .val 0⟩]⟩,
  ⟨"RED_RETAIN_STAT", 0x040030, 1, 4, [⟨F.RED_RETAIN_STAT_DROPPED, .ro, .val 0⟩, ⟨F.RED_RETAIN_STAT_REPLAYED, .ro, .val 0⟩]⟩,
  ⟨"RED_UPLINK_STAT", 0x040034, 1, 4, [⟨F.RED_UPLINK_STAT_FAILOVERS, .ro, .val 0⟩, ⟨F.RED_UPLINK_STAT_NO_ROUTE, .ro, .val 0⟩]⟩,
  ⟨"RED_UPLINK_SHADOW", 0x04003c, 1, 4, [⟨F.RED_UPLINK_SHADOW_PORT0, .ro, .image⟩, ⟨F.RED_UPLINK_SHADOW_PORT1, .ro, .image⟩, ⟨F.RED_UPLINK_SHADOW_PORT2, .ro, .image⟩, ⟨F.RED_UPLINK_SHADOW_PORT3, .ro, .image⟩]⟩,
  ⟨"RED_DRL_CTRL", 0x040040, 1, 4, [⟨F.RED_DRL_CTRL_COMMIT, .wo, .val 0⟩, ⟨F.RED_DRL_CTRL_PENDING, .ro, .val 0⟩, ⟨F.RED_DRL_CTRL_LATE, .rw1c, .val 0⟩]⟩,
  ⟨"RED_DRL_EPOCH_LO", 0x040044, 1, 4, [⟨F.RED_DRL_EPOCH_LO, .rw, .val 0⟩]⟩,
  ⟨"RED_DRL_EPOCH_HI", 0x040048, 1, 4, [⟨F.RED_DRL_EPOCH_HI, .rw, .val 0⟩]⟩]

def regRows3 : List RegRow := [
  ⟨"RED_STRAG_STAT", 0x040050, 1, 4, [⟨F.RED_STRAG_STAT_FLAGGED, .ro, .val 0⟩, ⟨F.RED_STRAG_STAT_LATE_SCORED, .ro, .val 0⟩, ⟨F.RED_STRAG_STAT_REF_FALLBACK, .ro, .val 0⟩]⟩,
  ⟨"RED_TOPK", 0x040054, 1, 4, [⟨F.RED_TOPK_ROOT_LEN, .rw, .val 0x40⟩]⟩,
  ⟨"RED_CTR_CLR", 0x040060, 1, 4, [⟨F.RED_CTR_CLR_CLR_MERGE, .wo, .val 0⟩, ⟨F.RED_CTR_CLR_CLR_LATE, .wo, .val 0⟩, ⟨F.RED_CTR_CLR_CLR_INCOMPLETE, .wo, .val 0⟩, ⟨F.RED_CTR_CLR_CLR_RETAIN, .wo, .val 0⟩, ⟨F.RED_CTR_CLR_CLR_STRAG, .wo, .val 0⟩]⟩,
  ⟨"INF_CTRL", 0x050000, 1, 4, [⟨F.INF_CTRL_ENG_EN, .rw, .image⟩, ⟨F.INF_CTRL_STREAM_EN, .rw, .image⟩, ⟨F.INF_CTRL_DRIFT_EN, .rw, .image⟩, ⟨F.INF_CTRL_ALERT_EN, .rw, .val 0⟩]⟩,
  ⟨"INF_CAPS", 0x050004, 1, 4, [⟨F.INF_CAPS_WALKERS, .ro, .fuse⟩, ⟨F.INF_CAPS_MACS, .ro, .fuse⟩, ⟨F.INF_CAPS_MAX_DEPTH, .ro, .build⟩]⟩,
  ⟨"INF_ROWS", 0x050008, 1, 4, [⟨F.INF_ROWS, .ro, .val 0⟩]⟩,
  ⟨"INF_ROW_DROP", 0x05000c, 1, 4, [⟨F.INF_ROW_DROP_DROPPED, .ro, .val 0⟩, ⟨F.INF_ROW_DROP_QUEUE_MAX, .ro, .val 0⟩]⟩,
  ⟨"INF_MISS_STAT", 0x050010, 1, 4, [⟨F.INF_MISS_STAT_MISSING, .ro, .val 0⟩, ⟨F.INF_MISS_STAT_CAT_UNKNOWN, .ro, .val 0⟩, ⟨F.INF_MISS_STAT_DIV_ZERO, .ro, .val 0⟩]⟩,
  ⟨"INF_NUM_STAT", 0x050014, 1, 4, [⟨F.INF_NUM_STAT_SAT, .ro, .val 0⟩, ⟨F.INF_NUM_STAT_OVERFLOW, .ro, .val 0⟩, ⟨F.INF_NUM_STAT_BAD_WEIGHT, .ro, .val 0⟩]⟩,
  ⟨"INF_FAULT", 0x050018, 1, 4, [⟨F.INF_FAULT_CORRECTED, .ro, .val 0⟩, ⟨F.INF_FAULT_UNCORRECTED, .ro, .val 0⟩]⟩,
  ⟨"INF_FAULT_ADDR", 0x05001c, 1, 4, [⟨F.INF_FAULT_ADDR, .ro, .val 0⟩, ⟨F.INF_FAULT_ADDR_TILE, .ro, .val 0⟩]⟩,
  ⟨"INF_TILE_WAIT", 0x050020, 1, 4, [⟨F.INF_TILE_WAIT, .ro, .val 0⟩]⟩,
  ⟨"INF_DRIFT", 0x050024, 1, 4, [⟨F.INF_DRIFT_ACTIVE, .ro, .image⟩, ⟨F.INF_DRIFT_ALARMS, .ro, .val 0⟩]⟩,
  ⟨"INF_CTR_CLR", 0x050028, 1, 4, [⟨F.INF_CTR_CLR_CLR_ROW, .wo, .val 0⟩, ⟨F.INF_CTR_CLR_CLR_MISS, .wo, .val 0⟩, ⟨F.INF_CTR_CLR_CLR_NUM, .wo, .val 0⟩, ⟨F.INF_CTR_CLR_CLR_FAULT, .wo, .val 0⟩, ⟨F.INF_CTR_CLR_CLR_WAIT, .wo, .val 0⟩, ⟨F.INF_CTR_CLR_CLR_DRIFT, .wo, .val 0⟩]⟩,
  ⟨"INF_MDL_CTRL", 0x050040, 1, 4, [⟨F.INF_MDL_CTRL_OP, .wo, .val 0⟩, ⟨F.INF_MDL_CTRL_SRC, .rw, .val 0⟩, ⟨F.INF_MDL_CTRL_KEEP_OLD, .rw, .val 0⟩, ⟨F.INF_MDL_CTRL_SLOT, .rw, .val 0⟩]⟩,
  ⟨"INF_MDL_SRC_LO", 0x050044, 1, 4, [⟨F.INF_MDL_SRC_LO, .rw, .val 0⟩]⟩,
  ⟨"INF_MDL_SRC_HI", 0x050048, 1, 4, [⟨F.INF_MDL_SRC_HI, .rw, .val 0⟩]⟩,
  ⟨"INF_MDL_LEN", 0x05004c, 1, 4, [⟨F.INF_MDL_LEN_LENGTH, .rw, .val 0⟩]⟩,
  ⟨"INF_MDL_EPOCH_LO", 0x050050, 1, 4, [⟨F.INF_MDL_EPOCH_LO, .rw, .val 0⟩]⟩,
  ⟨"INF_MDL_EPOCH_HI", 0x050054, 1, 4, [⟨F.INF_MDL_EPOCH_HI_EPOCH, .rw, .val 0⟩]⟩,
  ⟨"INF_MDL_STAT", 0x050058, 1, 4, [⟨F.INF_MDL_STAT_LOAD_STATE, .ro, .val 0⟩, ⟨F.INF_MDL_STAT_LAST_REJECT, .ro, .val 0⟩, ⟨F.INF_MDL_STAT_REJECTS, .ro, .val 0⟩, ⟨F.INF_MDL_STAT_SLOT, .ro, .val 0⟩, ⟨F.INF_MDL_STAT_DONE, .rw1c, .val 0⟩, ⟨F.INF_MDL_STAT_REJECTED, .rw1c, .val 0⟩]⟩,
  ⟨"INF_STORE", 0x05005c, 1, 4, [⟨F.INF_STORE_FREE_KIB, .ro, .build⟩, ⟨F.INF_STORE_USED_KIB, .ro, .val 0⟩]⟩,
  ⟨"INF_BUDGET", 0x050060, 1, 4, [⟨F.INF_BUDGET_EPOCH_US, .rw, .image⟩, ⟨F.INF_BUDGET_CHILD_US, .rw, .image⟩, ⟨F.INF_BUDGET_OVERRUN_LIMIT, .rw, .val 4⟩, ⟨F.INF_BUDGET_ALERT_EN, .rw, .val 0⟩]⟩,
  ⟨"INF_BUDGET_STAT", 0x050064, 1, 4, [⟨F.INF_BUDGET_STAT_OVERRUNS, .ro, .val 0⟩, ⟨F.INF_BUDGET_STAT_SUSPENDS, .ro, .val 0⟩]⟩,
  ⟨"INF_CRIER", 0x050068, 1, 4, [⟨F.INF_CRIER_MAX_PER_EPOCH, .rw, .val 0x20⟩, ⟨F.INF_CRIER_PORT_X0, .rw, .image⟩, ⟨F.INF_CRIER_PORT_X1, .rw, .image⟩]⟩,
  ⟨"INF_CRIER_STAT", 0x05006c, 1, 4, [⟨F.INF_CRIER_STAT_SENT, .ro, .val 0⟩, ⟨F.INF_CRIER_STAT_SUPPRESSED, .ro, .val 0⟩, ⟨F.INF_CRIER_STAT_NO_ROUTE, .ro, .val 0⟩, ⟨F.INF_CRIER_STAT_DUP, .ro, .val 0⟩]⟩,
  ⟨"INF_SWAP_STAT", 0x050070, 1, 4, [⟨F.INF_SWAP_STAT_STALE_ROWS, .ro, .val 0⟩, ⟨F.INF_SWAP_STAT_CANCELLED, .ro, .val 0⟩, ⟨F.INF_SWAP_STAT_SWAPS, .ro, .val 0⟩]⟩,
  ⟨"INF_MDL_CLR", 0x050074, 1, 4, [⟨F.INF_MDL_CLR_CLR_BUDGET, .wo, .val 0⟩, ⟨F.INF_MDL_CLR_CLR_CRIER, .wo, .val 0⟩, ⟨F.INF_MDL_CLR_CLR_SWAP, .wo, .val 0⟩]⟩,
  ⟨"TRC_CTRL", 0x060000, 1, 4, [⟨F.TRC_CTRL_EN, .rw, .image⟩, ⟨F.TRC_CTRL_ALERT_EN, .rw, .val 0⟩]⟩,
  ⟨"TRC_FLUSH", 0x060004, 1, 4, [⟨F.TRC_FLUSH_STREAM, .wo, .val 0⟩, ⟨F.TRC_FLUSH_ALL, .wo, .val 0⟩, ⟨F.TRC_FLUSH_CLOSE_BUF, .wo, .val 0⟩, ⟨F.TRC_FLUSH_BUSY, .ro, .val 0⟩]⟩,
  ⟨"TRC_SYNC", 0x060008, 1, 4, [⟨F.TRC_SYNC_STREAM, .wo, .val 0⟩, ⟨F.TRC_SYNC_ALL, .wo, .val 0⟩]⟩,
  ⟨"TRC_LIMITS", 0x06000c, 1, 4, [⟨F.TRC_LIMITS_STALL_LIMIT_US, .rw, .val 0xa⟩, ⟨F.TRC_LIMITS_POLL_US, .rw, .val 0xa⟩, ⟨F.TRC_LIMITS_FLUSH_US, .rw, .val 0x3e8⟩]⟩,
  ⟨"TRC_CTR_CLR", 0x060010, 1, 4, [⟨F.TRC_CTR_CLR_CLR_CHAN, .wo, .val 0⟩, ⟨F.TRC_CTR_CLR_CLR_PAN, .wo, .val 0⟩, ⟨F.TRC_CTR_CLR_CLR_SEQ, .wo, .val 0⟩]⟩,
  ⟨"TRC_ROUTE", 0x060014, 1, 4, [⟨F.TRC_ROUTE_SAMPLE, .rw, .image⟩, ⟨F.TRC_ROUTE_SCORE, .rw, .image⟩, ⟨F.TRC_ROUTE_SERVICE, .rw, .image⟩, ⟨F.TRC_ROUTE_DUMP, .rw, .image⟩]⟩,
  ⟨"TRC_UNROUTED", 0x060018, 1, 4, [⟨F.TRC_UNROUTED, .ro, .val 0⟩]⟩,
  ⟨"TRC_CHAN", 0x060040, 16, 4, [⟨F.TRC_CHAN_EN 0, .rw, .image⟩, ⟨F.TRC_CHAN_STALL_EN 0, .rw, .val 0⟩, ⟨F.TRC_CHAN_STREAM 0, .rw, .image⟩, ⟨F.TRC_CHAN_SEQ 0, .rw, .image⟩]⟩,
  ⟨"TRC_CHAN_STAT_ACC", 0x060100, 16, 16, [⟨F.TRC_CHAN_STAT_ACC 0, .ro, .val 0⟩]⟩,
  ⟨"TRC_CHAN_STAT_DROP", 0x060104, 16, 16, [⟨F.TRC_CHAN_STAT_DROP 0, .ro, .val 0⟩]⟩,
  ⟨"TRC_CHAN_STAT_FILT", 0x060108, 16, 16, [⟨F.TRC_CHAN_STAT_FILT 0, .ro, .val 0⟩]⟩,
  ⟨"TRC_CHAN_STAT_STALL", 0x06010c, 16, 16, [⟨F.TRC_CHAN_STAT_STALL_STALLS 0, .ro, .val 0⟩, ⟨F.TRC_CHAN_STAT_STALL_BAD_TYPE 0, .ro, .val 0⟩, ⟨F.TRC_CHAN_STAT_STALL_STALL_TIMEOUTS 0, .ro, .val 0⟩]⟩]

def regRows4 : List RegRow := [
  ⟨"TRC_CMP", 0x060200, 16, 16, [⟨F.TRC_CMP_CHANNEL 0, .rw, .image⟩, ⟨F.TRC_CMP_ANY 0, .rw, .image⟩, ⟨F.TRC_CMP_TYPE_CMP 0, .rw, .image⟩, ⟨F.TRC_CMP_TYPE_MASK 0, .rw, .image⟩, ⟨F.TRC_CMP_METRIC_EN 0, .rw, .image⟩]⟩,
  ⟨"TRC_CMP_MATCH", 0x060204, 16, 16, [⟨F.TRC_CMP_MATCH 0, .rw, .image⟩]⟩,
  ⟨"TRC_CMP_MASK", 0x060208, 16, 16, [⟨F.TRC_CMP_MASK 0, .rw, .image⟩]⟩,
  ⟨"TRC_CMP_COUNT", 0x06020c, 16, 16, [⟨F.TRC_CMP_COUNT 0, .rw, .image⟩]⟩,
  ⟨"TRC_SEQ", 0x060300, 4, 64, [⟨F.TRC_SEQ_STATE 0, .ro, .val 0⟩, ⟨F.TRC_SEQ_EN 0, .rw, .image⟩, ⟨F.TRC_SEQ_RESTART 0, .wo, .val 0⟩, ⟨F.TRC_SEQ_FIRE 0, .wo, .val 0⟩]⟩,
  ⟨"TRC_SEQ_POST", 0x060304, 4, 64, [⟨F.TRC_SEQ_POST_POST_KIB 0, .rw, .image⟩]⟩,
  ⟨"TRC_SEQ_TIME_LO", 0x060308, 4, 64, [⟨F.TRC_SEQ_TIME_LO 0, .rw, .val 0⟩]⟩,
  ⟨"TRC_SEQ_TIME_HI", 0x06030c, 4, 64, [⟨F.TRC_SEQ_TIME_HI 0, .rw, .val 0⟩]⟩,
  ⟨"TRC_SEQ_TRANS", 0x060310, 4, 64, [⟨F.TRC_SEQ_TRANS 0, .ro, .val 0⟩]⟩,
  ⟨"TRC_SEQ_W0", 0x060320, 4, 64, [⟨F.TRC_SEQ_W0_EV_A 0, .rw, .image⟩, ⟨F.TRC_SEQ_W0_NEXT_A 0, .rw, .image⟩, ⟨F.TRC_SEQ_W0_EV_B 0, .rw, .image⟩, ⟨F.TRC_SEQ_W0_NEXT_B 0, .rw, .image⟩, ⟨F.TRC_SEQ_W0_CAPTURE 0, .rw, .image⟩, ⟨F.TRC_SEQ_W0_FLUSH 0, .rw, .image⟩, ⟨F.TRC_SEQ_W0_MARK 0, .rw, .image⟩, ⟨F.TRC_SEQ_W0_SYNC 0, .rw, .image⟩, ⟨F.TRC_SEQ_W0_STOP 0, .rw, .image⟩]⟩,
  ⟨"TRC_SEQ_W1", 0x060324, 4, 64, [⟨F.TRC_SEQ_W1_EV_A 0, .rw, .image⟩, ⟨F.TRC_SEQ_W1_NEXT_A 0, .rw, .image⟩, ⟨F.TRC_SEQ_W1_EV_B 0, .rw, .image⟩, ⟨F.TRC_SEQ_W1_NEXT_B 0, .rw, .image⟩, ⟨F.TRC_SEQ_W1_CAPTURE 0, .rw, .image⟩, ⟨F.TRC_SEQ_W1_FLUSH 0, .rw, .image⟩, ⟨F.TRC_SEQ_W1_MARK 0, .rw, .image⟩, ⟨F.TRC_SEQ_W1_SYNC 0, .rw, .image⟩, ⟨F.TRC_SEQ_W1_STOP 0, .rw, .image⟩]⟩,
  ⟨"TRC_SEQ_W2", 0x060328, 4, 64, [⟨F.TRC_SEQ_W2_EV_A 0, .rw, .image⟩, ⟨F.TRC_SEQ_W2_NEXT_A 0, .rw, .image⟩, ⟨F.TRC_SEQ_W2_EV_B 0, .rw, .image⟩, ⟨F.TRC_SEQ_W2_NEXT_B 0, .rw, .image⟩, ⟨F.TRC_SEQ_W2_CAPTURE 0, .rw, .image⟩, ⟨F.TRC_SEQ_W2_FLUSH 0, .rw, .image⟩, ⟨F.TRC_SEQ_W2_MARK 0, .rw, .image⟩, ⟨F.TRC_SEQ_W2_SYNC 0, .rw, .image⟩, ⟨F.TRC_SEQ_W2_STOP 0, .rw, .image⟩]⟩,
  ⟨"TRC_SEQ_W3", 0x06032c, 4, 64, [⟨F.TRC_SEQ_W3_EV_A 0, .rw, .image⟩, ⟨F.TRC_SEQ_W3_NEXT_A 0, .rw, .image⟩, ⟨F.TRC_SEQ_W3_EV_B 0, .rw, .image⟩, ⟨F.TRC_SEQ_W3_NEXT_B 0, .rw, .image⟩, ⟨F.TRC_SEQ_W3_CAPTURE 0, .rw, .image⟩, ⟨F.TRC_SEQ_W3_FLUSH 0, .rw, .image⟩, ⟨F.TRC_SEQ_W3_MARK 0, .rw, .image⟩, ⟨F.TRC_SEQ_W3_SYNC 0, .rw, .image⟩, ⟨F.TRC_SEQ_W3_STOP 0, .rw, .image⟩]⟩,
  ⟨"TRC_SEQ_W4", 0x060330, 4, 64, [⟨F.TRC_SEQ_W4_EV_A 0, .rw, .image⟩, ⟨F.TRC_SEQ_W4_NEXT_A 0, .rw, .image⟩, ⟨F.TRC_SEQ_W4_EV_B 0, .rw, .image⟩, ⟨F.TRC_SEQ_W4_NEXT_B 0, .rw, .image⟩, ⟨F.TRC_SEQ_W4_CAPTURE 0, .rw, .image⟩, ⟨F.TRC_SEQ_W4_FLUSH 0, .rw, .image⟩, ⟨F.TRC_SEQ_W4_MARK 0, .rw, .image⟩, ⟨F.TRC_SEQ_W4_SYNC 0, .rw, .image⟩, ⟨F.TRC_SEQ_W4_STOP 0, .rw, .image⟩]⟩,
  ⟨"TRC_SEQ_W5", 0x060334, 4, 64, [⟨F.TRC_SEQ_W5_EV_A 0, .rw, .image⟩, ⟨F.TRC_SEQ_W5_NEXT_A 0, .rw, .image⟩, ⟨F.TRC_SEQ_W5_EV_B 0, .rw, .image⟩, ⟨F.TRC_SEQ_W5_NEXT_B 0, .rw, .image⟩, ⟨F.TRC_SEQ_W5_CAPTURE 0, .rw, .image⟩, ⟨F.TRC_SEQ_W5_FLUSH 0, .rw, .image⟩, ⟨F.TRC_SEQ_W5_MARK 0, .rw, .image⟩, ⟨F.TRC_SEQ_W5_SYNC 0, .rw, .image⟩, ⟨F.TRC_SEQ_W5_STOP 0, .rw, .image⟩]⟩,
  ⟨"TRC_SEQ_W6", 0x060338, 4, 64, [⟨F.TRC_SEQ_W6_EV_A 0, .rw, .image⟩, ⟨F.TRC_SEQ_W6_NEXT_A 0, .rw, .image⟩, ⟨F.TRC_SEQ_W6_EV_B 0, .rw, .image⟩, ⟨F.TRC_SEQ_W6_NEXT_B 0, .rw, .image⟩, ⟨F.TRC_SEQ_W6_CAPTURE 0, .rw, .image⟩, ⟨F.TRC_SEQ_W6_FLUSH 0, .rw, .image⟩, ⟨F.TRC_SEQ_W6_MARK 0, .rw, .image⟩, ⟨F.TRC_SEQ_W6_SYNC 0, .rw, .image⟩, ⟨F.TRC_SEQ_W6_STOP 0, .rw, .image⟩]⟩,
  ⟨"TRC_SEQ_W7", 0x06033c, 4, 64, [⟨F.TRC_SEQ_W7_EV_A 0, .rw, .image⟩, ⟨F.TRC_SEQ_W7_NEXT_A 0, .rw, .image⟩, ⟨F.TRC_SEQ_W7_EV_B 0, .rw, .image⟩, ⟨F.TRC_SEQ_W7_NEXT_B 0, .rw, .image⟩, ⟨F.TRC_SEQ_W7_CAPTURE 0, .rw, .image⟩, ⟨F.TRC_SEQ_W7_FLUSH 0, .rw, .image⟩, ⟨F.TRC_SEQ_W7_MARK 0, .rw, .image⟩, ⟨F.TRC_SEQ_W7_SYNC 0, .rw, .image⟩, ⟨F.TRC_SEQ_W7_STOP 0, .rw, .image⟩]⟩,
  ⟨"TRC_PAN_CTRL", 0x061000, 64, 64, [⟨F.TRC_PAN_CTRL_EN 0, .rw, .image⟩, ⟨F.TRC_PAN_CTRL_RING 0, .rw, .image⟩, ⟨F.TRC_PAN_CTRL_CODEC 0, .rw, .image⟩, ⟨F.TRC_PAN_CTRL_LEVEL 0, .rw, .image⟩, ⟨F.TRC_PAN_CTRL_BLOCK_KIB 0, .rw, .image⟩, ⟨F.TRC_PAN_CTRL_STRIDE_M1 0, .rw, .image⟩, ⟨F.TRC_PAN_CTRL_PRIV 0, .rw, .image⟩, ⟨F.TRC_PAN_CTRL_OWNER 0, .rw, .image⟩]⟩,
  ⟨"TRC_PAN_HEAD_LO", 0x061004, 64, 64, [⟨F.TRC_PAN_HEAD_LO 0, .rw, .val 0⟩]⟩,
  ⟨"TRC_PAN_HEAD_HI", 0x061008, 64, 64, [⟨F.TRC_PAN_HEAD_HI 0, .rw, .val 0⟩]⟩,
  ⟨"TRC_PAN_CMD", 0x06100c, 64, 64, [⟨F.TRC_PAN_CMD_START 0, .wo, .val 0⟩, ⟨F.TRC_PAN_CMD_APPEND 0, .wo, .val 0⟩, ⟨F.TRC_PAN_CMD_STOP 0, .wo, .val 0⟩]⟩,
  ⟨"TRC_PAN_STAT", 0x061010, 64, 64, [⟨F.TRC_PAN_STAT_STATE 0, .ro, .val 0⟩, ⟨F.TRC_PAN_STAT_FILLED 0, .rw1c, .val 0⟩, ⟨F.TRC_PAN_STAT_STOP_PENDING 0, .ro, .val 0⟩, ⟨F.TRC_PAN_STAT_FAULT_SEEN 0, .rw1c, .val 0⟩]⟩,
  ⟨"TRC_PAN_CUR_LO", 0x061014, 64, 64, [⟨F.TRC_PAN_CUR_LO 0, .ro, .val 0⟩]⟩,
  ⟨"TRC_PAN_CUR_HI", 0x061018, 64, 64, [⟨F.TRC_PAN_CUR_HI 0, .ro, .val 0⟩]⟩,
  ⟨"TRC_PAN_BLOCK_SEQ", 0x06101c, 64, 64, [⟨F.TRC_PAN_BLOCK_SEQ 0, .ro, .val 0⟩]⟩,
  ⟨"TRC_PAN_FRAMES", 0x061020, 64, 64, [⟨F.TRC_PAN_FRAMES 0, .ro, .val 0⟩]⟩,
  ⟨"TRC_PAN_RECDROP", 0x061024, 64, 64, [⟨F.TRC_PAN_RECDROP 0, .ro, .val 0⟩]⟩,
  ⟨"TRC_PAN_LOST", 0x061028, 64, 64, [⟨F.TRC_PAN_LOST_BLOCKS_LOST 0, .ro, .val 0⟩, ⟨F.TRC_PAN_LOST_OVERWRITES 0, .ro, .val 0⟩]⟩,
  ⟨"TRC_PAN_EXH", 0x06102c, 64, 64, [⟨F.TRC_PAN_EXH_EXHAUSTIONS 0, .ro, .val 0⟩, ⟨F.TRC_PAN_EXH_WAITS 0, .ro, .val 0⟩]⟩,
  ⟨"TRC_PAN_BAD", 0x061030, 64, 64, [⟨F.TRC_PAN_BAD_BAD_CMD 0, .ro, .val 0⟩]⟩,
  ⟨"TRC_PAN_ORIG_KIB", 0x061034, 64, 64, [⟨F.TRC_PAN_ORIG_KIB 0, .ro, .val 0⟩]⟩,
  ⟨"TRC_PAN_OUT_KIB", 0x061038, 64, 64, [⟨F.TRC_PAN_OUT_KIB 0, .ro, .val 0⟩]⟩,
  ⟨"LED_CTRL", 0x070000, 1, 4, [⟨F.LED_CTRL_FOLD_US, .rw, .val 0x3e8⟩, ⟨F.LED_CTRL_ALERT_EN, .rw, .val 1⟩]⟩,
  ⟨"LED_CFG", 0x070004, 1, 4, [⟨F.LED_CFG_KEEP, .ro, .image⟩]⟩,
  ⟨"LED_SEQ", 0x070008, 1, 4, [⟨F.LED_SEQ, .ro, .kept⟩]⟩,
  ⟨"LED_WPTR", 0x07000c, 1, 4, [⟨F.LED_WPTR, .ro, .kept⟩]⟩,
  ⟨"LED_FOLD", 0x070010, 1, 4, [⟨F.LED_FOLD_SHADOW, .ro, .kept⟩, ⟨F.LED_FOLD_EVICTIONS, .ro, .kept⟩]⟩,
  ⟨"LED_LOST", 0x070014, 1, 4, [⟨F.LED_LOST_EVENTS, .ro, .kept⟩, ⟨F.LED_LOST_LAST_CLASS, .ro, .kept⟩]⟩,
  ⟨"LED_FAULT", 0x070018, 1, 4, [⟨F.LED_FAULT_CORRECTED, .ro, .kept⟩, ⟨F.LED_FAULT_UNCORRECTED, .ro, .kept⟩, ⟨F.LED_FAULT_RETIRED, .ro, .kept⟩]⟩,
  ⟨"LED_STATE", 0x07001c, 1, 4, [⟨F.LED_STATE, .ro, .kept⟩, ⟨F.LED_STATE_OPEN, .ro, .kept⟩]⟩]

def regRows5 : List RegRow := [
  ⟨"LED_WIN", 0x070020, 1, 4, [⟨F.LED_WIN_PAGE, .rw, .val 0⟩]⟩,
  ⟨"LED_FOLD_FOLDED", 0x070024, 1, 4, [⟨F.LED_FOLD_FOLDED, .ro, .kept⟩]⟩,
  ⟨"LED_CTR_CLR", 0x070028, 1, 4, [⟨F.LED_CTR_CLR_CLR_FOLD, .wo, .val 0⟩, ⟨F.LED_CTR_CLR_CLR_LOST, .wo, .val 0⟩, ⟨F.LED_CTR_CLR_CLR_CORR, .wo, .val 0⟩]⟩,
  ⟨"LED_MIRROR", 0x070040, 16, 4, [⟨F.LED_MIRROR 0, .ro, .kept⟩]⟩,
  ⟨"SVC_CTRL", 0x080000, 1, 4, [⟨F.SVC_CTRL_DIG_EN, .rw, .image⟩, ⟨F.SVC_CTRL_DUP_EN, .rw, .image⟩, ⟨F.SVC_CTRL_CHK_EN, .rw, .image⟩, ⟨F.SVC_CTRL_LATCH_EN, .rw, .image⟩, ⟨F.SVC_CTRL_PCS_EN, .rw, .image⟩, ⟨F.SVC_CTRL_OPS_EN, .rw, .image⟩, ⟨F.SVC_CTRL_FT_EN, .rw, .image⟩, ⟨F.SVC_CTRL_CHARGE_NAN, .rw, .val 0⟩, ⟨F.SVC_CTRL_ALERT_EN, .rw, .val 0⟩]⟩,
  ⟨"SVC_STAT", 0x080004, 1, 4, [⟨F.SVC_STAT_BAD_TYPE, .ro, .val 0⟩, ⟨F.SVC_STAT_STATE_DROP, .ro, .val 0⟩]⟩,
  ⟨"SVC_DROP", 0x080008, 1, 4, [⟨F.SVC_DROP_DIGEST, .ro, .val 0⟩, ⟨F.SVC_DROP_OTHER, .ro, .val 0⟩]⟩,
  ⟨"SVC_HOST", 0x08000c, 1, 4, [⟨F.SVC_HOST_TILES, .ro, .image⟩, ⟨F.SVC_HOST_LOG_RATE, .rw, .val 0xa⟩, ⟨F.SVC_HOST_RESULT_WINDOW, .rw, .val 4⟩]⟩,
  ⟨"SVC_PLAN_LO", 0x080010, 1, 4, [⟨F.SVC_PLAN_LO, .rw, .val 0⟩]⟩,
  ⟨"SVC_PLAN_HI", 0x080014, 1, 4, [⟨F.SVC_PLAN_HI, .rw, .val 0⟩]⟩,
  ⟨"SVC_DIG_CFG", 0x080018, 1, 4, [⟨F.SVC_DIG_CFG_PAIR_WINDOW, .rw, .val 2⟩, ⟨F.SVC_DIG_CFG_COLL_TIMEOUT, .rw, .val 4⟩]⟩,
  ⟨"SVC_DUP_STAT", 0x08001c, 1, 4, [⟨F.SVC_DUP_STAT_MISMATCH, .ro, .val 0⟩, ⟨F.SVC_DUP_STAT_MISSED, .ro, .val 0⟩]⟩,
  ⟨"SVC_DUP_STAT2", 0x080020, 1, 4, [⟨F.SVC_DUP_STAT2_UNPLANNED, .ro, .val 0⟩, ⟨F.SVC_DUP_STAT2_REPEAT, .ro, .val 0⟩, ⟨F.SVC_DUP_STAT2_PLAN_LATE, .ro, .val 0⟩]⟩,
  ⟨"SVC_DUP_MATCH", 0x080024, 1, 4, [⟨F.SVC_DUP_MATCH, .ro, .val 0⟩]⟩,
  ⟨"SVC_DIG_STAT", 0x080028, 1, 4, [⟨F.SVC_DIG_STAT_MISMATCH, .ro, .val 0⟩, ⟨F.SVC_DIG_STAT_UNPAIRED, .ro, .val 0⟩, ⟨F.SVC_DIG_STAT_UNCHECKED, .ro, .val 0⟩, ⟨F.SVC_DIG_STAT_REFUSED, .ro, .val 0⟩]⟩,
  ⟨"SVC_DIG_MATCH", 0x08002c, 1, 4, [⟨F.SVC_DIG_MATCH, .ro, .val 0⟩]⟩,
  ⟨"SVC_CHK_STAT", 0x080030, 1, 4, [⟨F.SVC_CHK_STAT_POISON, .ro, .val 0⟩, ⟨F.SVC_CHK_STAT_CHECK_FAIL, .ro, .val 0⟩, ⟨F.SVC_CHK_STAT_EQUAL, .ro, .val 0⟩, ⟨F.SVC_CHK_STAT_NAN_REPORTS, .ro, .val 0⟩]⟩,
  ⟨"SVC_STEP", 0x080034, 1, 4, [⟨F.SVC_STEP_MODE, .rw, .val 0⟩, ⟨F.SVC_STEP_HELD, .ro, .val 0⟩, ⟨F.SVC_STEP_CREDIT, .ro, .val 0⟩, ⟨F.SVC_STEP_GRANT, .wo, .val 0⟩, ⟨F.SVC_STEP_SLIP, .ro, .val 0⟩]⟩,
  ⟨"SVC_STEP_BRK", 0x080038, 1, 4, [⟨F.SVC_STEP_BRK, .rw, .val 0⟩]⟩,
  ⟨"SVC_LATCH_CFG", 0x08003c, 1, 4, [⟨F.SVC_LATCH_CFG_N, .rw, .image⟩]⟩,
  ⟨"SVC_PCS", 0x080040, 1, 4, [⟨F.SVC_PCS_MAX_PER_EPOCH, .rw, .val 0x1000⟩, ⟨F.SVC_PCS_DROPPED, .ro, .val 0⟩]⟩,
  ⟨"SVC_DUMP_ID", 0x080044, 1, 4, [⟨F.SVC_DUMP_ID_TENSOR_ID, .rw, .val 0⟩]⟩,
  ⟨"SVC_DUMP_STEP", 0x080048, 1, 4, [⟨F.SVC_DUMP_STEP, .rw, .val 0⟩]⟩,
  ⟨"SVC_DUMP_CTRL", 0x08004c, 1, 4, [⟨F.SVC_DUMP_CTRL_ARM, .rw, .val 0⟩, ⟨F.SVC_DUMP_CTRL_HOLD, .rw, .val 0⟩, ⟨F.SVC_DUMP_CTRL_BUSY, .ro, .val 0⟩, ⟨F.SVC_DUMP_CTRL_DONE, .rw1c, .val 0⟩, ⟨F.SVC_DUMP_CTRL_TORN, .rw1c, .val 0⟩, ⟨F.SVC_DUMP_CTRL_FAIL, .rw1c, .val 0⟩]⟩,
  ⟨"SVC_FT", 0x080050, 1, 4, [⟨F.SVC_FT_THRESH, .rw, .val 3⟩, ⟨F.SVC_FT_WINDOW, .rw, .val 0x10⟩, ⟨F.SVC_FT_TIMEOUT, .rw, .val 0x40⟩]⟩,
  ⟨"SVC_FT_REQ", 0x080054, 1, 4, [⟨F.SVC_FT_REQ_TILE, .wo, .val 0⟩, ⟨F.SVC_FT_REQ_TEST, .wo, .val 0⟩, ⟨F.SVC_FT_REQ_CLEAR, .wo, .val 0⟩]⟩,
  ⟨"SVC_FT_PEND", 0x080058, 1, 4, [⟨F.SVC_FT_PEND_TILE, .ro, .val 0⟩, ⟨F.SVC_FT_PEND_DEPTH, .ro, .val 0⟩, ⟨F.SVC_FT_PEND_ACK, .wo, .val 0⟩, ⟨F.SVC_FT_PEND_QFULL, .ro, .val 0⟩]⟩,
  ⟨"SVC_CTR_CLR", 0x08005c, 1, 4, [⟨F.SVC_CTR_CLR_CLR_STAT, .wo, .val 0⟩, ⟨F.SVC_CTR_CLR_CLR_DUP, .wo, .val 0⟩, ⟨F.SVC_CTR_CLR_CLR_DIG, .wo, .val 0⟩, ⟨F.SVC_CTR_CLR_CLR_CHK, .wo, .val 0⟩, ⟨F.SVC_CTR_CLR_CLR_PCS, .wo, .val 0⟩]⟩,
  ⟨"SVC_LATCH", 0x080100, 32, 4, [⟨F.SVC_LATCH_STATION 0, .rw, .image⟩, ⟨F.SVC_LATCH_COUNTER 0, .rw, .image⟩]⟩,
  ⟨"LNK_CTRL", 0x090000, 1, 4, [⟨F.LNK_CTRL_DISC_EN, .rw, .image⟩, ⟨F.LNK_CTRL_ACCEPT_SWAP, .rw, .val 0⟩, ⟨F.LNK_CTRL_TKO_EN, .rw, .image⟩, ⟨F.LNK_CTRL_ALERT_EN, .rw, .val 0⟩]⟩,
  ⟨"LNK_DISC", 0x090004, 1, 4, [⟨F.LNK_DISC_PERIOD, .rw, .val 0x40⟩]⟩,
  ⟨"LNK_SVC", 0x090008, 1, 4, [⟨F.LNK_SVC_DELAY_US, .rw, .val 0x32⟩, ⟨F.LNK_SVC_STALL_OUT, .rw, .val 4⟩, ⟨F.LNK_SVC_TIMEOUT_US, .rw, .val 0xc8⟩, ⟨F.LNK_SVC_BULK_MS, .rw, .val 0xa⟩]⟩,
  ⟨"LNK_SVC_STAT0", 0x09000c, 1, 4, [⟨F.LNK_SVC_STAT0_LATE, .ro, .val 0⟩, ⟨F.LNK_SVC_STAT0_BUSY, .ro, .val 0⟩]⟩,
  ⟨"LNK_SVC_STAT1", 0x090010, 1, 4, [⟨F.LNK_SVC_STAT1_QUOTA, .ro, .val 0⟩, ⟨F.LNK_SVC_STAT1_SHED, .ro, .val 0⟩]⟩,
  ⟨"LNK_SVC_STAT2", 0x090014, 1, 4, [⟨F.LNK_SVC_STAT2_NO_ROUTE, .ro, .val 0⟩, ⟨F.LNK_SVC_STAT2_TIMEOUT, .ro, .val 0⟩]⟩,
  ⟨"LNK_PGEN_STAT", 0x090018, 1, 4, [⟨F.LNK_PGEN_STAT_STALE, .ro, .val 0⟩]⟩,
  ⟨"LNK_TKO", 0x090020, 1, 4, [⟨F.LNK_TKO_SIB_PORT, .ro, .image⟩, ⟨F.LNK_TKO_DETECT_US, .rw, .val 0x12c⟩, ⟨F.LNK_TKO_TAKEN, .ro, .val 0⟩, ⟨F.LNK_TKO_RELAYING, .ro, .val 0⟩, ⟨F.LNK_TKO_TAKE, .wo, .val 0⟩, ⟨F.LNK_TKO_HANDBACK, .wo, .val 0⟩, ⟨F.LNK_TKO_REFUSED, .rw1c, .val 0⟩]⟩,
  ⟨"LNK_TKO_EPOCH_LO", 0x090024, 1, 4, [⟨F.LNK_TKO_EPOCH_LO, .rw, .val 0⟩]⟩,
  ⟨"LNK_TKO_EPOCH_HI", 0x090028, 1, 4, [⟨F.LNK_TKO_EPOCH_HI_EPOCH, .rw, .val 0⟩]⟩,
  ⟨"LNK_TKO_STAT", 0x09002c, 1, 4, [⟨F.LNK_TKO_STAT_TAKEOVERS, .ro, .val 0⟩, ⟨F.LNK_TKO_STAT_HANDBACKS, .ro, .val 0⟩]⟩]

def regRows6 : List RegRow := [
  ⟨"LNK_SPLIT", 0x090030, 1, 4, [⟨F.LNK_SPLIT_SPLITS, .ro, .val 0⟩, ⟨F.LNK_SPLIT_LAST_CHILD, .ro, .val 0⟩, ⟨F.LNK_SPLIT_ACTIVE, .ro, .val 0⟩, ⟨F.LNK_SPLIT_EPOCHS, .rw, .val 4⟩]⟩,
  ⟨"LNK_SPARE", 0x090034, 1, 4, [⟨F.LNK_SPARE_STATE, .ro, .val 0⟩, ⟨F.LNK_SPARE_START, .wo, .val 0⟩, ⟨F.LNK_SPARE_ADMIT, .wo, .val 0⟩, ⟨F.LNK_SPARE_SHADOW_EPOCHS, .rw, .val 0x10⟩, ⟨F.LNK_SPARE_MATCHED, .ro, .val 0⟩, ⟨F.LNK_SPARE_MISMATCHES, .ro, .val 0⟩]⟩,
  ⟨"LNK_SPARE_WORK", 0x090038, 1, 4, [⟨F.LNK_SPARE_WORK_SOURCE, .rw, .val 0⟩]⟩,
  ⟨"LNK_SPARE_CAND", 0x09003c, 1, 4, [⟨F.LNK_SPARE_CAND_SOURCE, .rw, .val 0⟩]⟩,
  ⟨"LNK_TRAY_SEL", 0x090040, 1, 4, [⟨F.LNK_TRAY_SEL_SLOT, .rw, .val 0⟩, ⟨F.LNK_TRAY_SEL_PAGE, .rw, .val 0⟩]⟩,
  ⟨"LNK_TRAY_STAT", 0x090044, 1, 4, [⟨F.LNK_TRAY_STAT_LAST_STATUS, .ro, .val 0⟩, ⟨F.LNK_TRAY_STAT_ERRORS, .ro, .val 0⟩]⟩,
  ⟨"LNK_CTR_CLR", 0x090048, 1, 4, [⟨F.LNK_CTR_CLR_CLR_SVC, .wo, .val 0⟩, ⟨F.LNK_CTR_CLR_CLR_PORT, .wo, .val 0⟩, ⟨F.LNK_CTR_CLR_CLR_MISC, .wo, .val 0⟩]⟩,
  ⟨"LNK_PORT_FUNC", 0x091000, 96, 64, [⟨F.LNK_PORT_FUNC 0, .ro, .image⟩, ⟨F.LNK_PORT_FUNC_SWITCHED 0, .ro, .image⟩, ⟨F.LNK_PORT_FUNC_ENC 0, .ro, .image⟩]⟩,
  ⟨"LNK_PORT_PLAN", 0x091004, 96, 64, [⟨F.LNK_PORT_PLAN_PLAN_PEER 0, .rw, .image⟩, ⟨F.LNK_PORT_PLAN_PLAN_PORT 0, .rw, .image⟩, ⟨F.LNK_PORT_PLAN_PLAN_VALID 0, .rw, .image⟩]⟩,
  ⟨"LNK_PORT_STATE", 0x091008, 96, 64, [⟨F.LNK_PORT_STATE_LSTATE 0, .ro, .val 0⟩, ⟨F.LNK_PORT_STATE_PEER_PORT 0, .ro, .val 0⟩, ⟨F.LNK_PORT_STATE_SWAPPED 0, .ro, .val 0⟩, ⟨F.LNK_PORT_STATE_HEAD_SIDE 0, .ro, .val 0⟩, ⟨F.LNK_PORT_STATE_CHAIN_POS 0, .ro, .val 0xf⟩, ⟨F.LNK_PORT_STATE_DECL 0, .rw, .val 0⟩]⟩,
  ⟨"LNK_PORT_PEER", 0x09100c, 96, 64, [⟨F.LNK_PORT_PEER_PEER_ID 0, .ro, .val 0⟩]⟩,
  ⟨"LNK_PORT_CREDIT", 0x091010, 96, 64, [⟨F.LNK_PORT_CREDIT 0, .ro, .image⟩]⟩,
  ⟨"LNK_PORT_TX", 0x091014, 96, 64, [⟨F.LNK_PORT_TX 0, .ro, .val 0⟩]⟩,
  ⟨"LNK_PORT_RX", 0x091018, 96, 64, [⟨F.LNK_PORT_RX 0, .ro, .val 0⟩]⟩,
  ⟨"LNK_PORT_REPLAY", 0x09101c, 96, 64, [⟨F.LNK_PORT_REPLAY_REPLAYS 0, .ro, .val 0⟩, ⟨F.LNK_PORT_REPLAY_GROUP_ERR 0, .ro, .val 0⟩]⟩,
  ⟨"LNK_PORT_FRAME_ERR", 0x091020, 96, 64, [⟨F.LNK_PORT_FRAME_ERR_ECRC_FAIL 0, .ro, .val 0⟩, ⟨F.LNK_PORT_FRAME_ERR_GCM_FAIL 0, .ro, .val 0⟩, ⟨F.LNK_PORT_FRAME_ERR_HCHK_FAIL 0, .ro, .val 0⟩, ⟨F.LNK_PORT_FRAME_ERR_BODY_FAIL 0, .ro, .val 0⟩]⟩,
  ⟨"LNK_PORT_PREEMPT", 0x091024, 96, 64, [⟨F.LNK_PORT_PREEMPT 0, .ro, .val 0⟩]⟩,
  ⟨"LNK_PORT_CWAIT", 0x091028, 96, 64, [⟨F.LNK_PORT_CWAIT 0, .ro, .val 0⟩]⟩,
  ⟨"LNK_PORT_MISC", 0x09102c, 96, 64, [⟨F.LNK_PORT_MISC_PTP_OTHER 0, .ro, .val 0⟩, ⟨F.LNK_PORT_MISC_BAD_KIND 0, .ro, .val 0⟩, ⟨F.LNK_PORT_MISC_AGED 0, .ro, .val 0⟩, ⟨F.LNK_PORT_MISC_DOWN_COUNT 0, .ro, .val 0⟩]⟩,
  ⟨"BRU_STATUS", 0x0a0000, 1, 4, [⟨F.BRU_STATUS_PHASE, .ro, .val 0⟩, ⟨F.BRU_STATUS_HALT_CAUSE, .ro, .val 0⟩, ⟨F.BRU_STATUS_IMG_CAUSE, .ro, .val 0⟩, ⟨F.BRU_STATUS_TRIM_DEFAULT, .ro, .val 0⟩, ⟨F.BRU_STATUS_FROM_BCAST, .ro, .val 0⟩, ⟨F.BRU_STATUS_HOSTFW_DONE, .ro, .val 0⟩, ⟨F.BRU_STATUS_MO_REFUSED, .rw1c, .val 0⟩]⟩,
  ⟨"BRU_CTRL", 0x0a0004, 1, 4, [⟨F.BRU_CTRL_MARKET_OPEN, .wo, .val 0⟩, ⟨F.BRU_CTRL_WAVES_OFF, .wo, .val 0⟩, ⟨F.BRU_CTRL_WAVES_ON, .wo, .val 0⟩, ⟨F.BRU_CTRL_RETRY, .wo, .val 0⟩, ⟨F.BRU_CTRL_ALERT_EN, .rw, .val 1⟩]⟩,
  ⟨"BRU_DEFECT", 0x0a0008, 1, 4, [⟨F.BRU_DEFECT_ENTRIES, .ro, .fuse⟩, ⟨F.BRU_DEFECT_ROW_MAX, .ro, .fuse⟩, ⟨F.BRU_DEFECT_ROW_OVER, .ro, .fuse⟩, ⟨F.BRU_DEFECT_LINKS_HIDDEN, .ro, .fuse⟩, ⟨F.BRU_DEFECT_IGNORED, .ro, .fuse⟩]⟩,
  ⟨"BRU_BOOT_LO", 0x0a000c, 1, 4, [⟨F.BRU_BOOT_LO, .ro, .fuse⟩]⟩,
  ⟨"BRU_BOOT_HI", 0x0a0010, 1, 4, [⟨F.BRU_BOOT_HI, .ro, .fuse⟩]⟩,
  ⟨"BRU_BOOT_CFG", 0x0a0014, 1, 4, [⟨F.BRU_BOOT_CFG_TRIES, .ro, .fuse⟩, ⟨F.BRU_BOOT_CFG_FALLBACK, .ro, .fuse⟩, ⟨F.BRU_BOOT_CFG_INBAND_EN, .ro, .fuse⟩, ⟨F.BRU_BOOT_CFG_HELD_MS, .ro, .fuse⟩, ⟨F.BRU_BOOT_CFG_BCAST_WAIT_MS, .ro, .fuse⟩]⟩,
  ⟨"BRU_KAT", 0x0a0018, 1, 4, [⟨F.BRU_KAT_PASSED, .ro, .val 0⟩, ⟨F.BRU_KAT_FAILED, .ro, .val 0⟩, ⟨F.BRU_KAT_LAST_TILE, .ro, .val 0⟩]⟩,
  ⟨"BRU_INRUSH", 0x0a001c, 1, 4, [⟨F.BRU_INRUSH_BUDGET, .ro, .image⟩, ⟨F.BRU_INRUSH_PEAK, .ro, .val 0⟩]⟩,
  ⟨"BRU_WAVE_STAT", 0x0a0020, 1, 4, [⟨F.BRU_WAVE_STAT_WAVE, .ro, .val 0⟩, ⟨F.BRU_WAVE_STAT_GATES_ON, .ro, .val 0⟩, ⟨F.BRU_WAVE_STAT_OVER, .ro, .val 0⟩, ⟨F.BRU_WAVE_STAT_TIMEOUTS, .ro, .val 0⟩]⟩,
  ⟨"BRU_RESET", 0x0a0024, 1, 4, [⟨F.BRU_RESET_LAST_CAUSE, .ros, .kept⟩, ⟨F.BRU_RESET_COUNT, .ros, .kept⟩, ⟨F.BRU_RESET_HELD, .ros, .kept⟩]⟩,
  ⟨"BRU_INBAND", 0x0a0028, 1, 4, [⟨F.BRU_INBAND_SEND, .wo, .val 0⟩, ⟨F.BRU_INBAND_BUSY, .ro, .val 0⟩, ⟨F.BRU_INBAND_DONE, .rw1c, .val 0⟩]⟩,
  ⟨"BRU_INBAND_TGT", 0x0a002c, 1, 4, [⟨F.BRU_INBAND_TGT_TARGET, .rw, .val 0⟩, ⟨F.BRU_INBAND_TGT_PORT, .rw, .val 0⟩]⟩,
  ⟨"BRU_INBAND_STAT", 0x0a0030, 1, 4, [⟨F.BRU_INBAND_STAT_ACCEPTED, .ro, .kept⟩, ⟨F.BRU_INBAND_STAT_BAD_MAC, .ro, .kept⟩, ⟨F.BRU_INBAND_STAT_STALE, .ro, .kept⟩, ⟨F.BRU_INBAND_STAT_IGNORED, .ro, .kept⟩]⟩,
  ⟨"BRU_NONCE_LO", 0x0a0034, 1, 4, [⟨F.BRU_NONCE_LO, .ros, .kept⟩]⟩,
  ⟨"BRU_NONCE_HI", 0x0a0038, 1, 4, [⟨F.BRU_NONCE_HI, .ros, .kept⟩]⟩,
  ⟨"BRU_ANSWER_STAT", 0x0a003c, 1, 4, [⟨F.BRU_ANSWER_STAT_ABSENT, .ro, .kept⟩, ⟨F.BRU_ANSWER_STAT_UPDATING, .ro, .kept⟩]⟩,
  ⟨"BRU_RETRY", 0x0a0040, 1, 4, [⟨F.BRU_RETRY, .rw, .kept⟩]⟩,
  ⟨"BRU_CTR_CLR", 0x0a0044, 1, 4, [⟨F.BRU_CTR_CLR_CLR_KAT, .wo, .val 0⟩, ⟨F.BRU_CTR_CLR_CLR_WAVE, .wo, .val 0⟩, ⟨F.BRU_CTR_CLR_CLR_INBAND, .wo, .val 0⟩, ⟨F.BRU_CTR_CLR_CLR_ANSWER, .wo, .val 0⟩]⟩,
  ⟨"BRU_KAT_REQ", 0x0a0048, 1, 4, [⟨F.BRU_KAT_REQ_TILE, .wo, .val 0⟩, ⟨F.BRU_KAT_REQ_RUN, .wo, .val 0⟩, ⟨F.BRU_KAT_REQ_BUSY, .ro, .val 0⟩, ⟨F.BRU_KAT_REQ_PASS, .ro, .val 0⟩]⟩,
  ⟨"BRU_DLY_TRIM", 0x0a0100, 233, 4, [⟨F.BRU_DLY_TRIM_FUSE_CODE 0, .ro, .fuse⟩, ⟨F.BRU_DLY_TRIM_ADD_CODE 0, .rw, .val 0⟩, ⟨F.BRU_DLY_TRIM_EFFECTIVE 0, .ro, .fuse⟩]⟩,
  ⟨"BRU_WAVE", 0x0a0800, 64, 4, [⟨F.BRU_WAVE_VALID 0, .ro, .image⟩, ⟨F.BRU_WAVE_OPTIONAL 0, .ro, .image⟩, ⟨F.BRU_WAVE 0, .ro, .image⟩, ⟨F.BRU_WAVE_INRUSH 0, .ro, .image⟩, ⟨F.BRU_WAVE_SETTLE_US 0, .ro, .image⟩]⟩]

def regRows7 : List RegRow := [
  ⟨"SEC_STATE", 0x0b0000, 1, 4, [⟨F.SEC_STATE_LIFECYCLE, .ro, .fuse⟩, ⟨F.SEC_STATE_DEBUG, .ro, .fuse⟩, ⟨F.SEC_STATE_POWER, .ro, .kept⟩, ⟨F.SEC_STATE_ENDORSED, .ro, .fuse⟩, ⟨F.SEC_STATE_DKEY_VALID, .ro, .kept⟩, ⟨F.SEC_STATE_DKEY_GEN, .ro, .kept⟩]⟩,
  ⟨"SEC_ALIAS_ID", 0x0b0004, 1, 4, [⟨F.SEC_ALIAS_ID, .ro, .image⟩]⟩,
  ⟨"SEC_SERIAL_LO", 0x0b0008, 1, 4, [⟨F.SEC_SERIAL_LO, .ro, .fuse⟩]⟩,
  ⟨"SEC_SERIAL_HI", 0x0b000c, 1, 4, [⟨F.SEC_SERIAL_HI, .ro, .fuse⟩]⟩,
  ⟨"SEC_FLOOR", 0x0b0010, 1, 4, [⟨F.SEC_FLOOR_GEN, .ro, .kept⟩, ⟨F.SEC_FLOOR_FUSE_GEN, .ro, .fuse⟩]⟩,
  ⟨"SEC_FLOOR_SET", 0x0b0014, 1, 4, [⟨F.SEC_FLOOR_SET_GEN, .wo, .val 0⟩]⟩,
  ⟨"SEC_DBG", 0x0b0018, 1, 4, [⟨F.SEC_DBG_LEVEL, .wo, .val 0⟩, ⟨F.SEC_DBG_TOKEN, .wo, .val 0⟩, ⟨F.SEC_DBG_SRC, .rw, .val 0⟩, ⟨F.SEC_DBG_BUSY, .ro, .val 0⟩, ⟨F.SEC_DBG_REFUSED, .rw1c, .val 0⟩]⟩,
  ⟨"SEC_TOKEN_LO", 0x0b001c, 1, 4, [⟨F.SEC_TOKEN_LO, .rw, .val 0⟩]⟩,
  ⟨"SEC_TOKEN_HI", 0x0b0020, 1, 4, [⟨F.SEC_TOKEN_HI, .rw, .val 0⟩]⟩,
  ⟨"SEC_ATT", 0x0b0024, 1, 4, [⟨F.SEC_ATT_GO, .wo, .val 0⟩, ⟨F.SEC_ATT_BUSY, .ro, .val 0⟩, ⟨F.SEC_ATT_DONE, .rw1c, .val 0⟩]⟩,
  ⟨"SEC_ATT_NONCE", 0x0b0028, 4, 4, [⟨F.SEC_ATT_NONCE 0, .rw, .val 0⟩]⟩,
  ⟨"SEC_CTRL", 0x0b0038, 1, 4, [⟨F.SEC_CTRL_PRIV_FROM, .rw, .image⟩, ⟨F.SEC_CTRL_ALERT_EN, .rw, .val 0⟩, ⟨F.SEC_CTRL_LAG, .rw, .val 4⟩]⟩,
  ⟨"SEC_CHAIN_STAT", 0x0b003c, 1, 4, [⟨F.SEC_CHAIN_STAT_GAP, .ro, .val 0⟩, ⟨F.SEC_CHAIN_STAT_HASH_FAIL, .ro, .val 0⟩, ⟨F.SEC_CHAIN_STAT_SIG_FAIL, .ro, .val 0⟩, ⟨F.SEC_CHAIN_STAT_LAG_EXCEEDED, .ro, .val 0⟩]⟩,
  ⟨"SEC_LINK_STAT", 0x0b0040, 1, 4, [⟨F.SEC_LINK_STAT_ATT_FAIL, .ro, .val 0⟩, ⟨F.SEC_LINK_STAT_CLEAR_DROP, .ro, .val 0⟩, ⟨F.SEC_LINK_STAT_PRIV_STRIP, .ro, .val 0⟩, ⟨F.SEC_LINK_STAT_REPLAY, .ro, .val 0⟩]⟩,
  ⟨"SEC_AUTH_STAT", 0x0b0044, 1, 4, [⟨F.SEC_AUTH_STAT_IMAGE, .ro, .val 0⟩, ⟨F.SEC_AUTH_STAT_MODEL, .ro, .val 0⟩, ⟨F.SEC_AUTH_STAT_HOSTFW, .ro, .val 0⟩, ⟨F.SEC_AUTH_STAT_TOKEN, .ro, .val 0⟩]⟩,
  ⟨"SEC_KEY_STAT", 0x0b0048, 1, 4, [⟨F.SEC_KEY_STAT_REKEYS, .ro, .val 0⟩, ⟨F.SEC_KEY_STAT_OPEN_PEERS, .ro, .val 0⟩, ⟨F.SEC_KEY_STAT_UNVERIFIED, .ro, .val 0⟩]⟩,
  ⟨"SEC_CTR_CLR", 0x0b004c, 1, 4, [⟨F.SEC_CTR_CLR_CLR_CHAIN, .wo, .val 0⟩, ⟨F.SEC_CTR_CLR_CLR_LINK, .wo, .val 0⟩, ⟨F.SEC_CTR_CLR_CLR_AUTH, .wo, .val 0⟩, ⟨F.SEC_CTR_CLR_CLR_KEY, .wo, .val 0⟩]⟩,
  ⟨"CON_CTRL", 0x0c0000, 1, 4, [⟨F.CON_CTRL_CKPT, .wo, .val 0⟩, ⟨F.CON_CTRL_RESTORE, .wo, .val 0⟩, ⟨F.CON_CTRL_ABORT, .wo, .val 0⟩, ⟨F.CON_CTRL_STEP_MODE, .rw, .val 0⟩, ⟨F.CON_CTRL_ALERT_EN, .rw, .val 0⟩]⟩,
  ⟨"CON_CKPT_ADDR_LO", 0x0c0004, 1, 4, [⟨F.CON_CKPT_ADDR_LO, .rw, .val 0⟩]⟩,
  ⟨"CON_CKPT_ADDR_HI", 0x0c0008, 1, 4, [⟨F.CON_CKPT_ADDR_HI, .rw, .val 0⟩]⟩,
  ⟨"CON_CKPT_LEN", 0x0c000c, 1, 4, [⟨F.CON_CKPT_LEN_LEN_KIB, .rw, .val 0⟩]⟩,
  ⟨"CON_CKPT_EPOCH_LO", 0x0c0010, 1, 4, [⟨F.CON_CKPT_EPOCH_LO, .rw, .val 0⟩]⟩,
  ⟨"CON_CKPT_EPOCH_HI", 0x0c0014, 1, 4, [⟨F.CON_CKPT_EPOCH_HI_EPOCH, .rw, .val 0⟩]⟩,
  ⟨"CON_CKPT_STAT", 0x0c0018, 1, 4, [⟨F.CON_CKPT_STAT_STATE, .ro, .val 0⟩, ⟨F.CON_CKPT_STAT_LAST_CAUSE, .ro, .val 0⟩, ⟨F.CON_CKPT_STAT_CKPTS, .ro, .val 0⟩, ⟨F.CON_CKPT_STAT_ABANDONS, .ro, .val 0⟩, ⟨F.CON_CKPT_STAT_HOLD_MAX_US, .ro, .val 0⟩]⟩,
  ⟨"CON_RST_STAT", 0x0c001c, 1, 4, [⟨F.CON_RST_STAT_STATE, .ro, .val 0⟩, ⟨F.CON_RST_STAT_REJECT, .ro, .val 0⟩, ⟨F.CON_RST_STAT_SKIPPED, .ro, .val 0⟩, ⟨F.CON_RST_STAT_RESTORES, .ro, .val 0⟩]⟩,
  ⟨"CON_FI_CTRL", 0x0c0020, 1, 4, [⟨F.CON_FI_CTRL_ARM, .wo, .val 0⟩, ⟨F.CON_FI_CTRL_DISARM, .wo, .val 0⟩, ⟨F.CON_FI_CTRL_ARMED, .ro, .val 0⟩, ⟨F.CON_FI_CTRL_REFUSED, .rw1c, .val 0⟩, ⟨F.CON_FI_CTRL_NEXT, .ro, .val 0⟩]⟩,
  ⟨"CON_FI_STAT", 0x0c0024, 1, 4, [⟨F.CON_FI_STAT_INJECTED, .ro, .val 0⟩, ⟨F.CON_FI_STAT_SKIPPED, .ro, .val 0⟩, ⟨F.CON_FI_STAT_OVER_BOUND, .ro, .val 0⟩]⟩,
  ⟨"CON_KSK_STAT", 0x0c0028, 1, 4, [⟨F.CON_KSK_STAT_READY, .wo, .val 0⟩, ⟨F.CON_KSK_STAT_START_US, .rw, .val 0xc8⟩, ⟨F.CON_KSK_STAT_MISMATCHES, .ro, .val 0⟩]⟩,
  ⟨"CON_FI_A", 0x0c0100, 16, 16, [⟨F.CON_FI_A 0, .rw, .val 0⟩]⟩,
  ⟨"CON_FI_B", 0x0c0104, 16, 16, [⟨F.CON_FI_B_EPOCH_HI 0, .rw, .val 0⟩, ⟨F.CON_FI_B_CLASS 0, .rw, .val 0⟩, ⟨F.CON_FI_B_VALID 0, .rw, .val 0⟩]⟩,
  ⟨"CON_FI_C", 0x0c0108, 16, 16, [⟨F.CON_FI_C_OFFSET_US 0, .rw, .val 0⟩, ⟨F.CON_FI_C_TARGET 0, .rw, .val 0⟩]⟩,
  ⟨"CON_FI_D", 0x0c010c, 16, 16, [⟨F.CON_FI_D_DURATION_US 0, .rw, .val 0⟩]⟩,
  ⟨"KSK_H2K", 0x0d0000, 8, 4, [⟨F.KSK_H2K 0, .rw, .val 0⟩]⟩,
  ⟨"KSK_K2H", 0x0d0020, 8, 4, [⟨F.KSK_K2H 0, .rw, .val 0⟩]⟩,
  ⟨"KSK_MBOX", 0x0d0040, 1, 4, [⟨F.KSK_MBOX_H2K_POST, .wo, .val 0⟩, ⟨F.KSK_MBOX_H2K_FULL, .ro, .val 0⟩, ⟨F.KSK_MBOX_H2K_TAKEN, .wo, .val 0⟩, ⟨F.KSK_MBOX_H2K_OVR, .rw1c, .val 0⟩, ⟨F.KSK_MBOX_K2H_POST, .wo, .val 0⟩, ⟨F.KSK_MBOX_K2H_FULL, .rw1c, .val 0⟩]⟩,
  ⟨"CTR_VALUE_LO", 0x200000, 131072, 16, [⟨F.CTR_VALUE_LO 0, .ro, .val 0⟩]⟩,
  ⟨"CTR_VALUE_HI", 0x200004, 131072, 16, [⟨F.CTR_VALUE_HI 0, .ro, .val 0⟩]⟩,
  ⟨"CTR_TS", 0x200008, 131072, 16, [⟨F.CTR_TS 0, .ro, .val 0⟩]⟩,
  ⟨"CTR_STAT", 0x20000c, 131072, 16, [⟨F.CTR_STAT_GEN 0, .ro, .val 0⟩, ⟨F.CTR_STAT_LAST_STATUS 0, .ro, .val 0⟩, ⟨F.CTR_STAT_FLAGS 0, .ro, .val 0⟩]⟩,
  ⟨"MAP_A", 0x400000, 131072, 8, [⟨F.MAP_A_EVENT 0, .rw, .image⟩, ⟨F.MAP_A_GEN 0, .rw, .image⟩, ⟨F.MAP_A_MODE 0, .ro, .image⟩, ⟨F.MAP_A_RATE 0, .ro, .image⟩, ⟨F.MAP_A_BRACKET 0, .ro, .image⟩, ⟨F.MAP_A_PRESENT 0, .ro, .image⟩]⟩]

def regRows8 : List RegRow := [
  ⟨"MAP_B", 0x400004, 131072, 8, [⟨F.MAP_B_OWNER 0, .ro, .image⟩, ⟨F.MAP_B_SHARED 0, .ro, .image⟩]⟩,
  ⟨"CAT_A", 0x500000, 1024, 16, [⟨F.CAT_A_KIND 0, .ro, .image⟩, ⟨F.CAT_A_IN_FMT 0, .ro, .image⟩, ⟨F.CAT_A_FRAC 0, .ro, .image⟩, ⟨F.CAT_A_HIST 0, .ro, .image⟩, ⟨F.CAT_A_EXTREMES 0, .ro, .image⟩, ⟨F.CAT_A_OWNER 0, .ro, .image⟩, ⟨F.CAT_A_SHARED 0, .ro, .image⟩, ⟨F.CAT_A_PROFILE 0, .ro, .image⟩]⟩,
  ⟨"CAT_B", 0x500004, 1024, 16, [⟨F.CAT_B_WIN_LO 0, .ro, .image⟩, ⟨F.CAT_B_WIN_HI 0, .ro, .image⟩, ⟨F.CAT_B_SELECT 0, .ro, .image⟩]⟩,
  ⟨"CAT_C", 0x500008, 1024, 16, [⟨F.CAT_C_STRAG 0, .ro, .image⟩, ⟨F.CAT_C_SIDE 0, .ro, .image⟩, ⟨F.CAT_C_REF 0, .ro, .image⟩, ⟨F.CAT_C_THRESH 0, .ro, .image⟩, ⟨F.CAT_C_WINDOW 0, .ro, .image⟩, ⟨F.CAT_C_NEED 0, .ro, .image⟩, ⟨F.CAT_C_DRIFT 0, .ro, .image⟩, ⟨F.CAT_C_TOPK 0, .ro, .image⟩]⟩,
  ⟨"CAT_D", 0x50000c, 1024, 16, [⟨F.CAT_D_PARAM_A 0, .ro, .image⟩, ⟨F.CAT_D_PARAM_B 0, .ro, .image⟩]⟩,
  ⟨"CHILD_A", 0x530000, 384, 16, [⟨F.CHILD_A_PORT_A 0, .rw, .image⟩, ⟨F.CHILD_A_PORT_B 0, .rw, .image⟩, ⟨F.CHILD_A_TYPE 0, .rw, .image⟩, ⟨F.CHILD_A_EXCLUDED 0, .rw, .image⟩]⟩,
  ⟨"CHILD_B", 0x530004, 384, 16, [⟨F.CHILD_B_CHILD_ID 0, .rw, .image⟩]⟩,
  ⟨"CHILD_C", 0x530008, 384, 16, [⟨F.CHILD_C_EXPECTED 0, .rw, .image⟩, ⟨F.CHILD_C_SLOT_BASE 0, .rw, .image⟩]⟩,
  ⟨"CHILD_D", 0x53000c, 384, 16, [⟨F.CHILD_D_STATE 0, .ro, .val 0⟩, ⟨F.CHILD_D_LATE_COUNT 0, .ro, .val 0⟩]⟩,
  ⟨"SLOT_CFG", 0x550000, 256, 32, [⟨F.SLOT_CFG_STATE 0, .ro, .val 0⟩, ⟨F.SLOT_CFG_ROW_KIND 0, .ro, .val 0⟩, ⟨F.SLOT_CFG_ENGINE 0, .ro, .val 0⟩, ⟨F.SLOT_CFG_OWNER 0, .ro, .val 0⟩, ⟨F.SLOT_CFG_K_MINUS_1 0, .ro, .val 0⟩]⟩,
  ⟨"SLOT_ID", 0x550004, 256, 32, [⟨F.SLOT_ID 0, .ro, .val 0⟩]⟩,
  ⟨"SLOT_VER", 0x550008, 256, 32, [⟨F.SLOT_VER 0, .ro, .val 0⟩]⟩,
  ⟨"SLOT_OTHER", 0x55000c, 256, 32, [⟨F.SLOT_OTHER 0, .ro, .val 0⟩]⟩,
  ⟨"SLOT_KIB", 0x550010, 256, 32, [⟨F.SLOT_KIB_STORE_KIB 0, .ro, .val 0⟩, ⟨F.SLOT_KIB_OTHER_KIB 0, .ro, .val 0⟩]⟩,
  ⟨"SLOT_SCORE", 0x550014, 256, 32, [⟨F.SLOT_SCORE_LAST_10NS 0, .ro, .val 0⟩, ⟨F.SLOT_SCORE_OVERRUNS 0, .ro, .val 0⟩]⟩,
  ⟨"SLOT_ALARMS", 0x550018, 256, 32, [⟨F.SLOT_ALARMS 0, .ro, .val 0⟩]⟩,
  ⟨"DRIFT_CFG", 0x560000, 512, 32, [⟨F.DRIFT_CFG_TYPE 0, .ro, .image⟩, ⟨F.DRIFT_CFG_SIDE 0, .ro, .image⟩, ⟨F.DRIFT_CFG_PER_EPOCH 0, .ro, .image⟩, ⟨F.DRIFT_CFG_SRC_KIND 0, .ro, .image⟩, ⟨F.DRIFT_CFG_SRC 0, .ro, .image⟩, ⟨F.DRIFT_CFG_MODEL 0, .ro, .image⟩]⟩,
  ⟨"DRIFT_PARAM", 0x560004, 512, 32, [⟨F.DRIFT_PARAM_PARAM_A 0, .ro, .image⟩, ⟨F.DRIFT_PARAM_PARAM_B 0, .ro, .image⟩]⟩,
  ⟨"DRIFT_S", 0x560008, 512, 32, [⟨F.DRIFT_S 0, .ro, .val 0⟩]⟩,
  ⟨"DRIFT_M", 0x56000c, 512, 32, [⟨F.DRIFT_M 0, .ro, .val 0⟩]⟩,
  ⟨"DRIFT_CTL", 0x560010, 512, 32, [⟨F.DRIFT_CTL_DRIFTING 0, .ro, .val 0⟩, ⟨F.DRIFT_CTL_RESET 0, .wo, .val 0⟩]⟩,
  ⟨"DRIFT_MU", 0x560014, 512, 32, [⟨F.DRIFT_MU 0, .ro, .image⟩]⟩,
  ⟨"DRIFT_INV", 0x560018, 512, 32, [⟨F.DRIFT_INV 0, .ro, .image⟩]⟩,
  ⟨"QUOTA", 0x570000, 4096, 4, [⟨F.QUOTA_MAX_SLOTS 0, .rw, .image⟩, ⟨F.QUOTA_MAX_KIB 0, .rw, .image⟩]⟩,
  ⟨"HTILE_STATE", 0x590000, 4096, 16, [⟨F.HTILE_STATE 0, .ro, .val 0⟩, ⟨F.HTILE_STATE_SCORE 0, .ro, .val 0⟩]⟩,
  ⟨"HTILE_DUP", 0x590004, 4096, 16, [⟨F.HTILE_DUP_DUP_MISMATCH 0, .ro, .val 0⟩, ⟨F.HTILE_DUP_MISSED 0, .ro, .val 0⟩]⟩,
  ⟨"HTILE_POISON", 0x590008, 4096, 16, [⟨F.HTILE_POISON 0, .ro, .val 0⟩, ⟨F.HTILE_POISON_CHECK_FAIL 0, .ro, .val 0⟩]⟩,
  ⟨"HTILE_NAN", 0x59000c, 4096, 16, [⟨F.HTILE_NAN_NAN_REPORTS 0, .ro, .val 0⟩, ⟨F.HTILE_NAN_FT_PASS 0, .ro, .val 0⟩, ⟨F.HTILE_NAN_FT_FAIL 0, .ro, .val 0⟩]⟩,
  ⟨"GRANT", 0x5c0000, 4096, 4, [⟨F.GRANT_TALLY 0, .rw, .image⟩, ⟨F.GRANT_SCALES 0, .rw, .image⟩, ⟨F.GRANT_CONTROL 0, .rw, .image⟩]⟩]

/-- The whole map, in address order (R479). -/
def regTable : List RegRow := regRows0 ++ regRows1 ++ regRows2 ++ regRows3 ++ regRows4 ++ regRows5 ++ regRows6 ++ regRows7 ++ regRows8

end Sys2Proof.Machine
end

