-- ==== Sys2Proof/Machine/RegFile.lean ====
section
/-! DEFINITION. The register file as data: a list of (address, word) pairs, addresses strictly rising, no zero word listed (an
unlisted word reads 0); reading and writing one word; the masks of a word's access codes (R6); what a reset sets (R7). -/

namespace Sys2Proof.Machine

/-- Register words by byte address; a word that is not listed is 0. -/
abbrev Regs := List (Nat × Word)

/-- One word of the register file. Log entry 7 (DESIGN CHOICE). -/
def regRead : Regs → Nat → Word
  | [], _ => 0
  | (k, v) :: rest, a => if k = a then v else regRead rest a

/-- The file with every pair of an address taken out. -/
def regErase : Regs → Nat → Regs
  | [], _ => []
  | (k, v) :: rest, a => if k = a then regErase rest a else (k, v) :: regErase rest a

/-- Insertion in address order. -/
def regInsert : Regs → Nat → Word → Regs
  | [], a, v => [(a, v)]
  | (k, w) :: rest, a, v => if a < k then (a, v) :: (k, w) :: rest else (k, w) :: regInsert rest a v

/-- The file with one word written; a zero word is not listed. Log entry 7 (DESIGN CHOICE). -/
def regWrite (m : Regs) (a : Nat) (v : Word) : Regs :=
  if v = 0 then regErase m a else regInsert (regErase m a) a v

/-- The canonical form: addresses strictly rising and no zero word. Log entry 7 (DESIGN CHOICE). -/
def regCanon : Regs → Bool
  | [] => true
  | [(_, v)] => v != 0
  | (a, v) :: (b, w) :: rest => v != 0 && decide (a < b) && regCanon ((b, w) :: rest)

/-- The row of the map that holds an address, if any (R479). -/
def regRow (a : Nat) : Option RegRow :=
  regTable.find? fun r => r.base ≤ a && a < r.base + r.count * r.stride && (a - r.base) % r.stride = 0

/-- The bits of a word whose access code satisfies `p`. -/
def accMask (p : Acc → Bool) (fs : List RegField) : Word :=
  fs.foldl (fun m f => if p f.acc then m ||| f.fld.mask else m) 0

/-- The access-code masks of the word at an address: RW bits. -/
def rwMask (a : Nat) : Word := match regRow a with
  | some r => accMask (· = .rw) r.fields
  | none => 0

/-- RW1C bits of the word at an address. -/
def rw1cMask (a : Nat) : Word := match regRow a with
  | some r => accMask (· = .rw1c) r.fields
  | none => 0

/-- WO bits of the word at an address; they read 0 (R6). -/
def woMask (a : Nat) : Word := match regRow a with
  | some r => accMask (· = .wo) r.fields
  | none => 0

/-- What a write of `w` leaves in a word that held `old`: RW bits take the written value, RW1C bits written 1 clear, every
other bit keeps its value (R6). -/
def mergeWrite (a : Nat) (old w : Word) : Word :=
  let rw := rwMask a
  (old &&& ~~~rw &&& ~~~(rw1cMask a &&& w)) ||| (w &&& rw)

/-- The value that a row's fields take at a reset: constants from the Reset column, everything else 0 (R7). -/
def resetWord (fs : List RegField) : Word :=
  fs.foldl (fun w f => match f.rst with
    | .val v => f.fld.put w v
    | _ => w) 0

/-- The bits of a row that keep their value through RESET_N (R7: ROS fields and Reset entries "—"); fields loaded from fuses stand until the
next fuse load. Log entry 96 (DEDUCED). -/
def keptMask (fs : List RegField) : Word :=
  fs.foldl (fun m f => if f.rst = .kept || f.rst = .fuse then m ||| f.fld.mask else m) 0

/-- The count of an array's words that the build has: Link ports and lanes as synthesised (R34, R67, R103, R369). -/
def synthCount (b : Build) (r : RegRow) : Nat :=
  if (0x091000 ≤ r.base && r.base < 0x092800) || (0x011000 ≤ r.base && r.base < 0x011600) then b.ports
  else if 0x000100 ≤ r.base && r.base < 0x000500 then b.lanes
  else r.count

/-- The words that a reset sets to a constant that is not 0. -/
def resetConsts (b : Build) : List (Nat × Word) :=
  regTable.flatMap fun r =>
    let w := resetWord r.fields
    if w = 0 then [] else (List.range (synthCount b r)).map fun i => (r.base + r.stride * i, w)

/-- The register file after RESET_N: the kept bits of the old file, and the constants of the Reset column. Log entries 6 (DESIGN CHOICE), 96 (DEDUCED). -/
def resetRegs (b : Build) (old : Regs) : Regs :=
  let kept := old.foldl (fun m p =>
    match regRow p.1 with
    | some r => regWrite m p.1 (p.2 &&& keptMask r.fields)
    | none => m) []
  (resetConsts b).foldl (fun m p => regWrite m p.1 (regRead m p.1 ||| p.2)) kept

end Sys2Proof.Machine
end

