-- ==== Sys2Proof/Machine/TypesA.lean ====
section
/-! DEFINITION. Parts of the state, first file: the host ports, the Ledger, the links, the sessions and keys, bring-up and power. -/

namespace Sys2Proof.Machine

/-! ### Host ports -/

/-- What a Boot Read Port fetch is for (R43, R374, R232, R267, R328, R420, R450). -/
inductive JobKind where
  | bringupImage
  | stageImage
  | model (slot : Nat)
  | token
  | descriptor (stream : Nat)
  | dump
  | restore
  | hostFirmware
deriving DecidableEq, Repr

/-- One fetch through the Boot Read Port: the next address, the bytes still wanted, the bytes fetched, and whether the length
is still to be taken from the header. -/
structure Job where
  kind : JobKind
  addr : Nat
  want : Nat
  got : Bytes
  sized : Bool
deriving DecidableEq, Repr

/-- Who asked for a Host Memory Port write. -/
inductive HOwner where
  | frame (stream : Nat)
  | writeback (stream : Nat)
  | plan
  | firmware
  | checkpoint
  | dropped             -- given up by the stream that asked for it, and still at the port
deriving DecidableEq, Repr

/-- A 64-byte write waiting at the Host Memory Port (R37). -/
structure HWrite where
  addr : Nat
  data : Bytes
  owner : HOwner
  last : Bool
deriving DecidableEq, Repr

/-- The response code of a register access (R46). -/
inductive Resp where
  | ok | decode | denied | retry
deriving DecidableEq, Repr

/-- The last answer at the register arbiter: for whom, the code, and the data read. -/
structure Answer where
  src : Src
  resp : Resp
  data : Word
deriving DecidableEq, Repr

/-- A capture of R70 held for one access source: the first word's address and the words captured. -/
structure Capture where
  src : Src
  base : Nat
  words : List Word
deriving DecidableEq, Repr

/-- The host side of the block: pins, the ports' queues and the shadows of captured reads. -/
structure PortSt where
  powered : Bool            -- supply present (R468)
  resetLow : Bool           -- RESET_N asserted
  inReset : Bool            -- the block is held in reset, by the pin or by an in-band reset
  bootSel : Bool            -- BOOT_SEL as last sampled (R374)
  bootSampled : Bool        -- BOOT_SEL has been sampled since power-up
  resetAt : Nat             -- stamp of the current assertion
  alertN : Bool             -- true: ALERT_N asserted (R39)
  answer : Option Answer
  captures : List Capture
  jobs : List Job
  bootStalled : Bool        -- a Boot Read Port handshake is held open past its timeout
  hwrites : List HWrite
  gateHeld : Bool           -- the issue gate's req waits for ack
  gateAcks : Nat            -- acks given on the issue gate since reset
  tdo : Bool                -- the TDO pin (R60)
  tap : Nat                 -- IEEE 1149.1 controller state
  tapIr : Option Nat        -- the instruction last updated; none: the one that reset selects, IDCODE
  tapDr : List Bool         -- the register between TDI and TDO, the bit next to TDO first
  tapUpd : List Bool        -- the boundary cells last updated
  stallSub : List (Nat × Nat)  -- stalled initiator handshakes: port group bit, channel
deriving DecidableEq, Repr

/-! ### The Ledger -/

/-- An event on its way into the Ledger (R284). -/
structure LEvt where
  cls : Nat
  detail : Nat
  subj : Nat
  val : Nat
  at_ : Nat                 -- full time in ns
deriving DecidableEq, Repr

/-- A Ledger entry (R290); `last` is the full time of the last occurrence. -/
structure LEntry where
  seq : Nat
  pos : Nat
  cls : Nat
  detail : Nat
  isOpen : Bool
  flags : Nat
  first : Nat
  last : Nat
  repeats : Nat
  subj : Nat
  vmin : Nat
  vmax : Nat
deriving DecidableEq, Repr

/-- The shadow tally of an open slot (R288). -/
structure LShadow where
  count : Nat
  last : Nat
  vmin : Nat
  vmax : Nat
deriving DecidableEq, Repr

/-- A slot of the open table. -/
structure LSlot where
  ent : LEntry
  shadow : LShadow
  closing : Bool
deriving DecidableEq, Repr

/-- A line of the class table (R291). -/
structure LLine where
  cls : Nat
  total : Nat
  first : Nat
  last : Nat
  entries : Nat
  lost : Nat
  vmin : Nat
  vmax : Nat
  gaps : List Nat
deriving DecidableEq, Repr

/-- The Ledger tile. -/
structure LedSt where
  held : List LEvt          -- one event per class waiting for the fold stage (R289)
  queue : List LEvt
  slots : List LSlot
  due : List Nat            -- SEQ of the open entries whose write has fallen due, in order (R287)
  writing : Option LEntry   -- the image of the entry whose write and read-back are in progress
  sram : List (Nat × LEntry)
  lines : List LLine
  mirror0 : Option LEntry
  mirror1 : Option LEntry
  retired : List Nat
  seq : Nat                 -- LED_SEQ.NEXT
  wptr : Nat                -- LED_WPTR
  wrapped : Bool
  state : Nat               -- LED_STATE.STATE
  loss : Option (Nat × Nat) -- class of the first event lost and its time, still to be recorded (R289)
  keepSet : Bool
  noticeEpoch : Option Nat  -- epoch in which a notice last went
  noticeDue : Option (Nat × Nat × Nat) -- a fault not yet told: its time, its epoch and the position
deriving DecidableEq, Repr

/-! ### Links -/

/-- A frame waiting to be sent (R342, R348). -/
structure Frame where
  cls : Nat
  destKind : Nat
  dest : Nat
  enc : Bool
  bytes : Bytes
  since : Nat
deriving DecidableEq, Repr

/-- The link layer of one port (R339 to R347). -/
structure LinkSt where
  port : Nat
  txq : List Frame
  cur : List (Nat × List Bytes)   -- per class, the flits of the frame in progress still to send
  gseq : Nat
  prev : List Bytes               -- payload flits of the group last sent
  wire : List Bytes               -- the group last put on the port
  sentGroups : List (List Bytes)  -- groups not yet acknowledged, oldest first
  resend : List (List Bytes)      -- groups to resend
  fails : Nat                     -- consecutive replays of the same group
  askRetry : Bool
  rxNext : Nat
  rxAck : Nat
  rxHeld : Option (List Bytes)
  rxHeldT : Nat                   -- stamp of the group held
  waiting : Bool                  -- a resend has been asked for and has not come
  rxPart : List (Nat × List Bytes)
  freed : List Nat
  peerFreed : List Nat
  sent : List Nat
  heldReset : Bool                -- the neighbour last sent HELD_RESET (R386)
  heard : Bool                    -- the neighbour's HELLO has come since the link came up
deriving DecidableEq, Repr

/-- One session (R429, R430). -/
structure Sess where
  port : Nat
  peer : Nat
  formed : Bool
  operator : Bool
  keyId : Nat                     -- KEY_ID in force
  nextId : Nat                    -- KEY_ID that the exchange under way will give; KEY_ID when none is
  myNonce : Bytes
  myEph : Nat
  peerNonce : Bytes
  peerEph : Bytes
  txKey : Bytes                   -- key and SALT, 36 bytes
  rxKey : Bytes
  oldRxKey : Bytes                -- the key before a rekey; empty when none is accepted
  oldRxNext : List Nat
  overlap : Bool                  -- a frame under the new key has come: the old one ends 1 ms later
  txCtr : List Nat                -- per class, the count of the next frame sent
  rxNext : List Nat               -- per class, the lowest count accepted
deriving DecidableEq, Repr

/-- A Control request queued at this unit (R350). -/
structure CtlReq where
  port : Nat
  source : Nat
  node : Bool
  stall : Nat
  priv : Bool
  txn : Nat
  write : Bool
  addr : Nat
  data : Word
  deadline : Nat
  at_ : Nat
  enc : Bool
deriving DecidableEq, Repr

/-- A Control request of this unit that awaits its response (R350, R355). -/
structure CtlOut where
  txn : Nat
  src : Src
  tray : Bool
  sent : Nat
deriving DecidableEq, Repr

/-- A broadcast object in the staging area (R356). -/
structure Bcast where
  object : Nat
  total : Nat
  chunks : List (Nat × Bytes)
  port : Nat
deriving DecidableEq, Repr

/-- Links and topology as a whole. -/
structure LnkSt where
  ports : List LinkSt
  sess : List Sess
  seqs : List Nat                 -- SEQ per class (R341)
  ctl : List CtlReq
  out : List CtlOut
  nextTxn : Nat
  bcast : List Bcast
  inbox : List Rx                 -- records delivered by the link layer and not yet acted on
  heartbeat : Option (Nat × Nat)  -- the sibling's last heartbeat: its NODE_ID and LAST_EPOCH
  pgen : Nat                      -- own placement generation (R358)
  pgenSeen : List (Nat × Nat × Nat) -- child key, highest PGEN accepted, the epoch where it first appeared
  tkoPgen : Nat                   -- PGEN last known of the sibling's identity
  ctlLast : Nat                   -- the Stall served last (R350)
  served : Option Nat             -- port of the Control request being served
  endA : Option (Nat × Nat)       -- Chain port on which END = A arrived, with HOPS (R352)
  endB : Option (Nat × Nat)
  aFresh : Bool                   -- END = A has come since END = B last did
  turned : Bool                   -- the upward and time ports are turned toward the tail (R353)
  chains : List (Nat × Nat)       -- what was last reported of a Chain: child, 0 joined, 1 segmented, 2 members isolated
  answers : List (Nat × Nat × Nat × Nat) -- HUB_PORT, END, HOPS, SOURCE of the DISC_REPLYs of the round of discovery in progress
  replies : List (Nat × Nat × Nat × Nat) -- HUB_PORT, END, HOPS, SOURCE of the last DISC_REPLY of each place
  splits : List (Nat × Nat × Nat × Bool) -- child, row, epochs of a disagreement, and whether it has been reported
  spareDig : List (Nat × Nat × Nat) -- EPOCH, sender, DIGEST of the shadow admission
  spareEpoch : Option Nat         -- target of an ADMIT
  handback : Option Nat           -- target of a HANDBACK
  candRows : List Bytes           -- shadow feed received for the current epoch
deriving DecidableEq, Repr

/-! ### Security -/

/-- A child's round at a merge point (R426). -/
structure Round where
  key : Nat
  chain : Option Bytes            -- CHAIN last accepted from the child
  recs : List Bytes               -- records of the round so far
  nextSeq : Option Nat
  epoch : Option Nat              -- epoch of the round last checked and accepted
  unverified : Bool
deriving DecidableEq, Repr

/-- A seal waiting for signature verification (R427). -/
structure VerJob where
  key : Nat
  record : Bytes
  round : Nat
deriving DecidableEq, Repr

/-- The Pyrmeide root. -/
structure SecSt where
  mImage : Bytes                  -- SHA-384 of the running image (R416)
  dkeys : List (Nat × Nat × Bytes) -- generations installed or pending: GEN, TARGET_EPOCH, KEY (R433)
  prevChain : Bytes
  round : List Bytes              -- chained records of the current round
  firstSeq : Nat
  headHash : Bytes
  commits : List (Nat × Nat × Bytes) -- child rounds checked and merged: EPOCH, key, CHAIN (R425)
  rounds : List Round
  verify : List VerJob
  roundNo : Nat
  aliasCache : List (Nat × Bytes)
  devCache : List Bytes
  window : Bytes                  -- the attestation record window (R443)
  forming : Option Bytes          -- nonce of an attestation being formed
  tokenLevel : Nat                -- level asked for by a token request
  token : Option Bytes            -- a fetched token, not yet checked
  notAfter : Option Nat           -- epoch at which the debug level falls (R420)
deriving DecidableEq, Repr

/-! ### The Crier -/

/-- The Crier's counts within an epoch and the alarms it has forwarded (R243, R244). -/
structure CrierSt where
  own : Nat                       -- own alarms sent in the epoch in progress
  suppressed : Nat                -- own alarms suppressed in it
  closedSuppressed : Nat          -- and in the epoch that waits for its seal
  seen : List (Nat × Nat)         -- identity of a forwarded alarm and the epoch of its forwarding
deriving DecidableEq, Repr

/-! ### Bring-up, power, service state -/

/-- One wave gate in motion (R376). -/
structure Gate where
  gate : Nat
  charged : Bool                  -- its INRUSH counts against the budget
  acked : Bool
  req : Bool
  settled : Bool
  timedOut : Bool
  ackNs : Nat                     -- when its ack rose
deriving DecidableEq, Repr

/-- Bring-up, service and power state that no register holds. -/
structure BruSt where
  fuse : List (Nat × Word)        -- fuse words read, by word address
  fuseNext : Option Nat           -- the fuse word whose read is outstanding
  fuseGot : Option Nat            -- the last word read in this pass of FUSE
  lastId : Nat                    -- the identity that the last image gave, kept while none is loaded
  tries : Nat
  haltPhase : Nat
  gates : List Gate
  wavesUp : Bool
  wavesDown : Bool
  marketWanted : Bool
  opened : Bool                   -- market open occurred; SERVICE follows at the boundary
  hidden : List Nat               -- crossbar tiles hidden (R16, R372, R375)
  hung : List Nat                 -- crossbar tiles isolated (R17)
  moves : List (Nat × Nat)        -- failed tile and the spare that takes over at the next boundary (R18)
  katTile : Option Nat
  fromBringup : Bool              -- TEST was entered from BRING-UP
  resentTo : Nat                  -- newest epoch resent at the last RESET_NOTICE from above (R387)
  recDone : Bool                  -- recovery action complete, SERVICE at the next boundary
  dueRec : Bool                   -- a boundary has passed since: SERVICE follows at the seal of the epoch it closed (R25)
  dueOpen : Bool                  -- the same for market open
  duePend : Bool                  -- and for the pending request
  recEpochs : Nat                 -- whole epochs run since the restored version took force
  inbandCount : Nat               -- low 16 bits of the NONCEs sent
  inbandDue : Bool                -- a 1 µs in-band assertion is in force
  notice : Nat                    -- CAUSE that RESET_NOTICE carries at the next link-up, plus 1; 0 = none
  noticePorts : List Nat          -- ports that have had their RESET_NOTICE
  powEpoch : Nat                  -- epoch of the pending power request (R468)
  powNs : Nat                     -- and its time, ns
  grants : List (Nat × Nat)       -- the route last granted by round robin on a lane (R10)
  faults : List Nat               -- tiles declared hung in the epoch in progress (R18)
  holdRun : Bool                  -- HOLD to RUN: RUN follows at the boundary after QUIET
  fwObject : Option (Nat × Nat × Nat) -- HOSTFW: OBJECT, host address, length
  phaseAt : Nat
deriving DecidableEq, Repr

end Sys2Proof.Machine
end

