-- ==== Sys2Proof/Machine/TypesB.lean ====
section
/-! DEFINITION. Parts of the state, second file: time, the Cadence and PULSE_OUT. -/

namespace Sys2Proof.Machine

/-- A peer-delay exchange in progress on a port; stamps in 2⁻¹⁶ ns (R75). -/
structure Pdelay where
  port : Nat
  seq : Nat
  t1 : Int
  t2 : Option Int
  t4 : Int
deriving DecidableEq, Repr

/-- The last Sync accepted or heard on a ranked upstream port (R83). -/
structure Heard where
  port : Nat
  at_ : Nat                 -- ns
  rank : Nat
  source : Nat
deriving DecidableEq, Repr

/-- A PULSE_OUT channel's latched schedule (R93). -/
structure Pulse where
  armed : Bool
  start : Nat
  period : Nat
  width : Nat
  count : Nat
  epochMode : Bool
  next : Option Nat         -- the next leading edge, ns
  fired : Nat
  trailing : Option Nat     -- the trailing edge of the pulse in progress, ns
  pin : Bool                -- the pin's level
  stopping : Bool           -- ARM = 0 or a new ARM waits for the trailing edge
  rearm : Bool
deriving DecidableEq, Repr

/-- The closed epoch that waits for its seal (R146), with what its summary says of the epoch (R151). -/
structure Closed where
  epoch : Nat
  openNs : Nat
  closeNs : Nat
  lag : Nat                 -- seal lag in force, µs
  late : Bool               -- TIME_Q bit 3 (R92)
  stepped : Bool            -- a step lengthened or shortened the epoch (R483)
  localEpoch : Bool         -- an epoch of the local Cadence (R89)
  worst : Nat               -- worst servo state (R80)
  svc : Nat                 -- service state at the boundary (R25)
  incomplete : Bool         -- other causes of SFLAGS.INCOMPLETE (R470)
  quiet : Bool              -- the unit was in QUIET or HOLD at the boundary (R467)
  faults : List Nat         -- tiles declared hung in the epoch (R18)
deriving DecidableEq, Repr

/-- The time unit. -/
structure TimSt where
  now : BitVec 112          -- time counter: 64 bits of ns and 48 of fraction (R68)
  epoch : Nat
  openNs : Nat
  nextNs : Nat
  period : Nat              -- period in force, ns
  periodSoon : Option (Nat × Nat) -- boundaries still to pass, and the period that then takes force (R90)
  adopt : Option Nat        -- domain epoch that the next boundary opens (R89)
  epochLate : Bool          -- CADENCE_LATE for the epoch in progress (R92)
  epochStep : Bool
  epochLocal : Bool
  epochBad : Bool           -- the epoch in progress is INCOMPLETE for another cause
  worst : Nat
  lag : Nat                 -- seal lag in force, µs
  closed : Option Closed
  sealedEpoch : Option Nat  -- the last epoch sealed
  sealNs : Nat              -- when it was sealed
  samples : List (Nat × Int)    -- ACQUIRE samples: local time in ns, offset in 2⁻¹⁶ ns
  refusedRun : Nat
  slew : Int                -- TIM_ADJ still to apply, 2⁻⁴⁸ ns
  heard : List Heard
  syncRx : List (Nat × Nat × Int × Int) -- Sync awaiting Follow_Up: port, sequenceId, corrected stamp, correction
  pdelay : List Pdelay
  pdelayRx : List (Nat × Nat × Int)   -- answered requests: port, sequenceId, corrected t3
  ptpSeq : Nat
  pdSeq : Nat
  gmSource : Nat
  gmQuiet : Nat             -- ns of the last Sync of lower rank accepted, or of power-up (R84)
  everSync : Bool           -- any Sync heard since power-up
  usedOpen : Bool           -- a SYNC_IN edge was accepted for the boundary that opened the epoch (R91)
  usedNext : Bool           -- and for the next boundary
  pulled : Option Nat       -- the boundary after the next one, when a pull has moved it
  measured : List Nat       -- ports on which a peer-delay exchange has completed (R75)
  used : List Nat           -- ports used for time since they came UP (R74)
  pulses : List Pulse
  lastSyncTx : Nat          -- when Sync last left
  lastPdTx : Nat            -- when peer-delay exchanges last started
deriving DecidableEq, Repr

/-- An entry of the event catalogue (R398). -/
structure EvtInfo where
  num : Nat
  unit_ : Nat
  sampleOk : Bool
  postOk : Bool
  skidMin : Nat
  skidMax : Nat
  skidUnit : Nat
deriving DecidableEq, Repr

/-- A pipeline of the image (R399). -/
structure Pipe where
  num : Nat
  purpose : Nat
  walkers : Nat
  macs : Nat
  tiles : List Nat
deriving DecidableEq, Repr

/-- A route of the image (R399). -/
structure Route where
  src : Nat
  dst : Nat
  lane : Nat
  alarm : Bool
  pipe : Nat
  rate : Nat
deriving DecidableEq, Repr

/-- A host report field (R398, R308). -/
structure RepField where
  typ : Nat
  field : Nat
  lsb : Nat
  width : Nat
  fmt : Nat
deriving DecidableEq, Repr

/-- What the image in force gives beyond registers and windows (R398). -/
structure ImgTables where
  events : List EvtInfo
  pipes : List Pipe
  routes : List Route
  spares : List (Nat × Nat)
  reports : List RepField
  minMv : Nat
deriving DecidableEq, Repr

/-- Configuration images in service (R403 to R407). -/
structure ImgSt where
  running : Bytes           -- the image in force
  tabs : ImgTables          -- its tables
  fetched : Option Bytes    -- an image whose fetch is complete and whose checks are not
  fetchErr : Bool           -- the fetch ended with a port error response or an incomplete object
  staged : Bytes
  prev : Bytes              -- the image restored when a switch fails
  prevSwitched : Bool       -- FROM_SWITCH of that image
  target : Nat
  built : Bool              -- the new tables stand in shadow
  winClosed : Bool          -- the windows of R406 answer ERR_RETRY
  childClosed : Bool        -- and the child-table window too
deriving DecidableEq, Repr

end Sys2Proof.Machine
end

