-- ==== Sys2Proof/Machine/TypesC.lean ====
section
/-! DEFINITION. Parts of the state, third file: the Tally, Scales and the reduction. -/

namespace Sys2Proof.Machine

/-! ### The Tally -/

/-- An accepted reading: its stamp in 125 ps units, the extended value, and the segment it belongs to (R114, R119). -/
structure Reading where
  t : Nat
  v : Nat
  seg : Nat
deriving DecidableEq, Repr

/-- What the Tally holds of one counter. -/
structure Ctr where
  id : Nat
  ext : Nat                     -- extended value; for MODE 2 the sum of the posts not cancelled
  r1 : Option Reading           -- last accepted reading
  r2 : Option Reading           -- the one before it
  before1 : Option Reading      -- last readings at or before the boundary that waits for its seal
  before2 : Option Reading
  after : Option Reading        -- first reading after that boundary
  later : Nat                   -- MODE 2: sum of the posts stamped at or after that boundary
  vOpen : Option Nat            -- V of the last boundary sealed
  openLater : Bool              -- vOpen belongs to the epoch in progress, not to the one that waits for its seal
  flags : Nat                   -- flags of the epoch in progress (R121)
  flagsOld : Nat                -- flags of the epoch that waits for its seal
  splits : List (Nat × Nat)     -- increments of old events in the epoch in progress: EVENT and increment (R117)
  splitsOld : List (Nat × Nat)
  seg : Nat
  newSeg : Bool                 -- the next accepted reading starts a segment (R116)
  ts : Option Nat               -- stamp of the last accepted reading or post
  gen : Nat
  status : Nat
  mmEpochs : Nat                -- epochs in a row of GEN mismatch (R118)
  mmTold : Bool
  samples : Nat                 -- samples of the epoch in progress (R128)
  samplesOld : Nat
deriving DecidableEq, Repr

/-- A posted entry of a run-ahead ticket (R123). -/
structure RaEntry where
  ctr : Nat
  delta : Nat
  epoch : Nat
  isSealed : Bool               -- the seal of its epoch has passed
  isLater : Bool                -- stamped at or after the boundary that waits for its seal
deriving DecidableEq, Repr

/-- An outstanding run-ahead ticket. -/
structure Ticket where
  num : Nat
  entries : List RaEntry
  age : Nat                     -- boundaries since its first post
deriving DecidableEq, Repr

/-- The increment of a posted counter as a forwarded summary holds it (R126). -/
structure Forwarded where
  ctr : Nat
  epoch : Nat
  inc : Nat
  seq : Nat
  event : Nat
deriving DecidableEq, Repr

/-- The Tally. -/
structure TalSt where
  ctrs : List Ctr
  asked : Option (Nat × Nat)    -- counter addressed on the port, for: 0 the sweep, 1 a bracket pass, 2 a latch pass
  bracket : List Nat            -- counters still to be read in the pre-pass
  post : List Nat               -- counters still to be read in the post-pass under way
  postDue : Bool                -- the post-pass waits for the pre-pass to end
  preDone : Bool                -- the pre-pass for the next boundary has started
  sweepAt : Option Nat          -- where the background pass goes on; none between passes
  passStart : Nat
  latchLeft : List Nat          -- counters still to be read in the latch pass under way (R324)
  latched : List (Nat × Nat × Bool) -- its readings: extended value, stamp, not valid
  tickets : List Ticket
  history : List Forwarded
  held : List (Nat × Word)      -- map writes held until the seal: counter and word +0x0 (R109)
  sampled : Nat                 -- samples accepted in the epoch in progress
  sampledOld : Nat
  lostTickets : Nat             -- tickets discarded by a reset, not yet in the Ledger
  oldMap : Option (List (Nat × Word)) -- the station map of the epoch that waits for its seal, when a switch has replaced it (R118, R406)
  oldCtrs : List Ctr            -- the counters that the switch changed, as they stood at the boundary
deriving DecidableEq, Repr

/-! ### Scales -/

/-- An extreme entry (R145). -/
structure XEnt where
  q : Int
  ts : Nat
  src : Nat
  tag : Nat
deriving DecidableEq, Repr

/-- A metric's section (R153); the histogram holds every code with its count, ascending. -/
structure Sect where
  metric : Nat
  stall : Nat
  flags : Nat
  method : Nat
  skew : Nat
  count : Nat
  sum : Int
  sumsq : Nat
  hi : List XEnt
  lo : List XEnt
  hist : List (Nat × Nat)
deriving DecidableEq, Repr

/-- The Tally's figures of a sealed epoch for the summary head (R151). -/
structure TalFigures where
  stale : Nat
  skewMax : Nat
  skewMean : Nat
deriving DecidableEq, Repr

/-- Scales: the bank in progress, the closing bank, the sums of the last sealed epoch, and the catalogue words of the closing bank when a
switch has replaced them (R148). -/
structure SclSt where
  bank : List Sect
  closing : List Sect
  sums : List Sect
  oldCat : Option (List (Nat × Word))
  oldCatId : Nat
  closingOpen : Nat             -- opening of the closing bank's epoch
deriving DecidableEq, Repr

/-! ### Reduction -/

/-- A summary: its head record and its part records. -/
structure Summary where
  head : Bytes
  parts : List Bytes
deriving DecidableEq, Repr

/-- A child's summary held at a merge point (R166). -/
structure Arrival where
  epoch : Nat
  key : Nat                     -- SOURCE, or NODE_ID + 2^20 for a node
  child : Nat                   -- entry of the child table
  port : Nat
  sum : Summary
  late : Bool                   -- came after the merge of its epoch had started
  ack : Nat × Nat × Nat         -- key, port and SEQ that its acknowledgement names
  bundled : Bool                -- came in a late bundle: EXPECTED has counted it below (R169)
  checked : Bool                -- the seal of its round has passed the checks of R426
  recs : List Bytes             -- the child's round, its seal last, once checked
deriving DecidableEq, Repr

/-- An entry of the child table in use (R178). -/
structure Child where
  idx : Nat
  portA : Nat
  portB : Nat
  typ : Nat
  excl : Bool
  id : Nat
  expected : Nat
  slotBase : Nat
deriving DecidableEq, Repr

/-- An epoch of this unit from its seal on: the figures of its head, and its merge in a merge node (R151, R166 to R169). -/
structure MergeSt where
  epoch : Nat
  openNs : Nat
  closeNs : Nat
  sealNs : Nat
  svc : Nat
  timeQ : Nat
  sflags : Nat
  pgen : Nat
  catId : Nat
  fig : TalFigures
  own : Option (List Sect)      -- the own sections, once taken from the closing bank
  kids : List Child             -- the child table for the epoch (R177)
  ups : List Nat                -- the ranked upward ports for the epoch
  ready : Bool                  -- every EPOCH model has finished, or EPOCH_US has passed (R234)
  childOver : Bool              -- CHILD_US has passed since the start (R234)
  started : Bool
  startNs : Nat
  complete : Bool               -- the merge and the search are done
  sent : Bool                   -- the summary has left
  missing : List Nat            -- child entries missing at the start
  absent : List Nat             -- and those that were ABSENT
  mbits : List Nat              -- tray slots contained (R171)
deriving DecidableEq, Repr

/-- A summary sent and not yet acknowledged: epoch, head SEQ and the records that left with it (R174). -/
structure Retained where
  epoch : Nat
  seq : Nat
  recs : List Bytes
  kids : List (Nat × Nat × Nat) -- children contained: key, port and head SEQ, acknowledged when this one is
  pgen : Nat
deriving DecidableEq, Repr

/-- A source's record in the straggler search: key, metric, history bits (newest lowest), drift state, its minimum or second side,
epochs not PRESENT, and whether it straggles (R182, R184). -/
structure SrcStat where
  src : Nat
  metric : Nat
  hits : Nat
  s : Int
  m : Int
  absentFor : Nat
  strag : Bool
deriving DecidableEq, Repr

/-- A source-value record kept: key, epoch, and its entries METRIC, FLAGS and X (R180). -/
structure SrcVals where
  src : Nat
  epoch : Nat
  entries : List (Nat × Nat × Int)
  fromKey : Nat                 -- child on whose link it came
  late : Bool                   -- came after the merge of its epoch had started
deriving DecidableEq, Repr

/-- An entry of a ranked list (R186). -/
structure Rank where
  src : Nat
  metric : Nat
  z : Int
  drift : Int
  hits : Nat
  cause : Nat
  xcode : Nat
deriving DecidableEq, Repr

/-- The reduction. -/
structure RedSt where
  tbl : Nat                            -- first entry of its child table: 0, or 256 for a takeover's node (R359)
  merges : List MergeSt                -- newest last
  arrivals : List Arrival
  maps : List (Nat × Nat × List Nat)   -- contributor maps: epoch, node, slots (R171)
  lateKeys : List (Nat × Nat)          -- late bundles forwarded: epoch and key
  retained : List Retained
  results : List (Nat × Summary)       -- the root's retained results (R169)
  retr : List (Nat × Bytes)            -- retractions for merges that have not started: epoch and record (R173)
  vals : List SrcVals
  stats : List SrcStat
  fixed : List (Nat × Nat × Int × Int) -- epoch, metric, m and MAD fixed for the epoch (R183)
  refs : List (Nat × Nat × Int × Int)  -- reference record: epoch, metric, MEDIAN, MAD
  lists : List (Nat × List Rank)       -- straggler records received, by epoch
  drlTarget : Option Nat               -- target epoch of a Derailleur commit
  absentKeys : List (Nat × Nat)        -- children that answered ABSENT or UPDATING, or said so: key and epoch
  absentEpochs : List (Nat × Nat)      -- key and epoch that a POWER_NOTICE named (R470)
  barred : List (Nat × Nat)            -- summaries of EXCLUDED children, not merged: child entry and epoch (R362)
  ownWaits : Bool                      -- the own summary of the sealed epoch has not left
  uplinkUsed : Option Nat              -- the upward port last used
deriving DecidableEq, Repr

/-- A second LEVEL 2 node that a takeover runs under the failed node's identity: its own reduction, record chain and PGEN (R359). While a
command acts for it, the fields hold the unit's own. -/
structure TkoSt where
  nodeId : Nat
  pgen : Nat
  seq : Nat
  red : RedSt
  prevChain : Bytes
  round : List Bytes
  firstSeq : Nat
  headHash : Bytes
  commits : List (Nat × Nat × Bytes)
  rounds : List Round
deriving DecidableEq, Repr

end Sys2Proof.Machine
end

