-- ==== Sys2Proof/Machine/TypesD.lean ====
section
/-! DEFINITION. Parts of the state, fourth file: trace capture and Panniers, the inference engine and models in service. -/

namespace Sys2Proof.Machine

/-! ### Trace -/

/-- A packet of the canonical form (R255): channel, stamp in 125 ps units, head and continuation words; or one the block inserted. -/
structure Pkt where
  chan : Nat
  t : Nat
  words : List Nat
  inserted : Bool
deriving DecidableEq, Repr

/-- A block: packets of a TRACE stream or whole records, with the settings it was opened under (R260). -/
structure Block where
  codec : Nat
  level : Nat
  kib : Nat
  stride : Nat
  openedNs : Nat
  pkts : List Pkt
  bytes : Bytes             -- records of a record stream
  flags : Nat               -- BFLAGS so far
deriving DecidableEq, Repr

/-- A Pannier descriptor in use (R267). -/
structure Desc where
  addr : Nat                -- of the descriptor
  raw : Bytes               -- its 64 bytes as read
  used : Nat
  frames : Nat
  firstSeq : Nat
  openTs : Nat
  status : Nat
deriving DecidableEq, Repr

/-- A Pannier stream. -/
structure Pan where
  num : Nat
  block : Option Block          -- the open block
  closed : Option Block         -- a closed block: in the codec, or coded and not yet in host memory
  frame : Option Bytes          -- its frame, once coded
  framePut : Bool               -- the frame's writes are at the Host Memory Port
  desc : Option Desc            -- the buffer in use
  next : Option Bytes           -- the next descriptor as fetched, when the block may fill its buffer
  nextAddr : Option Nat         -- where the next descriptor lies; none: the chain has ended
  ringed : Bool                 -- the ring has come round to HEAD
  backs : List Bool             -- NOTIFY of the descriptor write-backs under way
  closeWanted : Bool            -- a flush asks for the buffer to be written back
  flushWanted : Bool            -- the open block closes as soon as the codec is free
  lastWanted : Bool             -- and as the LAST one
  syncWanted : Bool             -- a sync point waits to be formed
  flushLeft : Nat               -- blocks that a pending flush still waits for
  loss : Bool                   -- LOSS_BEFORE for the next frame
  sinceSync : Nat               -- host packets since the last sync point
  pcs : List (Nat × Nat)        -- last PC of a channel
  origBytes : Nat
  outBytes : Nat
  pollNs : Nat                  -- when WAIT began or was last polled
deriving DecidableEq, Repr

/-- A Trace Ingress channel. -/
structure Chan where
  num : Nat
  fifo : List Pkt               -- accepted, waiting for the stream
  stalled : Option Pkt          -- a packet whose ack is withheld
  stalledNs : Nat
  discarding : Bool             -- discards until the FIFO is half empty (R271)
  lost : Option (Nat × Nat × Nat) -- TS_NS of the first packet dropped, packets, words
deriving DecidableEq, Repr

/-- Trace capture and Panniers. -/
structure TrcSt where
  pans : List Pan
  chans : List Chan
  hits : List Nat               -- matches of each comparator since its last event
  seqBytes : List Nat           -- canonical bytes captured since a sequencer entered its state
  seqPost : List Bool           -- event 6 has been given in this state
  flush : Option (List Nat × Bool) -- streams of a flush that is pending, and CLOSE_BUF
deriving DecidableEq, Repr

/-! ### Inference -/

/-- A row waiting to be scored (R197). -/
structure Row where
  kind : Nat                    -- 0 STREAM, 1 EPOCH, 2 CHILD
  epoch : Nat
  t : Nat                       -- stamp, 125 ps
  formed : Nat                  -- time of forming, ns
  inputs : List (Option Int)
  subject : Nat
  gen : Nat                     -- version in force for its epoch
  late : Bool                   -- formed for a late bundle
deriving DecidableEq, Repr

/-- An alarm's condition for one output and subject: rows in a row that met it, and whether it has been raised (R241). -/
structure HoldRun where
  out : Nat
  subject : Nat
  run : Nat
  raised : Bool
deriving DecidableEq, Repr

/-- A model slot (R224, R237 to R239). Versions are numbered from 1 by the order in which they took force. -/
structure Slot where
  num : Nat
  cur : Option Bytes            -- version in force
  gen : Nat
  since : Nat                   -- first epoch for which it is in force
  next : Option Bytes           -- staged or pending
  target : Option Nat           -- epoch of a pending commit
  unload : Option Nat           -- epoch of a pending unload
  old : Option Bytes            -- retiring
  oldGen : Nat                  -- 0: there was none
  keepUntil : Option Nat        -- last epoch for which KEEP_OLD holds the old version
  resume : Bool
  suspended : Bool
  suspendNext : Bool
  faulted : Bool
  overran : Bool                -- overran in the epoch last sealed
  rows : List Row
  rowSeq : Nat
  runs : List HoldRun
deriving DecidableEq, Repr

/-- The inference engine. -/
structure InfSt where
  slots : List Slot
  fetched : Option (Nat × Bytes × Bool) -- slot, image and fetch error, not yet checked
  last : List (Nat × Int)       -- last value accumulated into the live bank (STAT 5)
  past : List (Nat × List Sect) -- sealed banks of recent epochs, for late CHILD rows (R236)
  budgetOver : Bool             -- the unit overran in the epoch
deriving DecidableEq, Repr

end Sys2Proof.Machine
end

