-- ==== Sys2Proof/Machine/TypesE.lean ====
section
/-! DEFINITION. Parts of the state, fifth file: the services to the host accelerator and continuity. -/

namespace Sys2Proof.Machine

/-! ### Services (spec/11) -/

/-- An open collective (R311). -/
structure Coll where
  coll : Nat
  role : Nat
  peer : Nat
  keyEpoch : Nat
  key : BitVec 64
  digest : BitVec 64
  taps : Nat
  tapDrop : Bool
  age : Nat                 -- boundaries since it opened
deriving DecidableEq, Repr

/-- The plan of an epoch (R314, R315). -/
structure DupPlan where
  epoch : Nat
  logRate : Nat
  tiles : Nat
  key : Bytes               -- the epoch's sampling key
  full : List Nat           -- tiles with every slot selected
  none_ : List Nat          -- tiles with none
  written : Bool            -- its masks and header stand in host memory
  reported : List (Nat × Nat) -- tile and slot with a result
deriving DecidableEq, Repr

/-- A command mark that has started a latch pass or waits for one (R324). -/
structure Mark where
  t : Nat
  epoch : Nat
  seq : Nat
  isEnd : Bool
  queue : Nat
  delayed : Bool
deriving DecidableEq, Repr

/-- A tensor dump under way (R328 to R330). -/
structure Dump where
  tensor : Nat
  step : Nat
  addr : Nat
  total : Nat               -- bytes of the tensor
  hostCrc : Nat
  crcValid : Bool
  held : Bool
  epoch : Nat
  offset : Nat              -- bytes already in chunk records
  chunk : Bytes             -- bytes of the chunk in progress
  chunkNs : Nat             -- time of the first read of the chunk
  crc : BitVec 32           -- CRC-32C register over the bytes read
deriving DecidableEq, Repr

/-- The services. -/
structure SvcSt where
  fifo : List (Byte × Report)
  colls : List Coll
  digs : List (Nat × Nat × Bytes) -- own digest records not yet sent: EPOCH, stamp in ns, bytes 16 to 59 (R312)
  held : List (Bytes × Nat) -- digest records awaiting a pair, and the epoch in which each came (R313)
  plans : List DupPlan
  snap : List Nat × List Nat -- SUSPECT and FAILED tiles when the epoch in progress opened (R315)
  ftq : List Nat            -- field-test requests, oldest first (R319)
  ftAsked : List (Nat × Nat) -- tile and epoch of its last request
  pcs : Nat                 -- PC samples of the epoch
  ops : List (Nat × Nat)    -- live operation table: cell and count
  running : Option Mark
  marks : List Mark         -- queued behind it, up to 4
  tag : Option (Nat × Nat × Nat) -- pending TENSOR_TAG: TENSOR_ID, STEP, address
  dump : Option Dump
  begun : Nat               -- commands whose mark with END = 0 has been stamped since reset (R322)
  broke : Bool              -- the break mark of MODE 2 has been stamped (R321)
deriving DecidableEq, Repr

/-! ### Continuity (spec/16) -/

/-- A checkpoint being copied (R445, R447). -/
structure Copy where
  epoch : Nat
  addr : Nat
  data : Bytes              -- header and sections as frozen at the snapshot instant
  offs : List Nat           -- offset of each section
  put : Nat                 -- bytes handed to the Host Memory Port
  acked : Nat               -- bytes written
  trailer : Bool            -- the trailer has been handed over
  shadow : List Nat         -- pages preserved in free model store
  held : Bool               -- step mode: the issue gate is withheld (R449)
  startNs : Nat
deriving DecidableEq, Repr

/-- An injected fault (R455, R458). -/
structure Inject where
  cls : Nat
  target : Nat
  startNs : Nat
  untilNs : Nat
  active : Bool             -- DURATION_US has not passed
  recovered : Bool          -- its recovery point has been reached
deriving DecidableEq, Repr

/-- The Kiosk pairs at a switch (R453). -/
structure Handoff where
  half : Nat                -- the active half of Kiosk memory
  waiting : List Nat        -- pairs whose new firmware has not written READY
  startNs : Nat
deriving DecidableEq, Repr

/-- Continuity. -/
structure ConSt where
  ckptAt : Option Nat       -- target epoch of a PENDING checkpoint
  copy : Option Copy
  fetched : Option (Bytes × Bool) -- a checkpoint read whole, and whether a port error ended the read
  fiDone : List Nat         -- schedule entries that have fallen due since arming (R455)
  kioskLoad : Bool          -- the model load under way was started by a Kiosk core (R454)
  kioskStage : Bool         -- and the image stage
  kiosk : Handoff
  inject : Option Inject
  failRead : Bool           -- the next Ledger read-back mismatches (R455, CLASS 3)
  sevEpoch : Option Nat     -- epoch of the last Ledger event of SEV 5 or above (R457)
deriving DecidableEq, Repr

end Sys2Proof.Machine
end

