-- ==== Sys2Proof/Machine/State.lean ====
section
/-! DEFINITION. The state of the block, the reasons a step can stop, and the state after reset. -/

namespace Sys2Proof.Machine

/-- Faults. No command of this block raises one: the spec gives every row of the table an effect. The type is kept closed with one
name that nothing answers. -/
inductive Fault where
  /-- Raised by nothing; safe. -/
  | none
deriving DecidableEq, Repr

/-- Refusals. -/
inductive Refusal where
  /-- Answered by `exec` alone, for a command that has no meaning in this model yet; safe, since the machine stops there. -/
  | notModelled (mnemonic : String)
deriving DecidableEq, Repr

/-- The block. -/
structure State where
  /-- The build fixed at synthesis (R1). -/
  build : Build
  /-- Every register and writable window word, by byte address (R479). -/
  regs : Regs
  /-- Copies in force of the words whose writes wait for a boundary or a seal (R132, R155, R191, R219, R332). -/
  inForce : Regs
  /-- Pins, host ports, test port and shadow registers (spec/02). -/
  ports : PortSt
  /-- The Ledger (spec/10). -/
  led : LedSt
  /-- Links and topology (spec/12). -/
  lnk : LnkSt
  /-- The Pyrmeide root (spec/15). -/
  sec : SecSt
  /-- Bring-up, service state and power (spec/01, spec/13, spec/17). -/
  bru : BruSt
  /-- Time and Cadence (spec/03). -/
  tim : TimSt
  /-- Configuration images (spec/14). -/
  img : ImgSt
  /-- The Crier (spec/08). -/
  crier : CrierSt
  /-- The Tally (spec/04). -/
  tal : TalSt
  /-- Scales (spec/05). -/
  scl : SclSt
  /-- The reduction (spec/06). -/
  red : RedSt
  /-- A second LEVEL 2 node under a failed Hub's identity (R359). -/
  tko : Option TkoSt
  /-- Trace capture and Panniers (spec/09). -/
  trc : TrcSt
  /-- The inference engine and its slots (spec/07, spec/08). -/
  inf : InfSt
  /-- Services to the host accelerator (spec/11). -/
  srv : SvcSt
  /-- Continuity (spec/16). -/
  con : ConSt
  /-- The model's own counter, from which free values are taken. -/
  free : Nat
  /-- Commands waiting, first in first out. -/
  pending : List Instr
deriving DecidableEq, Repr

/-! ### Parts as reset leaves them -/

/-- Streams of the build (R277). -/
def streams : Build → Nat
  | .spoke => 8
  | .hub => 64

/-- A stream with nothing open. -/
def newPan (k : Nat) : Pan :=
  ⟨k, none, none, none, false, none, none, none, false, [], false, false, false, false, 0, false, 0, [], 0, 0, 0⟩

/-- A Trace Ingress channel with nothing in it. -/
def newChan (k : Nat) : Chan := ⟨k, [], none, 0, false, none⟩

/-- A PULSE_OUT channel with nothing armed. Log entry 29 (DESIGN CHOICE). -/
def idlePulse : Pulse := ⟨false, 0, 0, 0, 0, false, none, 0, none, false, false, false⟩

/-- A port's link layer before any group. -/
def newLink (p : Nat) : LinkSt :=
  { port := p, txq := [], cur := [], gseq := 0, prev := [], wire := [], sentGroups := [], resend := [], fails := 0, askRetry := false, rxNext := 0,
    rxAck := 2 ^ 32 - 1, rxHeld := none, rxHeldT := 0, waiting := false, rxPart := [], freed := [0, 0, 0, 0, 0], peerFreed := [0, 0, 0, 0, 0],
    sent := [0, 0, 0, 0, 0], heldReset := false, heard := false }

/-- Zero bytes. -/
def zeros (n : Nat) : Bytes := List.replicate n 0

/-- Words that hold build figures (Reset column "build"): BLK_BUILD, INF_CAPS.MAX_DEPTH and INF_STORE.FREE_KIB. Log entry 6 (DESIGN CHOICE). -/
def buildRegs (b : Build) (m : Regs) : Regs :=
  let put (m : Regs) (f : Fld) (v : Nat) : Regs := regWrite m f.addr (f.put (regRead m f.addr) v)
  put (put (put (put (put m F.BLK_BUILD_LANES b.lanes) F.BLK_BUILD_LINK_PORTS b.ports) F.BLK_BUILD_KIOSK_CORES b.kioskCores)
    F.INF_CAPS_MAX_DEPTH 10) F.INF_STORE_FREE_KIB (match b with
      | .spoke => 2048
      | .hub => 32768)

/-- Registers just after power-up: the constants of the Reset columns, the build figures, and what the spec states for fields that
RESET_N keeps: TIM_GM.RANK 7 and TIM_UPSTREAM 0x7F (R83), UP_PORT 0x7F, LAG_US 20 (R484), LED_CFG.KEEP 8,192 (R293), ABSENT_US 5,000
(R395). Log entry 6 (DESIGN CHOICE). -/
def powerRegs (b : Build) : Regs :=
  let put (m : Regs) (f : Fld) (v : Nat) : Regs := regWrite m f.addr (f.put (regRead m f.addr) v)
  let m := buildRegs b (resetRegs b [])
  let m := put (put (put (put (put m F.TIM_GM_RANK 7) F.TIM_UPSTREAM_PORT0 127) F.TIM_UPSTREAM_PORT1 127) F.TIM_UPSTREAM_PORT2 127)
    F.TIM_UPSTREAM_PORT3 127
  put (put (put (put m F.TIM_STATUS_UP_PORT 127) F.TIM_SEAL_LAG_LAG_US 20) F.LED_CFG_KEEP 8192) F.BRU_RETRY 5000

/-- The host side at power-up with RESET_N as given. Log entries 28 (DESIGN CHOICE), 29 (DESIGN CHOICE). -/
def initPorts (resetLow bootSel : Bool) : PortSt :=
  { powered := true, resetLow := resetLow, inReset := resetLow, bootSel := bootSel, bootSampled := false, resetAt := 0, alertN := false,
    answer := none, captures := [], jobs := [], bootStalled := false, hwrites := [], gateHeld := false, gateAcks := 0, tdo := false,
    tap := 0, tapIr := none, tapDr := [], tapUpd := [], stallSub := [] }

/-- The Ledger at power-up: empty, with a class 0x00 event on its way in (R301). Log entry 28 (DESIGN CHOICE). -/
def initLed : LedSt :=
  { held := [⟨0, 0, 0, 0, 0⟩], queue := [], slots := [], due := [], writing := none, sram := [],
    lines := [⟨0, 1, 0, 0, 0, 0, 0, 0, [0, 0, 0, 0, 0, 0, 0]⟩], mirror0 := none, mirror1 := none, retired := [], seq := 0, wptr := 0,
    wrapped := false, state := 0, loss := none, keepSet := false, noticeEpoch := none, noticeDue := none }

/-- Links and topology at power-up. Log entry 28 (DESIGN CHOICE). -/
def initLnk (b : Build) : LnkSt :=
  { ports := (List.range b.ports).map newLink, sess := [], seqs := List.replicate 8 0, ctl := [], out := [], nextTxn := 0, bcast := [],
    inbox := [], heartbeat := none, pgen := 0, pgenSeen := [], tkoPgen := 0, ctlLast := 0, served := none, endA := none, endB := none,
    aFresh := false, turned := false, chains := [], answers := [], replies := [], splits := [], spareDig := [], spareEpoch := none, handback := none, candRows := [] }

/-- The Pyrmeide root at power-up. Log entry 28 (DESIGN CHOICE). -/
def initSec : SecSt :=
  { mImage := zeros 48, dkeys := [], prevChain := zeros 48, round := [], firstSeq := 0, headHash := zeros 48, commits := [], rounds := [],
    verify := [], roundNo := 0, aliasCache := [], devCache := [], window := [], forming := none, tokenLevel := 0, token := none,
    notAfter := none }

/-- Bring-up at power-up: the first fuse word's read is outstanding once RESET_N is released (R371). Log entries 28 (DESIGN CHOICE), 29 (DESIGN CHOICE). -/
def initBru (resetLow : Bool) : BruSt :=
  { fuse := [], fuseNext := if resetLow then none else some 0, fuseGot := none, lastId := 0, tries := 0, haltPhase := 0, gates := [], wavesUp := false,
    wavesDown := false, marketWanted := false, opened := false, hidden := [], hung := [], moves := [], katTile := none,
    fromBringup := false, resentTo := 0, recDone := false, dueRec := false, dueOpen := false, duePend := false, recEpochs := 0, inbandCount := 0, inbandDue := false, notice := 1, noticePorts := [],
    powEpoch := 0, powNs := 0, grants := [], faults := [], holdRun := false, fwObject := none, phaseAt := 0 }

/-- Time at power-up: the counter at 0 (R69), a local Cadence whose epoch 0 opened at 0 (R89), with the period of TIM_EPOCH_PERIOD's Reset column. Log entries 28 (DESIGN CHOICE), 29 (DESIGN CHOICE). -/
def initTim (period lag : Nat) : TimSt :=
  { now := 0, epoch := 0, openNs := 0, nextNs := period, period := period, periodSoon := none, adopt := none, epochLate := false,
    epochStep := false, epochLocal := true, epochBad := false, worst := 0, lag := lag, closed := none, sealedEpoch := none, sealNs := 0,
    samples := [], refusedRun := 0, slew := 0, heard := [], syncRx := [], pdelay := [], pdelayRx := [], ptpSeq := 0, pdSeq := 0,
    gmSource := 0, gmQuiet := 0, everSync := false, usedOpen := false, usedNext := false, pulled := none, measured := [], used := [],
    pulses := List.replicate 8 idlePulse, lastSyncTx := 0, lastPdTx := 0 }

/-- Nothing loaded. Log entry 28 (DESIGN CHOICE). -/
def initImg : ImgSt :=
  { running := [], tabs := ⟨[], [], [], [], [], 0⟩, fetched := none, fetchErr := false, staged := [], prev := [], prevSwitched := false, target := 0,
    built := false, winClosed := false, childClosed := false }

/-- The Crier before its first epoch. Log entry 28 (DESIGN CHOICE). -/
def initCrier : CrierSt := ⟨0, 0, 0, []⟩

/-- The Tally with no counter read. Log entry 28 (DESIGN CHOICE). -/
def initTal : TalSt :=
  { ctrs := [], asked := none, bracket := [], post := [], postDue := false, preDone := false, sweepAt := none, passStart := 0, latchLeft := [],
    latched := [], tickets := [], history := [], held := [], sampled := 0, sampledOld := 0, lostTickets := 0, oldMap := none, oldCtrs := [] }

/-- Empty banks. Log entry 28 (DESIGN CHOICE). -/
def initScl : SclSt := ⟨[], [], [], none, 0, 0⟩

/-- Nothing held in reduction. Log entry 28 (DESIGN CHOICE). -/
def initRed : RedSt := ⟨0, [], [], [], [], [], [], [], [], [], [], [], [], none, [], [], [], false, none⟩

/-- No trace held. Log entry 28 (DESIGN CHOICE). -/
def initTrc (b : Build) : TrcSt :=
  ⟨(List.range (streams b)).map newPan, (List.range 16).map newChan, List.replicate 16 0, [0, 0, 0, 0], [false, false, false, false], none⟩

/-- No model loaded. Log entry 28 (DESIGN CHOICE). -/
def initInf : InfSt := ⟨[], none, [], [], false⟩

/-- No service at work. Log entry 28 (DESIGN CHOICE). -/
def initSrv : SvcSt :=
  { fifo := [], colls := [], digs := [], held := [], plans := [], snap := ([], []), ftq := [], ftAsked := [], pcs := 0, ops := [], running := none,
    marks := [], tag := none, dump := none, begun := 0, broke := false }

/-- No checkpoint, no handoff, no injection. Log entry 28 (DESIGN CHOICE). -/
def initCon : ConSt :=
  { ckptAt := none, copy := none, fetched := none, fiDone := [], kioskLoad := false, kioskStage := false, kiosk := ⟨0, [], 0⟩, inject := none, failRead := false,
    sevEpoch := none }

/-- The block of a build just after power-up from OFF, with RESET_N and BOOT_SEL as given (R69, R301, R370, R381). Log entries 5 (DESIGN CHOICE), 28 (DESIGN CHOICE). -/
def State.powerOn (b : Build) (resetLow bootSel : Bool) : State :=
  let regs := powerRegs b
  { build := b, regs := regs, inForce := [], ports := initPorts resetLow bootSel, led := initLed, lnk := initLnk b, sec := initSec,
    bru := initBru resetLow, tim := initTim (1000 * F.TIM_EPOCH_PERIOD_PERIOD_US.get (regRead regs F.TIM_EPOCH_PERIOD_PERIOD_US.addr)) 20,
    img := initImg, crier := initCrier, tal := initTal, scl := initScl, red := initRed, tko := none, trc := initTrc b, inf := initInf,
    srv := initSrv, con := initCon, free := 0, pending := [] }

/-- The machine right after reset: a Spoke build (DESIGN CHOICE; the spec fixes the build at synthesis), powered up with RESET_N
released, BOOT_SEL low, the bring-up sequence at FUSE. Log entries 5 (DESIGN CHOICE), 8 (DESIGN CHOICE). -/
def State.reset : State := State.powerOn .spoke false false

end Sys2Proof.Machine
end

