-- ==== Sys2Proof/Machine/Ops.lean ====
section
/-! DEFINITION. Operations every family uses: register fields, time, ALERT_N, raising a Ledger event, originating a record and
queueing a frame on a port. -/

namespace Sys2Proof.Machine

/-! ### Parts replaced -/

/-- The host side replaced. -/
def State.setPorts (s : State) (x : PortSt) : State := { s with ports := x }
/-- The Ledger replaced. -/
def State.setLed (s : State) (x : LedSt) : State := { s with led := x }
/-- The links replaced. -/
def State.setLnk (s : State) (x : LnkSt) : State := { s with lnk := x }
/-- The Pyrmeide root replaced. -/
def State.setSec (s : State) (x : SecSt) : State := { s with sec := x }
/-- Bring-up and power replaced. -/
def State.setBru (s : State) (x : BruSt) : State := { s with bru := x }
/-- Time replaced. -/
def State.setTim (s : State) (x : TimSt) : State := { s with tim := x }
/-- Configuration images replaced. -/
def State.setImg (s : State) (x : ImgSt) : State := { s with img := x }
/-- The Crier replaced. -/
def State.setCrier (s : State) (x : CrierSt) : State := { s with crier := x }

/-- The Tally replaced. -/
def State.setTal (s : State) (x : TalSt) : State := { s with tal := x }
/-- Scales replaced. -/
def State.setScl (s : State) (x : SclSt) : State := { s with scl := x }
/-- The reduction replaced. -/
def State.setRed (s : State) (x : RedSt) : State := { s with red := x }

/-- Trace replaced. -/
def State.setTrc (s : State) (x : TrcSt) : State := { s with trc := x }
/-- The inference engine replaced. -/
def State.setInf (s : State) (x : InfSt) : State := { s with inf := x }

/-- The services replaced. -/
def State.setSrv (s : State) (x : SvcSt) : State := { s with srv := x }
/-- Continuity replaced. -/
def State.setCon (s : State) (x : ConSt) : State := { s with con := x }
/-- A takeover's second node replaced. -/
def State.setTko (s : State) (x : Option TkoSt) : State := { s with tko := x }

/-! ### Register fields -/

/-- The word at a register address. Log entry 7 (DESIGN CHOICE). -/
def State.word (s : State) (a : Nat) : Word := regRead s.regs a

/-- The state with one register word written. -/
def State.setWord (s : State) (a : Nat) (w : Word) : State := { s with regs := regWrite s.regs a w }

/-- The value of a field. -/
def State.fld (s : State) (f : Fld) : Nat := f.get (regRead s.regs f.addr)

/-- A one-bit field as a truth value. -/
def State.on (s : State) (f : Fld) : Bool := s.fld f = 1

/-- The state with a field written. -/
def State.set (s : State) (f : Fld) (v : Nat) : State :=
  { s with regs := regWrite s.regs f.addr (f.put (regRead s.regs f.addr) v) }

/-- A count that saturates at the field's largest value. -/
def State.add (s : State) (f : Fld) (n : Nat) : State := s.set f (min f.max (s.fld f + n))

/-- One more, saturating. -/
def State.inc (s : State) (f : Fld) : State := s.add f 1

/-- One more, wrapping. -/
def State.wrapInc (s : State) (f : Fld) : State := s.set f (s.fld f + 1)

/-- The larger of a field's value and `v`, saturating at the field's width. -/
def State.raiseTo (s : State) (f : Fld) (v : Nat) : State := s.set f (min f.max (max (s.fld f) v))

/-- A sum that wraps at the field's width. -/
def State.wrapAdd (s : State) (f : Fld) (n : Nat) : State := s.set f (s.fld f + n)

/-- The 64-bit number in a pair of words. -/
def State.pair (s : State) (lo hi : Fld) : Nat := s.fld lo + 2 ^ 32 * s.fld hi

/-- A pair of words written. -/
def State.setPair (s : State) (lo hi : Fld) (v : Nat) : State := (s.set lo v).set hi (v / 2 ^ 32)

/-- Every word of a list of addresses set to 0. -/
def State.clearWords (s : State) (as : List Nat) : State := as.foldl (fun s a => s.setWord a 0) s

/-- The in-force copy of a register field whose writes wait for a boundary or a seal. -/
def State.act (s : State) (f : Fld) : Nat := f.get (regRead s.inForce f.addr)

/-- The in-force copies of the words at the addresses are taken afresh. -/
def State.takeForce (s : State) (as : List Nat) : State :=
  { s with inForce := as.foldl (fun m a => regWrite m a (regRead s.regs a)) s.inForce }

/-- A value of its own for a free value: the counter, and the state with the counter moved on. Log entry 10 (DESIGN CHOICE). -/
def State.fresh (s : State) : Nat × State := (s.free, { s with free := s.free + 1 })

/-! ### Time (R68, R71) -/

/-- Whole nanoseconds of the time counter. -/
def State.nowNs (s : State) : Nat := (s.tim.now >>> 48).toNat

/-- The time counter resolved to 125 ps: a stamp (R71). Log entry 4 (DESIGN CHOICE). -/
def State.stamp (s : State) : Nat := (s.tim.now >>> 45).toNat

/-- TS_NS of a time in ns: its low 32 bits (R72). -/
def tsNs (ns : Nat) : Nat := ns % 2 ^ 32

/-- The counter has come to the stamp `t` of an arrival; it does not go back, and it stands still while TB_REF is lost (R81). Log entry 4 (DESIGN CHOICE). -/
def State.reach (s : State) (t : Nat) : State :=
  if s.on F.TIM_STATUS_TBREF_LOST || !s.ports.powered then s
  else if s.stamp < t then { s with tim := { s.tim with now := BitVec.ofNat 112 (t * 2 ^ 45) } } else s

/-- The counter has come to a whole time in ns. Log entries 3 (DESIGN CHOICE), 4 (DESIGN CHOICE). -/
def State.reachNs (s : State) (ns : Nat) : State := s.reach (8 * ns)

/-! ### ALERT_N (R39) -/

/-- The PENDING bit of region `k` is set. -/
def State.alert (s : State) (k : Nat) : State :=
  s.set F.BLK_ALERT_PENDING (s.fld F.BLK_ALERT_PENDING ||| 2 ^ k)

/-- The PENDING bit of region `k` is set when a source's own enable is 1. -/
def State.alertIf (s : State) (en : Fld) (k : Nat) : State := if s.on en then s.alert k else s

/-- Levels that set their PENDING bit again for as long as they last (R39): stalled ports, low speed, lost TB_REF, and pending field tests
(R319). Log entry 9 (DEDUCED). -/
def State.levels (s : State) : Nat :=
  (if s.fld F.BLK_PORT_FAULT_STALLED ≠ 0 || (s.on F.BLK_SPEED_BELOW && s.on F.BLK_SPEED_FLOOR_ALERT_EN) then 1 else 0)
    ||| (if s.on F.TIM_STATUS_TBREF_LOST then 2 else 0)
    ||| (if s.act F.SVC_CTRL_ALERT_EN = 1 && s.fld F.SVC_FT_PEND_DEPTH ≠ 0 then 256 else 0)

/-- The block with its supply removed: nothing is kept (R468). Log entry 9 (DEDUCED). -/
def State.off (s : State) : State :=
  let o := State.powerOn s.build true false
  { o with ports := { o.ports with powered := false, inReset := false }, free := s.free, pending := s.pending }

/-- The test port works (R60, R438): BLANK, or RETURNED at level OPEN, in RUN or QUIET. -/
def State.testPort (s : State) : Bool :=
  s.fld F.BLK_POWER_STATE < 2 && (s.fld F.SEC_STATE_LIFECYCLE = 0 || (s.fld F.SEC_STATE_LIFECYCLE = 3 && s.fld F.SEC_STATE_DEBUG = 2))

/-- The test logic in reset, TDO low (R60). Log entry 9 (DEDUCED). -/
def PortSt.tapReset (p : PortSt) : PortSt := { p with tdo := false, tap := 0, tapIr := none, tapDr := [], tapUpd := [] }

/-- ASYM_MISSING: a port used for time has VALID = 0 (R74, R96). Log entry 9 (DEDUCED). -/
def State.asymMissing (s : State) : Nat := b2n (s.tim.used.any (fun p => !s.on (F.TIM_ASYM_EXT_VALID p)))

/-- What the pins and levels show once a command has had its effect: level sources hold their PENDING bits, ALERT_N is asserted
while an enabled bit is pending (R39), and a test port that may not work is in reset (R60). With the supply removed there is nothing. Log entry 9 (DEDUCED). -/
def State.settle (s : State) : State :=
  if !s.ports.powered then s.off else
  let p := s.fld F.BLK_ALERT_PENDING ||| s.levels
  let s := if s.fld F.BLK_ALERT_PENDING = p then s else s.set F.BLK_ALERT_PENDING p
  let a := s.asymMissing
  let s := if s.fld F.TIM_STATUS_ASYM_MISSING = a then s else s.set F.TIM_STATUS_ASYM_MISSING a
  let ports := if s.testPort then s.ports else s.ports.tapReset
  { s with ports := { ports with alertN := s.fld F.BLK_ALERT_PENDING &&& s.fld F.BLK_ALERT_EN != 0 } }

/-- The outcome of a command whose effect is `s`. -/
def done (s : State) : Host.Outcome State Fault Refusal := .next s.settle

/-! ### Identity -/

/-- The unit has the Hub role (R27). -/
def State.hub (s : State) : Bool := s.fld F.BLK_ROLE = 2

/-- The unit's identity: PEER_ID, and SOURCE or NODE_ID of what it originates; without an image, the one of the last image. Log entry 80 (DEDUCED). -/
def State.ident (s : State) : Nat := if s.fld F.BLK_ROLE = 0 then s.bru.lastId else s.fld F.RED_NODE_NODE_ID

/-- Service states (R28). -/
def svcBringup : Nat := 0
def svcTest : Nat := 1
def svcService : Nat := 2
def svcRecovery : Nat := 3

/-- The service state. -/
def State.svc (s : State) : Nat := s.fld F.BLK_STATE

/-- The power state (R478). -/
def State.power (s : State) : Nat := s.fld F.BLK_POWER_STATE

/-- An image is loaded (R27). -/
def State.loaded (s : State) : Bool := s.fld F.BLK_ROLE ≠ 0

/-! ### Raising a Ledger event (R284, R289) -/

/-- Severity of a class (R284, R363, R388, R439, R459). -/
def severity : Nat → Nat
  | 0x00 => 1 | 0x01 => 1 | 0x02 => 6 | 0x03 => 5 | 0x04 => 5
  | 0x08 => 2 | 0x09 => 4 | 0x0A => 6 | 0x0B => 3
  | 0x10 => 4 | 0x11 => 3 | 0x12 => 4
  | 0x18 => 6 | 0x19 => 3 | 0x1A => 4
  | 0x20 => 4 | 0x21 => 5 | 0x28 => 5 | 0x29 => 7
  | 0x30 => 3 | 0x31 => 4 | 0x32 => 4 | 0x33 => 4 | 0x34 => 3 | 0x35 => 4 | 0x36 => 5 | 0x37 => 3
  | 0x38 => 5 | 0x39 => 4 | 0x3A => 5 | 0x3B => 5 | 0x3C => 5 | 0x3D => 2 | 0x3E => 4
  | _ => 0

/-- An empty line of the class table. -/
def emptyLine (c : Nat) : LLine := ⟨c, 0, 0, 0, 0, 0, 0, 0, [0, 0, 0, 0, 0, 0, 0]⟩

/-- The line of a class. -/
def LedSt.line (l : LedSt) (c : Nat) : LLine := (l.lines.find? (fun x => x.cls = c)).getD (emptyLine c)

/-- The class table with one line replaced. -/
def LedSt.setLine (l : LedSt) (x : LLine) : LedSt :=
  { l with lines := x :: l.lines.filter (fun y => y.cls ≠ x.cls) }

/-- Which gap bucket a gap in ns falls in (R291). -/
def gapBucket (g : Nat) : Nat :=
  if g < 1000 then 0 else if g < 10000 then 1 else if g < 100000 then 2 else if g < 1000000 then 3
  else if g < 10000000 then 4 else if g < 100000000 then 5 else 6

/-- A saturating 32-bit count. -/
def sat32 (n : Nat) : Nat := min n (2 ^ 32 - 1)

/-- The class table counts an event (R289, R291). -/
def LedSt.count (l : LedSt) (e : LEvt) : LedSt :=
  let x := l.line e.cls
  let y : LLine :=
    if x.total = 0 then { x with total := 1, first := e.at_, last := e.at_, vmin := e.val, vmax := e.val }
    else { x with
      total := (x.total + 1) % 2 ^ 64
      last := e.at_
      vmin := min x.vmin e.val
      vmax := max x.vmax e.val
      gaps := modNth x.gaps (gapBucket (e.at_ - x.last)) (fun n => sat32 (n + 1)) }
  l.setLine y

/-- An entry that mirrors one event (R297). -/
def mirrorOf (e : LEvt) (seq pos flags : Nat) : LEntry :=
  ⟨seq, pos, e.cls, e.detail, false, flags, e.at_, e.at_, 1, e.subj, e.val, e.val⟩

/-- FLAGS bits of an entry (R290). -/
def flShadow : Nat := 1
def flEvicted : Nat := 2
def flSat : Nat := 4
def flResetSeen : Nat := 8
def flMirrored : Nat := 16
def flRetired : Nat := 32

/-- An event is lost: LED_LOST and the class's LOST count it, and the loss waits to be recorded (R289). -/
def State.loseEvent (s : State) (e : LEvt) : State :=
  let s := (s.inc F.LED_LOST_EVENTS).set F.LED_LOST_LAST_CLASS e.cls
  let x := s.led.line e.cls
  let l := s.led.setLine { x with lost := sat32 (x.lost + 1) }
  { s with led := { l with loss := match l.loss with
      | some p => some p
      | none => some (e.cls, e.at_) } }

/-- When the queue has room, a loss becomes an event of class 0x28, and asserts ALERT_N when enabled (R289, R302). -/
def State.noteLoss (s : State) : State :=
  match s.led.loss with
  | none => s
  | some (c, at_) =>
    if s.led.queue.length < 16 && !s.led.held.any (fun h => h.cls = 0x28) && s.led.state ≠ 2 then
      let e : LEvt := ⟨0x28, 0, 0, c, at_⟩
      let l := s.led.count e
      ({ s with led := { l with held := l.held ++ [e], loss := none } }).alertIf F.LED_CTRL_ALERT_EN 7
    else s

/-- An event in MIRROR_ONLY: mirror entry 1 keeps it and LED_LOST.EVENTS counts it (R297). Log entry 71 (DEDUCED). -/
def State.mirrorEvent (s : State) (e : LEvt) : State :=
  let (n, s) := s.fresh
  let s := (s.inc F.LED_LOST_EVENTS).set F.LED_LOST_LAST_CLASS e.cls
  { s with led := { s.led with mirror1 := some (mirrorOf e (Config.mirrorSeq n % 2 ^ 32) 0 flMirrored) } }

/-- An event reaches the Ledger: the class table counts it and it waits for the fold stage, one event per class; a second one
is lost. In MIRROR_ONLY it goes to mirror entry 1 and to LED_LOST alone (R289, R297). Log entry 70 (DEDUCED). -/
def State.raiseEvent (s : State) (e : LEvt) : State :=
  let e := { e with val := min e.val 0xFFFF, subj := e.subj % 2 ^ 32 }
  if s.led.state = 2 then s.mirrorEvent e
  else
    let s := s.setCon { s.con with sevEpoch := if 5 ≤ severity e.cls then some s.tim.epoch else s.con.sevEpoch }
    let s := { s with led := s.led.count e }
    if s.led.held.any (fun h => h.cls = e.cls) then (s.loseEvent e).noteLoss
    else { s with led := { s.led with held := s.led.held ++ [e] } }

/-- An event of class, DETAIL, SUBJECT and VALUE, stamped now. -/
def State.log (s : State) (cls detail subj val : Nat) : State := s.raiseEvent ⟨cls, detail, subj, val, s.nowNs⟩

/-! ### Faults injected on schedule (R455) -/

/-- The fault of a CLASS that is injected now, if any. -/
def State.injected (s : State) (cls : Nat) : Option Inject := s.con.inject.filter (fun i => i.active && i.cls = cls)

/-- A fault of a CLASS is injected now. -/
def State.injecting (s : State) (cls : Nat) : Bool := (s.injected cls).isSome

/-- The injected fault of a CLASS has reached its recovery point: one that took over 1,000 µs adds 1 to OVER_BOUND and is logged with
DETAIL 8 (R458, R459). -/
def State.recovered (s : State) (cls : Nat) : State :=
  match s.con.inject with
  | none => s
  | some i =>
    if i.cls ≠ cls || i.recovered then s
    else
      let s := s.setCon { s.con with inject := some { i with recovered := true } }
      let us := (s.nowNs - i.startNs) / 1000
      if s.nowNs - i.startNs ≤ 1000000 then s else (s.inc F.CON_FI_STAT_OVER_BOUND).log 0x3E 8 cls us

/-! ### The issue gate (R44, R321, R323, R328, R449) -/

/-- Grants need credit: MODE 1, or MODE 2 once the break mark has been stamped. -/
def State.stepping (s : State) : Bool := s.fld F.SVC_STEP_MODE = 1 || (s.fld F.SVC_STEP_MODE = 2 && s.srv.broke)

/-- ack is withheld: by stepping without credit, by a held dump, or by a step-mode checkpoint. -/
def State.withheld (s : State) : Bool :=
  (s.stepping && s.fld F.SVC_STEP_CREDIT = 0) || s.srv.dump.any (fun d => d.held) || s.con.copy.any (fun c => c.held)

/-- A waiting req is granted once nothing withholds its ack; each grant of stepping takes one credit. HELD follows. Log entries 25 (DESIGN CHOICE), 76 (DEDUCED). -/
def State.gateServe (s : State) : State :=
  if s.ports.gateHeld && !s.withheld then
    let s := if s.stepping then s.set F.SVC_STEP_CREDIT (s.fld F.SVC_STEP_CREDIT - 1) else s
    (s.setPorts { s.ports with gateHeld := false, gateAcks := s.ports.gateAcks + 1 }).set F.SVC_STEP_HELD 0
  else s.set F.SVC_STEP_HELD (b2n s.ports.gateHeld)

/-! ### Shadow pages of a checkpoint (R445, R448) -/

/-- Shadow pages go back to free model store. -/
def State.freeShadows (s : State) (n : Nat) : State :=
  (s.set F.INF_STORE_FREE_KIB (s.fld F.INF_STORE_FREE_KIB + 4 * n)).set F.INF_STORE_USED_KIB (s.fld F.INF_STORE_USED_KIB - 4 * n)

/-- A checkpoint is abandoned (R448): what of it stands at the Host Memory Port is nobody's any more. -/
def State.abandon (s : State) (cause : Nat) : State :=
  let n := match s.con.copy with
    | some c => c.shadow.length
    | none => 0
  let held := match s.con.copy with
    | some c => if c.held then (s.nowNs - c.startNs + 999) / 1000 else 0
    | none => 0
  let s := ((s.setCon { s.con with copy := none, ckptAt := none }).freeShadows n).raiseTo F.CON_CKPT_STAT_HOLD_MAX_US held
  let s := s.setPorts { s.ports with hwrites := s.ports.hwrites.map (fun (h : HWrite) =>
    if h.owner = .checkpoint then { h with owner := .dropped } else h) }
  let s := ((s.set F.CON_CKPT_STAT_STATE 4).set F.CON_CKPT_STAT_LAST_CAUSE cause).inc F.CON_CKPT_STAT_ABANDONS
  ((s.log 0x3E 1 0 cause).alertIf F.CON_CTRL_ALERT_EN 12).gateServe

/-- A write to byte `off` of a checkpointed section while the copy runs: its 4 KiB page, if not copied yet, is preserved first in a page of
free model store; with no page free the checkpoint is abandoned (R445, R448). Log entry 102 (DEDUCED). -/
def State.touch (s : State) (sect off : Nat) : State :=
  match s.con.copy with
  | none => s
  | some c =>
    let page := (c.offs.getD (sect - 1) 0 + off) / 4096
    if c.held || 4096 * (page + 1) ≤ c.put || c.shadow.contains page then s
    else if s.fld F.INF_STORE_FREE_KIB < 4 then s.abandon 4
    else
      let s := (s.set F.INF_STORE_FREE_KIB (s.fld F.INF_STORE_FREE_KIB - 4)).set F.INF_STORE_USED_KIB (s.fld F.INF_STORE_USED_KIB + 4)
      s.setCon { s.con with copy := some { c with shadow := page :: c.shadow } }

/-! ### Originating records (R341) and queueing frames (R342, R344) -/

/-- The common header of a record (R341): KIND, CLASS and NODE flag, STALL and SOURCE, SEQ, TS_NS, FLITS, HCHK. -/
def recHeader (kind cls : Nat) (node : Bool) (stall source seq ts flits : Nat) : Bytes :=
  let h := toLE 1 kind ++ toLE 1 (cls + 8 * b2n node) ++ toLE 4 (stall + 4096 * (source % 2 ^ 20)) ++ toLE 4 seq
    ++ toLE 4 ts ++ toLE 1 flits
  h ++ [crc8 h]

/-- A record whose last four bytes hold BODY_CHK over the bytes from 16 up to them. -/
def closeRec (bs : Bytes) : Bytes :=
  let n := bs.length - 4
  overlay bs n (toLE 4 (crc32c ((bs.take n).drop 16)))

/-- The SEQ of a class. -/
def State.seqOf (s : State) (cls : Nat) : Nat := s.lnk.seqs.getD cls 0

/-- The unit originates a record: its header takes the class's next SEQ; the body is laid out from byte 16 by offset, and `close` adds the
check that its layout asks for; a class 3 record joins the record chain (R341, R423). -/
def State.originateBy (s : State) (close : Bytes → Bytes) (kind cls flits stall ts : Nat) (body : List (Nat × Bytes)) : Bytes × State :=
  let h := recHeader kind cls s.hub stall s.ident (s.seqOf cls) (tsNs ts) flits
  let bs := body.foldl (fun b f => overlay b f.1 f.2) (h ++ List.replicate (64 * flits - 16) 0)
  let r := close bs
  let s := if cls = 3 then s.touch 4 0 else s
  let s := { s with lnk := { s.lnk with seqs := modNth s.lnk.seqs cls (fun n => (n + 1) % 2 ^ 32) } }
  (r, if cls = 3 then { s with sec := { s.sec with round := s.sec.round ++ [r] } } else s)

/-- A record with BODY_CHK in its last four bytes. -/
def State.originate (s : State) (kind cls flits stall ts : Nat) (body : List (Nat × Bytes)) : Bytes × State :=
  s.originateBy closeRec kind cls flits stall ts body

/-- A record whose layout has no BODY_CHK (R128, R326). -/
def State.originateBare (s : State) (kind cls flits stall ts : Nat) (body : List (Nat × Bytes)) : Bytes × State :=
  s.originateBy (fun bs => bs) kind cls flits stall ts body

/-- A chunk record's BODY_CHK stands at 60 and covers bytes 16 to 59 and the data from 64 (R329). -/
def closeChunk (bs : Bytes) (n : Nat) : Bytes :=
  overlay bs 60 (toLE 4 (crc32c (slice bs 16 44 ++ slice bs 64 n)))

/-- A link-management record (KIND 0x52, R351) of one flit. -/
def State.linkMgmt (s : State) (sub : Nat) (body : List (Nat × Bytes)) : Bytes × State :=
  s.originate 0x52 2 1 0 s.nowNs ((16, toLE 1 sub) :: body)

/-- LSTATE codes (R369). -/
def lsDown : Nat := 0
def lsHello : Nat := 1
def lsUp : Nat := 2
def lsMiscabled : Nat := 3
def lsRelay : Nat := 4

/-- Link state of a port. -/
def State.lstate (s : State) (p : Nat) : Nat := s.fld (F.LNK_PORT_STATE_LSTATE p)

/-- The ports of the build that exist. -/
def State.portList (s : State) : List Nat := List.range s.build.ports

/-- Ports whose link is UP. -/
def State.upPorts (s : State) : List Nat := s.portList.filter (fun p => s.lstate p = lsUp)

/-- A port's link layer. -/
def State.link (s : State) (p : Nat) : Option LinkSt := s.lnk.ports.find? (fun l => l.port = p)

/-- One port's link layer changed. -/
def State.modLink (s : State) (p : Nat) (f : LinkSt → LinkSt) : State :=
  { s with lnk := { s.lnk with ports := s.lnk.ports.map (fun l => if l.port = p then f l else l) } }

/-- Whether a port may carry a frame of a class and KIND now: nothing while DOWN (R347); link management, key exchange and broadcast
chunks alone before a session or on a MISCABLED port, with Control requests and the answers of R386 before the image loads (R354, R374, R386,
R431). -/
def State.carries (s : State) (p cls kind : Nat) : Bool :=
  let st := s.lstate p
  let mgmt := kind = 0x52 || kind = 0x60 || kind = 0x64
  if st = lsDown then false
  else if st = lsMiscabled then kind = 0x52
  else if st = lsHello || !s.loaded then mgmt || kind = 0x2E || kind = 0x50 || kind = 0x51
  else (st = lsUp || st = lsRelay) && cls < 5

/-- A record that travels with ENC = 0 on an encrypted port (R431). -/
def clearKind (bs : Bytes) : Bool :=
  let kind := le bs 0 1
  let sub := le bs 16 1
  kind = 0x2E || kind = 0x60 || kind = 0x64 || (kind = 0x52 && ((1 ≤ sub && sub ≤ 3) || (10 ≤ sub && sub ≤ 14)))
    || (kind = 0x51 && le bs 20 1 = 7)

/-- Whether a frame queued now will be encrypted: its port has ENC = 1 and a session, and it is no record that R431 sends clear; key
exchanges and attestations inside a session are encrypted (R430). Log entry 87 (DEDUCED). -/
def State.encrypts (s : State) (p : Nat) (bs : Bytes) : Bool :=
  let inside := le bs 0 1 = 0x60 || (le bs 0 1 = 0x52 && le bs 16 1 = 13)
  s.fld (F.LNK_PORT_FUNC_ENC p) = 1 && s.lnk.sess.any (fun x => x.port = p && x.formed) && (!clearKind bs || inside)

/-- A frame is queued on a port (R342); a port that cannot carry it drops it. -/
def State.send (s : State) (p cls destKind dest : Nat) (bs : Bytes) : State :=
  if s.carries p cls (le bs 0 1) then
    s.modLink p (fun l => { l with txq := l.txq ++ [⟨cls, destKind, dest, s.encrypts p bs, bs, s.nowNs⟩] })
  else s

/-- A frame to the peer of a link. -/
def State.sendPeer (s : State) (p cls : Nat) (bs : Bytes) : State := s.send p cls 0 0 bs

/-- A frame to the peers of several links. -/
def State.sendEach (s : State) (ps : List Nat) (cls : Nat) (bs : Bytes) : State :=
  ps.foldl (fun s p => s.sendPeer p cls bs) s

/-- A link-management record sent on several ports. -/
def State.mgmtEach (s : State) (ps : List Nat) (sub : Nat) (body : List (Nat × Bytes)) : State :=
  ps.foldl (fun s p => let (r, s) := s.linkMgmt sub body; s.sendPeer p 2 r) s

/-- A received record is acted on: it leaves the inbox. -/
def State.consume (s : State) (r : Rx) : State :=
  { s with lnk := { s.lnk with inbox := eraseFirst (fun x => x == r) s.lnk.inbox } }

/-- Fields of a received record's header (R341). -/
def recKind (b : Bytes) : Nat := le b 0 1
def recNode (b : Bytes) : Bool := bit (le b 1 1) 3
def recClass (b : Bytes) : Nat := le b 1 1 % 8
def recStall (b : Bytes) : Nat := le b 2 4 % 4096
def recSource (b : Bytes) : Nat := le b 2 4 / 4096
def recSeq (b : Bytes) : Nat := le b 6 4
def recTs (b : Bytes) : Nat := le b 10 4
def recFlits (b : Bytes) : Nat := le b 14 1

/-- Ports by their FUNC (R369). -/
def State.funcPorts (s : State) (f : Nat) : List Nat := s.portList.filter (fun p => s.fld (F.LNK_PORT_FUNC p) = f)

/-- The ranked upward ports in force (R190), existing ones, in rank order. -/
def State.uplinks (s : State) : List Nat :=
  [s.fld F.RED_UPLINK_PORT0, s.fld F.RED_UPLINK_PORT1, s.fld F.RED_UPLINK_PORT2, s.fld F.RED_UPLINK_PORT3].filter (fun p => p < s.build.ports)

/-- The ranked upstream time ports (R99), existing ones, in rank order. -/
def State.upstreams (s : State) : List Nat :=
  [s.fld F.TIM_UPSTREAM_PORT0, s.fld F.TIM_UPSTREAM_PORT1, s.fld F.TIM_UPSTREAM_PORT2, s.fld F.TIM_UPSTREAM_PORT3].filter
    (fun p => p < s.build.ports)

/-- The first upward port that is UP (R176). -/
def State.upNow (s : State) : Option Nat := s.uplinks.find? (fun p => s.lstate p = lsUp)

/-- Ports that lead down the tree: Chain ports and down-ports that are no upward port. -/
def State.downPorts (s : State) : List Nat :=
  (s.portList.filter (fun p => s.fld (F.LNK_PORT_FUNC p) = 1 || s.fld (F.LNK_PORT_FUNC p) = 2)).filter
    (fun p => !s.uplinks.contains p)

/-- A frame sent upward, if an upward port is UP. -/
def State.sendUp (s : State) (cls : Nat) (bs : Bytes) : State :=
  match s.upNow with
  | some p => s.sendPeer p cls bs
  | none => s

/-! ### Alarm routes (R10, R243) -/

/-- NODE, SOURCE and SEQ of a record, which identify an alarm across the domain (R341, R243). -/
def recIdent (b : Bytes) : Nat := recSeq b + 2 ^ 32 * (recSource b + 2 ^ 20 * b2n (recNode b))

/-- The extra ports that alarms are copied to (R243). Log entry 65 (DEDUCED). -/
def State.alarmCopies (s : State) : List Nat :=
  [s.fld F.INF_CRIER_PORT_X0, s.fld F.INF_CRIER_PORT_X1].filter (fun x => x < s.build.ports)

/-- An alarm leaves on alarm routes: on the first usable port of RED_UPLINK, with copies on PORT_X0 and PORT_X1; with no usable upward
port it is dropped there and counted (R243). Log entry 58 (DEDUCED). -/
def State.alarmOut (s : State) (bs : Bytes) : State :=
  let s := match s.upNow with
    | none => s.inc F.INF_CRIER_STAT_NO_ROUTE
    | some p => s.sendPeer p 0 bs
  s.sendEach s.alarmCopies 0 bs

/-! ### Host ports (R48, R64) -/

/-- The ack of an initiator handshake arrives: its port stalls no longer once no channel of it does (R48). Log entry 41 (DEDUCED). -/
def State.unstall (s : State) (group sub : Nat) : State :=
  let l := s.ports.stallSub.filter (fun p => p ≠ (group, sub))
  let s := s.setPorts { s.ports with stallSub := l }
  if l.any (fun p => p.1 = group) then s
  else s.set F.BLK_PORT_FAULT_STALLED (s.fld F.BLK_PORT_FAULT_STALLED &&& (0x1FF - 2 ^ group))

/-! ### Lane capacity (R401, R465) -/

/-- Rates of R465 in M/s at −40 °C, 25 °C and 105 °C, by supply in mV. -/
def rateTable : List (Nat × Nat × Nat × Nat) :=
  [(500, 70, 100, 125), (550, 150, 180, 205), (650, 330, 330, 325), (750, 520, 500, 470), (850, 675, 640, 595), (950, 805, 760, 700)]

/-- One column interpolated linearly in voltage, in 10⁴ handshakes per second. -/
def interp (mv lo hi a b : Nat) : Nat := (a * (hi - mv) + b * (mv - lo)) * 100 / (hi - lo)

/-- The capacity of a lane at a declared minimum voltage, in 10⁴ handshakes per second: the lowest of the three columns (R401). -/
def capAt (mv : Nat) : List (Nat × Nat × Nat × Nat) → Nat
  | (l, a, b, c) :: (h, d, e, f) :: rest =>
    if mv ≤ h then min (interp mv l h a d) (min (interp mv l h b e) (interp mv l h c f)) else capAt mv ((h, d, e, f) :: rest)
  | [(_, a, b, c)] => 100 * min a (min b c)
  | [] => 1

/-- The lane capacity V at the image's declared minimum voltage. -/
def State.laneCap (s : State) : Nat := max 1 (capAt s.img.tabs.minMv rateTable)

end Sys2Proof.Machine
end

