-- ==== Sys2Proof/Machine/Access.lean ====
section
/-! DEFINITION. Register accesses: which addresses the map holds (R8, R479), who may read or write them (R20, R21, R130, R138, R435,
R438, R481), the order of the error responses (R46), their counts (R31, R61), and the answer at the register arbiter. -/

namespace Sys2Proof.Machine

/-- The mapped addresses, first and last byte, of the registers (R479). -/
def mapRegs : List (Nat × Nat) := [
  (0x000000, 0x00007B), (0x000080, 0x000087), (0x000100, 0x0004FF),
  (0x010000, 0x010037), (0x010040, 0x01006F), (0x011000, 0x0115FF), (0x012000, 0x0120FF),
  (0x020000, 0x020033), (0x020040, 0x02006B), (0x020070, 0x020073),
  (0x030000, 0x030023),
  (0x040000, 0x040037), (0x04003C, 0x04004B), (0x040050, 0x040057), (0x040060, 0x040063),
  (0x050000, 0x05002B), (0x050040, 0x050077),
  (0x060000, 0x06001B), (0x060040, 0x06007F), (0x060100, 0x0603FF), (0x061000, 0x061FFF),
  (0x070000, 0x07002B), (0x070040, 0x07007F),
  (0x080000, 0x08005F), (0x080100, 0x08017F),
  (0x090000, 0x09001B), (0x090020, 0x09004B), (0x091000, 0x0927FF),
  (0x0A0000, 0x0A004B), (0x0A0100, 0x0A04A3), (0x0A0800, 0x0A08FF),
  (0x0B0000, 0x0B004F), (0x0C0000, 0x0C002B), (0x0C0100, 0x0C01FF), (0x0D0000, 0x0D0043)]

/-- The windows, the tray window apart (R479). -/
def mapWindows : List (Nat × Nat) := [
  (0x200000, 0x3FFFFF), (0x400000, 0x4FFFFF), (0x500000, 0x503FFF), (0x510000, 0x51FFFF), (0x530000, 0x5317FF),
  (0x540000, 0x540FEF), (0x550000, 0x551FFF), (0x560000, 0x563FFF), (0x570000, 0x573FFF), (0x580000, 0x580FFF),
  (0x590000, 0x59FFFF), (0x5A0000, 0x5A07FF), (0x5B0000, 0x5B033F), (0x5C0000, 0x5C3FFF), (0x600000, 0x6FFFFF)]

/-- The read-only windows of R8. -/
def roWindows : List (Nat × Nat) := [
  (0x200000, 0x3FFFFF), (0x500000, 0x503FFF), (0x510000, 0x51FFFF), (0x530000, 0x5307FF), (0x540000, 0x540FEF),
  (0x550000, 0x551FFF), (0x580000, 0x580FFF), (0x590000, 0x59FFFF), (0x5A0000, 0x5A07FF), (0x5B0000, 0x5B033F),
  (0x600000, 0x6FFFFF)]

/-- Regions and windows whose every access is reserved to privileged agents: the Ledger (R294), host services (spec/11), bring-up
(spec/13), the Pyrmeide root with its two windows (spec/15), continuity (spec/16) and the Kiosk mailbox (R481). -/
def privOnly : List (Nat × Nat) := [
  (0x070000, 0x07FFFF), (0x080000, 0x08FFFF), (0x0A0000, 0x0AFFFF), (0x0B0000, 0x0BFFFF), (0x0C0000, 0x0CFFFF),
  (0x0D0000, 0x0D0043), (0x580000, 0x580FFF), (0x590000, 0x59FFFF), (0x5A0000, 0x5A07FF), (0x5B0000, 0x5B033F),
  (0x5C0000, 0x5C3FFF), (0x600000, 0x6FFFFF)]

/-- An address lies in one of the ranges. -/
def inRanges (rs : List (Nat × Nat)) (a : Nat) : Bool := rs.any (fun r => r.1 ≤ a && a ≤ r.2)

/-- The Ledger's registers and windows. -/
def ledgerAddr (a : Nat) : Bool := (0x070000 ≤ a && a ≤ 0x07FFFF) || (0x580000 ≤ a && a ≤ 0x580FFF) || (0x600000 ≤ a && a ≤ 0x6FFFFF)

/-- The tray window (R355). -/
def trayAddr (a : Nat) : Bool := 0x100000 ≤ a && a ≤ 0x1FFFFF

/-- A region maps the address (R479); the tray window decodes in the Hub role alone (R355). -/
def State.mapped (s : State) (a : Nat) : Bool := inRanges mapRegs a || inRanges mapWindows a || (trayAddr a && s.hub)

/-- An access of a privileged agent (R20, R436): Kiosk machine mode, or PRIV = 1 from the host or over XLP. -/
def privileged (a : Access) : Bool :=
  match a.src with
  | .kioskM => true
  | .kioskU => false
  | .host => a.priv
  | .xlp => a.priv

/-- How an access is judged. -/
inductive Verdict where
  | ok
  | decode (cause : Nat)
  | denied (cause : Nat)
  | retry
deriving DecidableEq, Repr

/-- The grant word of a Stall; Stall 0x000 has none (R435). -/
def State.grant (s : State) (stall : Nat) : Word := if stall = 0 then 0 else s.word (0x5C0000 + 4 * stall)

/-- Owner and SHARED of the counter, metric, slot or detector that a window address shows. -/
def State.ownerAt (s : State) (addr : Nat) : Nat × Bool :=
  if 0x200000 ≤ addr && addr ≤ 0x3FFFFF then
    let c := (addr - 0x200000) / 16
    (s.fld (F.MAP_B_OWNER c), s.on (F.MAP_B_SHARED c))
  else if 0x400000 ≤ addr && addr ≤ 0x4FFFFF then
    let c := (addr - 0x400000) / 8
    (s.fld (F.MAP_B_OWNER c), s.on (F.MAP_B_SHARED c))
  else if 0x500000 ≤ addr && addr ≤ 0x503FFF then
    let m := (addr - 0x500000) / 16
    (s.fld (F.CAT_A_OWNER m), s.on (F.CAT_A_SHARED m))
  else if 0x510000 ≤ addr && addr ≤ 0x51FFFF then
    let m := (addr - 0x510000) / 64
    (s.fld (F.CAT_A_OWNER m), s.on (F.CAT_A_SHARED m))
  else if 0x550000 ≤ addr && addr ≤ 0x551FFF then (s.fld (F.SLOT_CFG_OWNER ((addr - 0x550000) / 32)), false)
  else (s.fld (F.SLOT_CFG_OWNER (s.fld (F.DRIFT_CFG_MODEL ((addr - 0x560000) / 32)))), false)

/-- Windows readable under R130 (grant bit 0, Tally reads) and under R138 (grant bit 1, Scales reads). -/
def grantBit (addr : Nat) : Option Nat :=
  if (0x200000 ≤ addr && addr ≤ 0x4FFFFF) then some 0
  else if (0x500000 ≤ addr && addr ≤ 0x503FFF) || (0x510000 ≤ addr && addr ≤ 0x51FFFF) || (0x550000 ≤ addr && addr ≤ 0x551FFF)
    || (0x560000 ≤ addr && addr ≤ 0x563FFF) then some 1
  else none

/-- The root ranked list (R186). -/
def rankedAddr (addr : Nat) : Bool := 0x540000 ≤ addr && addr ≤ 0x540FEF

/-- A read by an access that is not privileged (R20, R21, R130, R138, R186, R294, R355, R435). Log entry 33 (DEDUCED). -/
def State.judgeUserRead (s : State) (a : Access) (addr : Nat) : Verdict :=
  let g := s.grant a.stall.toNat
  if inRanges privOnly addr then .denied 2
  else match grantBit addr with
    | some b =>
      if s.svc ≠ svcService then .denied 1
      else if !bit g.toNat b then .denied 3
      else
        let o := s.ownerAt addr
        if o.1 = a.stall.toNat || o.2 then .ok else .denied 2
    | none =>
      if rankedAddr addr then
        if s.svc ≠ svcService then .denied 1
        else if !bit g.toNat 1 then .denied 3
        else
          -- the entries of metrics it may read under R138 alone: METRIC stands in [29:20] of the entry's first word
          let m := bits (s.word (addr - addr % 16)).toNat 29 20
          if s.fld (F.CAT_A_OWNER m) = a.stall.toNat || s.on (F.CAT_A_SHARED m) then .ok else .denied 2
      else if trayAddr addr then (if bit g.toNat 2 then .ok else .denied 3)
      else .ok

/-- Lifecycle and debug level (R441). -/
def State.lifecycle (s : State) : Nat := s.fld F.SEC_STATE_LIFECYCLE
def State.debug (s : State) : Nat := s.fld F.SEC_STATE_DEBUG

/-- Registers that HOLD serves on the Host Register Port (R469). -/
def holdServes (addr : Nat) : Bool :=
  addr = 0x000000 || addr = 0x000004 || addr = 0x000008 || addr = 0x000084 || addr = 0x000080 || addr = 0x0B0000
    || addr = 0x010000 || addr = 0x010004 || addr = 0x010008

/-- Windows closed while a switch is built and until the seal of the closing epoch (R406). -/
def State.switching (s : State) (addr : Nat) : Bool :=
  (s.img.winClosed && ((0x200000 ≤ addr && addr ≤ 0x4FFFFF) || (0x500000 ≤ addr && addr ≤ 0x503FFF) || (0x510000 ≤ addr && addr ≤ 0x51FFFF)))
    || (s.img.childClosed && 0x530000 ≤ addr && addr ≤ 0x530FFF)

/-- Writes that Kiosk machine mode alone may make: KSK_K2H (R481). -/
def kioskWrites (addr : Nat) : Bool := 0x0D0020 ≤ addr && addr ≤ 0x0D003F

/-- How an access is judged, in the order ERR_DECODE, ERR_DENIED, ERR_RETRY (R46). Log entry 33 (DEDUCED). -/
def State.judge (s : State) (a : Access) (addr : Nat) (write : Bool) : Verdict :=
  if addr % 4 ≠ 0 then .decode 1
  else if !s.mapped addr then .decode 2
  else if write && inRanges roWindows addr then .decode 4
  else
    let v := if write && !trayAddr addr then
        (if !privileged a then .denied 2
         else if kioskWrites addr && a.src ≠ .kioskM then .denied 2 else .ok)
      else if privileged a then
        (if ledgerAddr addr && a.src = .host && s.debug = 0 then .denied 2 else .ok)
      else s.judgeUserRead a addr
    match v with
    | .ok => if (s.power = 2 && !holdServes addr) || s.switching addr then .retry else .ok
    | v => v

/-- The answer at the register arbiter. -/
def State.answer (s : State) (a : Access) (r : Resp) (d : Word) : State :=
  { s with ports := { s.ports with answer := some ⟨a.src, r, d⟩ } }

/-- A refused access changes nothing but its count and its answer (R31, R46, R61). -/
def State.refuse (s : State) (a : Access) : Verdict → State
  | .ok => s
  | .decode c => ((s.inc F.BLK_REGERR_COUNT).set F.BLK_REGERR_LAST_CAUSE c).answer a .decode 0
  | .denied c =>
    (((s.inc F.BLK_DENY_COUNT).set F.BLK_DENY_LAST_CAUSE c).set F.BLK_DENY_LAST_STALL a.stall.toNat).answer a .denied 0
  | .retry => ((s.inc F.BLK_REGERR_COUNT).set F.BLK_REGERR_LAST_CAUSE 3).answer a .retry 0

/-- The block can serve a register access at all: powered and out of reset. -/
def State.serves (s : State) : Bool := s.ports.powered && !s.ports.inReset

/-- The image-set RW bits of a word that lie outside the basic registers of the word's function (R408): Time, Tally, reduction,
trace, services and links. Log entry 34 (DEDUCED). -/
def expertMask (a : Nat) : Word :=
  let region := a / 0x10000
  if !(region = 1 || region = 2 || region = 4 || region = 6 || region = 8 || region = 9) then 0
  else if a = 0x020000 || a = 0x02000C || a = 0x040000 || a = 0x04000C || a = 0x040054 || a = 0x060000 || a = 0x080000
    || a = 0x010024 || a = 0x01001C || a = 0x090008 then 0
  else match regRow a with
    | some r =>
      let m := r.fields.foldl (fun m f => if f.acc = .rw && f.rst = .image then m ||| f.fld.mask else m) (0 : Word)
      if 0x060040 ≤ a && a < 0x060080 then m &&& ~~~(1#32) else m
    | none => 0

/-- A privileged write of image-set fields outside the basic registers is marked (R409). Log entry 34 (DEDUCED). -/
def State.markExpert (s : State) (a : Nat) : State :=
  if s.loaded && expertMask a != 0 then s.set F.BLK_PROFILE_EXPERT_WRITE 1 else s

/-- A write that is allowed has the effect `f`; any other is refused. -/
def State.guardWrite (s : State) (a : Access) (addr : Nat) (f : State → State) : State :=
  let s := s.reach a.t
  if !s.serves then s
  else match s.judge a addr true with
    | .ok => ((f s).markExpert addr).answer a .ok 0
    | .denied c =>
      -- a refused write of BLK_STATE_REQ is a refused request too (R21, R24)
      let s := if addr = 0x000014 then (s.set F.BLK_STATE_REQ_REFUSED 1).inc F.BLK_STATE_REFUSALS else s
      s.refuse a (.denied c)
    | v => s.refuse a v

/-- The plain effect of a write on the word (R6). Log entry 35 (DESIGN CHOICE). -/
def State.plainWrite (s : State) (addr : Nat) (w : Word) : State := s.setWord addr (mergeWrite addr (s.word addr) w)

/-- A read-only effect of `f` on the state, with the captured words answered. -/
def State.guardRead (s : State) (a : Access) (addr : Nat) (f : State → Word × State) : State :=
  let s := s.reach a.t
  if !s.serves then s
  else match s.judge a addr false with
    | .ok => let (w, s) := f s; s.answer a .ok w
    | v => s.refuse a v

/-- The source as the captures tell it apart: both Kiosk modes are one source (R47, R70). Log entry 32 (DEDUCED). -/
def srcPort : Src → Src
  | .kioskU => .kioskM
  | x => x

/-- A capture replaces the source's earlier capture of the same group (R70). Log entry 32 (DEDUCED). -/
def State.capture (s : State) (a : Access) (base : Nat) (ws : List Word) : State :=
  { s with ports := { s.ports with captures :=
      ⟨srcPort a.src, base, ws⟩ :: s.ports.captures.filter (fun c => !(c.src = srcPort a.src && c.base = base)) } }

/-- A follower word of a group: as the source last captured it, 0 without a capture (R70). Log entry 32 (DEDUCED). -/
def State.shadowWord (s : State) (a : Access) (base i : Nat) : Word :=
  match s.ports.captures.find? (fun c => c.src = srcPort a.src && c.base = base) with
  | some c => c.words.getD i 0
  | none => 0

/-- A 64-bit number's two words. -/
def words64 (n : Nat) : List Word := [BitVec.ofNat 32 n, BitVec.ofNat 32 (n / 2 ^ 32)]

end Sys2Proof.Machine
end

