-- ==== Sys2Proof/Machine/Ledger.lean ====
section
/-! DEFINITION. The Ledger: the fold stage and the queue (R285, R289), the write engine and its read-back (R287, R288, R296, R297), closing
and eviction (R286), the notice (R298), reset (R300), and what its windows show (R291, R294, R305). -/

namespace Sys2Proof.Machine

/-! ### Positions (R292, R293, R297) -/

/-- Entry positions of the build (R293). -/
def ledPositions : Build → Nat
  | .spoke => 65408
  | .hub => 1048448

/-- The position after `p` in the order of R292: past the last one, writing wraps to KEEP. -/
def stepPos (b : Build) (keep p : Nat) : Nat := if p + 1 < ledPositions b then p + 1 else keep

/-- The first position from `p` on that is not retired; at most 64 are. -/
def usablePos (b : Build) (keep : Nat) (retired : List Nat) : Nat → Nat → Nat
  | 0, p => p
  | n + 1, p => if retired.contains p then usablePos b keep retired n (stepPos b keep p) else p

/-- The next position is taken: the position, and the state with the pointer moved on. Log entry 71 (DEDUCED). -/
def State.takePos (s : State) : Nat × State :=
  let keep := s.fld F.LED_CFG_KEEP
  let p := usablePos s.build keep s.led.retired 65 s.led.wptr
  let n := stepPos s.build keep p
  (p, (s.setLed { s.led with wptr := usablePos s.build keep s.led.retired 65 n, wrapped := s.led.wrapped || n ≤ p }))

/-! ### Folding (R285) -/

/-- SPAN_US of an entry: rounded down and saturating (R290). -/
def LEntry.span (e : LEntry) : Nat := sat32 ((e.last - e.first) / 1000)

/-- An entry with `count` more occurrences, the last at `last`, and their VALUE range taken in; REPEAT saturates (R285, R290). -/
def LEntry.fold (e : LEntry) (count last vmin vmax : Nat) : LEntry :=
  { e with repeats := sat32 (e.repeats + count), last := max e.last last, vmin := min e.vmin vmin, vmax := max e.vmax vmax }

/-- An entry that has reached a limit of REPEAT or SPAN_US (R286). -/
def LEntry.full (e : LEntry) : Bool := e.repeats = 2 ^ 32 - 1 || e.span = 2 ^ 32 - 1

/-- An empty shadow tally. -/
def noShadow : LShadow := ⟨0, 0, 0, 0⟩

/-- A slot matches an event: class, DETAIL and SUBJECT are equal and the entry can still take a repeat. -/
def LSlot.takes (x : LSlot) (e : LEvt) : Bool :=
  x.ent.cls = e.cls && x.ent.detail = e.detail && x.ent.subj = e.subj && !(x.closing && x.ent.full)

/-- The entry of a slot is being written. -/
def LedSt.busy (l : LedSt) (x : LSlot) : Bool := l.writing.any (fun w => w.seq = x.ent.seq)

/-- A write of an entry falls due: after those that fell due before, in ascending SEQ with those that fall due together (R287). Log entry 70 (DEDUCED). -/
def LedSt.fallDue (l : LedSt) (seqs : List Nat) : LedSt :=
  { l with due := l.due ++ (sortBy (fun x => x) seqs).filter (fun q => !l.due.contains q) }

/-- A slot is closed with FLAGS bits added: its closing write falls due (R286, R287). -/
def LedSt.close (l : LedSt) (seq flag : Nat) : LedSt :=
  let sl := l.slots.map (fun (x : LSlot) => if x.ent.seq = seq then
      { x with closing := true, ent := { x.ent with isOpen := false, flags := x.ent.flags ||| flag } } else x)
  LedSt.fallDue { l with slots := sl } [seq]

/-- A slot that has reached a limit closes with FLAGS.SAT (R286). -/
def LedSt.closeFull (l : LedSt) : LedSt :=
  l.slots.foldl (fun l x => if x.ent.full && !x.closing && !l.busy x then l.close x.ent.seq flSat else l) l

/-- An event folds into an open entry, or into its shadow tally while the entry is being written (R285, R288). -/
def State.foldInto (s : State) (x : LSlot) (e : LEvt) : State :=
  if s.led.busy x then
    let t := x.shadow
    let t : LShadow := if t.count = 0 then ⟨1, e.at_, e.val, e.val⟩
      else ⟨t.count + 1, max t.last e.at_, min t.vmin e.val, max t.vmax e.val⟩
    (s.setLed { s.led with slots := s.led.slots.map (fun y => if y.ent.seq = x.ent.seq then { y with shadow := t } else y) })
  else
    let l : LedSt := { s.led with slots := s.led.slots.map (fun y =>
      if y.ent.seq = x.ent.seq then { y with ent := y.ent.fold 1 e.at_ e.val e.val } else y) }
    (s.setLed l.closeFull).wrapInc F.LED_FOLD_FOLDED

/-- The open entry that an event folds into. -/
def LedSt.match_ (l : LedSt) (e : LEvt) : Option LSlot := l.slots.find? (fun x => x.takes e)

/-- The event that has waited longest at the fold stage, by stamp (R289). -/
def oldestEvt : List LEvt → Option LEvt
  | [] => none
  | e :: rest => match oldestEvt rest with
    | none => some e
    | some f => if f.at_ < e.at_ then some f else some e

/-- LEDGER_FOLD (R289): an event of the fold stage folds at once, or joins the queue of 16, or is lost; in reset every event joins the queue
(R300). Log entry 70 (DEDUCED). -/
def State.ledFold (s : State) : State :=
  match oldestEvt s.led.held with
  | none => s
  | some e =>
    let s := ((s.setLed { s.led with held := eraseFirst (fun h => h == e) s.led.held })).touch 1 (64 * e.cls)
    let m := if s.ports.inReset then none else s.led.match_ e
    match m with
    | some x => s.foldInto x e
    | none =>
      if s.led.state = 2 then s.mirrorEvent e
      else if s.led.queue.length < 16 then ((s.setLed { s.led with queue := s.led.queue ++ [e] })).noteLoss
      else s.loseEvent e

/-- The slot that has gone longest without a repeat (R286). -/
def oldestSlot : List LSlot → Option LSlot
  | [] => none
  | x :: rest => match oldestSlot rest with
    | none => some x
    | some y => if max y.ent.last y.shadow.last < max x.ent.last x.shadow.last then some y else some x

/-- A new entry takes the next SEQ and position and a slot, and its opening write falls due (R285, R287). -/
def State.openEntry (s : State) (e : LEvt) : State :=
  let (p, s) := s.takePos
  let q := s.led.seq
  let ent : LEntry := ⟨q, p, e.cls, e.detail, true, 0, e.at_, e.at_, 1, e.subj, e.val, e.val⟩
  let x := s.led.line e.cls
  let l := (s.led.setLine { x with entries := sat32 (x.entries + 1) })
  s.setLed (LedSt.fallDue { l with seq := (q + 1) % 2 ^ 32, slots := l.slots ++ [⟨ent, noShadow, false⟩] } [q])

/-- LEDGER_QUEUE_TAKE (R289): once no write of R287 is due, the oldest queued event folds or opens an entry. With all eight slots open the
longest idle entry is closed first and the event goes on waiting for its slot (R286). Log entry 70 (DEDUCED). -/
def State.ledTake (s : State) : State :=
  if s.ports.inReset || s.led.writing.isSome || !s.led.due.isEmpty then s
  else match s.led.queue with
    | [] => s
    | e :: rest =>
      let popped := (s.setLed { s.led with queue := rest })
      match s.led.match_ e with
      | some x => (popped.foldInto x e).noteLoss
      | none =>
        if s.led.state = 2 then popped.mirrorEvent e
        else if s.led.slots.length < 8 then (popped.openEntry e).noteLoss
        else match oldestSlot s.led.slots with
          | some x => ((s.setLed (s.led.close x.ent.seq flEvicted))).inc F.LED_FOLD_EVICTIONS
          | none => s

/-! ### Writing entries (R287, R288, R296) -/

/-- Position `p` of the SRAM holds an entry. -/
def LedSt.putSram (l : LedSt) (p : Nat) (e : LEntry) : LedSt := { l with sram := (p, e) :: l.sram.filter (fun x => x.1 ≠ p) }

/-- LEDGER_ENTRY_WRITE (R287): the first due write starts; its image is the open-table copy. Log entry 70 (DEDUCED). -/
def State.ledWrite (s : State) : State :=
  if s.ports.inReset || s.led.writing.isSome || s.led.state = 2 then s
  else match s.led.due with
    | [] => s
    | q :: rest =>
      match s.led.slots.find? (fun x => x.ent.seq = q) with
      | none => (s.setLed { s.led with due := rest })
      | some x =>
        let s := s.touch 1 (4096 + 32 * x.ent.pos)
        (s.setLed { (s.led.putSram x.ent.pos x.ent) with due := rest, writing := some x.ent })

/-- The entries' 32 bytes (R290). -/
def LEntry.bytes (e : LEntry) : Bytes :=
  toLE 4 e.seq ++ toLE 2 (e.cls + 64 * e.detail + 4096 * severity e.cls + 32768 * b2n e.isOpen) ++ toLE 2 e.flags ++ toLE 8 e.first
    ++ toLE 4 e.span ++ toLE 4 e.repeats ++ toLE 4 e.subj ++ toLE 2 e.vmin ++ toLE 2 e.vmax

/-- The 64 bytes of the mirror; an entry not in use reads 0 (R297, R305). -/
def LedSt.mirror (l : LedSt) : Bytes :=
  let one (e : Option LEntry) : Bytes := match e with
    | some e => e.bytes
    | none => List.replicate 32 0
  one l.mirror0 ++ one l.mirror1

/-- The notice record of a Ledger memory fault leaves on alarm routes, at most one in each epoch (R298). -/
def State.ledNotice (s : State) : State :=
  match s.led.noticeDue with
  | none => s
  | some (at_, epoch, pos) =>
    if s.led.noticeEpoch = some s.tim.epoch then s
    else
      let faults := match s.led.mirror0 with
        | some e => e.repeats
        | none => 0
      let (r, s) := s.originate 0x41 0 2 0 at_
        [(16, toLE 6 epoch), (22, toLE 1 s.led.state), (24, toLE 4 pos), (28, toLE 4 faults), (32, s.led.mirror)]
      let s := (s.setLed { s.led with noticeDue := none, noticeEpoch := some s.tim.epoch })
      s.alarmOut r

/-- A class 0x29 event (R296, R297): mirror entry 0 holds it, folding every later one; it is told and asserts ALERT_N when enabled. Log entry 71 (DEDUCED). -/
def State.ledFault (s : State) (detail pos : Nat) : State :=
  let e : LEvt := ⟨0x29, detail, pos, 0, s.nowNs⟩
  let (n, s) := s.fresh
  let m := match s.led.mirror0 with
    | some x => x.fold 1 e.at_ 0 0
    | none => mirrorOf e (Config.mirrorSeq n % 2 ^ 32) 0 0
  let s := s.setCon { s.con with sevEpoch := some s.tim.epoch }
  let l := if s.led.state = 2 then s.led else s.led.count e
  let s := ((s.setLed { l with mirror0 := some m, noticeDue := some (e.at_, s.tim.epoch, pos) })).inc F.LED_FAULT_UNCORRECTED
  s.alertIf F.LED_CTRL_ALERT_EN 7

/-- A failed position is retired and the entry goes to the mirror and to the next position; at 64 the Ledger is MIRROR_ONLY (R297, R299). Log entry 71 (DEDUCED). -/
def State.ledRetire (s : State) (w : LEntry) (detail : Nat) : State :=
  let s := s.ledFault detail w.pos
  let l := s.led
  let l := { l with
    mirror1 := some { w with flags := w.flags ||| flMirrored }
    retired := l.retired ++ [w.pos]
    sram := l.sram.filter (fun x => x.1 ≠ w.pos) }
  let s := ((s.setLed { l with state := if 64 ≤ l.retired.length then 2 else 1 })).inc F.LED_FAULT_RETIRED
  let s := if s.led.state = 2 then (s.setLed { s.led with due := [] })
    else
      let (p, s) := s.takePos
      (s.setLed { s.led with
          slots := s.led.slots.map (fun x => if x.ent.seq = w.seq then { x with ent := { x.ent with pos := p } } else x)
          due := w.seq :: s.led.due.filter (fun q => q ≠ w.seq) })
  s.ledNotice

/-- The Ledger is declared hung (R296, R297). Log entry 39 (DEDUCED). -/
def State.ledHung (s : State) : State :=
  let pos := match s.led.writing with
    | some w => w.pos
    | none => s.led.wptr
  let s := s.ledFault 3 pos
  let s := (s.setLed { s.led with state := 2, writing := none, due := [] })
  s.ledNotice

/-- The shadow tally of the entry just written is merged (R288), and a closing slot is freed, or written once more when the merge changed
it. -/
def State.ledMerge (s : State) (w : LEntry) : State :=
  match s.led.slots.find? (fun x => x.ent.seq = w.seq) with
  | none => s
  | some x =>
    if x.shadow.count = 0 then
      if !w.isOpen then
        (s.setLed { s.led with slots := s.led.slots.filter (fun y => y.ent.seq ≠ w.seq), due := s.led.due.filter (fun q => q ≠ w.seq) })
      else (s.setLed s.led.closeFull)
    else
      let t := x.shadow
      let ent := x.ent.fold t.count t.last t.vmin t.vmax
      let y : LSlot := { x with shadow := noShadow, ent := { ent with flags := ent.flags ||| flShadow } }
      let l : LedSt := { s.led with slots := s.led.slots.map (fun z => if z.ent.seq = w.seq then y else z) }
      let l := if x.closing then l.fallDue [w.seq] else l.closeFull
      ((s.setLed l).add F.LED_FOLD_SHADOW t.count).wrapAdd F.LED_FOLD_FOLDED t.count

/-- LEDGER_READBACK (R296, R288, R297). Log entry 70 (DEDUCED). -/
def State.ledReadback (s : State) (r : Readback) : State :=
  match s.led.writing with
  | none => s
  | some w =>
    let s := (s.setLed { s.led with writing := none })
    let forced := s.con.failRead
    let s := s.setCon { s.con with failRead := false }
    let s := match (if forced then Readback.verify else r) with
      | .ok => s.ledMerge w
      | .single => (s.inc F.LED_FAULT_CORRECTED).ledMerge w
      | .double => (s.ledMerge { w with isOpen := true }).ledRetire w 1
      | .verify => (s.ledMerge { w with isOpen := true }).ledRetire w 2
    if forced then s.recovered 3 else s

/-- FOLD_US; values below 10 act as 10 (R302). -/
def State.foldNs (s : State) : Nat := 1000 * max 10 (s.fld F.LED_CTRL_FOLD_US)

/-- LEDGER_FOLD_TIMEOUT (R286): FOLD_US has passed with no repeat. -/
def State.ledIdle (s : State) (seq : Nat) : State :=
  match s.led.slots.find? (fun x => x.ent.seq = seq) with
  | none => s
  | some x =>
    let s := s.reachNs (max x.ent.last x.shadow.last + s.foldNs)
    if x.closing then s else (s.setLed (s.led.close seq 0))

/-- The boundary writes of the open entries fall due (R287), and a notice held over for this epoch leaves (R298). -/
def State.ledBoundary (s : State) : State :=
  ((s.setLed (s.led.fallDue ((s.led.slots.filter (fun x => !x.closing)).map (fun x => x.ent.seq))))).ledNotice

/-- Reset is released: every open entry closes with FLAGS.RESET_SEEN (R300). Log entry 71 (DEDUCED). -/
def State.ledRelease (s : State) : State :=
  (s.setLed ((s.led.slots.filter (fun x => !x.closing)).foldl (fun l x => l.close x.ent.seq flResetSeen) s.led))

/-! ### What reads show -/

/-- The words of a class line (R291). -/
def LLine.words (x : LLine) : List Word :=
  words64 x.total ++ words64 x.first ++ words64 x.last ++ [BitVec.ofNat 32 x.entries, BitVec.ofNat 32 x.lost,
    BitVec.ofNat 32 (x.vmin + 65536 * x.vmax)] ++ x.gaps.map (BitVec.ofNat 32)

/-- A byte string as words, least significant byte first. -/
def wordsOf (n : Nat) (bs : Bytes) : List Word := (List.range n).map (fun i => BitVec.ofNat 32 (le bs (4 * i) 4))

/-- Eight words of entry position `p` (R294). -/
def State.entryWords (s : State) (p : Nat) : List Word :=
  if ledPositions s.build ≤ p then List.replicate 8 0
  else if s.led.retired.contains p then [0, BitVec.ofNat 32 (65536 * flRetired), 0, 0, 0, 0, 0, 0]
  else match s.led.slots.find? (fun x => x.ent.pos = p) with
    | some x => wordsOf 8 x.ent.bytes
    | none => match s.led.sram.find? (fun x => x.1 = p) with
      | some x => wordsOf 8 x.2.bytes
      | none => List.replicate 8 0

/-- The position that a window index shows under LED_WIN.PAGE (R294). -/
def State.ledWinPos (s : State) (index : Nat) : Nat := 32768 * s.fld F.LED_WIN_PAGE + index

/-- LED_STATE as it reads (R304). -/
def State.ledStateWord (s : State) : Word :=
  BitVec.ofNat 32 (s.led.state + 4 * (s.led.slots.filter (fun x => !x.closing)).length)

/-! ### Meanings -/

/-- LEDGER_FOLD. -/
def execLedgerFold (s : State) : Host.Outcome State Fault Refusal := done s.ledFold

/-- LEDGER_QUEUE_TAKE. -/
def execLedgerQueueTake (s : State) : Host.Outcome State Fault Refusal := done s.ledTake

/-- LEDGER_ENTRY_WRITE. -/
def execLedgerEntryWrite (s : State) : Host.Outcome State Fault Refusal := done s.ledWrite

/-- LEDGER_READBACK. -/
def execLedgerReadback (r : Readback) (s : State) : Host.Outcome State Fault Refusal := done (s.ledReadback r)

/-- LEDGER_FOLD_TIMEOUT. -/
def execLedgerFoldTimeout (seq : Nat) (s : State) : Host.Outcome State Fault Refusal := done (s.ledIdle seq)

/-- CLASS_LINE_CAPTURE: a read of TOTAL_LO captures the line (R291). -/
def execClassLineCapture (a : Access) (cls : Nat) (s : State) : Host.Outcome State Fault Refusal :=
  done (if cls < 64 then s.guardRead a (0x580000 + 64 * cls) (fun s =>
    let ws := (s.led.line cls).words
    (ws.headD 0, s.capture a (0x580000 + 64 * cls) ws)) else s)

/-- LEDGER_ENTRY_CAPTURE: a read of word +0x0 captures the entry (R294). -/
def execLedgerEntryCapture (a : Access) (index : Nat) (s : State) : Host.Outcome State Fault Refusal :=
  done (if index < 32768 then s.guardRead a (0x600000 + 32 * index) (fun s =>
    let ws := s.entryWords (s.ledWinPos index)
    (ws.headD 0, s.capture a (0x600000 + 32 * index) ws)) else s)

/-- MIRROR_CAPTURE: a read of 0x07_0040 captures the sixteen mirror words (R305). -/
def execMirrorCapture (a : Access) (s : State) : Host.Outcome State Fault Refusal :=
  done (s.guardRead a 0x070040 (fun s =>
    let ws := wordsOf 16 s.led.mirror
    (ws.headD 0, s.capture a 0x070040 ws)))

end Sys2Proof.Machine
end

