-- ==== Sys2Proof/Machine/Tiles.lean ====
section
/-! DEFINITION. Crossbar tiles: their numbers, which are hidden or isolated (R16, R17), and the placement of metrics on Scales tiles (R149). -/

namespace Sys2Proof.Machine

/-! ### Crossbar numbers (log entry 30: the tiles in the order of the table of spec/01) -/

/-- Kinds of tile. -/
def tkTally : Nat := 0
def tkScales : Nat := 1
def tkTree : Nat := 2
def tkMac : Nat := 3
def tkCodec : Nat := 4
def tkLink : Nat := 5
def tkTime : Nat := 6
def tkLedger : Nat := 7
def tkRoot : Nat := 8
def tkKiosk : Nat := 9

/-- Tiles of each kind in the build, in that order. Log entry 30 (DESIGN CHOICE). -/
def tileCounts (b : Build) : List Nat := [b.tallyTiles, b.lanes, b.lanes, b.lanes, b.codecTiles, b.ports, 1, 1, 1, b.kioskCores]

/-- Kind and index of a crossbar number, from the kind `k` on. -/
def tileAux : List Nat → Nat → Nat → Option (Nat × Nat)
  | [], _, _ => none
  | c :: cs, k, n => if n < c then some (k, n) else tileAux cs (k + 1) (n - c)
def tileOf (b : Build) (n : Nat) : Option (Nat × Nat) := tileAux (tileCounts b) 0 n

/-- The crossbar number of tile `i` of a kind. Log entry 30 (DESIGN CHOICE). -/
def tileNum (b : Build) (kind i : Nat) : Nat := ((tileCounts b).take kind).foldl (fun x y => x + y) 0 + i

/-- The kind of a crossbar number; 99 for none. Log entry 30 (DESIGN CHOICE). -/
def tileKind (b : Build) (n : Nat) : Nat := match tileOf b n with
  | some x => x.1
  | none => 99

/-- A tile that is hidden or isolated (R16, R17). -/
def State.tileDown (s : State) (n : Nat) : Bool := s.bru.hidden.contains n || s.bru.hung.contains n

/-- Tiles that the image routes to. -/
def State.routed (s : State) : List Nat :=
  (s.img.tabs.pipes.flatMap (fun p => p.tiles) ++ s.img.tabs.routes.flatMap (fun r => [r.src, r.dst])).eraseDups

/-- Tiles that the image routes to and that are isolated or hidden: the pipelines through them carry nothing (R17, R19). Log entry 39 (DEDUCED). -/
def State.stoppedTiles (s : State) : List Nat := s.routed.filter s.tileDown

/-! ### Placement of metrics (R149) -/

/-- Bytes of a metric per bank (R149). -/
def metricBytes (w0 w1 : Nat) : Nat :=
  if bits w0 2 0 = 0 then 0
  else 64 + (if bit w0 14 then 256 else 0) + (if bit w0 13 then 384 * (bits w1 11 6 + 1 - bits w1 5 0) + 272 else 0)

/-- A metric goes to the first tile on which it fits within 128 KiB. -/
def placeMetric (c : Nat) : List Nat → Option (List Nat)
  | [] => none
  | x :: xs => if x + c ≤ 131072 then some ((x + c) :: xs) else (placeMetric c xs).map (fun ys => x :: ys)

/-- Placement of every metric on the usable Scales tiles (R149): the use of each tile. -/
def placeMetrics : List Nat → List Nat → Option (List Nat)
  | [], tiles => some tiles
  | c :: cs, tiles => match placeMetric c tiles with
    | some t => placeMetrics cs t
    | none => none

end Sys2Proof.Machine
end

