-- ==== Sys2Proof/Machine/Scales.lean ====
section
/-! DEFINITION. Scales: fixed point on entry (R140), LB12 codes (R141), accumulation (R143 to R147), sections, parts and summaries as bytes
(R151 to R154), and the merge of sections (R162, R163). -/

namespace Sys2Proof.Machine

/-! ### Raw values (R138, R140) -/

/-- A raw value read exactly: a NaN, an infinity, or m × 2^e. -/
inductive RawVal where
  | nan
  | inf (neg : Bool)
  | fin (m e : Int)
deriving DecidableEq, Repr

/-- An IEEE 754 binary value of `eb` exponent and `mb` fraction bits. -/
def floatVal (eb mb v : Nat) : RawVal :=
  let man := v % 2 ^ mb
  let ex := (v / 2 ^ mb) % 2 ^ eb
  let neg := bit v (eb + mb)
  let bias : Int := 2 ^ (eb - 1) - 1
  let sg (n : Nat) : Int := if neg then -(n : Int) else n
  if ex = 2 ^ eb - 1 then (if man = 0 then .inf neg else .nan)
  else if ex = 0 then .fin (sg man) (1 - bias - mb)
  else .fin (sg (man + 2 ^ mb)) (ex - bias - mb)

/-- A raw value in IN_FMT (R138). -/
def rawVal (fmt v : Nat) : RawVal :=
  match fmt with
  | 0 => .fin (v % 2 ^ 64 : Nat) 0
  | 1 => .fin (sext 64 v) 0
  | 2 => floatVal 11 52 v
  | 3 => floatVal 8 23 v
  | 4 => floatVal 5 10 v
  | 5 => floatVal 8 7 v
  | 6 => .fin (v % 2 ^ 32 : Nat) 0
  | _ => .fin (sext 32 v) 0

/-- n ÷ d rounded half to even, for d > 0. -/
def roundEven (n : Int) (d : Nat) : Int :=
  let q := n / (d : Int)
  let r := n - q * d
  if 2 * r < d then q else if 2 * r = d then (if q % 2 = 0 then q else q + 1) else q + 1

/-- Flags of a conversion. -/
inductive ConvFlag where
  | none | nan | sat
deriving DecidableEq, Repr

/-- Conversion to fixed point (R140): q in units of 2^−FRAC, or none for a NaN. -/
def toFixed (x : RawVal) (frac : Int) : Option Int × ConvFlag :=
  match x with
  | .nan => (none, .nan)
  | .inf neg => (some (if neg then -(2 ^ 63 - 1) else 2 ^ 63 - 1), .sat)
  | .fin m e =>
    let k := e + frac
    let n : Int := if 0 ≤ k then m * 2 ^ k.toNat else m
    let d : Nat := if 0 ≤ k then 1 else 2 ^ (-k).toNat
    let lim : Int := (2 ^ 64 - 1) * d
    if lim ≤ 2 * n then (some (2 ^ 63 - 1), .sat)
    else if 2 * n ≤ -lim then (some (-(2 ^ 63 - 1)), .sat)
    else (some (roundEven n d), .none)

/-! ### LB12 (R141, R142) -/

/-- The code of a fixed-point value. -/
def lb12 (q : Int) : Nat :=
  if q = 0 then 0 else if q < 0 then 1
  else
    let n := q.toNat
    let p := n.log2
    let m := if 6 ≤ p then (n / 2 ^ (p - 6)) % 64 else (n * 2 ^ (6 - p)) % 64
    (p + 1) * 64 + m

/-- The representative value of a code: rep from 0x040 up, 0 below (R141, R181). -/
def codeValue (c : Nat) : Int :=
  if c < 0x40 then 0
  else
    let p := c / 64 - 1
    let m := c % 64
    let lo : Nat := if 6 ≤ p then 2 ^ p + m * 2 ^ (p - 6) else 2 ^ p + m * 2 ^ p / 64
    ((lo + (if 7 ≤ p then 2 ^ (p - 7) else 0) : Nat) : Int)

/-! ### Catalogue words (R138, R179) -/

/-- Word `i` of a metric's catalogue entry, for the closing bank as it stood at the boundary (R148). -/
def State.catWord (s : State) (closing : Bool) (m i : Nat) : Word :=
  match closing, s.scl.oldCat with
  | true, some c => regRead c (0x500000 + 16 * m + 4 * i)
  | _, _ => s.word (0x500000 + 16 * m + 4 * i)

/-- A metric's definition. -/
structure MetricDef where
  kind : Nat
  fmt : Nat
  frac : Int
  hist : Bool
  extremes : Bool
  owner : Nat
  winLo : Nat
  winHi : Nat
  select : Nat
deriving DecidableEq, Repr

/-- A metric's definition as the catalogue gives it. -/
def State.metricDef (s : State) (closing : Bool) (m : Nat) : MetricDef :=
  let a := (s.catWord closing m 0).toNat
  let b := (s.catWord closing m 1).toNat
  ⟨bits a 2 0, bits a 5 3, sext 7 (bits a 12 6), bit a 13, bit a 14, bits a 27 16, bits b 5 0, bits b 11 6, bits b 23 12⟩

/-- Metrics whose definition satisfies `p`, in ascending index. -/
def State.metricsWhere (s : State) (closing : Bool) (p : MetricDef → Bool) : List Nat :=
  (List.range 1024).filter (fun m => p (s.metricDef closing m))

/-! ### Metrics and tiles (R18, R19, R149, R399) -/

/-- The crossbar number of the Scales tile on which a metric is placed. -/
def State.metricTile (s : State) (closing : Bool) (m : Nat) : Option Nat :=
  let cost (i : Nat) : Nat := metricBytes (s.catWord closing i 0).toNat (s.catWord closing i 1).toNat
  let tiles := (List.range s.build.lanes).map (tileNum s.build tkScales) |>.filter (fun t => !s.bru.hidden.contains t)
  let use := (List.range m).foldl (fun (u : List Nat) i => if cost i = 0 then u else (placeMetric (cost i) u).getD u) (tiles.map (fun _ => 0))
  (use.findIdx? (fun x => x + cost m ≤ 131072)).bind (fun i => tiles[i]?)

/-- Whether a pipeline may feed a metric: by its PURPOSE, and for a model's score by the pipelines that its model names. Log entry 39 (DEDUCED). -/
def State.feeds (s : State) (p : Pipe) (d : MetricDef) : Bool :=
  match d.kind with
  | 1 => p.purpose = 0
  | 2 => p.purpose = 2
  | 3 => p.purpose = 1
  | 4 => p.purpose = 3 && s.inf.slots.any (fun x => x.num = d.select / 16 && x.cur.any (fun b =>
      le b 56 2 ≤ p.num && p.num < le b 56 2 + le b 58 2))
  | _ => p.purpose = 3

/-- Whether a metric passes through one of the tiles: its Scales tile, or a tile of a pipeline that feeds it. Log entry 39 (DEDUCED). -/
def State.metricThrough (s : State) (ts : List Nat) (closing : Bool) (m : Nat) : Bool :=
  !ts.isEmpty &&
    (let own := s.metricTile closing m
     let d := s.metricDef closing m
     d.kind ≠ 0 && (own.any (fun t => ts.contains t) || s.img.tabs.pipes.any (fun p =>
       s.feeds p d && p.tiles.any (fun t => ts.contains t)
         && (!p.tiles.any (fun t => tileKind s.build t = tkScales) || own.any (fun t => p.tiles.contains t)))))

/-! ### Sections -/

/-- MFLAGS bits (R153). -/
def mfMulti : Nat := 1
def mfBackstep : Nat := 2
def mfMismatch : Nat := 4
def mfSplit : Nat := 8
def mfNotCounting : Nat := 16
def mfProv : Nat := 32
def mfStale : Nat := 64
def mfIncomplete : Nat := 128
def mfSat : Nat := 256
def mfNan : Nat := 512
def mfClamped : Nat := 1024
def mfOvf : Nat := 2048
def mfLateIn : Nat := 4096

/-- An empty section of a metric; METHOD 7 until a Tally increment enters it. -/
def newSect (metric stall : Nat) : Sect := ⟨metric, stall, 0, 7, 0, 0, 0, 0, [], [], []⟩

/-- The section of a metric in a bank. -/
def sectOf (b : List Sect) (metric stall : Nat) : Sect := (b.find? (fun x => x.metric = metric)).getD (newSect metric stall)

/-- A bank with one section replaced. -/
def putSect (b : List Sect) (x : Sect) : List Sect := insertBy (fun y => y.metric) x (b.filter (fun y => y.metric ≠ x.metric))

/-- The signed distance of a TS_NS from the low 32 bits of the epoch's opening (R145). -/
def tsKey (openNs ts : Nat) : Int := sext 32 (ts + 2 ^ 32 - openNs % 2 ^ 32)

/-- Whether `a` ranks before `b` among entries of equal q: earlier, lower SOURCE, lower TAG (R145). -/
def tieBefore (openNs : Nat) (a b : XEnt) : Bool :=
  if tsKey openNs a.ts ≠ tsKey openNs b.ts then tsKey openNs a.ts < tsKey openNs b.ts
  else if a.src ≠ b.src then a.src < b.src else a.tag < b.tag

/-- The ranking of the largest set, or of the smallest. -/
def ranksBefore (largest : Bool) (openNs : Nat) (a b : XEnt) : Bool :=
  if a.q = b.q then tieBefore openNs a b else if largest then b.q < a.q else a.q < b.q

/-- An entry placed in a ranked set; an identical entry is kept once. -/
def rankIn (largest : Bool) (openNs : Nat) (x : XEnt) : List XEnt → List XEnt
  | [] => [x]
  | y :: ys => if y = x then y :: ys else if ranksBefore largest openNs x y then x :: y :: ys else y :: rankIn largest openNs x ys

/-- The union of a set with an entry, cut to eight (R145). -/
def addExtreme (largest : Bool) (openNs : Nat) (xs : List XEnt) (x : XEnt) : List XEnt := (rankIn largest openNs x xs).take 8

/-- A count added to a code of a histogram, ascending by code. -/
def addCode (c n : Nat) : List (Nat × Nat) → List (Nat × Nat)
  | [] => [(c, n)]
  | (d, k) :: rest => if c = d then (d, k + n) :: rest else if c < d then (c, n) :: (d, k) :: rest else (d, k) :: addCode c n rest

/-- A positive code outside the window (R143); 0x000 and 0x001 are never outside. -/
def outOfWin (d : MetricDef) (c : Nat) : Bool := 2 ≤ c && (c / 64 < d.winLo || d.winHi < c / 64)

/-- The edge code on a code's side (R143). -/
def edgeCode (d : MetricDef) (c : Nat) : Nat := if c / 64 < d.winLo then d.winLo * 64 else d.winHi * 64 + 63

/-- Where R143 counts a code: in its own bucket or out-of-window entry, or clamped to the edge. -/
def placeCode (d : MetricDef) (h : List (Nat × Nat)) (c : Nat) : Nat × Bool × Bool :=
  if !outOfWin d c then (c, false, false)
  else if h.any (fun p => p.1 = c) || (h.filter (fun p => outOfWin d p.1)).length < 32 then (c, true, false)
  else (edgeCode d c, false, true)

/-- COUNT with `n` more; it saturates at 2⁴⁸ − 1 with COUNT_OVF (R144). Log entry 53 (DEDUCED). -/
def countAdd (c n : Nat) : Nat × Bool := if 2 ^ 48 ≤ c + n then (2 ^ 48 - 1, true) else (c + n, false)

/-! ### Accumulation -/

/-- A bank: the open one or the closing one. -/
def State.bankOf (s : State) (closing : Bool) : List Sect := if closing then s.scl.closing else s.scl.bank

/-- A bank replaced. -/
def State.setBank (s : State) (closing : Bool) (b : List Sect) : State :=
  s.setScl (if closing then { s.scl with closing := b } else { s.scl with bank := b })

/-- The opening of the epoch that a bank belongs to. -/
def State.bankOpen (s : State) (closing : Bool) : Nat := if closing then s.scl.closingOpen else s.tim.openNs

/-- A converted value enters a bank (R143 to R145). PROV values do not enter the extreme sets (R172). Log entries 13 (DESIGN CHOICE), 53 (DEDUCED). -/
def State.accumulate (s : State) (closing : Bool) (m : Nat) (q : Int) (ts tag flags method skew : Nat) : State :=
  let d := s.metricDef closing m
  let x := sectOf (s.bankOf closing) m d.owner
  let (cnt, ovf) := countAdd x.count 1
  let (n, s) := if ovf then s.fresh else (0, s)
  let (code, held, clamped) := placeCode d x.hist (lb12 q)
  let ent : XEnt := ⟨q, ts, s.ident, tag⟩
  let keep := d.extremes && !bit flags 5
  let opn := s.bankOpen closing
  let x : Sect := { x with
    count := cnt
    sum := if ovf then Config.sumOvf n m else x.sum + q
    sumsq := if ovf then Config.sumsqOvf n m else x.sumsq + q.natAbs * q.natAbs
    hi := if keep then addExtreme true opn x.hi ent else x.hi
    lo := if keep then addExtreme false opn x.lo ent else x.lo
    hist := if d.hist then addCode code 1 x.hist else x.hist
    flags := x.flags ||| flags ||| (if d.hist && clamped then mfClamped else 0) ||| (if ovf then mfOvf else 0)
    method := if d.kind = 1 then (if x.count = 0 && x.method = 7 then method else max x.method method) else 7
    skew := max x.skew skew }
  let s := s.setBank closing (putSect (s.bankOf closing) x)
  let s := if closing then s else s.setInf { s.inf with last := (m, q) :: s.inf.last.filter (fun p => p.1 ≠ m) }
  let s := if d.hist && held then s.inc F.SCL_HIST_STAT_OUT_WINDOW else s
  let s := if d.hist && clamped then s.inc F.SCL_HIST_STAT_CLAMPED else s
  if (d.hist && clamped) || ovf then s.alertIf F.SCL_CTRL_ALERT_EN 3 else s

/-- Flags alone set in a metric's section of a bank. -/
def State.sectFlags (s : State) (closing : Bool) (m flags : Nat) : State :=
  let x := sectOf (s.bankOf closing) m (s.metricDef closing m).owner
  s.setBank closing (putSect (s.bankOf closing) { x with flags := x.flags ||| flags })

/-- A value is converted under the bank's catalogue and accumulated (R140); a NaN adds nothing but its flag and count, and
nothing comes through a tile that is isolated or hidden (R19). Log entry 53 (DEDUCED). -/
def State.putVal (s : State) (closing : Bool) (m : Nat) (x : RawVal) (ts tag flags method skew : Nat) : State :=
  let d := s.metricDef closing m
  if d.kind = 0 || 6 ≤ d.kind || s.metricThrough s.stoppedTiles closing m then s
  else
    match toFixed x d.frac with
    | (none, _) => (s.sectFlags closing m (flags ||| mfNan)).inc F.SCL_CONV_STAT_NAN
    | (some q, .sat) => (s.accumulate closing m q ts tag (flags ||| mfSat) method skew).inc F.SCL_CONV_STAT_SAT
    | (some q, _) => s.accumulate closing m q ts tag flags method skew

/-- Raw bits in the metric's IN_FMT are accumulated. -/
def State.putRaw (s : State) (closing : Bool) (m raw ts tag flags method skew : Nat) : State :=
  s.putVal closing m (rawVal (s.metricDef closing m).fmt raw) ts tag flags method skew

/-- Scales accumulates: the image is loaded and the power state is RUN (R22, R467). -/
def State.collects (s : State) : Bool := s.loaded && s.power = 0 && !s.ports.inReset

/-- Which bank a stamp belongs to (R146): the closing bank until its seal, the open one, or neither when its epoch has been sealed. -/
def State.bankAt (s : State) (t : Nat) : Option Bool :=
  if 8 * s.tim.openNs ≤ t then some false
  else match s.tim.closed with
    | some c => if 8 * c.openNs ≤ t then some true else none
    | none => none

/-- A value arrives at a Scales tile (R146, R147, R156). -/
def State.scalesTake (s : State) (v : MetricValue) : State :=
  if !s.collects || 1024 ≤ v.metric then s
  else if s.act F.SCL_CTRL_ACC_EN = 0 then s.inc F.SCL_LATE_STAT_DROPPED
  else
    let ts := tsNs (v.t / 8)
    match s.bankAt v.t with
    | some closing => s.putRaw closing v.metric v.raw.toNat ts v.tag.toNat v.flags 0 0
    | none =>
      if s.act F.SCL_CTRL_LATE_MODE = 1 then s.inc F.SCL_LATE_STAT_DROPPED
      else (s.inc F.SCL_LATE_STAT_FOLDED).putRaw false v.metric v.raw.toNat ts v.tag.toNat (v.flags ||| mfLateIn) 0 0

/-! ### Sections as bytes (R153) -/

/-- An extreme entry's 16 bytes. -/
def XEnt.bytes (x : XEnt) : Bytes := toLE 8 (twos 64 x.q) ++ toLE 4 x.ts ++ toLE 4 (x.src % 2 ^ 20 + 2 ^ 20 * x.tag)

/-- A histogram's entries: a bucket above 2³⁶ − 1 is a run of entries. Log entry 53 (DEDUCED). -/
def histEntries (h : List (Nat × Nat)) : List (Nat × Nat) :=
  h.flatMap fun p =>
    let big := 2 ^ 36 - 1
    let k := (p.2 - 1) / big
    List.replicate k (p.1, big) ++ [(p.1, p.2 - k * big)]

/-- A histogram entry's 6 bytes. -/
def histBytes (es : List (Nat × Nat)) : Bytes := es.flatMap (fun p => toLE 6 (p.1 + 4096 * p.2))

/-- The first 56 bytes and the extreme entries of a section, with NHIST as given. -/
def Sect.front (x : Sect) (nhist : Nat) : Bytes :=
  toLE 2 x.metric ++ toLE 2 x.flags ++ toLE 1 x.method ++ toLE 1 (x.hi.length + 16 * x.lo.length) ++ toLE 2 x.skew ++ toLE 2 nhist
    ++ toLE 6 x.count ++ toLE 16 (twos 128 x.sum) ++ toLE 24 x.sumsq ++ x.hi.flatMap XEnt.bytes ++ x.lo.flatMap XEnt.bytes

/-- The head of a continuation section (R154). -/
def contFront (metric nhist : Nat) : Bytes := toLE 2 metric ++ toLE 2 32768 ++ toLE 2 nhist ++ toLE 2 0

/-- Bytes of sections that a part of 255 flits holds. -/
def partRoom : Nat := 16320 - 36

/-- A part in the making: its sections and their bytes. -/
structure PartAcc where
  stall : Nat
  sections : Nat
  body : Bytes
deriving DecidableEq, Repr

/-- The rest of a histogram goes on in continuation sections of further parts (R154). -/
def contParts (stall metric : Nat) : Nat → List (Nat × Nat) → List PartAcc
  | 0, _ => []
  | fuel + 1, es =>
    if es.isEmpty then []
    else
      let k := min es.length ((partRoom - 8) / 6)
      ⟨stall, 1, padTo 8 (contFront metric k ++ histBytes (es.take k))⟩ :: contParts stall metric fuel (es.drop k)

/-- A section joins the last part, or opens the next one (R154). Parts are kept last first. -/
def addToParts (ps : List PartAcc) (x : Sect) : List PartAcc :=
  let es := histEntries x.hist
  let front := (x.front 0).length
  let (cur, rest) : PartAcc × List PartAcc := match ps with
    | p :: more => if p.stall = x.stall && p.body.length + front ≤ partRoom then (p, more) else (⟨x.stall, 0, []⟩, ps)
    | [] => (⟨x.stall, 0, []⟩, [])
  let room := partRoom - cur.body.length - front
  let k := min es.length (room / 6)
  let sec := x.front k ++ histBytes (es.take k)
  let cur : PartAcc := { cur with sections := cur.sections + 1, body := cur.body ++ (if k = es.length then padTo 8 sec else sec) }
  (contParts x.stall x.metric es.length (es.drop k)).reverse ++ cur :: rest

/-- Sections that a summary carries: those with COUNT or flags, by STALL and METRIC (R154). -/
def carried (b : List Sect) : List Sect :=
  sortBy (fun x => x.stall * 1024 + x.metric) (b.filter (fun x => x.count ≠ 0 || x.flags ≠ 0))

/-- The parts of a summary, in order. -/
def partsOf (b : List Sect) : List PartAcc := ((carried b).foldl addToParts []).reverse

/-! ### Summaries (R151, R152) -/

/-- What a summary head says besides its parts. -/
structure HeadInfo where
  epoch : Nat
  openNs : Nat
  closeNs : Nat
  svc : Nat
  timeQ : Nat
  sflags : Nat
  pgen : Nat
  contrib : Nat
  expected : Nat
  catId : Nat
  stale : Nat
  skewMax : Nat
  skewMean : Nat
deriving DecidableEq, Repr

/-- A record of this unit with a given SEQ. -/
def State.mkRec (s : State) (kind cls flits stall ts seq : Nat) (body : List (Nat × Bytes)) : Bytes :=
  closeRec (body.foldl (fun b f => overlay b f.1 f.2)
    (recHeader kind cls s.hub stall s.ident seq (tsNs ts) flits ++ List.replicate (64 * flits - 16) 0))

/-- Records of class 3 made with consecutive SEQs join the record chain (R423). -/
def State.chained (s : State) (recs : List Bytes) : State :=
  let s := s.setLnk { s.lnk with seqs := modNth s.lnk.seqs 3 (fun n => (n + recs.length) % 2 ^ 32) }
  s.setSec { s.sec with round := s.sec.round ++ recs }

/-- SFLAGS bits that follow from the sections (R151). -/
def sectSflags (b : List Sect) : Nat :=
  let f := b.foldl (fun a x => a ||| x.flags) 0
  (if bit f 10 then 8 else 0) ||| (if bit f 8 || bit f 9 then 16 else 0) ||| (if bit f 12 then 32 else 0)

/-- A summary formed by this unit: head and parts, chained in that order. The head's SEQ is the next one of class 3; SCL_SEAL tells its
parts and bytes (R159). -/
def State.formSummary (s : State) (h : HeadInfo) (b : List Sect) : Summary × State :=
  let seq := s.seqOf 3
  let ps := partsOf b
  let parts := ((List.range ps.length).zip ps).map (fun ip =>
    let p := ip.2
    let flits := (36 + p.body.length + 63) / 64
    s.mkRec 0x21 3 flits p.stall s.nowNs ((seq + 1 + ip.1) % 2 ^ 32)
      [(16, toLE 6 h.epoch), (22, toLE 2 ip.1), (24, toLE 2 p.sections), (28, toLE 4 seq), (32, p.body)])
  let head := s.mkRec 0x20 3 2 0 s.nowNs seq
    [(16, toLE 6 h.epoch), (22, toLE 2 ps.length), (24, toLE 8 h.openNs), (32, toLE 8 h.closeNs), (40, toLE 1 h.svc), (41, toLE 1 h.timeQ),
     (42, toLE 2 (h.sflags ||| sectSflags (carried b))), (44, toLE 2 (carried b).length), (46, toLE 2 h.pgen), (48, toLE 4 h.contrib),
     (52, toLE 4 h.expected), (56, toLE 4 h.catId), (60, toLE 4 h.stale), (64, toLE 2 h.skewMax), (66, toLE 2 h.skewMean),
     (72, sha384 parts.flatten)]
  let s := (s.set F.SCL_SEAL_PARTS parts.length).set F.SCL_SEAL_BYTES (head :: parts).flatten.length
  (⟨head, parts⟩, s.chained (head :: parts))

/-- A head as it is read. -/
def readHead (b : Bytes) : HeadInfo :=
  ⟨le b 16 6, le b 24 8, le b 32 8, le b 40 1 % 4, le b 41 1, le b 42 2, le b 46 2, le b 48 4, le b 52 4, le b 56 4, le b 60 4, le b 64 2, le b 66 2⟩

/-- An extreme entry read at an offset. -/
def readX (b : Bytes) (off : Nat) : XEnt :=
  let w := le b (off + 12) 4
  ⟨sext 64 (le b off 8), le b (off + 8) 4, w % 2 ^ 20, w / 2 ^ 20⟩

/-- `n` histogram entries read at an offset into a histogram. -/
def readHist (b : Bytes) (off : Nat) (h : List (Nat × Nat)) : Nat → List (Nat × Nat)
  | 0 => h
  | n + 1 =>
    let w := le b off 6
    readHist b (off + 6) (addCode (w % 4096) (w / 4096) h) n

/-- The sections of a part, added to those already read; a continuation adds to its metric's histogram (R153, R154). -/
def readSections (stall : Nat) (b : Bytes) : Nat → Nat → List Sect → List Sect
  | 0, _, acc => acc
  | n + 1, off, acc =>
    let m := le b off 2 % 1024
    let fl := le b (off + 2) 2
    if bit fl 15 then
      let nh := le b (off + 4) 2
      let len := 8 + 6 * nh
      let acc := acc.map (fun x => if x.metric = m && x.stall = stall then { x with hist := readHist b (off + 8) x.hist nh } else x)
      readSections stall b n (off + (len + 7) / 8 * 8) acc
    else
      let nx := le b (off + 5) 1
      let nmax := nx % 16
      let nmin := nx / 16
      let nh := le b (off + 8) 2
      let len := 56 + 16 * (nmax + nmin) + 6 * nh
      let hi := (List.range nmax).map (fun i => readX b (off + 56 + 16 * i))
      let lo := (List.range nmin).map (fun i => readX b (off + 56 + 16 * (nmax + i)))
      let x : Sect := ⟨m, stall, fl, le b (off + 4) 1 % 8, le b (off + 6) 2, le b (off + 10) 6, sext 128 (le b (off + 16) 16), le b (off + 32) 24,
        hi, lo, readHist b (off + 56 + 16 * (nmax + nmin)) [] nh⟩
      readSections stall b n (off + (len + 7) / 8 * 8) (acc ++ [x])

/-- The sections of a summary. -/
def Summary.sects (x : Summary) : List Sect :=
  x.parts.foldl (fun acc p => readSections (recStall p) p (le p 24 2) 32 acc) []

/-! ### Merging sections (R150, R162, R163) -/

/-- The distance of an out-of-window code from the nearest edge, with codes below ranked first on equal distance (R163). -/
def winRank (d : MetricDef) (c : Nat) : Nat := if c / 64 < d.winLo then 2 * (d.winLo * 64 - c) else 2 * (c - (d.winHi * 64 + 63)) + 1

/-- A histogram with at most the 32 nearest out-of-window codes; the others' counts go to the edges. The second part is what moved. -/
def clampHist (d : MetricDef) (h : List (Nat × Nat)) : List (Nat × Nat) × Nat :=
  let out := sortBy (fun p => winRank d p.1) (h.filter (fun p => outOfWin d p.1))
  let kept := (out.take 32).map (fun p => p.1)
  let moved := out.drop 32
  let base := h.filter (fun p => !outOfWin d p.1 || kept.contains p.1)
  (moved.foldl (fun acc p => addCode (edgeCode d p.1) p.2 acc) base, (moved.map (fun p => p.2)).foldl (fun a b => a + b) 0)

/-- Two sections of one metric and STALL merged; the second part is the number of values moved to an edge. Log entry 13 (DESIGN CHOICE). -/
def mergeSect (d : MetricDef) (openNs n : Nat) (a b : Sect) : Sect × Nat :=
  let (cnt, ovf) := countAdd a.count b.count
  let ovf := ovf || bit a.flags 11 || bit b.flags 11
  let (hist, moved) := clampHist d (b.hist.foldl (fun acc p => addCode p.1 p.2 acc) a.hist)
  ({ a with
    count := cnt
    sum := if ovf then Config.sumOvf n a.metric else a.sum + b.sum
    sumsq := if ovf then Config.sumsqOvf n a.metric else a.sumsq + b.sumsq
    hi := b.hi.foldl (addExtreme true openNs) a.hi
    lo := b.lo.foldl (addExtreme false openNs) a.lo
    hist := hist
    flags := a.flags ||| b.flags ||| (if ovf then mfOvf else 0) ||| (if moved = 0 then 0 else mfClamped)
    method := if a.method = 7 then b.method else if b.method = 7 then a.method else max a.method b.method
    skew := max a.skew b.skew }, moved)

/-- One section merged into a set of sections. -/
def State.mergeIn (s : State) (openNs : Nat) (acc : List Sect) (x : Sect) : List Sect × State :=
  match acc.find? (fun y => y.metric = x.metric && y.stall = x.stall) with
  | none => (acc ++ [x], s)
  | some y =>
    let (n, s) := s.fresh
    let (z, moved) := mergeSect (s.metricDef true x.metric) openNs n y x
    let s := if moved = 0 then s else (s.add F.SCL_HIST_STAT_CLAMPED moved).alertIf F.SCL_CTRL_ALERT_EN 3
    (acc.map (fun w => if w.metric = x.metric && w.stall = x.stall then z else w), s)

/-- Sets of sections merged. -/
def State.mergeSects (s : State) (openNs : Nat) (acc xs : List Sect) : List Sect × State :=
  xs.foldl (fun (p : List Sect × State) x => p.2.mergeIn openNs p.1 x) (acc, s)

/-! ### The sealed-sum window (R160) -/

/-- The sixteen words of a metric's sums in the last sealed epoch. -/
def State.sumWords (s : State) (m : Nat) : List Word :=
  let x := sectOf s.scl.sums m 0
  let sm := twos 128 x.sum
  [BitVec.ofNat 32 x.count, BitVec.ofNat 32 (x.count / 2 ^ 32 % 65536 + 65536 * x.flags)]
    ++ (List.range 4).map (fun i => BitVec.ofNat 32 (sm / 2 ^ (32 * i))) ++ (List.range 6).map (fun i => BitVec.ofNat 32 (x.sumsq / 2 ^ (32 * i)))
    ++ [BitVec.ofNat 32 (x.hi.length + 16 * x.lo.length + 256 * x.method + 65536 * x.skew), 0, 0, 0]

/-- SCALES_VALUE. -/
def execScalesValue (v : MetricValue) (s : State) : Host.Outcome State Fault Refusal := done (s.scalesTake v)

/-- SEALED_SUM_CAPTURE: a read of word +0x00 captures the sixteen words (R160). -/
def execSealedSumCapture (a : Access) (metric : Nat) (s : State) : Host.Outcome State Fault Refusal :=
  done (if metric < 1024 then s.guardRead a (0x510000 + 64 * metric) (fun s =>
    let ws := s.sumWords metric
    (ws.headD 0, s.capture a (0x510000 + 64 * metric) ws)) else s)

end Sys2Proof.Machine
end

