-- ==== Sys2Proof/Machine/Float.lean ====
section
/-! DEFINITION. IEEE 754 arithmetic on bit patterns, rounded to nearest even with subnormals kept (R204, R208), conversions between formats
(R209, R210), and exp and the logistic function within 2 units in the last place (R206). -/

namespace Sys2Proof.Machine

/-- n ÷ d × 2^e rounded to a format of `eb` exponent and `mb` fraction bits; a magnitude past the largest finite one is infinite. -/
def roundRat (eb mb : Nat) (n : Int) (d : Nat) (e : Int) : Nat :=
  let sg := if n < 0 then 2 ^ (eb + mb) else 0
  let a := n.natAbs
  if a = 0 || d = 0 then 0
  else
    let bias : Int := 2 ^ (eb - 1) - 1
    let x0 : Int := (a.log2 : Int) - d.log2
    -- floor(log2 (a ÷ d)) is x0 or x0 − 1
    let below := if 0 ≤ x0 then decide (a < d * 2 ^ x0.toNat) else decide (a * 2 ^ (-x0).toNat < d)
    let x := (if below then x0 - 1 else x0) + e
    let ex := max x (1 - bias) - mb
    let k := e - ex
    let num := if 0 ≤ k then a * 2 ^ k.toNat else a
    let den := if 0 ≤ k then d else d * 2 ^ (-k).toNat
    let sig := (roundEven (num : Nat) den).toNat
    let mag := if x < 1 - bias then sig else (x + bias).toNat * 2 ^ mb + sig - 2 ^ mb
    sg + min mag ((2 ^ eb - 1) * 2 ^ mb)

/-- m × 2^e rounded to FP32 (rn32). -/
def rn32 (m e : Int) : Nat := roundRat 8 23 m 1 e

/-- An FP32 pattern read exactly. -/
def f32 (b : Nat) : RawVal := floatVal 8 23 b

/-- +∞, −∞, and the largest finite value of FP32. -/
def infP : Nat := 0x7F800000
def infN : Nat := 0xFF800000
def maxP : Nat := 0x7F7FFFFF
def maxN : Nat := 0xFF7FFFFF

/-- An exact sum, as mantissa and exponent. -/
def addExact (m1 e1 m2 e2 : Int) : Int × Int :=
  if e1 ≤ e2 then (m1 + m2 * 2 ^ (e2 - e1).toNat, e1) else (m1 * 2 ^ (e1 - e2).toNat + m2, e2)

/-- FP32 plus an exact m × 2^e whose sign bit is `neg`, rounded once. -/
def addTo (a : Nat) (m e : Int) (neg : Bool) : Nat :=
  match f32 a with
  | .fin m1 e1 =>
    let (n, x) := addExact m1 e1 m e
    if n = 0 then (if bit a 31 && neg then 2 ^ 31 else 0) else rn32 n x
  | _ => a

/-- a + b in FP32. -/
def addF (a b : Nat) : Nat :=
  match f32 b with
  | .fin m e => addTo a m e (bit b 31)
  | _ => b

/-- −a. -/
def negF (a : Nat) : Nat := if bit a 31 then a - 2 ^ 31 else a + 2 ^ 31

/-- a × b in FP32. -/
def mulF (a b : Nat) : Nat :=
  match f32 a, f32 b with
  | .fin m1 e1, .fin m2 e2 => if m1 * m2 = 0 then 2 ^ 31 * ((a / 2 ^ 31 + b / 2 ^ 31) % 2) else rn32 (m1 * m2) (e1 + e2)
  | _, _ => if bit a 31 = bit b 31 then infP else infN

/-- a ÷ b in FP32, for finite a and finite b other than 0. -/
def divF (a b : Nat) : Nat :=
  match f32 a, f32 b with
  | .fin m1 e1, .fin m2 e2 =>
    if m2 = 0 then infP else if m1 = 0 then 0 else roundRat 8 23 (if m2 < 0 then -m1 else m1) m2.natAbs (e1 - e2)
  | _, _ => 0

/-- a ≤ b; false when either is a NaN. -/
def leF (a b : Nat) : Bool :=
  match f32 a, f32 b with
  | .nan, _ => false
  | _, .nan => false
  | .inf true, _ => true
  | _, .inf false => true
  | .inf false, _ => false
  | _, .inf true => false
  | .fin m1 e1, .fin m2 e2 => (addExact m1 e1 (-m2) e2).1 ≤ 0

/-- The larger and the smaller of two values. -/
def maxF (a b : Nat) : Nat := if leF a b then b else a
def minF (a b : Nat) : Nat := if leF a b then a else b

/-- A value rounded to an integer, half to even. -/
def rneF (a : Nat) : Int :=
  match f32 a with
  | .fin m e => if 0 ≤ e then m * 2 ^ e.toNat else roundEven m (2 ^ (-e).toNat)
  | .inf neg => if neg then -(2 ^ 200) else 2 ^ 200
  | .nan => 0

/-- An integer as FP32. -/
def ofIntF (i : Int) : Nat := rn32 i 0

/-- An infinite accumulator replaced by the largest finite value of its sign (R204), and whether it was. -/
def finite32 (a : Nat) : Nat × Bool := if a = infP then (maxP, true) else if a = infN then (maxN, true) else (a, false)

/-! ### The narrow formats (R209, R210) -/

/-- E4M3 as a raw value: S.1111.111 is a NaN, and there is no infinity. -/
def e4m3Val (v : Nat) : RawVal :=
  let man := v % 8
  let ex := (v / 8) % 16
  let sg (n : Nat) : Int := if bit v 7 then -(n : Int) else n
  if ex = 15 && man = 7 then .nan else if ex = 0 then .fin (sg man) (-9) else .fin (sg (man + 8)) (ex - 10)

/-- A stored weight by W_FMT (R207): 0 INT8, 1 E4M3, 2 E5M2, 3 FP16, 4 bfloat16. -/
def weightVal (fmt v : Nat) : RawVal :=
  match fmt with
  | 0 => .fin (sext 8 v) 0
  | 1 => e4m3Val v
  | 2 => floatVal 5 2 v
  | 3 => floatVal 5 10 v
  | _ => floatVal 8 7 v

/-- Exponent bits, fraction bits and the largest finite pattern of a float format. -/
def fmtShape (fmt : Nat) : Nat × Nat × Nat :=
  match fmt with
  | 1 => (4, 3, 0x7E)
  | 2 => (5, 2, 0x7B)
  | 3 => (5, 10, 0x7BFF)
  | _ => (8, 7, 0x7F7F)

/-- The E4M3 magnitude nearest to a × 2^e, before saturation: normal from 2⁻⁶, spacing 2⁻⁹ below it. -/
def e4m3Mag (a : Nat) (e : Int) : Nat :=
  if a = 0 then 0
  else
    let x : Int := (a.log2 : Int) + e
    let ex := max x (-6) - 3
    let k := e - ex
    let sig := (roundEven ((if 0 ≤ k then a * 2 ^ k.toNat else a : Nat) : Int) (if 0 ≤ k then 1 else 2 ^ (-k).toNat)).toNat
    if x < -6 then sig else (x + 7).toNat * 8 + sig - 8

/-- FP32 converted to a float format, saturating at the largest finite value; the pattern and whether it saturated (R209). -/
def toFmt (fmt a : Nat) : Nat × Bool :=
  let (eb, mb, top) := fmtShape fmt
  let sg := if bit a 31 then 2 ^ (eb + mb) else 0
  match f32 a with
  | .fin m e =>
    let mag := if fmt = 1 then e4m3Mag m.natAbs e else roundRat eb mb (m.natAbs : Nat) 1 e
    (sg + min mag top, top < mag)
  | .inf _ => (sg + top, true)
  | .nan => (0, false)

/-- v rounded to INT8, saturating (R209). -/
def satI8 (i : Int) : Int × Bool := (clampI (-128) 127 i, i < -128 || 127 < i)

/-- rshift_rne of R209. -/
def rshiftRne (v : Int) (s : Nat) : Int := if s = 0 then v else roundEven v (2 ^ s)

/-! ### exp and logistic (R206) -/

/-- ln 2 in units of 2⁻¹²⁸. -/
def ln2Fix : Nat := 0xB17217F7D1CF79ABC9E3B39803F2F6AF

/-- Σ rⁱ ÷ i! in units of 2⁻¹²⁸, for r in [0, 1) in the same units: term `t` of index `i` on. -/
def expTerms (r : Nat) : Nat → Nat → Nat → Nat → Nat
  | 0, _, _, acc => acc
  | n + 1, i, t, acc =>
    let t := t * r / 2 ^ 128 / (i + 1)
    expTerms r n (i + 1) t (acc + t)

/-- exp(m × 2^e) as (f, k), meaning f × 2^(k − 128), to about 120 bits. Arguments past ±1024 are cut there. -/
def expFix (m e : Int) : Nat × Int :=
  let num : Int := if 0 ≤ e + 128 then m * 2 ^ (e + 128).toNat else m / 2 ^ (-(e + 128)).toNat
  let v := clampI (-(1024 * 2 ^ 128)) (1024 * 2 ^ 128) num
  let k := v / (ln2Fix : Int)
  let r := (v - k * ln2Fix).toNat
  (expTerms r 40 0 (2 ^ 128) (2 ^ 128), k)

/-- A result within 2 units in the last place of n ÷ d × 2^e: the correctly rounded pattern moved by a free offset, kept inside the bound.
The offset is a function of the operation and its operand alone, since every unit runs the same algorithm (R196, R206). Log entry 15 (DESIGN CHOICE). -/
def nearFree (op x : Nat) (n d : Nat) (e : Int) : Nat :=
  let r := roundRat 8 23 n d e
  if infP ≤ r || r = 0 then r
  else
    let o : Int := ((Config.ulpOffset op x % 5 : Nat) : Int) - 2
    let c := ((r : Int) + o).toNat
    -- |c − exact| ≤ 2 ulp, with the ulp of r
    let ulpE : Int := (max 1 (r / 2 ^ 23) : Nat) - 150
    match f32 c with
    | .fin mc ec =>
      let (dm, de) := addExact (mc * d) ec (-(n : Int)) e
      let lim := addExact (2 * d) ulpE 0 de
      if (addExact dm.natAbs de (-lim.1) lim.2).1 ≤ 0 then c else ((r : Int) + o / 2).toNat
    | _ => r

/-- exp of an FP32 value. Log entry 15 (DESIGN CHOICE). -/
def expF (x : Nat) : Nat :=
  match f32 x with
  | .fin m e => let (f, k) := expFix m e; nearFree 0 x f 1 (k - 128)
  | .inf true => 0
  | _ => infP

/-- 1 ÷ (1 + exp(−x)). Log entry 15 (DESIGN CHOICE). -/
def logisticF (x : Nat) : Nat :=
  match f32 x with
  | .fin m e =>
    let (f, k) := expFix (-m) e
    -- 1 ÷ (1 + f × 2^(k − 128))
    let j := k - 128
    if 0 ≤ j then nearFree 1 x 1 (1 + f * 2 ^ j.toNat) 0
    else let w := 2 ^ (-j).toNat; nearFree 1 x w (w + f) 0
  | .inf true => 0
  | _ => 0x3F800000

end Sys2Proof.Machine
end

