-- ==== Sys2Proof/Machine/Keys.lean ====
section
/-! DEFINITION. The Pyrmeide root's keys (R414, R416), authentication blocks (R418), identity tails, attestation and seal records (R421 to
R425), and digest keys (R434). -/

namespace Sys2Proof.Machine

/-! ### Fuse identity (R414) -/

/-- A fuse word as read. -/
def State.fuseWord (s : State) (a : Nat) : Word := match s.bru.fuse.find? (fun p => p.1 = a) with
  | some p => p.2
  | none => 0

/-- `n` fuse words from `a` on as bytes, the lowest word and its least significant byte first. -/
def State.fuseBytes (s : State) (a n : Nat) : Bytes := (List.range n).flatMap (fun i => toLE 4 (s.fuseWord (a + i)).toNat)

/-- UDS, ENDORSE, SERIAL and RST_KEY. -/
def State.uds (s : State) : Bytes := s.fuseBytes 0x10 12
def State.endorse (s : State) : Bytes := s.fuseBytes 0x29 24
def State.serial (s : State) : Bytes := s.fuseBytes 0x41 2
def State.rstKey (s : State) : Bytes := s.fuseBytes 0x47 8

/-- A SEC1 compressed point as x then y: y is the root of x³ − 3x + b of the parity given. -/
def decompress (bs : Bytes) : Bytes :=
  let x := be (slice bs 1 48)
  let y := modPowAux 384 p384P ((x * x * x + (p384P - 3) * x + p384B) % p384P) ((p384P + 1) / 4) 1
  let y := if y % 2 = le bs 0 1 % 2 then y else (p384P - y) % p384P
  toBE 48 x ++ toBE 48 y

/-- OWNER_PK in its 96-byte form. -/
def State.ownerPk (s : State) : Bytes := decompress (slice (s.fuseBytes 0x1C 13) 0 49)

/-- In BLANK and RETURNED the root derives nothing (R416). -/
def State.keyless (s : State) : Bool := s.lifecycle = 0 || s.lifecycle = 3

/-! ### Keys (R416) -/

/-- ASCII. -/
def ascii (t : String) : Bytes := t.toList.map (fun c => BitVec.ofNat 8 c.toNat)

/-- A private scalar from 48 bytes. -/
def scalarOf (v : Bytes) : Nat := be v % (p384N - 1) + 1

/-- BIND: lifecycle and debug level. -/
def State.bind (s : State) : Nat := s.lifecycle + 8 * s.debug

/-- CDI0 and CDI1. -/
def State.cdi0 (s : State) : Bytes := hmac384 s.uds (ascii "XDICE0")
def State.cdi1 (s : State) : Bytes := hmac384 s.cdi0 (s.sec.mImage ++ toLE 1 s.bind)

/-- The DeviceID scalar and the alias scalar. -/
def State.devKey (s : State) : Nat := scalarOf (hmac384 s.cdi0 (ascii "DEVID"))
def State.aliasKey (s : State) : Nat := scalarOf (hmac384 s.cdi1 (ascii "ALIAS"))

/-- The sampling key; 48 zero bytes where nothing is derived. -/
def State.sampleKey (s : State) : Bytes := if s.keyless then List.replicate 48 0 else hmac384 s.cdi1 (ascii "SAMPLE")

/-- Public keys; zero bytes where nothing is derived. -/
def State.devPk (s : State) : Bytes := if s.keyless then List.replicate 96 0 else publicKey s.devKey
def State.aliasPk (s : State) : Bytes := if s.keyless then List.replicate 96 0 else publicKey s.aliasKey

/-- ALIAS_ID of a public key (R421). -/
def aliasIdOf (pk : Bytes) : Nat := le (sha384 pk) 0 4

/-- The unit's ALIAS_ID; 0 in BLANK and RETURNED. -/
def State.aliasId (s : State) : Nat := if s.keyless then 0 else aliasIdOf s.aliasPk

/-- A signature by the alias key; zero bytes where nothing is derived. -/
def State.aliasSign (s : State) (m : Bytes) : Bytes := if s.keyless then List.replicate 96 0 else ecdsaSign s.aliasKey (sha384 m)

/-- A new alias key after a load, a switch or a change of level: SEC_ALIAS_ID follows (R416, R441). -/
def State.newAlias (s : State) : State := s.set F.SEC_ALIAS_ID s.aliasId

/-- ENDORSE verifies against OWNER_PK (R422). -/
def State.endorseOk (s : State) : Bool := !s.keyless && ecdsaVerify s.ownerPk (sha384 (s.serial ++ s.devPk)) s.endorse

/-! ### Events of the security classes (R439) -/

/-- Class 0x3C; ALERT_N when SEC_CTRL.ALERT_EN is 1 (R443). -/
def State.secFail (s : State) (subj detail : Nat) : State := (s.log 0x3C detail subj 0).alertIf F.SEC_CTRL_ALERT_EN 11

/-- Class 0x3D. -/
def State.secChange (s : State) (subj val detail : Nat) : State := s.log 0x3D detail subj val

/-! ### Authentication blocks (R418) -/

/-- The object's authentication block accepts it for a use. Log entry 37 (DEDUCED). -/
def State.authentic (s : State) (typ : Nat) (obj : Bytes) : Bool :=
  let n := obj.length - 128
  let blk := obj.drop n
  let msg := obj.take n ++ slice blk 96 32
  let target := slice blk 100 8
  128 ≤ obj.length && le blk 96 4 = typ && (target = List.replicate 8 0 || target = s.serial)
    && (if s.lifecycle = 0 then slice blk 0 48 = sha384 msg && slice blk 48 48 = List.replicate 48 0
        else ecdsaVerify s.ownerPk (sha384 msg) (slice blk 0 96))

/-- A rejection is counted and logged: DETAIL 0 image, 1 model, 2 host firmware, 3 token or credential. -/
def State.authReject (s : State) (subj detail : Nat) : State :=
  let s := match detail with
    | 0 => s.inc F.SEC_AUTH_STAT_IMAGE
    | 1 => s.inc F.SEC_AUTH_STAT_MODEL
    | 2 => s.inc F.SEC_AUTH_STAT_HOSTFW
    | _ => s.inc F.SEC_AUTH_STAT_TOKEN
  s.secFail subj detail

/-! ### Identity (R421, R422) -/

/-- The identity tail of 440 bytes. -/
def State.identityTail (s : State) : Bytes :=
  let pk := s.aliasPk
  let m := s.serial ++ pk ++ s.sec.mImage ++ toLE 1 s.bind
  slice (pk ++ slice s.sec.mImage 0 48 ++ toLE 1 s.bind ++ List.replicate 7 0
    ++ (if s.keyless then List.replicate 96 0 else ecdsaSign s.devKey (sha384 m)) ++ s.devPk ++ s.endorse) 0 440

/-- STATE of attestation and seal records: lifecycle, debug level, power state and ENDORSED. -/
def State.stateByte (s : State) : Nat := s.lifecycle + 8 * s.debug + 32 * s.power + 128 * s.fld F.SEC_STATE_ENDORSED

/-- The parts of an identity tail: ALIAS_PK, DEV_SIG, DEV_PK and ENDORSE. -/
def tailAlias (t : Bytes) : Bytes := slice t 0 96
def tailDevSig (t : Bytes) : Bytes := slice t 152 96
def tailDevPk (t : Bytes) : Bytes := slice t 248 96
def tailEndorse (t : Bytes) : Bytes := slice t 344 96

/-- An identity tail holds: DEV_SIG over SERIAL, ALIAS_PK, M_IMAGE and BIND, and ENDORSE against OWNER_PK where the unit says ENDORSED; a
root that derives no keys verifies nothing (R421, R422, R427). -/
def State.tailOk (s : State) (serial tail : Bytes) (endorsed : Bool) : Bool :=
  s.keyless
    || (ecdsaVerify (tailDevPk tail) (sha384 (serial ++ slice tail 0 145)) (tailDevSig tail)
        && (!endorsed && s.fld F.SEC_STATE_ENDORSED = 0 || ecdsaVerify s.ownerPk (sha384 (serial ++ tailDevPk tail)) (tailEndorse tail)))

/-- The signature of a seal record verifies, and its identity tail holds (R424, R427). -/
def State.sealSigOk (s : State) (b : Bytes) : Bool :=
  let tail := slice b 336 440
  s.keyless
    || (ecdsaVerify (tailAlias tail) (sha384 (slice b 0 240)) (slice b 240 96) && le b 36 4 = aliasIdOf (tailAlias tail)
        && s.tailOk (slice b 40 8) tail (bit (le b 22 1) 7))

/-- M_MODELS over the slots that are ACTIVE. -/
def State.mModels (s : State) : Bytes :=
  sha384 ((s.inf.slots.filter (fun x => s.fld (F.SLOT_CFG_STATE x.num) = 1)).flatMap (fun x => match x.cur with
    | some im => toLE 1 x.num ++ sha384 im
    | none => []))

/-- An attestation record for a nonce: class 2, 13 flits. -/
def State.attest (s : State) (nonce : Bytes) : Bytes × State :=
  let body : List (Nat × Bytes) := [(16, toLE 6 s.tim.epoch), (22, toLE 1 s.stateByte), (24, slice nonce 0 16), (40, s.serial),
    (48, toLE 4 (s.fld F.SEC_FLOOR_GEN)), (52, toLE 4 s.aliasId), (56, s.mModels), (336, s.identityTail)]
  let draft := s.mkRec 0x60 2 13 0 s.nowNs (s.seqOf 2) body
  s.originate 0x60 2 13 0 s.nowNs (body ++ [(240, s.aliasSign (draft.take 240))])

/-! ### Seals (R423 to R425) -/

/-- One entry of CHILD_COMMIT: EPOCH, child key, CHAIN. -/
def commitEntry (c : Nat × Nat × Bytes) : Bytes := toLE 6 c.1 ++ toLE 4 (c.2.1 % 2 ^ 20) ++ slice c.2.2 0 48

/-- The unit's seal record of an epoch ends the round and starts the next one. Log entry 37 (DEDUCED). -/
def State.sealRound (s : State) (epoch : Nat) : Bytes × State :=
  let c := s.sec
  let chain := sha384 (c.prevChain ++ c.round.flatten)
  let cs := sortBy (fun x => x.1 * 2 ^ 21 + x.2.1) c.commits
  let commit := if cs.isEmpty then List.replicate 48 0 else sha384 (cs.flatMap commitEntry)
  let seq := s.seqOf 3
  let body : List (Nat × Bytes) := [(16, toLE 6 epoch), (22, toLE 1 s.stateByte), (24, toLE 4 c.firstSeq), (28, toLE 4 ((seq + 2 ^ 32 - 1) % 2 ^ 32)),
    (32, toLE 4 cs.length), (36, toLE 4 s.aliasId), (40, s.serial), (48, slice c.prevChain 0 48), (96, chain), (144, slice c.headHash 0 48), (192, commit),
    (336, s.identityTail)]
  let draft := s.mkRec 0x61 3 13 0 s.nowNs seq body
  let rec_ := s.mkRec 0x61 3 13 0 s.nowNs seq (body ++ [(240, s.aliasSign (draft.take 240))])
  let s := s.setLnk { s.lnk with seqs := modNth s.lnk.seqs 3 (fun n => (n + 1) % 2 ^ 32) }
  (rec_, s.setSec { s.sec with prevChain := chain, round := [rec_], firstSeq := seq, headHash := List.replicate 48 0, commits := [],
                               roundNo := s.sec.roundNo + b2n (s.red.tbl = 0) })

/-- A head leaves in the round: HEAD_HASH holds its digest. -/
def State.headLeaves (s : State) (head : Bytes) : State := s.setSec { s.sec with headHash := sha384 head }

/-- A child round checked and merged in the round in progress (R425). -/
def State.commitChild (s : State) (epoch key : Nat) (chain : Bytes) : State :=
  s.setSec { s.sec with commits := s.sec.commits ++ [(epoch, key, chain)] }

/-! ### Domain keys (R433, R434) -/

/-- The domain key in force at the opening boundary of an epoch. -/
def State.domainKeyAt (s : State) (epoch : Nat) : Option Bytes :=
  ((s.sec.dkeys.filter (fun k => k.2.1 ≤ epoch)).foldl (fun (best : Option (Nat × Nat × Bytes)) k => match best with
    | some b => if b.2.1 ≤ k.2.1 then some k else some b
    | none => some k) none).map (fun k => k.2.2)

/-- The digest key of an epoch; 0 is replaced by 1. -/
def State.digestKey (s : State) (epoch : Nat) : Option Nat :=
  (s.domainKeyAt epoch).map fun k =>
    let v := le (hmac384 k (ascii "DIGEST" ++ toLE 8 epoch)) 0 8
    if v = 0 then 1 else v

end Sys2Proof.Machine
end

