-- ==== Sys2Proof/Machine/ImageBytes.lean ====
section
/-! DEFINITION. A configuration image as bytes: header, directory, sections and their entries (R397 to R399), and objects in the broadcast
staging area (R356). -/

namespace Sys2Proof.Machine

/-! ### Header (R397) -/

def imgMagic : Nat := 0x474D4958
def mdlMagic : Nat := 0x4C444D58
def imgLength (b : Bytes) : Nat := le b 8 4
def imgId (b : Bytes) : Nat := le b 12 4
def imgVersion (b : Bytes) : Nat := le b 16 4
def imgCatId (b : Bytes) : Nat := le b 20 4
def imgRole (b : Bytes) : Nat := le b 24 1
def imgMinMv (b : Bytes) : Nat := le b 28 2
def imgSections (b : Bytes) : Nat := le b 30 2
def imgProfiles (b : Bytes) : Nat := le b 32 4

/-- A directory entry. -/
structure DirEnt where
  typ : Nat
  off : Nat
  len : Nat
  entries : Nat
deriving DecidableEq, Repr

/-- Directory entry `i`. -/
def dirEnt (b : Bytes) (i : Nat) : DirEnt :=
  let o := 64 + 16 * i
  ⟨le b o 2, le b (o + 4) 4, le b (o + 8) 4, le b (o + 12) 4⟩

/-- The directory. -/
def imgDir (b : Bytes) : List DirEnt := (List.range (imgSections b)).map (dirEnt b)

/-- The entry of a section type; an absent section is empty. -/
def imgSect (b : Bytes) (typ : Nat) : DirEnt := ((imgDir b).find? (fun e => e.typ = typ)).getD ⟨typ, 0, 0, 0⟩

/-- The bytes of a section. -/
def imgSectBytes (b : Bytes) (typ : Nat) : Bytes := let e := imgSect b typ; slice b e.off e.len

/-! ### Sections (R398, R399) -/

/-- Catalogue word `i` of metric `m`; metrics past the section are KIND 0. -/
def imgCatWord (b : Bytes) (m i : Nat) : Word :=
  let e := imgSect b 2
  if 16 * m + 16 ≤ e.len then BitVec.ofNat 32 (le b (e.off + 16 * m + 4 * i) 4) else 0

/-- REGISTERS entries: address and value. -/
def imgRegs (b : Bytes) : List (Nat × Word) :=
  let e := imgSect b 5
  (List.range (e.len / 8)).map (fun i => (le b (e.off + 8 * i) 4 % 2 ^ 24, BitVec.ofNat 32 (le b (e.off + 8 * i + 4) 4)))

/-- STATIONS entries: counter and the two map words. -/
def imgStations (b : Bytes) : List (Nat × Word × Word) :=
  let e := imgSect b 3
  (List.range (e.len / 12)).map (fun i =>
    let o := e.off + 12 * i
    (le b o 4 % 2 ^ 17, BitVec.ofNat 32 (le b (o + 4) 4), BitVec.ofNat 32 (le b (o + 8) 4)))

/-- The event catalogue. -/
def imgEvents (b : Bytes) : List EvtInfo :=
  let e := imgSect b 4
  (List.range (e.len / 8)).map (fun i =>
    let o := e.off + 8 * i
    let w := le b o 2
    ⟨bits w 11 0, bits w 13 12, bit w 14, bit w 15, le b (o + 2) 2, le b (o + 4) 2, le b (o + 6) 1⟩)

/-- Counts of pipelines, routes and spares. -/
def imgCounts (b : Bytes) : Nat × Nat × Nat :=
  let o := (imgSect b 1).off
  (le b o 2, le b (o + 2) 2, le b (o + 4) 2)

/-- The pipelines. -/
def imgPipes (b : Bytes) : List Pipe :=
  let o := (imgSect b 1).off + 8
  (List.range (imgCounts b).1).map (fun i =>
    let p := o + 24 * i
    let w := le b (p + 4) 2
    let m := le b (p + 6) 2
    ⟨le b p 2, le b (p + 2) 1, if w = 0 then 16 else w, if m = 0 then 64 else m,
     (List.range (min 8 (le b (p + 3) 1))).map (fun j => le b (p + 8 + 2 * j) 2 % 512)⟩)

/-- The routes. -/
def imgRoutes (b : Bytes) : List Route :=
  let o := (imgSect b 1).off + 8 + 24 * (imgCounts b).1
  (List.range (imgCounts b).2.1).map (fun i =>
    let p := o + 12 * i
    ⟨le b p 2 % 512, le b (p + 2) 2 % 512, le b (p + 4) 1, bit (le b (p + 5) 1) 0, le b (p + 6) 2, le b (p + 8) 4⟩)

/-- The spares. -/
def imgSpares (b : Bytes) : List (Nat × Nat) :=
  let o := (imgSect b 1).off + 8 + 24 * (imgCounts b).1 + 12 * (imgCounts b).2.1
  (List.range (imgCounts b).2.2).map (fun i => let w := le b (o + 4 * i) 4; (bits w 8 0, bits w 24 16))

/-- Host report fields. -/
def imgReports (b : Bytes) : List RepField :=
  let e := imgSect b 8
  (List.range (e.len / 8)).map (fun i =>
    let o := e.off + 8 * i
    ⟨le b o 1, le b (o + 1) 1, le b (o + 2) 1, le b (o + 3) 1, le b (o + 4) 1 % 8⟩)

/-- The tables of an image. -/
def imgTables (b : Bytes) : ImgTables := ⟨imgEvents b, imgPipes b, imgRoutes b, imgSpares b, imgReports b, imgMinMv b⟩

/-- The capacity of a lane at an image's minimum voltage. -/
def imgLaneCap (b : Bytes) : Nat := max 1 (capAt (imgMinMv b) rateTable)

/-! ### Broadcast objects (R356) -/

/-- The bytes of an object all of whose chunks are here. -/
def Bcast.whole (x : Bcast) : Option Bytes :=
  let got := (x.chunks.map (fun c => c.2.length)).foldl (fun a b => a + b) 0
  if got = x.total then some (x.chunks.foldl (fun bs c => overlay bs c.1 c.2) []) else none

/-- A whole object in staging whose first four bytes are a MAGIC. -/
def State.stagedObject (s : State) (magic : Nat) : Option Bytes :=
  (s.lnk.bcast.filterMap Bcast.whole).find? (fun b => le b 0 4 = magic)

end Sys2Proof.Machine
end

