-- ==== Sys2Proof/Machine/Trace.lean ====
section
/-! DEFINITION. Trace streams: canonical form (R255), blocks and frames (R260 to R265), Pannier chains (R267 to R270, R273, R274), flushes
(R266), records sent to a stream (R259, R272, R283), and the sequencers' items (R257, R258). -/

namespace Sys2Proof.Machine

/-! ### Packets (R252, R255) -/

/-- TYPE of a packet. -/
def Pkt.typ (p : Pkt) : Nat := bits (p.words.headD 0) 59 52

/-- PAYLOAD of a packet. -/
def Pkt.payload (p : Pkt) : Nat := p.words.headD 0 % 2 ^ 52

/-- The stamp word: channel and stamp modulo 2⁶⁰. -/
def Pkt.stampWord (p : Pkt) : Nat := p.t % 2 ^ 60 + 2 ^ 60 * p.chan

/-- Canonical bytes of a packet. -/
def Pkt.canon (p : Pkt) : Bytes := (p.stampWord :: p.words).flatMap (toLE 8)

/-- Their number. -/
def Pkt.size (p : Pkt) : Nat := 8 * (1 + p.words.length)

/-- A packet that the block inserts on a channel (R265). -/
def insPkt (chan t typ payload : Nat) (conts : List Nat) : Pkt :=
  ⟨chan, t, (payload % 2 ^ 52 + 2 ^ 52 * typ + 2 ^ 60 * conts.length) :: conts, true⟩

/-! ### Streams and channels -/

/-- Stream states (R270). -/
def paOff : Nat := 0
def paRun : Nat := 1
def paWait : Nat := 2
def paExhausted : Nat := 3
def paStopped : Nat := 4
def paFault : Nat := 5

/-- A stream. -/
def State.pan (s : State) (k : Nat) : Pan := s.trc.pans.getD k (newPan k)

/-- One stream changed. -/
def State.modPan (s : State) (k : Nat) (f : Pan → Pan) : State := s.setTrc { s.trc with pans := modNth s.trc.pans k f }

/-- A channel. -/
def State.chan (s : State) (c : Nat) : Chan := s.trc.chans.getD c (newChan c)

/-- One channel changed. -/
def State.modChan (s : State) (c : Nat) (f : Chan → Chan) : State := s.setTrc { s.trc with chans := modNth s.trc.chans c f }

/-- STATE of a stream. -/
def State.panState (s : State) (k : Nat) : Nat := s.fld (F.TRC_PAN_STAT_STATE k)

/-- A stream enters a state. -/
def State.setPanState (s : State) (k v : Nat) : State := s.set (F.TRC_PAN_STAT_STATE k) v

/-- The stream takes items: enabled, in RUN, WAIT or EXHAUSTED, and no STOP has been given (R270, R272, R273). -/
def State.takesItems (s : State) (k : Nat) : Bool :=
  k < streams s.build && s.on (F.TRC_PAN_CTRL_EN k) && (s.panState k = paRun || s.panState k = paWait || s.panState k = paExhausted)
    && !s.on (F.TRC_PAN_STAT_STOP_PENDING k)

/-- A TRACE stream (R259). -/
def State.isTraceStream (s : State) (k : Nat) : Bool := s.fld (F.TRC_PAN_CTRL_CODEC k) = 3

/-- Enabled channels of a stream, ascending. -/
def State.streamChans (s : State) (k : Nat) : List Nat :=
  (List.range 16).filter (fun c => s.on (F.TRC_CHAN_EN c) && s.fld (F.TRC_CHAN_STREAM c) = k)

/-! ### Codecs (R263 to R265) -/

/-- A varint: 7 bits per byte, least significant group first (R264). -/
def varintAux : Nat → Nat → Bytes
  | 0, _ => []
  | n + 1, v => if v < 128 then [BitVec.ofNat 8 v] else BitVec.ofNat 8 (v % 128 + 128) :: varintAux n (v / 128)
def varint (v : Nat) : Bytes := varintAux 10 v

/-- Zigzag of a 64-bit difference (R264). -/
def zigzag (d : Nat) : Nat :=
  let i := sext 64 d
  if i < 0 then 2 * i.natAbs - 1 else 2 * i.natAbs

/-- Zigzagged second differences of words in `stride` series: the previous word and difference of each series go along (R264). -/
def zigzags (stride : Nat) : Nat → List Nat → List (Nat × Nat) → List Nat
  | _, [], _ => []
  | i, w :: ws, prev =>
    let j := i % stride
    let p := prev.getD j (0, 0)
    let d := (w + 2 ^ 64 - p.1) % 2 ^ 64
    let dd := (d + 2 ^ 64 - p.2) % 2 ^ 64
    zigzag dd :: zigzags stride (i + 1) ws (modNth prev j (fun _ => (w, d)))

/-- The tokens: runs of zeros greedily and at their longest (R264); `z` zeros are pending. -/
def numTokens : Nat → List Nat → Bytes
  | z, [] => if z = 0 then [] else varint (2 * (z - 1) + 1)
  | z, v :: vs =>
    if v = 0 then numTokens (z + 1) vs
    else (if z = 0 then [] else varint (2 * (z - 1) + 1)) ++ varint (2 * v) ++ numTokens 0 vs

/-- NUMDELTA (R264). -/
def numdelta (stride : Nat) (bs : Bytes) : Bytes :=
  let ws := (List.range (bs.length / 8)).map (fun i => le bs (8 * i) 8)
  numTokens 0 (zigzags stride 0 ws (List.replicate stride (0, 0)))

/-- The trace coder, item by item: the previous stamp, if any, and the PC each channel has in the block (R265). -/
def traceCode : Option Nat → List (Nat × Nat) → List Pkt → Bytes
  | _, _, [] => []
  | prev, pcs, p :: ps =>
    let full := [BitVec.ofNat 8 p.chan] ++ p.canon
    let dz := match prev with
      | some t => zigzag (twos 64 (sext 60 (p.t % 2 ^ 60 + 2 ^ 60 - t % 2 ^ 60)))
      | none => 0
    let pc := p.words.getD 1 0
    let isAddr := !p.inserted && p.typ = 0xF0 && p.words.length = 2
    let last := (pcs.find? (fun x => x.1 = p.chan)).map (fun x => x.2)
    let one (form : Nat) : Bytes := BitVec.ofNat 8 (16 * form + p.chan) :: varint dz
    let out : Bytes :=
      if prev.isNone || p.inserted then full
      else if isAddr then
        match last with
        | none => full
        | some l => one 3 ++ varint (zigzag ((pc + 2 ^ 64 - l) % 2 ^ 64))
      else if p.words.length = 1 then one 2 ++ [BitVec.ofNat 8 p.typ] ++ varint p.payload
      else one 1 ++ [BitVec.ofNat 8 p.typ, BitVec.ofNat 8 (p.words.length - 1)] ++ toLE 7 p.payload ++ (p.words.drop 1).flatMap (toLE 8)
    out ++ traceCode (some p.t) (if isAddr then (p.chan, pc) :: pcs.filter (fun x => x.1 ≠ p.chan) else pcs) ps

/-- Stored blocks of RFC 1951 (LEVEL 0). Log entries 17 (DESIGN CHOICE), 22 (PRESUMED). -/
def storedBlocks : Nat → Bytes → Bytes
  | 0, _ => []
  | n + 1, bs =>
    let x := bs.take 65535
    let rest := bs.drop 65535
    [BitVec.ofNat 8 (b2n rest.isEmpty)] ++ toLE 2 x.length ++ toLE 2 (65535 - x.length) ++ x ++ (if rest.isEmpty then [] else storedBlocks n rest)

/-- The original of a block: its canonical form, or its records (R255, R260). -/
def Block.original (b : Block) : Bytes := if b.codec = 3 then b.pkts.flatMap Pkt.canon else b.bytes

/-- Bytes of the original. -/
def Block.size (b : Block) : Nat := if b.codec = 3 then (b.pkts.map Pkt.size).foldl (fun x y => x + y) 0 else b.bytes.length

/-- The coded payload of a block. Log entries 17 (DESIGN CHOICE), 22 (PRESUMED). -/
def Block.coded (b : Block) : Bytes :=
  match b.codec with
  | 0 => b.original
  | 1 => if b.level = 0 then storedBlocks 3 b.original else Config.deflate b.level b.original
  | 2 => if b.bytes.length % 8 = 0 then numdelta b.stride b.bytes else b.bytes
  | _ => traceCode none [] b.pkts

/-- The frame of a block (R261, R262). Log entry 69 (DEDUCED). -/
def Block.toFrame (b : Block) (stream seq : Nat) : Bytes :=
  let o := b.original
  let c := b.coded
  let raw := b.codec = 0 || o.length ≤ c.length
  let payload := if raw then o else c
  let codec := if raw then 0 else b.codec
  let h := toLE 4 0x4B4C4258 ++ toLE 1 codec ++ toLE 1 b.flags ++ toLE 1 (if codec = 2 then b.stride else 0) ++ toLE 1 stream
    ++ toLE 4 o.length ++ toLE 4 payload.length ++ toLE 4 (crc32c o) ++ toLE 4 seq ++ toLE 4 (tsNs b.openedNs)
  padTo 64 (h ++ toLE 4 (crc32c h) ++ payload)

/-- The largest frame of a stream under its BLOCK_KIB (R262). -/
def State.maxFrame (s : State) (k : Nat) : Nat := (32 + 1024 * s.fld (F.TRC_PAN_CTRL_BLOCK_KIB k) + 63) / 64 * 64

/-! ### Blocks (R260) -/

/-- BFLAGS (R261). -/
def bfFlushed : Nat := 1
def bfLoss : Nat := 2
def bfLast : Nat := 4

/-- A block opens with the stream's settings at the moment. Log entry 69 (DEDUCED). -/
def State.newBlock (s : State) (k : Nat) : Block :=
  ⟨s.fld (F.TRC_PAN_CTRL_CODEC k), s.fld (F.TRC_PAN_CTRL_LEVEL k), s.fld (F.TRC_PAN_CTRL_BLOCK_KIB k), s.fld (F.TRC_PAN_CTRL_STRIDE_M1 k) + 1,
   s.nowNs, [], [], 0⟩

/-- The packets of a sync point at a stamp: one SYNC for each enabled channel, ascending (R265). Log entry 69 (DEDUCED). -/
def State.syncPoint (s : State) (k : Nat) : List Pkt :=
  (s.streamChans k).map fun c =>
    match (s.pan k).pcs.find? (fun x => x.1 = c) with
    | some x => insPkt c s.stamp 0xF8 1 [s.nowNs % 2 ^ 64, x.2]
    | none => insPkt c s.stamp 0xF8 0 [s.nowNs % 2 ^ 64, 0]

/-- The open block closes into the codec's slot when that is free; an empty block leaves no frame (R260, R266). -/
def State.closeBlock (s : State) (k flags : Nat) : State :=
  let p := s.pan k
  match p.block with
  | none => s
  | some b =>
    if p.closed.isSome then s
    else
      let f := b.flags ||| flags ||| (if p.loss then bfLoss else 0) ||| (if p.flushWanted then bfFlushed else 0)
        ||| (if p.lastWanted then bfFlushed + bfLast else 0)
      s.modPan k (fun p => { p with
        block := none, closed := some { b with flags := f }, frame := none, framePut := false, loss := false, flushWanted := false,
        lastWanted := false })

/-- The open block closes early, at once or as soon as the slot is free. -/
def State.closeEarly (s : State) (k : Nat) (last : Bool) : State :=
  if (s.pan k).block.isNone then s
  else (s.modPan k (fun p => { p with flushWanted := true, lastWanted := p.lastWanted || last })).closeBlock k 0

/-- Room for `n` more bytes in the stream, closing the open block where that gives it (R260); none: the stream is full. -/
def State.roomFor (s : State) (k n : Nat) : Option State :=
  match (s.pan k).block with
  | none => some s
  | some b =>
    if b.size + n ≤ 1024 * b.kib then some s
    else if (s.pan k).closed.isSome then none else some (s.closeBlock k 0)

/-- The open block, opened when there is none; a TRACE block starts with a sync point. -/
def State.openBlock (s : State) (k : Nat) : State :=
  if (s.pan k).block.isSome then s
  else
    let b := s.newBlock k
    let sync := if b.codec = 3 then s.syncPoint k else []
    s.modPan k (fun p => { p with block := some { b with pkts := sync }, sinceSync := 0, syncWanted := false })

/-- A sync point that waits is formed (R265). Log entry 69 (DEDUCED). -/
def State.formSync (s : State) (k : Nat) : State :=
  if !(s.pan k).syncWanted || !s.takesItems k then s
  else
    let pts := s.syncPoint k
    match s.roomFor k ((pts.map Pkt.size).foldl (fun x y => x + y) 0) with
    | none => s
    | some s =>
      if (s.pan k).block.isNone then s.openBlock k
      else s.modPan k (fun p => { p with
        block := p.block.map (fun (b : Block) => { b with pkts := b.pkts ++ pts }), sinceSync := 0, syncWanted := false })

/-- A packet enters the open block; a LOSS packet and every 256th host packet ask for a sync point (R265, R271). Log entry 69 (DEDUCED). -/
def State.putPkt (s : State) (k : Nat) (x : Pkt) : Option State :=
  (s.roomFor k x.size).map fun s =>
    let s := s.openBlock k
    let addr := !x.inserted && x.typ = 0xF0 && x.words.length = 2
    let lossPkt := x.inserted && x.typ = 0xF9
    let s := s.modPan k (fun p =>
      let n := if x.inserted then p.sinceSync else p.sinceSync + 1
      { p with
        block := p.block.map (fun (b : Block) => { b with pkts := b.pkts ++ [x] })
        sinceSync := n
        syncWanted := p.syncWanted || lossPkt || 256 ≤ n
        loss := p.loss || lossPkt
        pcs := if addr then (x.chan, x.words.getD 1 0) :: p.pcs.filter (fun y => y.1 ≠ x.chan) else p.pcs })
    s.formSync k

/-- Words that host packets occupy in a channel's FIFO. -/
def Chan.used (c : Chan) : Nat := ((c.fifo.filter (fun p => !p.inserted)).map (fun p => p.words.length)).foldl (fun a b => a + b) 0

/-- The channel of a stream whose head packet was accepted first. Log entry 66 (DEDUCED). -/
def State.firstChan (s : State) (k : Nat) : Option (Nat × Pkt) :=
  ((List.range 16).filter (fun c => s.fld (F.TRC_CHAN_STREAM c) = k)).foldl (fun best c =>
    match (s.chan c).fifo with
    | [] => best
    | p :: _ => match best with
      | some (d, q) => if p.t < q.t then some (c, p) else some (d, q)
      | none => some (c, p)) none

/-- A stream takes packets from its channels' FIFOs while it has room. -/
def State.drainAux (k : Nat) : Nat → State → State
  | 0, s => s
  | n + 1, s =>
    if !s.takesItems k || !s.isTraceStream k || (s.pan k).syncWanted then s
    else match s.firstChan k with
      | none => s
      | some (c, x) => match s.putPkt k x with
        | none => s
        | some s =>
          let s := s.modChan c (fun ch => { ch with fifo := ch.fifo.drop 1 })
          -- half empty: the channel stops discarding (R271)
          let s := if (s.chan c).used ≤ 32 then s.modChan c (fun ch => { ch with discarding := false }) else s
          State.drainAux k n s

/-- Everything that waits to enter a stream enters it as far as there is room. -/
def State.drain (s : State) (k : Nat) : State :=
  let s := if (s.pan k).flushWanted then s.closeBlock k 0 else s
  let s := s.formSync k
  State.drainAux k ((s.trc.chans.map (fun c => c.fifo.length)).foldl (fun a b => a + b) 0) s

/-! ### Buffers and descriptors (R267 to R269) -/

/-- HEAD of a stream. -/
def State.panHead (s : State) (k : Nat) : Nat := s.pair (F.TRC_PAN_HEAD_LO k) (F.TRC_PAN_HEAD_HI k)

/-- A descriptor fetch starts: the 16 bytes that hold CTRL first (R268). -/
def State.fetchDesc (s : State) (k addr : Nat) : State :=
  if s.ports.jobs.any (fun j => j.kind = .descriptor k) then s
  else s.setPorts { s.ports with jobs := s.ports.jobs ++ [⟨.descriptor k, addr + 16, 16, [], false⟩] }

/-- Fields of a descriptor. -/
def dAddr (d : Bytes) : Nat := le d 0 8
def dLen (d : Bytes) : Nat := le d 8 4
def dNext (d : Bytes) : Nat := le d 16 8
def dNotify (d : Bytes) : Bool := bit (le d 24 4) 1

/-- DONE, FLUSHED, LOSS, OVERWRITTEN and LAST of STATUS. -/
def dsDone : Nat := 1
def dsOverwritten : Nat := 8
def dsLast : Nat := 16

/-- A 64-byte write joins the Host Memory Port's queue. -/
def State.hwrite (s : State) (w : HWrite) : State := s.setPorts { s.ports with hwrites := s.ports.hwrites ++ [w] }

/-- Bytes written to consecutive 64-byte lines. -/
def hwriteLines (addr : Nat) (owner : HOwner) (bs : Bytes) : List HWrite :=
  let n := (bs.length + 63) / 64
  (List.range n).map (fun i => ⟨addr + 64 * i, slice bs (64 * i) 64, owner, i + 1 = n⟩)

/-- A buffer closes (R269): when it holds frames its descriptor is written back whole, with OWN = 0. -/
def State.closeBuffer (s : State) (k : Nat) (last : Bool) : State :=
  match (s.pan k).desc with
  | none => s
  | some d =>
    let nxt := dNext d.raw
    let ring := s.on (F.TRC_PAN_CTRL_RING k)
    let wraps := nxt = 0 && ring
    let s := s.modPan k (fun p => { p with
      desc := none, closeWanted := false, ringed := p.ringed || wraps
      nextAddr := if nxt ≠ 0 then some nxt else if ring then some (s.panHead k) else none })
    if d.frames = 0 then s
    else
      let st := d.status ||| dsDone ||| (if last then dsLast else 0)
      let ctrl := le d.raw 24 4
      let raw := overlay (overlay (overlay (overlay d.raw 12 (toLE 4 d.used)) 24 (toLE 4 (ctrl / 2 * 2) ++ toLE 4 st)) 32
        (toLE 4 d.firstSeq ++ toLE 4 d.frames ++ toLE 8 d.openTs)) 48 (toLE 8 s.nowNs)
      let s := if d.status &&& dsOverwritten ≠ 0 then s.inc (F.TRC_PAN_LOST_OVERWRITES k) else s
      (s.modPan k (fun p => { p with backs := p.backs ++ [dNotify d.raw] })).hwrite ⟨d.addr, slice raw 0 64, .writeback k, true⟩

/-- BUSY of the pending flush clears once every named stream has finished. -/
def State.flushCheck (s : State) : State :=
  match s.trc.flush with
  | none => s
  | some (ks, cl) =>
    let waits (k : Nat) : Bool :=
      let p := s.pan k
      s.panState k = paWait || s.panState k = paExhausted || p.flushLeft ≠ 0 || (cl && (p.closeWanted || !p.backs.isEmpty))
    if ks.any waits then s
    else (s.setTrc { s.trc with flush := none }).set F.TRC_FLUSH_BUSY 0

/-- A stream enters FAULT (R274). -/
def State.panFault (s : State) (k addr : Nat) : State :=
  let p := s.pan k
  let n := b2n p.block.isSome + b2n p.closed.isSome
  let s := s.setPorts { s.ports with
    -- the write at the port goes on to its response; the others of the stream are given up
    hwrites := (s.ports.hwrites.take 1).map (fun w => if w.owner = .frame k || w.owner = .writeback k then { w with owner := .dropped } else w)
      ++ (s.ports.hwrites.drop 1).filter (fun w => w.owner ≠ .frame k && w.owner ≠ .writeback k)
    jobs := s.ports.jobs.filter (fun j => j.kind ≠ .descriptor k) }
  let s := s.modPan k (fun p => { p with
    block := none, closed := none, frame := none, framePut := false, desc := none, next := none, nextAddr := none, backs := [],
    closeWanted := false, flushWanted := false, lastWanted := false, syncWanted := false, flushLeft := 0 })
  let s := ((s.add (F.TRC_PAN_LOST_BLOCKS_LOST k) n).set (F.TRC_PAN_STAT_FAULT_SEEN k) 1).set (F.TRC_PAN_STAT_STOP_PENDING k) 0
  let s := s.setPair (F.TRC_PAN_CUR_LO k) (F.TRC_PAN_CUR_HI k) addr
  (((s.setPanState k paFault).log 0x21 0 k n).alertIf F.TRC_CTRL_ALERT_EN 6).flushCheck

/-- The chain is used up (R273). -/
def State.panExhausted (s : State) (k : Nat) : State :=
  (((s.setPanState k paExhausted).inc (F.TRC_PAN_EXH_EXHAUSTIONS k)).log 0x20 0 k 0).alertIf F.TRC_CTRL_ALERT_EN 6

/-- A fetched descriptor that the block may fill is checked (R274): a fault, or the descriptor. -/
def State.descBad (s : State) (k : Nat) (d : Bytes) : Bool :=
  dAddr d % 64 ≠ 0 || dNext d % 64 ≠ 0 || dLen d % 64 ≠ 0 || dLen d < s.maxFrame k

/-- The buffer of a descriptor opens: the next descriptor is fetched (R268, R269). -/
def State.openBuffer (s : State) (k addr : Nat) (raw : Bytes) : State :=
  let p := s.pan k
  let ring := s.on (F.TRC_PAN_CTRL_RING k)
  let d : Desc := ⟨addr, raw, 0, 0, 0, 0, if ring && p.ringed then dsOverwritten else 0⟩
  let s := s.modPan k (fun p => { p with desc := some d, next := none, nextAddr := none })
  let s := (s.setPair (F.TRC_PAN_CUR_LO k) (F.TRC_PAN_CUR_HI k) addr).setPanState k paRun
  let nxt := dNext raw
  if nxt ≠ 0 then s.fetchDesc k nxt else if ring then s.fetchDesc k (s.panHead k) else s

/-- The stream needs a buffer: the descriptor fetched ahead opens, or the next one is read now; with none left the chain is used up. -/
def State.nextBuffer (s : State) (k : Nat) : State :=
  let p := s.pan k
  if p.desc.isSome || s.panState k ≠ paRun then s
  else match p.nextAddr with
    | none => s.panExhausted k
    | some a => match p.next with
      | some raw => s.openBuffer k a raw
      | none => s.fetchDesc k a

/-- The coded frame's writes leave when the buffer has room; a frame that does not fit closes the buffer (R269). Log entry 68 (DEDUCED). -/
def State.placeFrame (s : State) (k : Nat) : State :=
  let p := s.pan k
  match p.frame, p.desc with
  | some f, some d =>
    if p.framePut || s.panState k ≠ paRun then s
    else if d.used + f.length ≤ dLen d.raw then
      let b := p.closed.getD (s.newBlock k)
      let st := (if b.flags &&& bfFlushed ≠ 0 then 2 else 0) + (if b.flags &&& bfLoss ≠ 0 then 4 else 0)
      let d' : Desc := { d with
        firstSeq := if d.frames = 0 then le f 20 4 else d.firstSeq
        openTs := if d.frames = 0 then s.nowNs else d.openTs
        frames := d.frames + 1, used := d.used + f.length, status := d.status ||| st }
      (s.modPan k (fun p => { p with framePut := true, desc := some d' })).setPorts { s.ports with
        hwrites := s.ports.hwrites ++ hwriteLines (dAddr d.raw + d.used) (.frame k) f }
    else if d.frames = 0 then s.panFault k d.addr
    else (s.closeBuffer k false).nextBuffer k
  | some _, none => s.nextBuffer k
  | none, _ => s

/-- A frame that waited is placed, in the buffer in use or in the next one. -/
def State.push (s : State) (k : Nat) : State := (s.placeFrame k).placeFrame k

/-! ### Flush (R266) -/

/-- A buffer that a flush asks for is closed once its stream has written what came before; with NEXT = 0 the chain is then used up. -/
def State.flushBuffer (s : State) (k : Nat) : State :=
  let p := s.pan k
  if p.closeWanted && p.flushLeft = 0 then
    match p.desc with
    | some d =>
      if p.framePut || s.panState k ≠ paRun then s
      else if d.frames = 0 then s.modPan k (fun p => { p with closeWanted := false })
      else (s.closeBuffer k false).nextBuffer k
    | none => s.modPan k (fun p => { p with closeWanted := false })
  else s

/-- A flush of streams: open blocks close, and BUSY stays set until all that they hold is in host memory. A flush that arrives while one
is pending joins it. -/
def State.flushStreams (s : State) (ks : List Nat) (closeBuf : Bool) : State :=
  let (old, oldC) := s.trc.flush.getD ([], false)
  let all := old ++ ks.filter (fun k => !old.contains k)
  let s := (s.setTrc { s.trc with flush := some (all, oldC || closeBuf) }).set F.TRC_FLUSH_BUSY 1
  let s := ks.foldl (fun s k =>
    let p := s.pan k
    let s := s.modPan k (fun p => { p with flushLeft := b2n p.block.isSome + b2n p.closed.isSome, closeWanted := p.closeWanted || closeBuf })
    let s := if p.block.isSome then s.closeEarly k false else s
    (s.drain k).flushBuffer k) s
  s.flushCheck

/-! ### Commands of a stream (R270, R273) -/

/-- A refused command. -/
def State.badCmd (s : State) (k : Nat) : State := s.inc (F.TRC_PAN_BAD_BAD_CMD k)

/-- The stream goes on at HEAD: intake runs, and the descriptor at HEAD is read. -/
def State.atHead (s : State) (k : Nat) : State :=
  let h := s.panHead k
  let s := s.setPorts { s.ports with jobs := s.ports.jobs.filter (fun j => j.kind ≠ .descriptor k) }
  let s := s.modPan k (fun p => { p with desc := none, next := none, nextAddr := some h })
  ((s.setPair (F.TRC_PAN_CUR_LO k) (F.TRC_PAN_CUR_HI k) h).setPanState k paRun).fetchDesc k h

/-- START. Log entry 68 (DEDUCED). -/
def State.panStart (s : State) (k : Nat) : State :=
  let st := s.panState k
  if st = paRun || st = paWait || st = paExhausted then s.badCmd k
  else ((s.modPan k (fun p => { p with ringed := false })).atHead k).drain k

/-- APPEND. Log entry 68 (DEDUCED). -/
def State.panAppend (s : State) (k : Nat) : State := if s.panState k = paExhausted then s.atHead k else s.badCmd k

/-- STOPPED follows a STOP once every staged frame has been written; the buffer in use is written back as the LAST one. Log entry 68 (DEDUCED). -/
def State.stopCheck (s : State) (k : Nat) : State :=
  let p := s.pan k
  if s.on (F.TRC_PAN_STAT_STOP_PENDING k) && p.block.isNone && p.closed.isNone then
    let s := s.closeBuffer k true
    let s := s.setPorts { s.ports with jobs := s.ports.jobs.filter (fun j => j.kind ≠ .descriptor k) }
    (s.setPanState k paStopped).set (F.TRC_PAN_STAT_STOP_PENDING k) 0
  else s

/-- STOP. Log entry 68 (DEDUCED). -/
def State.panStop (s : State) (k : Nat) : State :=
  let st := s.panState k
  if s.on (F.TRC_PAN_STAT_STOP_PENDING k) then s.badCmd k
  else if st = paRun || st = paWait || st = paExhausted then
    let s := s.set (F.TRC_PAN_STAT_STOP_PENDING k) 1
    -- with an empty open block the staged block that is not yet coded is the final one
    let s := if (s.pan k).block.isNone && (s.pan k).frame.isNone then
        s.modPan k (fun p => { p with closed := p.closed.map (fun (b : Block) => { b with flags := b.flags ||| bfLast }) })
      else s.closeEarly k true
    s.stopCheck k
  else s

/-! ### What the ports answer -/

/-- Every 64-byte write of a frame, or a descriptor write-back, has been answered. -/
def State.panWritten (s : State) (k : Nat) (frame ok last : Bool) : State :=
  if s.panState k = paFault then s
  else if !ok then s.panFault k (match (s.pan k).desc with
    | some d => d.addr
    | none => s.pair (F.TRC_PAN_CUR_LO k) (F.TRC_PAN_CUR_HI k))
  else if !frame then
    let notify := (s.pan k).backs.headD false
    let s := s.modPan k (fun p => { p with backs := p.backs.drop 1 })
    let s := if notify then (s.set (F.TRC_PAN_STAT_FILLED k) 1).alertIf F.TRC_CTRL_ALERT_EN 6 else s
    s.flushCheck
  else if !last then s
  else
    let len := ((s.pan k).frame.getD []).length
    let s := s.modPan k (fun p => { p with
      closed := none, frame := none, framePut := false, outBytes := p.outBytes + len, flushLeft := p.flushLeft - 1 })
    let s := (s.wrapInc (F.TRC_PAN_FRAMES k)).set (F.TRC_PAN_OUT_KIB k) ((s.pan k).outBytes / 1024)
    ((((s.drain k).flushBuffer k).stopCheck k)).flushCheck

/-- A descriptor read has come to its end. `whole` tells the second read, of all 64 bytes, from the first (R268). Log entry 68 (DEDUCED). -/
def State.descFetched (s : State) (k addr : Nat) (whole : Bool) (bs : Bytes) : State :=
  let ring := s.on (F.TRC_PAN_CTRL_RING k)
  let opening := (s.pan k).desc.isNone
  if !whole then
    -- addr is that of the 16 bytes that hold CTRL
    if ring || bit (le bs 8 4) 0 then
      s.setPorts { s.ports with jobs := s.ports.jobs ++ [⟨.descriptor k, addr - 16, 64, [], true⟩] }
    else if !opening then s
    else
      let s := s.modPan k (fun p => { p with pollNs := s.nowNs })
      if s.panState k = paWait then s.inc (F.TRC_PAN_EXH_WAITS k) else s.setPanState k paWait
  else if s.descBad k bs then s.panFault k addr
  else if opening then (s.openBuffer k addr bs).push k
  else s.modPan k (fun p => { p with next := some bs, nextAddr := some addr })

/-- A poll of the next descriptor in WAIT (R270); each one that finds OWN = 0 adds 1 to WAITS. Log entry 3 (DESIGN CHOICE). -/
def State.panPoll (s : State) (k : Nat) : State :=
  if k < streams s.build && s.panState k = paWait then
    let s := s.reachNs ((s.pan k).pollNs + 1000 * max 1 (s.fld F.TRC_LIMITS_POLL_US))
    match (s.pan k).nextAddr with
    | some a => s.fetchDesc k a
    | none => s
  else s

/-- The codec finishes a closed block (R260 to R262): its frame takes the next BLOCK_SEQ and goes to the buffer. -/
def State.blockCoded (s : State) (k : Nat) : State :=
  match (s.pan k).closed, (s.pan k).frame with
  | some b, none =>
    let f := b.toFrame k (s.fld (F.TRC_PAN_BLOCK_SEQ k))
    let s := s.wrapInc (F.TRC_PAN_BLOCK_SEQ k)
    let s := s.modPan k (fun p => { p with frame := some f, origBytes := p.origBytes + b.size })
    (s.set (F.TRC_PAN_ORIG_KIB k) ((s.pan k).origBytes / 1024)).push k
  | _, _ => s

/-- FLUSH_US has passed since the block opened (R260). -/
def State.blockAge (s : State) (k : Nat) : State :=
  let us := s.fld F.TRC_LIMITS_FLUSH_US
  match (s.pan k).block with
  | none => s
  | some b => if us = 0 then s else ((s.reachNs (b.openedNs + 1000 * us)).closeEarly k false).drain k

/-! ### Records (R259, R272, R283) -/

/-- A record for a stream. -/
def State.toStream (s : State) (k : Nat) (rec : Bytes) : State :=
  let drop (s : State) : State := (s.inc (F.TRC_PAN_RECDROP k)).modPan k (fun p => { p with loss := true })
  if !s.collects then s
  else if streams s.build ≤ k then s.inc F.TRC_UNROUTED
  else if recStall rec ≠ s.fld (F.TRC_PAN_CTRL_OWNER k) && !s.on (F.TRC_PAN_CTRL_PRIV k) then s.inc (F.TRC_PAN_RECDROP k)
  else if !s.takesItems k || s.isTraceStream k || 1024 * s.fld (F.TRC_PAN_CTRL_BLOCK_KIB k) < rec.length then drop s
  else match s.roomFor k rec.length with
    | none => drop s
    | some s =>
      let s := s.openBlock k
      s.modPan k (fun p => { p with block := p.block.map (fun (b : Block) => { b with bytes := b.bytes ++ rec }) })

/-- A record for the stream that a TRC_ROUTE field names. -/
def State.toRoute (s : State) (f : Fld) (rec : Bytes) : State :=
  let k := s.fld f
  if streams s.build ≤ k then (if s.collects then s.inc F.TRC_UNROUTED else s) else s.toStream k rec

/-! ### Inserted packets (R260, R258) -/

/-- A packet inserted on the lowest enabled channel of a TRACE stream that takes items. -/
def State.insertOn (s : State) (k typ payload : Nat) (t : Nat) (conts : List Nat) (chans : List Nat) : State :=
  match chans with
  | [] => s
  | c :: _ =>
    if s.takesItems k && s.isTraceStream k && s.collects then
      (s.modChan c (fun ch => { ch with fifo := ch.fifo ++ [insPkt c t typ payload conts] })).drain k
    else s

/-- EPOCH packets at a boundary (R260). Log entry 66 (DEDUCED). -/
def State.epochPackets (s : State) (epoch atNs : Nat) : State :=
  (List.range (streams s.build)).foldl (fun s k => s.insertOn k 0xFB 0 (8 * atNs) [epoch % 2 ^ 48] (s.streamChans k)) s

/-! ### Sequencers (R257, R258) -/

/-- The state word of a sequencer. -/
def State.seqWord (s : State) (q st : Nat) : Nat := (s.word (0x060320 + 64 * q + 4 * st)).toNat

/-- CAPTURE of the sequencer's state; a sequencer with EN = 0 is held in state 0. -/
def State.seqCapture (s : State) (q : Nat) : Bool :=
  bit (s.seqWord q (if s.on (F.TRC_SEQ_EN q) then s.fld (F.TRC_SEQ_STATE q) else 0)) 16

/-- Enabled channels of a sequencer. -/
def State.seqChans (s : State) (q : Nat) : List Nat :=
  (List.range 16).filter (fun c => s.on (F.TRC_CHAN_EN c) && s.fld (F.TRC_CHAN_SEQ c) = q)

/-- The streams of a sequencer's channels. -/
def State.seqStreams (s : State) (q : Nat) : List Nat :=
  (List.range (streams s.build)).filter (fun k => (s.seqChans q).any (fun c => s.fld (F.TRC_CHAN_STREAM c) = k))

/-- Entry to a state: FLUSH, MARK, SYNC and STOP in that order. Log entry 67 (DEDUCED). -/
def State.seqEnter (s : State) (q st t : Nat) : State :=
  let w := s.seqWord q st
  let ks := s.seqStreams q
  let s := (s.set (F.TRC_SEQ_STATE q) st).inc (F.TRC_SEQ_TRANS q)
  let s := s.setTrc { s.trc with seqBytes := modNth s.trc.seqBytes q (fun _ => 0), seqPost := modNth s.trc.seqPost q (fun _ => false) }
  let s := if bit w 17 then s.flushStreams ks false else s
  let s := if bit w 18 then
      ks.foldl (fun s k => s.insertOn k 0xFA (q + 4 * st) t [] ((s.seqChans q).filter (fun c => s.fld (F.TRC_CHAN_STREAM c) = k))) s
    else s
  let s := if bit w 19 then ks.foldl (fun s k => (s.modPan k (fun p => { p with syncWanted := true })).formSync k) s else s
  if bit w 20 then ks.foldl (fun s k => s.panStop k) s else s

/-- A sequencer takes an item: `fires` says which event codes it is. Arc A is taken before B (R258). Log entry 67 (DEDUCED). -/
def State.seqItem (s : State) (q t : Nat) (fires : Nat → Bool) : State :=
  if !s.on (F.TRC_SEQ_EN q) then s
  else
    let w := s.seqWord q (s.fld (F.TRC_SEQ_STATE q))
    let ev (c : Nat) : Bool := c = 1 || (!(c = 0) && !(8 ≤ c && c < 16) && fires c)
    if ev (bits w 4 0) then s.seqEnter q (bits w 7 5) t
    else if ev (bits w 12 8) then s.seqEnter q (bits w 15 13) t
    else s

/-- One of the events 2 to 7 reaches a sequencer. Log entry 67 (DEDUCED). -/
def State.seqEvent (s : State) (q code t : Nat) : State := if s.collects then s.seqItem q t (fun c => c = code) else s

/-- An event reaches all four sequencers. Log entry 67 (DEDUCED). -/
def State.seqAll (s : State) (code t : Nat) : State := (List.range 4).foldl (fun s q => s.seqEvent q code t) s

end Sys2Proof.Machine
end

