-- ==== Sys2Proof/Machine/Inference.lean ====
section
/-! DEFINITION. The arithmetic of scoring: model images as bytes (R228 to R231), raw inputs (R198), the front stage (R200, R201), trees (R203,
R204), link functions (R206), dense layers (R207 to R210) and the drift update (R184). All of it is a function of the image and the row
(R196). -/

namespace Sys2Proof.Machine

/-! ### A model image (R228) -/

def mLength (b : Bytes) : Nat := le b 8 4
def mId (b : Bytes) : Nat := le b 12 4
def mVersion (b : Bytes) : Nat := le b 16 4
def mCatId (b : Bytes) : Nat := le b 20 4
def mStall (b : Bytes) : Nat := le b 24 2 % 4096
def mSlot (b : Bytes) : Nat := le b 26 1
def mKind (b : Bytes) : Nat := le b 27 1 % 4
def mDense (b : Bytes) : Bool := bit (le b 27 1) 2
def mTrigger (b : Bytes) : Nat := le b 28 4 % 4
def mTrigNum (b : Bytes) : Nat := bits (le b 28 4) 13 2
def mInputs (b : Bytes) : Nat := le b 32 2
def mFeatures (b : Bytes) : Nat := le b 34 2
def mTrees (b : Bytes) : Nat := if mDense b then 0 else le b 36 2 + 1
def mDepth (b : Bytes) : Nat := le b 38 1
def mLayers (b : Bytes) : Nat := le b 39 1
def mK (b : Bytes) : Nat := le b 40 1
def mLink (b : Bytes) : Nat := le b 41 1
def mBase (b : Bytes) : Nat := le b 42 2 % 2048
def mClampLo (b : Bytes) : Nat := le b 44 4
def mClampHi (b : Bytes) : Nat := le b 48 4
def mPipe (b : Bytes) : Nat := le b 56 2
def mNPipe (b : Bytes) : Nat := le b 58 2

/-- OFFSET and LENGTH of a section. -/
def mSect (b : Bytes) (i : Nat) : Nat × Nat := (le b (64 + 8 * i) 4, le b (68 + 8 * i) 4)

/-- Model store that an image takes, in KiB (R227). -/
def mKib (b : Bytes) : Nat := (mLength b - 128 + 1023) / 1024

/-- A raw-input selector (R229). -/
structure Selector where
  metric : Nat
  stat : Nat
  strict : Bool
  field : Nat
deriving DecidableEq, Repr

/-- The selectors. -/
def mSelectors (b : Bytes) : List Selector :=
  let o := (mSect b 0).1
  (List.range (mInputs b)).map (fun i => let w := le b (o + 4 * i) 4; ⟨bits w 9 0, bits w 13 10, bit w 14, bits w 19 16⟩)

/-- An output entry (R231). -/
structure OutEnt where
  metric : Nat
  mode : Nat
  hold : Nat
  hi : Nat
  lo : Nat
  severity : Nat
  record : Nat
deriving DecidableEq, Repr

/-- The output entries. -/
def mOutputs (b : Bytes) : List OutEnt :=
  let o := (mSect b 6).1
  (List.range (mK b)).map (fun i =>
    let p := o + 16 * i
    ⟨le b p 2 % 1024, le b (p + 2) 1, max 1 (le b (p + 3) 1), le b (p + 4) 4, le b (p + 8) 4, le b (p + 12) 1 % 8, le b (p + 13) 1⟩)

/-! ### Raw inputs (R198) -/

/-- ±(2⁶³ − 1). Log entry 62 (DEDUCED). -/
def sat63 (i : Int) : Int := clampI (-(2 ^ 63 - 1)) (2 ^ 63 - 1) i

/-- A raw input from a section of a bank. Log entry 62 (DEDUCED). -/
def sectInput (x : Sect) (stat : Nat) : Option Int :=
  match stat with
  | 0 => some x.count
  | 1 => if x.count = 0 then none else some (x.sum / (x.count : Int))
  | 2 => x.hi.head?.map (fun e => e.q)
  | 3 => x.lo.head?.map (fun e => e.q)
  | 4 => some (sat63 x.sum)
  | _ => none

/-- What a row is formed from: the bank, the last values of the live bank, the report's fields by number and metric, and the child's entries. -/
structure RowSrc where
  bank : List Sect
  last : List (Nat × Int)
  report : List (Nat × Nat × Int)        -- field, metric, q
  child : List (Nat × Nat × Int)         -- metric, flags, X

/-- The raw inputs of a row. -/
def rowInputs (b : Bytes) (r : RowSrc) : List (Option Int) :=
  (mSelectors b).map fun x =>
    let sec := sectOf r.bank x.metric 0
    -- STALE, INCOMPLETE, SAT and NAN_SEEN
    if x.strict && sec.flags &&& (mfStale + mfIncomplete + mfSat + mfNan) ≠ 0 then none
    else match x.stat with
      | 5 => (r.last.find? (fun p => p.1 = x.metric)).map (fun p => p.2)
      | 6 => (r.report.find? (fun p => p.1 = x.field && p.2.1 = x.metric)).map (fun p => p.2.2)
      | 7 => match r.child.find? (fun p => p.1 = x.metric) with
        | some p => if bit p.2.1 0 then some p.2.2 else none
        | none => none
      | st => sectInput sec st

/-! ### Counts made while scoring -/

/-- What a scoring adds to the counters of R221. -/
structure Counts where
  missing : Nat
  cat : Nat
  div : Nat
  sat : Nat
  ovf : Nat
  badw : Nat
deriving DecidableEq, Repr

def noCounts : Counts := ⟨0, 0, 0, 0, 0, 0⟩
def Counts.add (a b : Counts) : Counts := ⟨a.missing + b.missing, a.cat + b.cat, a.div + b.div, a.sat + b.sat, a.ovf + b.ovf, a.badw + b.badw⟩
def cntSat (n : Nat) : Counts := { noCounts with sat := n }
def cntOver (n : Nat) : Counts := { noCounts with ovf := n }

/-! ### The front stage (R199 to R201) -/

/-- A feature. -/
structure Feat where
  missing : Bool
  bin : Nat
  y : Int
  point : Nat
deriving DecidableEq, Repr

/-- Table entry `i` of a feature. -/
def tblEntry (b : Bytes) (tbl i : Nat) : Int := sext 64 (le b ((mSect b 2).1 + 8 * (tbl + i)) 8)

/-- The position of `x` among `n` categories. -/
def catPos (b : Bytes) (tbl : Nat) (x : Int) (n : Nat) : Option Nat := (List.range n).find? (fun i => tblEntry b tbl i = x)

/-- One feature of a row. -/
def feature (b : Bytes) (ins : List (Option Int)) (f : Nat) : Feat × Counts :=
  let o := (mSect b 1).1 + 16 * f
  let w0 := le b o 4
  let w1 := le b (o + 4) 4
  let w2 := le b (o + 8) 4
  let op := bits w0 2 0
  let xop := bits w0 25 23
  let tbl := bits w1 15 0
  let n := bits w1 23 16
  let mul := sext 16 (bits w2 15 0)
  let shift := bits w2 21 16
  let point := bits w2 27 22
  let fill := sext 32 (le b (o + 12) 4)
  let miss (c : Counts) : Feat × Counts := (⟨true, 0, fill, point⟩, { c with missing := 1 })
  let a := ins.getD (bits w0 12 3) none
  let c := ins.getD (bits w0 22 13) none
  let cross := op = 2 || op = 3
  let val (x : Int) : Feat × Counts :=
    if op = 1 || op = 3 then
      let r := rshiftRne ((x - tblEntry b tbl 0) * mul) shift
      let y := clampI (-(2 ^ 31 - 1)) (2 ^ 31 - 1) r
      (⟨false, (clampI 0 255 y).toNat, y, point⟩, cntSat (if y = r then 0 else 1))
    else if op = 4 then
      match catPos b tbl x n with
      | some i => (⟨false, i, i, point⟩, noCounts)
      | none => miss { noCounts with cat := 1 }
    else
      let k := ((List.range n).filter (fun i => decide (tblEntry b tbl i ≤ x))).length
      (⟨false, k, k, point⟩, noCounts)
  match a with
  | none => miss noCounts
  | some a =>
    if !cross then val a
    else match c with
      | none => miss noCounts
      | some c =>
        match xop with
        | 0 => val (sat63 (a + c))
        | 1 => val (sat63 (a - c))
        | 2 => val (sat63 (a * c))
        | 3 => val (sat63 (min a c))
        | 4 => val (sat63 (max a c))
        | _ => if c = 0 then miss { noCounts with div := 1 } else val (sat63 (Int.fdiv (a * 65536) c))

/-- The features of a row. -/
def features (b : Bytes) (ins : List (Option Int)) : List Feat × Counts :=
  let fs := (List.range (mFeatures b)).map (feature b ins)
  (fs.map (fun p => p.1), (fs.map (fun p => p.2)).foldl Counts.add noCounts)

/-! ### Trees (R202 to R204) -/

/-- The index that a walk comes to after `n` levels from node `i`. -/
def walkAux (b : Bytes) (feats : Array Feat) (base : Nat) : Nat → Nat → Nat
  | 0, i => i
  | n + 1, i =>
    let w := le b (base + 4 * i) 4
    let f := feats.getD (bits w 9 0) ⟨true, 0, 0, 0⟩
    let right := if bit w 19 || f.missing then bit w 18 else decide (bits w 17 10 < f.bin)
    walkAux b feats base n (2 * i + 1 + b2n right)

/-- The leaf of tree `t`, as an FP32 pattern. -/
def treeLeaf (b : Bytes) (feats : Array Feat) (t : Nat) : Nat :=
  let d := mDepth b
  let n := 2 ^ d - 1
  let o := (mSect b 4).1
  let i := walkAux b feats (o + 4 * n * t) d 0
  let leaf := o + 4 * n * mTrees b + 2 * ((n + 1) * t + (i - n))
  le b leaf 2 * 65536

/-- An accumulator that went to infinity is replaced (R204). -/
def settleAcc (a : Nat) : Nat × Counts := let (v, o) := finite32 a; (v, cntOver (b2n o))

/-- The accumulators of an ensemble, in ascending tree index for each output. -/
def treeAccs (b : Bytes) (feats : List Feat) : List Nat × Counts :=
  let fa := feats.toArray
  let k := mK b
  let accs := (List.range k).map (fun j =>
    let ts := (List.range (mTrees b)).filter (fun t => t % k = j)
    settleAcc (ts.foldl (fun acc t => addF acc (treeLeaf b fa t)) (le b ((mSect b 3).1 + 4 * j) 4)))
  (accs.map (fun p => p.1), (accs.map (fun p => p.2)).foldl Counts.add noCounts)

/-! ### Dense layers (R207 to R210) -/

/-- A value on its way into a layer: a feature, an INT32 result, or an FP32 pattern. -/
inductive LVal where
  | feat (y : Int) (point : Nat)
  | int (v : Int)
  | fp (v : Nat)
deriving DecidableEq, Repr

/-- A layer's parameters (R230). -/
structure Layer where
  inN : Nat
  outN : Nat
  wfmt : Nat
  acc : Nat
  act : Nat
  inScale : Nat
  mult : Int
  shift : Nat
  outScale : Nat
  actLo : Nat
  actHi : Nat
  data : Nat
deriving DecidableEq, Repr

/-- Layer `i` of a model. -/
def mLayer (b : Bytes) (i : Nat) : Layer :=
  let o := (mSect b 5).1 + 32 * i
  ⟨le b o 2, le b (o + 2) 2, le b (o + 4) 1, le b (o + 5) 1, le b (o + 6) 1, le b (o + 8) 4, sext 16 (le b (o + 12) 2), le b (o + 14) 1,
   le b (o + 16) 4, le b (o + 20) 4, le b (o + 24) 4, (mSect b 5).1 + le b (o + 28) 4⟩

/-- Bytes of one weight. -/
def wBytes (fmt : Nat) : Nat := if fmt < 3 then 1 else 2

/-- A weight; one that is a NaN or infinite is used as 0 and counted (R210). -/
def weight (b : Bytes) (l : Layer) (o i : Nat) : Int × Int × Nat :=
  let n := wBytes l.wfmt
  match weightVal l.wfmt (le b (l.data + 4 * l.outN + n * (o * l.inN + i)) n) with
  | .fin m e => (m, e, 0)
  | _ => (0, 0, 1)

/-- An FP32 value converted to a layer's input format: mantissa, exponent and saturation (R209). -/
def fpToFmt (l : Layer) (v : Nat) : Int × Int × Nat :=
  if l.wfmt = 0 then
    let (q, s) := satI8 (rneF (mulF v l.inScale))
    (q, 0, b2n s)
  else
    let (p, s) := toFmt l.wfmt v
    match weightVal l.wfmt p with
    | .fin m e => (m, e, b2n s)
    | _ => (0, 0, b2n s)

/-- A layer input converted by the first rule of R209 that applies; `prev` is the layer that an INT32 result comes from. Log entry 62 (DEDUCED). -/
def layerIn (l : Layer) (prev : Option Layer) (v : LVal) : Int × Int × Nat :=
  match v with
  | .int a =>
    if l.wfmt = 0 then
      let (q, s) := satI8 (rshiftRne (a * ((prev.map (fun p => p.mult)).getD 0)) ((prev.map (fun p => p.shift)).getD 0))
      (q, 0, b2n s)
    else fpToFmt l (mulF (ofIntF a) ((prev.map (fun p => p.outScale)).getD 0))
  | .feat y point =>
    if l.wfmt = 0 then
      let (q, s) := satI8 y
      (q, 0, b2n s)
    else fpToFmt l (rn32 y (-(point : Int)))
  | .fp a => fpToFmt l a

/-- One output neuron with exact INT32 accumulation. -/
def neuronInt (b : Bytes) (l : Layer) (xs : List (Int × Int × Nat)) (o : Nat) : LVal × Counts :=
  let bias := sext 32 (le b (l.data + 4 * o) 4)
  let acc := (xs.foldl (fun (p : Int × Nat) x => (p.1 + (weight b l o p.2).1 * x.1, p.2 + 1)) (bias, 0)).1
  let acc := match l.act with
    | 1 => max 0 acc
    | 2 => min (max acc (sext 32 l.actLo)) (sext 32 l.actHi)
    | _ => acc
  (.int acc, noCounts)

/-- One output neuron with FP32 accumulation: each product exact, each sum rounded once. -/
def neuronFp (b : Bytes) (l : Layer) (xs : List (Int × Int × Nat)) (o : Nat) : LVal × Counts :=
  let bias := le b (l.data + 4 * o) 4
  let (acc, bad, _) := xs.foldl (fun (p : Nat × Nat × Nat) x =>
    let w := weight b l o p.2.2
    (addTo p.1 (w.1 * x.1) (w.2.1 + x.2.1) (decide ((w.1 < 0) ≠ (x.1 < 0))), p.2.1 + w.2.2, p.2.2 + 1)) (bias, 0, 0)
  let (acc, c) := settleAcc acc
  let acc := match l.act with
    | 1 => if leF acc 0 then 0 else acc
    | 2 => minF (maxF acc l.actLo) l.actHi
    | _ => acc
  (.fp acc, { c with badw := bad })

/-- One layer. Log entry 62 (DEDUCED). -/
def runLayer (b : Bytes) (l : Layer) (prev : Option Layer) (xs : List LVal) : List LVal × Counts :=
  let ins := xs.map (layerIn l prev)
  let sat := (ins.map (fun x => x.2.2)).foldl (fun a b => a + b) 0
  let outs := (List.range l.outN).map (fun o => if l.acc = 1 then neuronInt b l ins o else neuronFp b l ins o)
  (outs.map (fun p => p.1), (outs.map (fun p => p.2)).foldl Counts.add (cntSat sat))

/-- Layers from `i` on. -/
def runLayers (b : Bytes) : Nat → Nat → Option Layer → List LVal → Counts → List LVal × Counts × Option Layer
  | 0, _, prev, xs, c => (xs, c, prev)
  | n + 1, i, prev, xs, c =>
    let l := mLayer b i
    let (ys, d) := runLayer b l prev xs
    runLayers b n (i + 1) (some l) ys (c.add d)

/-- The FP32 results of a dense network. -/
def denseAccs (b : Bytes) (feats : List Feat) : List Nat × Counts :=
  let xs := (List.range (mLayer b 0).inN).map (fun i => match feats[mBase b + i]? with
    | some f => LVal.feat f.y f.point
    | none => LVal.feat 0 0)
  let (ys, c, last) := runLayers b (mLayers b) 0 none xs noCounts
  let rs := ys.map (fun v => match v with
    | .int a => settleAcc (mulF (ofIntF a) ((last.map (fun (p : Layer) => p.outScale)).getD 0))
    | .fp a => (a, noCounts)
    | .feat y p => (rn32 y (-(p : Int)), noCounts))
  (rs.map (fun p => p.1), (rs.map (fun p => p.2)).foldl Counts.add c)

/-! ### Link functions (R206) -/

/-- The scores of the accumulators. -/
def linkScores (b : Bytes) (accs : List Nat) : List Nat × Counts :=
  match mLink b with
  | 1 => (accs.map logisticF, noCounts)
  | 2 =>
    let m := accs.foldl maxF infN
    let es := accs.map (fun a => expF (addF a (negF m)))
    let sum := match es with
      | e :: rest => rest.foldl addF e
      | [] => 0
    (es.map (fun e => divF e sum), noCounts)
  | 3 =>
    let rs := accs.map (fun a => settleAcc (expF a))
    (rs.map (fun p => p.1), (rs.map (fun p => p.2)).foldl Counts.add noCounts)
  | 4 => (accs.map (fun a => minF (maxF a (mClampLo b)) (mClampHi b)), noCounts)
  | _ => (accs, noCounts)

/-- The result of scoring a row. -/
structure Scored where
  feats : List Feat
  scores : List Nat
  counts : Counts

/-- A row scored by a model image. -/
def score (b : Bytes) (ins : List (Option Int)) : Scored :=
  let (fs, c1) := features b ins
  let (accs, c2) := if mDense b then denseAccs b fs else treeAccs b fs
  let (ys, c3) := linkScores b accs
  ⟨fs, ys, (c1.add c2).add c3⟩

/-! ### The drift update (R184, R217) -/

/-- A state kept in 32 signed bits; a result that does not fit them is a free value. Log entry 16 (DESIGN CHOICE). -/
def keep32 (i : Int) : Int := if -(2 ^ 31) ≤ i && i < 2 ^ 31 then i else sext 32 (twos 32 (Config.driftWide i))

/-- State, minimum or second state after a value Z, whether the condition holds, and the state reported. -/
structure DriftOut where
  s : Int
  m : Int
  drifting : Bool
  shown : Int

/-- The DRIFT table: TYPE 1 EWMA, 2 CUSUM, 3 Page–Hinkley. For CUSUM with SIDE 2 `s` is the high side and `m` the low side. Log entry 16 (DESIGN CHOICE). -/
def driftUpdate (typ side a h : Nat) (s m z : Int) : DriftOut :=
  match typ with
  | 1 =>
    let s := keep32 (s + ((min a 256 : Nat) : Int) * (z - s) / 256)
    ⟨s, m, decide ((h : Int) ≤ (s.natAbs : Int)), s⟩
  | 2 =>
    let hi := keep32 (max 0 (s + z - a))
    match side with
    | 0 => ⟨hi, m, decide ((h : Int) ≤ hi), hi⟩
    | 1 => let lo := keep32 (max 0 (s - z - a)); ⟨lo, m, decide ((h : Int) ≤ lo), lo⟩
    | _ => let lo := keep32 (max 0 (m - z - a)); ⟨hi, lo, decide ((h : Int) ≤ max hi lo), max hi lo⟩
  | 3 =>
    let s := keep32 (s + z - a)
    let m := min m s
    ⟨s, m, decide ((h : Int) ≤ s - m), s⟩
  | _ => ⟨s, m, false, s⟩

end Sys2Proof.Machine
end

