-- ==== Sys2Proof/Machine/Models.lean ====
section
/-! DEFINITION. Models in service: slots (R224, R237 to R239, R250), rows and their scoring (R197, R212, R215, R216), alarms and the Crier
(R241 to R244), score records (R245), drift detectors (R217), and the checks of a model image (R232, R233). -/

namespace Sys2Proof.Machine

/-! ### Slots -/

/-- Slots, detectors, and model store in KiB of the build (R218, R225). -/
def slotCount : Build → Nat
  | .spoke => 32
  | .hub => 256
def detectorCount : Build → Nat
  | .spoke => 64
  | .hub => 512
def storeKib : Build → Nat
  | .spoke => 2048
  | .hub => 32768

/-- An empty slot. -/
def newSlot (n : Nat) : Slot := ⟨n, none, 0, 0, none, none, none, none, 0, none, false, false, false, false, false, [], 0, []⟩

/-- A slot. -/
def State.slot (s : State) (n : Nat) : Slot := (s.inf.slots.find? (fun x => x.num = n)).getD (newSlot n)

/-- Store that a slot's versions take. -/
def Slot.kib (x : Slot) : Nat :=
  let k (o : Option Bytes) : Nat := (o.map mKib).getD 0
  k x.cur + k x.next + k x.old

/-- Store in use. -/
def State.usedKib (s : State) : Nat := (s.inf.slots.map Slot.kib).foldl (fun a b => a + b) 0

/-- KiB that a checkpoint's shadow pages take (R445). -/
def State.shadowKib (s : State) : Nat := match s.con.copy with
  | some c => 4 * c.shadow.length
  | none => 0

/-- STATE of a slot (R250). Log entry 64 (DEDUCED). -/
def Slot.state (x : Slot) : Nat :=
  if (x.next.isSome && x.target.isSome) || x.unload.isSome then 2
  else if x.suspended then 3
  else if x.faulted then 4
  else if x.next.isSome then 6
  else if x.old.isSome then 5
  else if x.cur.isSome then 1 else 0

/-- The slot's window words and INF_STORE follow the slot. -/
def State.showSlot (s : State) (n : Nat) : State :=
  let x := s.slot n
  let im := (x.cur.orElse (fun _ => x.next.orElse (fun _ => x.old))).getD []
  let other := x.next.orElse (fun _ => x.old)
  let s := ((s.set (F.SLOT_CFG_STATE n) x.state).set (F.SLOT_CFG_ROW_KIND n) (mKind im)).set (F.SLOT_CFG_ENGINE n) (b2n (mDense im))
  let s := (s.set (F.SLOT_CFG_OWNER n) (mStall im)).set (F.SLOT_CFG_K_MINUS_1 n) (mK im - 1)
  let s := (s.set (F.SLOT_ID n) (mId im)).set (F.SLOT_VER n) (mVersion (x.cur.getD []))
  let s := (s.set (F.SLOT_OTHER n) (mVersion (other.getD []))).set (F.SLOT_KIB_STORE_KIB n) ((x.cur.map mKib).getD 0)
  let s := s.set (F.SLOT_KIB_OTHER_KIB n) ((other.map mKib).getD 0)
  let used := s.usedKib + s.shadowKib
  (s.set F.INF_STORE_USED_KIB used).set F.INF_STORE_FREE_KIB (storeKib s.build - used)

/-- A slot changed. -/
def State.modSlot (s : State) (n : Nat) (f : Slot → Slot) : State :=
  let x := f (s.slot n)
  (s.setInf { s.inf with slots := sortBy (fun y => y.num) (x :: s.inf.slots.filter (fun y => y.num ≠ n)) }).showSlot n

/-- Rows are formed: an image is loaded, the power state is RUN, the service state allows inference, and ENG_EN is 1 in force (R22, R219). -/
def State.infers (s : State) : Bool := s.collects && s.svc ≠ svcBringup && s.act F.INF_CTRL_ENG_EN = 1

/-- The version of a slot that scores rows of an epoch (R238): its number and its image. -/
def Slot.version (x : Slot) (epoch : Nat) : Nat × Option Bytes := if x.since ≤ epoch then (x.gen, x.cur) else (x.oldGen, x.old)

/-- A row needs a version already freed (R239). -/
def State.staleRow (s : State) : State := (s.inc F.INF_SWAP_STAT_STALE_ROWS).inc F.INF_ROW_DROP_DROPPED

/-- Tiles of a model's pipelines (R213). -/
def State.modelPipes (s : State) (b : Bytes) : List Pipe :=
  s.img.tabs.pipes.filter (fun p => mPipe b ≤ p.num && p.num < mPipe b + mNPipe b && p.purpose = 3)

/-- Two models share a Tree or MAC tile. -/
def State.sharesTile (s : State) (a b : Bytes) : Bool :=
  let ts := (s.modelPipes b).flatMap (fun p => p.tiles)
  (s.modelPipes a).any (fun p => p.tiles.any (fun t => ts.contains t && (tileKind s.build t = tkTree || tileKind s.build t = tkMac)))

/-- A row is queued, unless a pipeline of its model carries nothing (R19). A row that another context's rows keep from a shared tile is
counted (R214). Log entry 64 (DEDUCED). -/
def State.queueRow (s : State) (n : Nat) (im : Bytes) (r : Row) : State :=
  if (s.modelPipes im).any (fun p => p.tiles.any (fun t => s.stoppedTiles.contains t)) then s else
  let waits := s.inf.slots.any (fun y => y.num ≠ n && !y.rows.isEmpty && (match y.cur with
    | some c => s.sharesTile im c
    | none => false))
  let s := if waits then s.inc F.INF_TILE_WAIT else s
  let s := s.modSlot n (fun x => { x with rows := x.rows ++ [r] })
  let depth := ((s.slot n).rows.filter (fun x => x.kind = 0)).length
  if r.kind = 0 then s.raiseTo F.INF_ROW_DROP_QUEUE_MAX depth else s

/-- The epoch of a stamp in 125 ps units: the open one, the one that waits for its seal, or one sealed before. -/
def State.epochOf (s : State) (t : Nat) : Nat :=
  match s.bankAt t with
  | some false => s.tim.epoch
  | some true => match s.tim.closed with
    | some c => c.epoch
    | none => s.tim.epoch
  | none => s.tim.epoch - 1 - b2n s.tim.closed.isSome

/-- A STREAM row (R197, R215): dropped when 64 wait. -/
def State.streamRow (s : State) (n t : Nat) (report : List (Nat × Nat × Int)) : State :=
  let x := s.slot n
  if !s.infers || s.act F.INF_CTRL_STREAM_EN = 0 || x.suspended then s
  else
    let epoch := s.epochOf t
    match x.version epoch with
    | (g, some im) =>
      if mKind im ≠ 0 then s
      else if 64 ≤ (x.rows.filter (fun r => r.kind = 0)).length then s.inc F.INF_ROW_DROP_DROPPED
      else
        let ins := rowInputs im ⟨s.scl.bank, s.inf.last, report, []⟩
        s.queueRow n im ⟨0, epoch, t, s.nowNs, ins, s.ident, g, false⟩
    | (g, none) => if g ≠ 0 && x.since > epoch && (x.cur.map mKind) = some 0 then s.staleRow else s

/-- STREAM models that name a trigger: kind 0 report, 1 trace-derived event, 2 Tally increment, and its number. -/
def State.triggered (s : State) (kind num : Nat) : List Nat :=
  (s.inf.slots.filter (fun x => match x.cur with
    | some im => mKind im = 0 && mTrigger im = kind && mTrigNum im = num
    | none => false)).map (fun x => x.num)

/-- Every STREAM model that names a trigger forms a row. -/
def State.fireTrigger (s : State) (kind num t : Nat) (report : List (Nat × Nat × Int)) : State :=
  (s.triggered kind num).foldl (fun s n => s.streamRow n t report) s

/-- EPOCH rows of the epoch just sealed, from its sealed bank (R197). -/
def State.epochRows (s : State) (epoch : Nat) : State :=
  if !s.infers then s
  else s.inf.slots.foldl (fun s y =>
    let x := s.slot y.num
    match x.version epoch with
    | (g, some im) =>
      if mKind im ≠ 1 || x.suspended then s
      else s.queueRow x.num im ⟨1, epoch, s.stamp, s.nowNs, rowInputs im ⟨s.scl.closing, [], [], []⟩, s.ident, g, false⟩
    | _ => s) s

/-- CHILD rows for one Spoke's source values (R236), from the unit's sealed bank of the epoch. -/
def State.childRows (s : State) (epoch src : Nat) (entries : List (Nat × Nat × Int)) (bank : List Sect) (late : Bool) : State :=
  if !s.infers then s
  else s.inf.slots.foldl (fun s y =>
    let x := s.slot y.num
    match x.version epoch with
    | (g, some im) =>
      if mKind im ≠ 2 || x.suspended then s
      else s.queueRow x.num im ⟨2, epoch, s.stamp, s.nowNs, rowInputs im ⟨bank, [], [], entries⟩, src, g, late⟩
    | (g, none) => if g ≠ 0 && x.since > epoch && (x.cur.map mKind) = some 2 then s.staleRow else s) s

/-- EPOCH rows of an epoch that still wait. -/
def State.epochRowsWait (s : State) (epoch : Nat) : Bool := s.inf.slots.any (fun x => x.rows.any (fun r => r.kind = 1 && r.epoch = epoch))

/-- On-time CHILD rows of an epoch that still wait. -/
def State.childRowsWait (s : State) (epoch : Nat) : Bool :=
  s.inf.slots.any (fun x => x.rows.any (fun r => r.kind = 2 && r.epoch = epoch && !r.late))

/-- A retiring version is freed once its rows have been scored (R239). Log entry 64 (DEDUCED). -/
def State.retire (s : State) (n : Nat) : State :=
  let x := s.slot n
  match x.old with
  | none => s
  | some im =>
    let busy := x.rows.any (fun r => r.gen = x.oldGen)
    let sealed := match s.tim.sealedEpoch with
      | some e => x.since ≤ e + 1
      | none => false
    let merged := mKind im ≠ 2 || s.red.merges.any (fun m => x.since ≤ m.epoch + 1 && m.started)
    let kept := match x.keepUntil with
      | some e => s.tim.epoch ≤ e + 1
      | none => false
    if busy || !sealed || !merged || kept then s else s.modSlot n (fun x => { x with old := none, keepUntil := none })

/-- Every slot's retiring version is freed when nothing needs it. -/
def State.retireAll (s : State) : State := s.inf.slots.foldl (fun s x => s.retire x.num) s

/-! ### The Crier (R242 to R244) -/

/-- An own alarm, or a record that counts as one: within MAX_PER_EPOCH it is sent, beyond it it is suppressed. It is event 4 of the
sequencers (R257). -/
def State.ownAlarmOf (s : State) (kind ns stall : Nat) (limited : Bool) (body : List (Nat × Bytes)) : State :=
  let s := s.seqAll 4 s.stamp
  if limited && max 1 (s.fld F.INF_CRIER_MAX_PER_EPOCH) ≤ s.crier.own then
    (s.setCrier { s.crier with suppressed := s.crier.suppressed + 1 }).inc F.INF_CRIER_STAT_SUPPRESSED
  else
    let (r, s) := s.originate kind 0 1 stall ns body
    if s.upNow.isNone && !s.alarmCopies.any (fun p => s.lstate p = lsUp) then s.alarmOut r
    else
      let s := s.setCrier { s.crier with own := if limited then s.crier.own + 1 else s.crier.own,
                                         seen := (recIdent r, s.tim.epoch) :: s.crier.seen }
      (s.inc F.INF_CRIER_STAT_SENT).alarmOut r

/-- An own alarm (R242). -/
def State.ownAlarm (s : State) (ns stall : Nat) (limited : Bool) (body : List (Nat × Bytes)) : State := s.ownAlarmOf 0x40 ns stall limited body

/-- The body of an alarm record (R242). -/
def alarmBody (epoch origin sev subject object output value thresh rowSeq : Nat) : List (Nat × Bytes) :=
  [(16, toLE 6 epoch), (22, toLE 1 origin), (23, toLE 1 sev), (24, toLE 4 subject), (28, toLE 2 object), (30, toLE 1 output),
   (32, toLE 4 value), (36, toLE 4 thresh), (40, toLE 4 rowSeq)]

/-- At the seal of an epoch with suppressed alarms one ORIGIN 3 alarm tells their number, outside the limit (R244). Log entry 65 (DEDUCED). -/
def State.suppressionAlarm (s : State) (epoch : Nat) : State :=
  let n := s.crier.closedSuppressed
  let s := s.setCrier { s.crier with closedSuppressed := 0 }
  if n = 0 then s else s.ownAlarm s.nowNs 0 false (alarmBody epoch 3 (Config.suppressionSeverity % 8) s.ident 0 0 (ofIntF n) 0 0)

/-- The Crier at a boundary: the counts of the epoch start again. Log entry 65 (DEDUCED). -/
def State.crierBoundary (s : State) : State :=
  s.setCrier { s.crier with own := 0, suppressed := 0, closedSuppressed := s.crier.closedSuppressed + s.crier.suppressed,
                            seen := s.crier.seen.filter (fun p => s.tim.epoch ≤ p.2 + 1) }

/-- A received alarm, finding or notice is forwarded unchanged, once (R243). Log entry 65 (DEDUCED). -/
def State.alarmRx (s : State) (bs : Bytes) : State :=
  let i := recIdent bs
  if s.crier.seen.any (fun p => p.1 = i && s.tim.epoch ≤ p.2 + 1) then s.inc F.INF_CRIER_STAT_DUP
  else
    let goes := s.upNow.isSome || s.alarmCopies.any (fun p => s.lstate p = lsUp)
    (s.setCrier { s.crier with seen := if goes then (i, s.tim.epoch) :: s.crier.seen else s.crier.seen }).alarmOut bs

/-! ### Drift detectors (R217, R223) -/

/-- The state restarts at 0. Log entry 63 (DEDUCED). -/
def State.detReset (s : State) (d : Nat) : State := ((s.set (F.DRIFT_S d) 0).set (F.DRIFT_M d) 0).set (F.DRIFT_CTL_DRIFTING d) 0

/-- Bytes that a slot takes in section 2 of a checkpoint: its words, its image, its detector words (R446). -/
def State.slotBytes (s : State) (x : Slot) : Nat :=
  match x.cur with
  | none => 0
  | some b => 64 + (b.length + 63) / 64 * 64 + 32 * ((List.range (detectorCount s.build)).filter (fun d =>
      s.fld (F.DRIFT_CFG_TYPE d) ≠ 0 && s.fld (F.DRIFT_CFG_MODEL d) = x.num)).length

/-- Where a slot starts in it. -/
def State.slotOff (s : State) (n : Nat) : Nat :=
  ((s.inf.slots.filter (fun x => x.num < n)).map s.slotBytes).foldl (fun a b => a + b) 0

/-- A detector takes a value v in FP32. Log entry 63 (DEDUCED). -/
def State.detStep (s : State) (d v epoch ns stall rowSeq : Nat) (asks : Bool) : State :=
  let n := s.fld (F.DRIFT_CFG_MODEL d)
  let s := s.touch 2 (s.slotOff n + s.slotBytes (s.slot n) - 32)
  let z := mulF (addF v (negF (s.fld (F.DRIFT_MU d)))) (s.fld (F.DRIFT_INV d))
  let zq := clampI (-32767) 32767 (rneF (mulF z 0x43800000))
  let h := s.fld (F.DRIFT_PARAM_PARAM_B d)
  let o := driftUpdate (s.fld (F.DRIFT_CFG_TYPE d)) (s.fld (F.DRIFT_CFG_SIDE d)) (s.fld (F.DRIFT_PARAM_PARAM_A d)) h
    (sext 32 (s.fld (F.DRIFT_S d))) (sext 32 (s.fld (F.DRIFT_M d))) zq
  let was := s.on (F.DRIFT_CTL_DRIFTING d)
  let s := ((s.set (F.DRIFT_S d) (twos 32 o.s)).set (F.DRIFT_M d) (twos 32 o.m)).set (F.DRIFT_CTL_DRIFTING d) (b2n o.drifting)
  if o.drifting && !was then
    let s := s.inc F.INF_DRIFT_ALARMS
    let out := if s.on (F.DRIFT_CFG_SRC_KIND d) then 0 else s.fld (F.DRIFT_CFG_SRC d)
    if asks then s.ownAlarm ns stall true (alarmBody epoch 2 4 s.ident d out (rn32 o.shown (-8)) (rn32 h (-8)) rowSeq) else s
  else s

/-- Detectors in use that follow a model. -/
def State.detectorsOf (s : State) (n : Nat) : List Nat :=
  (List.range (detectorCount s.build)).filter (fun d => s.fld (F.DRIFT_CFG_TYPE d) ≠ 0 && s.fld (F.DRIFT_CFG_MODEL d) = n)

/-- The model's alarm settings ask for an alarm of a detector: those of its source output, or of any output for a feature. -/
def State.detAsks (s : State) (d : Nat) (im : Bytes) : Bool :=
  let outs := mOutputs im
  if s.on (F.DRIFT_CFG_SRC_KIND d) then outs.any (fun o => o.mode ≠ 0)
  else match outs[s.fld (F.DRIFT_CFG_SRC d)]? with
    | some o => o.mode ≠ 0
    | none => false

/-- Per-row detectors of a model take a scored row. Log entry 63 (DEDUCED). -/
def State.detRow (s : State) (n : Nat) (im : Bytes) (x : Scored) (epoch ns rowSeq : Nat) : State :=
  if s.act F.INF_CTRL_DRIFT_EN = 0 then s
  else ((s.detectorsOf n).filter (fun d => !s.on (F.DRIFT_CFG_PER_EPOCH d))).foldl (fun s d =>
    let i := s.fld (F.DRIFT_CFG_SRC d)
    let v : Option Nat := if s.on (F.DRIFT_CFG_SRC_KIND d) then (x.feats[i]?).map (fun f => rn32 f.y (-(f.point : Int))) else x.scores[i]?
    match v with
    | some v => s.detStep d v epoch ns (mStall im) rowSeq (s.detAsks d im)
    | none => s) s

/-- Per-epoch detectors take the sealed MEAN of their output's score metric. -/
def State.detEpoch (s : State) (epoch : Nat) (bank : List Sect) : State :=
  if s.act F.INF_CTRL_DRIFT_EN = 0 then s
  else s.inf.slots.foldl (fun s y => match y.cur with
    | none => s
    | some im => ((s.detectorsOf y.num).filter (fun d => s.on (F.DRIFT_CFG_PER_EPOCH d))).foldl (fun s d =>
      match (mOutputs im)[s.fld (F.DRIFT_CFG_SRC d)]? with
      | none => s
      | some o => match sectInput (sectOf bank o.metric 0) 1 with
        | some q => s.detStep d (rn32 q (-((s.metricDef true o.metric).frac))) epoch s.nowNs (mStall im) y.rowSeq (s.detAsks d im)
        | none => s) s) s

/-- Detectors of a version that takes force: those of the slot go, and section 7's entries take the lowest free ones (R228, R238). Log entry 63 (DEDUCED). -/
def State.detPlace (s : State) (n : Nat) (im : Option Bytes) : State :=
  let s := (s.detectorsOf n).foldl (fun s d => s.clearWords ((List.range 8).map (fun i => 0x560000 + 32 * d + 4 * i))) s
  let s := match im with
    | none => s
    | some b =>
      let (o, len) := mSect b 7
      (List.range (len / 32)).foldl (fun s i =>
        match (List.range (detectorCount s.build)).find? (fun d => s.fld (F.DRIFT_CFG_TYPE d) = 0) with
        | none => s
        | some d => (List.range 8).foldl (fun s j => s.setWord (0x560000 + 32 * d + 4 * j) (BitVec.ofNat 32 (le b (o + 32 * i + 4 * j) 4))) s) s
  s.set F.INF_DRIFT_ACTIVE (((List.range (detectorCount s.build)).filter (fun d => s.fld (F.DRIFT_CFG_TYPE d) ≠ 0)).length)

/-! ### Scoring a row -/

/-- A score enters Scales as a KIND 4 value of the row's epoch; a value whose bank is closed is a late one (R146, R147, R235). Log entry 62 (DEDUCED). -/
def State.scoreInto (s : State) (n : Nat) (r : Row) (k m y : Nat) : State × Bool :=
  let ts := tsNs (r.t / 8)
  let bank : Option Bool := if r.kind = 0 then s.bankAt r.t
    else if !r.late && s.red.ownWaits && s.tim.sealedEpoch = some r.epoch then some true else none
  if s.act F.SCL_CTRL_ACC_EN = 0 then (s.inc F.SCL_LATE_STAT_DROPPED, false)
  else match bank with
    | some closing => (s.putVal closing m (f32 y) ts (16 * n + k) 0 0 0, false)
    | none =>
      if s.act F.SCL_CTRL_LATE_MODE = 1 then (s.inc F.SCL_LATE_STAT_DROPPED, true)
      else ((s.inc F.SCL_LATE_STAT_FOLDED).putVal false m (f32 y) ts (16 * n + k) mfLateIn 0 0, true)

/-- The condition of an output's alarm: the threshold crossed, if any (R241). -/
def OutEnt.crossed (o : OutEnt) (y : Nat) : Option Nat :=
  let hi := leF o.hi y
  let lo := leF y o.lo
  match o.mode with
  | 1 => if hi then some o.hi else none
  | 2 => if lo then some o.lo else none
  | 3 => if hi then some o.hi else if lo then some o.lo else none
  | _ => none

/-- One output's alarm state takes a score; the answer says whether an alarm was raised. -/
def State.alarmStep (s : State) (n : Nat) (im : Bytes) (r : Row) (k : Nat) (o : OutEnt) (y rowSeq : Nat) : State × Bool :=
  if o.mode = 0 then (s, false)
  else
    let x := s.slot n
    let h := (x.runs.find? (fun h => h.out = k && h.subject = r.subject)).getD ⟨k, r.subject, 0, false⟩
    let rest := x.runs.filter (fun h => !(h.out = k && h.subject = r.subject))
    match o.crossed y with
    | none => (s.modSlot n (fun x => { x with runs := rest }), false)
    | some th =>
      let run := h.run + 1
      let raise := o.hold ≤ run && !h.raised
      let s := s.modSlot n (fun x => { x with runs := ⟨k, r.subject, run, h.raised || raise⟩ :: rest })
      if raise then
        ((s.inc (F.SLOT_ALARMS n)).ownAlarm (r.t / 8) (mStall im) true
          (alarmBody r.epoch 0 o.severity r.subject n k y th rowSeq), true)
      else (s, false)

/-- The counters of R221 take what a scoring counted. -/
def State.countScoring (s : State) (c : Counts) : State :=
  let s := ((s.add F.INF_MISS_STAT_MISSING c.missing).add F.INF_MISS_STAT_CAT_UNKNOWN c.cat).add F.INF_MISS_STAT_DIV_ZERO c.div
  ((s.add F.INF_NUM_STAT_SAT c.sat).add F.INF_NUM_STAT_OVERFLOW c.ovf).add F.INF_NUM_STAT_BAD_WEIGHT c.badw

/-- The score record of a row, when an output entry's RECORD asks for one (R245). -/
def State.scoreRecord (s : State) (n : Nat) (im : Bytes) (r : Row) (x : Scored) (rowSeq : Nat) (alarmed late : Bool) : State :=
  let asks := (mOutputs im).any (fun o => o.record = 3 || (o.record = 2 && r.kind ≠ 0) || (o.record = 1 && alarmed))
  if !asks then s
  else
    let flags := b2n (x.feats.any (fun f => f.missing)) + 2 * b2n (x.counts.ovf ≠ 0) + 4 * b2n alarmed + 8 * b2n late
    let (rec_, s) := s.originate 0x28 4 2 (mStall im) (r.t / 8)
      [(16, toLE 6 r.epoch), (22, toLE 1 n), (23, toLE 1 r.kind), (24, toLE 4 (mId im)), (28, toLE 4 (mVersion im)), (32, toLE 4 r.subject),
       (36, toLE 4 rowSeq), (40, toLE 2 flags), (42, toLE 1 (mK im)), (44, x.scores.flatMap (toLE 4))]
    s.toRoute F.TRC_ROUTE_SCORE rec_

/-- A row scored under a version: counters, Scales, alarms, the record and the per-row detectors (R204, R226, R241, R245, R217). -/
def State.scoreRow (s : State) (n : Nat) (im : Bytes) (r : Row) : State :=
  let x := score im r.inputs
  let seq := (s.slot n).rowSeq
  let s := (s.countScoring x.counts).wrapInc F.INF_ROWS
  let s := s.modSlot n (fun y => { y with rowSeq := (seq + 1) % 2 ^ 32 })
  let outs := (List.range (mK im)).zip ((mOutputs im).zip x.scores)
  let (s, late) := if (s.slot n).suspended then (s, false)
    else outs.foldl (fun (p : State × Bool) o => let (s, l) := p.1.scoreInto n r o.1 o.2.1.metric o.2.2; (s, p.2 || l)) (s, false)
  let (s, alarmed) := outs.foldl (fun (p : State × Bool) o => let (s, a) := p.1.alarmStep n im r o.1 o.2.1 o.2.2 seq; (s, p.2 || a)) (s, false)
  let s := s.scoreRecord n im r x seq alarmed late
  s.detRow n im x r.epoch (r.t / 8) seq

/-- A double-bit error in the model store (R216). -/
def State.storeFault (s : State) (n tile addr : Nat) : State :=
  let s := ((s.inc F.INF_FAULT_UNCORRECTED).inc F.INF_ROW_DROP_DROPPED).set F.INF_FAULT_ADDR addr
  let s := (s.set F.INF_FAULT_ADDR_TILE tile).log 0x18 0 (addr % 2 ^ 22 + 2 ^ 22 * (tile % 512)) 0
  let s := s.modSlot n (fun x => { x with faulted := true })
  if s.act F.INF_CTRL_ALERT_EN = 1 then s.alert 5 else s

/-- The oldest row of a slot has been scored (R212, R216, R239). -/
def State.rowDone (s : State) (n : Nat) (err : StoreErr) : State :=
  match (s.slot n).rows with
  | [] => s
  | r :: rest =>
    let x := s.slot n
    let s := s.modSlot n (fun x => { x with rows := rest })
    let im := if r.gen = x.gen then x.cur else if r.gen = x.oldGen then x.old else none
    let s := match im with
      | none => s.staleRow
      | some im => match err with
        | .double tile addr => s.storeFault n tile addr
        | .single => (s.inc F.INF_FAULT_CORRECTED).scoreRow n im r
        | .none => s.scoreRow n im r
    let s := if r.kind ≠ 0 && !rest.any (fun y => y.kind = r.kind && y.epoch = r.epoch) then
        let s := s.set (F.SLOT_SCORE_LAST_10NS n) (min 0xFFFF ((s.nowNs - r.formed) / 10))
        if !r.late && !(s.slot n).overran then s.set (F.SLOT_SCORE_OVERRUNS n) 0 else s
      else s
    s.retire n

/-- Rows of a kind have overrun their budget (R235): the score sections that wait are INCOMPLETE, and the overrun is counted. Log entry 64 (DEDUCED). -/
def State.overrun (s : State) (kind epoch : Nat) : State :=
  let late := s.inf.slots.filter (fun x => x.rows.any (fun r => r.kind = kind && r.epoch = epoch && !r.late))
  if late.isEmpty then s
  else
    let s := if s.inf.budgetOver then s else (s.setInf { s.inf with budgetOver := true }).inc F.INF_BUDGET_STAT_OVERRUNS
    late.foldl (fun s y =>
      let x := s.slot y.num
      let s := match (x.version epoch).2 with
        | some im => (mOutputs im).foldl (fun s o => s.sectFlags true o.metric mfIncomplete) s
        | none => s
      if x.overran then s
      else
        let s := s.inc (F.SLOT_SCORE_OVERRUNS x.num)
        let tooMany := max 1 (s.fld F.INF_BUDGET_OVERRUN_LIMIT) ≤ s.fld (F.SLOT_SCORE_OVERRUNS x.num)
        s.modSlot x.num (fun x => { x with overran := true, suspendNext := x.suspendNext || tooMany })) s

/-! ### Boundaries (R235, R237 to R240) -/

/-- A pending version takes force in a slot at the boundary that opens `epoch`. -/
def State.swapIn (s : State) (n epoch : Nat) (im : Option Bytes) : State :=
  let keep := if s.on F.INF_MDL_CTRL_KEEP_OLD then some (epoch - 1 + s.fld F.RED_WAIT_LATE_WINDOW) else none
  let s := s.modSlot n (fun x => { x with
    old := x.cur, oldGen := if x.cur.isSome then x.gen else 0, cur := im, gen := x.gen + 1, since := epoch, keepUntil := keep,
    suspended := false, suspendNext := false, faulted := false, runs := [], overran := false })
  (s.set (F.SLOT_SCORE_OVERRUNS n) 0).detPlace n im

/-- A slot at the boundary that opens `epoch`. -/
def State.slotBoundary (s : State) (n epoch : Nat) : State :=
  let x := s.slot n
  let s := if x.suspended && x.resume then s.modSlot n (fun x => { x with suspended := false }) else s
  let s := s.modSlot n (fun x => { x with resume := false })
  let s := if x.suspendNext then
      let s := s.modSlot n (fun x => { x with suspended := true, suspendNext := false })
      ((s.inc F.INF_BUDGET_STAT_SUSPENDS).log 0x1A 0 n (s.fld (F.SLOT_SCORE_OVERRUNS n))).alertIf F.INF_BUDGET_ALERT_EN 5
    else s
  let s := match x.next, x.target with
    | some im, some t =>
      if t ≤ epoch then
        let s := (s.modSlot n (fun x => { x with next := none, target := none })).swapIn n epoch (some im)
        (s.inc F.INF_SWAP_STAT_SWAPS).set F.INF_MDL_STAT_LOAD_STATE 0
      else s
    | _, _ => s
  match x.unload with
  | some t => if t ≤ epoch then (s.modSlot n (fun x => { x with unload := none })).swapIn n epoch none else s
  | none => s

/-- The slots at a boundary. -/
def State.mdlBoundary (s : State) (epoch : Nat) : State :=
  let s := s.setInf { s.inf with budgetOver := false, last := [] }
  (s.inf.slots.foldl (fun s x => s.slotBoundary x.num epoch) s).retireAll

/-- A seal: the overrun of the epoch before no longer counts. -/
def State.mdlSeal (s : State) : State := s.inf.slots.foldl (fun s x => s.modSlot x.num (fun x => { x with overran := false })) s

/-- Commits that waited for an image switch that failed are cancelled (R240). -/
def State.mdlCancel (s : State) : State :=
  s.inf.slots.foldl (fun s x => match x.next, x.target with
    | some im, some _ =>
      if mCatId im ≠ s.fld F.SCL_CAT_ID then
        ((s.modSlot x.num (fun x => { x with target := none })).inc F.INF_SWAP_STAT_CANCELLED).set F.INF_MDL_STAT_LOAD_STATE 3
      else s
    | _, _ => s) s

/-! ### Checks of an image (R232, R233) -/

/-- No NaN and no infinity in a 16-bit or 32-bit pattern. -/
def bf16Finite (v : Nat) : Bool := bits v 14 7 ≠ 255
def f32Finite (v : Nat) : Bool := bits v 30 23 ≠ 255

/-- A feature descriptor is well formed (R199, R200). -/
def featOk (b : Bytes) (i : Nat) : Bool :=
  let o := (mSect b 1).1 + 16 * i
  let w0 := le b o 4
  let w1 := le b (o + 4) 4
  let w2 := le b (o + 8) 4
  let op := bits w0 2 0
  let n := bits w1 23 16
  let tbl := bits w1 15 0
  let scale := op = 1 || op = 3
  let entries := (mSect b 2).2 / 8
  op ≤ 4 && bits w0 31 26 = 0 && bits w1 31 24 = 0 && bits w2 31 28 = 0 && bits w0 12 3 < mInputs b
    && ((op = 2 || op = 3) → (bits w0 22 13 < mInputs b && bits w0 25 23 ≤ 5))
    && (if scale then tbl < entries
        else 1 ≤ n && tbl + n ≤ entries && (List.range (n - 1)).all (fun j => decide (tblEntry b tbl j < tblEntry b tbl (j + 1))))

/-- Sizes of the tree section (R205). -/
def treeBytes (b : Bytes) : Nat := (6 * 2 ^ mDepth b - 4) * mTrees b
def treeLimits : Build → Nat × Nat
  | .spoke => (784384, 4096)
  | .hub => (12550144, 65536)

/-- The tree section is well formed (R202, R205). -/
def treesOk (bd : Build) (b : Bytes) : Bool :=
  let (o, len) := mSect b 4
  let n := (2 ^ mDepth b - 1) * mTrees b
  1 ≤ mDepth b && mDepth b ≤ 10 && mLayers b = 0 && treeBytes b ≤ (treeLimits bd).1 && mTrees b ≤ (treeLimits bd).2
    && len = (treeBytes b + 7) / 8 * 8
    && (List.range n).all (fun i => let w := le b (o + 4 * i) 4; bits w 31 20 = 0 && (bit w 19 || bits w 9 0 < mFeatures b))
    && (List.range (2 ^ mDepth b * mTrees b)).all (fun i => bf16Finite (le b (o + 4 * n + 2 * i) 2))
    && (mSect b 3).2 = 4 * mK b && (List.range (mK b)).all (fun i => f32Finite (le b ((mSect b 3).1 + 4 * i) 4))

/-- Bytes of a layer's data. -/
def layerBytes (l : Layer) : Nat := (4 * l.outN + wBytes l.wfmt * l.inN * l.outN + 7) / 8 * 8

/-- A layer is well formed (R207, R208, R210). -/
def layerOk (b : Bytes) (i : Nat) : Bool :=
  let l := mLayer b i
  let o := (mSect b 5).1 + 32 * i
  let (so, len) := mSect b 5
  1 ≤ l.inN && l.inN ≤ 1024 && 1 ≤ l.outN && l.outN ≤ 1024 && l.wfmt ≤ 4 && l.acc ≤ 1 && (l.acc = 1 → l.wfmt = 0) && l.act ≤ 2
    && l.shift ≤ 47 && le b (o + 7) 1 = 0 && le b (o + 15) 1 = 0
    && (if i + 1 = mLayers b then l.outN = mK b else l.outN = (mLayer b (i + 1)).inN)
    && (i = 0 → mBase b + l.inN ≤ mFeatures b)
    && l.data + layerBytes l ≤ so + len && so + 32 * mLayers b ≤ l.data
    && (List.range l.outN).all (fun j => (List.range l.inN).all (fun k => (weight b l j k).2.2 = 0))
    && (if l.acc = 1 then (List.range l.outN).all (fun j =>
          let bias := sext 32 (le b (l.data + 4 * j) 4)
          let reach := ((List.range l.inN).map (fun k => (weight b l j k).1.natAbs * 128)).foldl (fun x y => x + y) 0
          bias.natAbs + reach ≤ 2 ^ 31 - 1)
        else (List.range l.outN).all (fun j => f32Finite (le b (l.data + 4 * j) 4)))

/-- Dense weights that a build holds, in bytes (R218). -/
def denseLimit : Build → Nat
  | .spoke => 1536 * 1024
  | .hub => 24576 * 1024

/-- The layer section is well formed. -/
def layersOk (bd : Build) (b : Bytes) : Bool :=
  1 ≤ mLayers b && mLayers b ≤ 6 && mDepth b = 0 && le b 36 2 = 0 && (List.range (mLayers b)).all (layerOk b)
    && ((List.range (mLayers b)).map (fun i => let l := mLayer b i; wBytes l.wfmt * l.inN * l.outN)).foldl (fun x y => x + y) 0 ≤ denseLimit bd

/-- Cause 0x3: the format of a model image fetched for a slot. -/
def mFormatOk (bd : Build) (slot : Nat) (b : Bytes) : Bool :=
  let n := mLength b
  le b 0 4 = mdlMagic && n = b.length && 256 ≤ n && n ≤ 1024 * storeKib bd && mVersion b ≠ 0 && bits (le b 24 2) 15 12 = 0
    && bits (le b 27 1) 7 3 = 0 && mKind b ≤ 2 && bits (le b 28 4) 31 14 = 0 && mTrigger b ≤ 2 && bits (le b 42 2) 15 11 = 0 && le b 60 4 = 0
    && mSlot b = slot && 1 ≤ mInputs b && mInputs b ≤ 1024 && 1 ≤ mFeatures b && mFeatures b ≤ 2048 && 1 ≤ mK b && mK b ≤ 16
    && mLink b ≤ 4 && (mLink b = 2 → 2 ≤ mK b) && (mLink b = 4 → leF (mClampLo b) (mClampHi b))
    && (List.range 8).all (fun i => let (o, l) := mSect b i; l = 0 || (o % 8 = 0 && 128 ≤ o && o + l ≤ n - 128))
    && (mSect b 0).2 = 4 * mInputs b && (mSect b 1).2 = 16 * mFeatures b && (mSect b 2).2 % 8 = 0 && (mSect b 6).2 = 16 * mK b
    && (mSect b 7).2 % 32 = 0 && (mSect b 7).2 / 32 ≤ detectorCount bd
    && (List.range (mInputs b)).all (fun i => let w := le b ((mSect b 0).1 + 4 * i) 4; !bit w 15 && bits w 31 20 = 0)
    && (mSelectors b).all (fun x => x.stat ≤ 7 && (x.stat = 5 || x.stat = 6 → mKind b = 0) && (x.stat = 7 → mKind b = 2))
    && (List.range (mFeatures b)).all (featOk b)
    && (if mDense b then layersOk bd b else treesOk bd b)
    && (List.range (mK b)).all (fun i =>
        let p := (mSect b 6).1 + 16 * i
        le b p 2 < 1024 && le b (p + 2) 1 ≤ 3 && le b (p + 3) 1 ≤ 15 && le b (p + 12) 1 ≤ 7 && le b (p + 13) 1 ≤ 3 && le b (p + 14) 2 = 0)
    && (List.range ((mSect b 7).2 / 32)).all (fun i =>
        let p := (mSect b 7).1 + 32 * i
        let w := le b p 4
        bits w 24 17 = slot && bits w 31 25 = 0 && bits w 3 2 ≤ 2 && le b (p + 8) 12 = 0 && le b (p + 28) 4 = 0
          && (if bit w 5 then bits w 16 6 < mFeatures b && !bit w 4 else bits w 16 6 < mK b))

/-- The catalogue that a model is checked against: the running one, or that of a switch staged or pending (R240). -/
def State.modelCat (s : State) (b : Bytes) : Option (Nat → Nat → Word) :=
  if mCatId b = s.fld F.SCL_CAT_ID then some (fun m i => s.word (0x500000 + 16 * m + 4 * i))
  else if (s.fld F.BLK_IMG_STAT_STATE = 3 || s.fld F.BLK_IMG_STAT_STATE = 4) && imgCatId s.img.staged = mCatId b then some (imgCatWord s.img.staged)
  else none

/-- Walkers and multiply-accumulate units of a model's context (R213). -/
def State.contextSize (s : State) (b : Bytes) : Nat × Nat :=
  (s.modelPipes b).foldl (fun (p : Nat × Nat) x =>
    let n (k : Nat) : Nat := (x.tiles.filter (fun t => tileKind s.build t = k)).length
    (p.1 + x.walkers * n tkTree, p.2 + x.macs * n tkMac)) (0, 0)

/-- Steps of the front stage for one row (R211). -/
def frontSteps (b : Bytes) : Nat :=
  ((List.range (mFeatures b)).map (fun i =>
    let o := (mSect b 1).1 + 16 * i
    let op := bits (le b o 4) 2 0
    let n := bits (le b (o + 4) 4) 23 16
    let base := if op = 1 || op = 3 then 1 else n.log2 + 1
    base + b2n (op = 2 || op = 3))).foldl (fun x y => x + y) 0

/-- Unit handshakes of the dense layers for one row (R208, R211). -/
def denseSteps (b : Bytes) : Nat :=
  if !mDense b then 0
  else ((List.range (mLayers b)).map (fun i => let l := mLayer b i; l.inN * (if l.wfmt < 3 then (l.outN + 1) / 2 else l.outN))).foldl (fun x y => x + y) 0

/-- n ÷ d rounded up; d = 0 asks for nothing when n is 0. -/
def ceilDiv (n d : Nat) : Nat := if d = 0 then n * 10 ^ 9 else (n + d - 1) / d

/-- Handshakes of a model's rows (R233). Log entry 61 (DEDUCED). -/
def State.costSteps (s : State) (b : Bytes) : Nat :=
  let (w, u) := s.contextSize b
  let rows := if mKind b = 2 then 320 else 1
  ceilDiv (rows * mTrees b * mDepth b) w + ceilDiv (rows * (denseSteps b + frontSteps b)) u

/-- COST_NS times the lane capacity in 10⁴ per second (R233). Log entry 61 (DEDUCED). -/
def State.costScaled (s : State) (b : Bytes) : Nat := s.costSteps b * 100000 + 500 * s.laneCap

/-- Cause 0x8: the models of one kind together exceed that kind's budget. Log entry 61 (DEDUCED). -/
def State.budgetOk (s : State) (slot : Nat) (b : Bytes) : Bool :=
  if mKind b = 0 then true
  else
    let us := if mKind b = 1 then s.fld F.INF_BUDGET_EPOCH_US else s.fld F.INF_BUDGET_CHILD_US
    let others := s.inf.slots.filterMap (fun x => if x.num = slot then none else match x.cur with
      | some c => if mKind c = mKind b then some (s.costScaled c) else none
      | none => none)
    others.foldl (fun x y => x + y) (s.costScaled b) ≤ 1000 * us * s.laneCap

/-- A slot's owner and store, for the quota. Log entry 64 (DEDUCED). -/
def State.stallSlots (s : State) (stall slot : Nat) : Nat :=
  (s.inf.slots.filter (fun x => x.num ≠ slot && [x.cur, x.next, x.old].any (fun o => (o.map mStall) = some stall))).length
def State.stallKib (s : State) (stall : Nat) : Nat :=
  ((s.inf.slots.flatMap (fun x => [x.cur, x.next, x.old])).map (fun o => match o with
    | some b => if mStall b = stall then mKib b else 0
    | none => 0)).foldl (fun x y => x + y) 0

/-- The cause for which an image fetched for a slot is rejected; 0 when it is accepted (R232). The checks run in the order 0xB, 1, 2, 3, 0xC,
4, 5, 6, 7, 8. Log entry 61 (DEDUCED). -/
def State.modelCause (s : State) (slot : Nat) (b : Bytes) (err : Bool) : Nat :=
  if err then 0xB
  else if !s.authentic 2 b then 1
  else if !(le b 4 2 = 3 && le b 6 2 ≤ 1) then 2
  else if !mFormatOk s.build slot b then 3
  else if slotCount s.build ≤ slot || (mKind b = 2 && s.fld F.RED_NODE_LEVEL ≠ 2) || (s.modelPipes b).length ≠ mNPipe b || mNPipe b = 0 then 0xC
  else match s.modelCat b with
    | none => 4
    | some cat =>
      let stall := mStall b
      if (mSelectors b).any (fun x => bits (cat x.metric 0).toNat 2 0 = 0) then 4
      else if ((List.range (mK b)).zip (mOutputs b)).any (fun p =>
          let a := (cat p.2.metric 0).toNat
          bits a 2 0 ≠ 4 || bits (cat p.2.metric 1).toNat 23 12 ≠ 16 * slot + p.1 || bits a 27 16 ≠ stall) then 4
      else if (mSelectors b).any (fun x => let a := (cat x.metric 0).toNat; bits a 27 16 ≠ stall && !bit a 28) then 5
      else if storeKib s.build < s.usedKib + mKib b then 6
      else if s.fld (F.QUOTA_MAX_SLOTS stall) < s.stallSlots stall slot + 1 || s.fld (F.QUOTA_MAX_KIB stall) < s.stallKib stall + mKib b then 7
      else if !s.budgetOk slot b then 8 else 0

/-! ### Loading and committing (R232, R237, R246) -/

/-- A rejection or refusal is recorded. -/
def State.mdlReject (s : State) (slot cause : Nat) : State :=
  let s := ((s.set F.INF_MDL_STAT_LAST_REJECT cause).inc F.INF_MDL_STAT_REJECTS).set F.INF_MDL_STAT_REJECTED 1
  s.log 0x19 cause slot 0

/-- SLOT of INF_MDL_CTRL, and the target epoch. -/
def State.mdlSlot (s : State) : Nat := s.fld F.INF_MDL_CTRL_SLOT
def State.mdlTarget (s : State) : Nat := s.fld F.INF_MDL_EPOCH_LO + 2 ^ 32 * s.fld F.INF_MDL_EPOCH_HI_EPOCH

/-- OP = LOAD. -/
def State.mdlLoad (s : State) : State :=
  let n := s.mdlSlot
  if s.fld F.INF_MDL_STAT_LOAD_STATE ≠ 0 then s.mdlReject n 0xA
  else
    let s := s.set F.INF_MDL_STAT_SLOT n
    if s.on F.INF_MDL_CTRL_SRC then
      match s.stagedObject mdlMagic with
      | some b => (s.setInf { s.inf with fetched := some (n, b, false) }).set F.INF_MDL_STAT_LOAD_STATE 2
      | none => (s.setInf { s.inf with fetched := some (n, [], true) }).set F.INF_MDL_STAT_LOAD_STATE 2
    else
      let addr := s.pair F.INF_MDL_SRC_LO F.INF_MDL_SRC_HI / 16 * 16
      (s.setPorts { s.ports with jobs := s.ports.jobs ++ [⟨.model n, addr, s.fld F.INF_MDL_LEN_LENGTH, [], true⟩] }).set F.INF_MDL_STAT_LOAD_STATE 1

/-- A fetched model image is authenticated and checked: staged, or rejected and discarded. -/
def State.mdlChecked (s : State) : State :=
  match s.inf.fetched with
  | none => s
  | some (n, b, err) =>
    let s := s.setInf { s.inf with fetched := none }
    let c := s.modelCause n b err
    -- a swap that needs store held by shadow pages abandons the checkpoint (R448)
    let s := if c = 0 && storeKib s.build < s.usedKib + s.shadowKib + mKib b then s.abandon 2 else s
    if c = 0 then
      let s := s.modSlot n (fun x => { x with next := some b, target := none })
      (s.set F.INF_MDL_STAT_LOAD_STATE 3).set F.INF_MDL_STAT_DONE 1
    else
      let s := if c = 1 then s.authReject n 1 else s
      (s.mdlReject n c).set F.INF_MDL_STAT_LOAD_STATE 0

/-- OP = COMMIT. Log entry 64 (DEDUCED). -/
def State.mdlCommit (s : State) : State :=
  let n := s.mdlSlot
  let t := s.mdlTarget
  match (s.slot n).next with
  | none => s.mdlReject n 0xA
  | some im =>
    if t ≤ s.tim.epoch then s.mdlReject n 0x9
    else if mCatId im ≠ s.fld F.SCL_CAT_ID
        && !(s.fld F.BLK_IMG_STAT_STATE = 4 && s.img.target = t && imgCatId s.img.staged = mCatId im) then s.mdlReject n 0x4
    -- a suspended slot leaves SUSPENDED when a new version is committed (R235)
    else (s.modSlot n (fun x => { x with target := some t, suspended := false, suspendNext := false })).set F.INF_MDL_STAT_LOAD_STATE 4

/-- OP = UNLOAD. -/
def State.mdlUnload (s : State) : State :=
  let n := s.mdlSlot
  let t := s.mdlTarget
  if (s.slot n).cur.isNone then s.mdlReject n 0xA
  else if t ≤ s.tim.epoch then s.mdlReject n 0x9
  else s.modSlot n (fun x => { x with unload := some t })

/-- OP = ABORT. -/
def State.mdlAbort (s : State) : State :=
  let n := s.mdlSlot
  let x := s.slot n
  if x.next.isNone && x.unload.isNone then s.mdlReject n 0xA
  else
    let s := if x.next.isSome then s.set F.INF_MDL_STAT_LOAD_STATE 0 else s
    s.modSlot n (fun x => { x with next := none, target := none, unload := none })

/-- OP = RESUME. -/
def State.mdlResume (s : State) : State :=
  let n := s.mdlSlot
  if (s.slot n).suspended then s.modSlot n (fun x => { x with resume := true }) else s

/-- INF_MDL_CTRL with its OP forced. -/
def opWord (w : Word) (op : Nat) : Word := F.INF_MDL_CTRL_OP.put w op

/-- A write of INF_MDL_CTRL with an operation. -/
def State.mdlWrite (s : State) (w : Word) (f : State → State) : State := f (s.plainWrite 0x050040 w)

/-- A load that has just started belongs to a Kiosk core or not (R454). -/
def State.noteLoad (s : State) (a : Access) : State :=
  if s.fld F.INF_MDL_STAT_LOAD_STATE = 1 || s.fld F.INF_MDL_STAT_LOAD_STATE = 2 then
    s.setCon { s.con with kioskLoad := srcPort a.src = .kioskM }
  else s

/-- MODEL_LOAD. -/
def execModelLoad (a : Access) (w : Word) (s : State) : Host.Outcome State Fault Refusal :=
  done (s.guardWrite a 0x050040 (fun s => (s.mdlWrite w State.mdlLoad).noteLoad a))

/-- MODEL_FETCH_COMPLETE. -/
def execModelFetchComplete (s : State) : Host.Outcome State Fault Refusal := done s.mdlChecked

/-- MODEL_COMMIT. -/
def execModelCommit (a : Access) (w : Word) (s : State) : Host.Outcome State Fault Refusal :=
  done (s.guardWrite a 0x050040 (fun s => s.mdlWrite w State.mdlCommit))

/-- MODEL_UNLOAD. -/
def execModelUnload (a : Access) (w : Word) (s : State) : Host.Outcome State Fault Refusal :=
  done (s.guardWrite a 0x050040 (fun s => s.mdlWrite w State.mdlUnload))

/-- MODEL_ABORT. -/
def execModelAbort (a : Access) (w : Word) (s : State) : Host.Outcome State Fault Refusal :=
  done (s.guardWrite a 0x050040 (fun s => s.mdlWrite w State.mdlAbort))

/-- MODEL_RESUME. -/
def execModelResume (a : Access) (w : Word) (s : State) : Host.Outcome State Fault Refusal :=
  done (s.guardWrite a 0x050040 (fun s => s.mdlWrite w State.mdlResume))

/-- DRIFT_RESET: a write of a detector's word +0x10 with RESET = 1 (R223). -/
def execDriftReset (a : Access) (d : Nat) (w : Word) (s : State) : Host.Outcome State Fault Refusal :=
  done (if d < 512 then s.guardWrite a (0x560010 + 32 * d) (fun s => (s.plainWrite (0x560010 + 32 * d) w).detReset d) else s)

/-- STREAM_TRIGGER: a trigger named by the STREAM model of a slot arrives with a value (R197). REPORT inputs of the value's metric take it. -/
def execStreamTrigger (slot t : Nat) (value : MetricValue) (s : State) : Host.Outcome State Fault Refusal :=
  let s := s.reach t
  let d := s.metricDef false value.metric
  let q := (toFixed (rawVal d.fmt value.raw.toNat) d.frac).1
  let rep : List (Nat × Nat × Int) := match q with
    | some q => (List.range 16).map (fun f => (f, value.metric, q))
    | none => []
  done (s.streamRow slot t rep)

/-- ALARM_RECORD. -/
def execAlarmRecord (r : Rx) (s : State) : Host.Outcome State Fault Refusal := done (((s.reach r.t).consume r).alarmRx r.bytes)

end Sys2Proof.Machine
end

