-- ==== Sys2Proof/Machine/Digests.lean ====
section
/-! DEFINITION. Findings (R320), digest records (R312) and their pairing (R313). -/

namespace Sys2Proof.Machine

/-- A finding leaves on alarm routes and counts as an own alarm (R320). Log entry 73 (DEDUCED). -/
def State.finding (s : State) (ns epoch kind subject other ref va vb : Nat) : State :=
  let sev := if kind = 1 || kind = 3 || kind = 7 || kind = 8 then 6 else 4
  s.ownAlarmOf 0x42 ns 0 true [(16, toLE 6 epoch), (22, toLE 1 kind), (23, toLE 1 sev), (24, toLE 4 subject), (28, toLE 4 other),
    (32, toLE 8 ref), (40, toLE 8 va), (48, toLE 8 vb)]

/-- Fields of a digest record (R312). -/
def dgColl (b : Bytes) : Nat := le b 22 2
def dgKeyEpoch (b : Bytes) : Nat := le b 24 6
def dgRole (b : Bytes) : Nat := le b 30 1
def dgFlags (b : Bytes) : Nat := le b 31 1
def dgPeer (b : Bytes) : Nat := le b 32 4 % 2 ^ 20
def dgWords (b : Bytes) : Nat := le b 36 4
def dgDigest (b : Bytes) : Nat := le b 40 8

/-- Two records pair (R313). -/
def dgPairs (a b : Bytes) : Bool :=
  dgColl a = dgColl b && dgKeyEpoch a = dgKeyEpoch b && dgRole a ≠ dgRole b && dgPeer a = recSource b && dgPeer b = recSource a

/-- The finding of a record that stays unpaired (R313, R320). Log entry 73 (DEDUCED). -/
def State.unpaired (s : State) (b : Bytes) : State :=
  let s := s.inc F.SVC_DIG_STAT_UNPAIRED
  let send := dgRole b = 0
  let (subj, other) := if send then (recSource b, dgPeer b) else (dgPeer b, recSource b)
  s.finding s.nowNs (le b 16 6) 2 subj other (dgColl b) (if send then dgDigest b else 0) (if send then 0 else dgDigest b)

/-- A pair is judged (R313); `b` is the later of the two. Log entry 73 (DEDUCED). -/
def State.judgePair (s : State) (a b : Bytes) : State :=
  if dgFlags a % 8 ≠ 0 || dgFlags b % 8 ≠ 0 then s.inc F.SVC_DIG_STAT_UNCHECKED
  else if dgWords a = dgWords b && dgDigest a = dgDigest b then s.wrapInc F.SVC_DIG_MATCH
  else
    let s := s.inc F.SVC_DIG_STAT_MISMATCH
    let (x, y) := if dgRole a = 0 then (a, b) else (b, a)
    s.finding (recTs b) (le b 16 6) 1 (recSource x) (recSource y) (dgColl b) (dgDigest x) (dgDigest y)

/-- Digest records that a node may hold (R331). -/
def digestLimit : Nat := 65536

/-- A record is paired with a held one, or held (R313). -/
def State.digestTake (s : State) (b : Bytes) : State :=
  match s.srv.held.find? (fun h => dgPairs h.1 b) with
  | some h => (s.setSrv { s.srv with held := eraseFirst (fun x => x == h) s.srv.held }).judgePair h.1 b
  | none =>
    if digestLimit ≤ s.srv.held.length then s.unpaired b
    else s.setSrv { s.srv with held := s.srv.held ++ [(b, s.tim.epoch)] }

/-- The own digest records of an epoch, formed as its summary leaves (R312). -/
def State.ownDigests (s : State) (epoch : Nat) : List Bytes × State :=
  -- a takeover's node has none of its own
  let (now, later) := s.srv.digs.partition (fun d => d.1 ≤ epoch && s.red.tbl = 0)
  let s := s.setSrv { s.srv with digs := later }
  now.foldl (fun (p : List Bytes × State) d =>
    let (r, s) := p.2.originate 0x27 3 1 0 d.2.1 [(16, d.2.2)]
    (p.1 ++ [r], s)) ([], s)

end Sys2Proof.Machine
end

