-- ==== Sys2Proof/Machine/Tally.lean ====
section
/-! DEFINITION. The Tally: which counter is read next (R111, R112), readings and their extension (R108, R114 to R118), the value at the
boundary (R119 to R121), map writes (R109, R117), run-ahead tickets (R123 to R127) and the counter window (R129). -/

namespace Sys2Proof.Machine

/-! ### Counters and the map -/

/-- A counter of which the Tally holds nothing yet. -/
def newCtr (id : Nat) : Ctr := ⟨id, 0, none, none, none, none, none, 0, none, false, 0, 0, [], [], 0, false, none, 0, 0, 0, false, 0, 0⟩

/-- What the Tally holds of a counter. -/
def State.ctr (s : State) (id : Nat) : Ctr := (s.tal.ctrs.find? (fun c => c.id = id)).getD (newCtr id)

/-- A counter's state replaced. -/
def State.putCtr (s : State) (c : Ctr) : State := s.setTal { s.tal with ctrs := c :: s.tal.ctrs.filter (fun x => x.id ≠ c.id) }

/-- MODE of a counter (R109). -/
def State.ctrMode (s : State) (id : Nat) : Nat := s.fld (F.MAP_A_MODE id)

/-- Counters of the map, ascending, whose word +0x0 satisfies `p`. -/
def State.mapWhere (s : State) (p : Nat → Bool) : List Nat :=
  (s.regs.filter (fun x => 0x400000 ≤ x.1 && x.1 ≤ 0x4FFFFF && x.1 % 8 = 0 && p x.2.toNat)).map (fun x => (x.1 - 0x400000) / 8)

/-- Word +0x0 marks the counter PRESENT. -/
def mapPresent (w : Nat) : Bool := bit w 21

/-- The bracket counters, in map order. -/
def State.bracketList (s : State) : List Nat := s.mapWhere (fun w => mapPresent w && bit w 20 && bits w 17 16 ≠ 2)

/-- The first counter from index `i` on that the pass under way reads: RATE = n is read in every 2ⁿ-th pass, RATE 3 never (R111). -/
def State.nextSwept (s : State) (i : Nat) : Option Nat :=
  let pass := s.fld F.TAL_SWEEP_PASSES
  (s.mapWhere (fun w => mapPresent w && bits w 17 16 ≠ 2 && bits w 19 18 ≠ 3 && pass % 2 ^ bits w 19 18 = 0)).find? (fun c => i ≤ c)

/-- The Tally reads: an image is loaded and the power state is RUN (R22, R467). -/
def State.tallyRuns (s : State) : Bool := s.collects

/-- A post-pass that is due starts when the pass before it has ended (R112). -/
def State.postStart (s : State) : State :=
  if s.tal.postDue && s.tal.post.isEmpty && s.tal.bracket.isEmpty then s.setTal { s.tal with post := s.bracketList, postDue := false } else s

/-- The next read is addressed: a bracket pass first, then a latch pass, then the sweep (R112, R324). -/
def State.askNext (s : State) : State :=
  if s.tal.asked.isSome || !s.tallyRuns then s
  else
    let s := s.postStart
    let t := s.tal
    match t.post, t.bracket, t.latchLeft with
    | c :: rest, _, _ => s.setTal { t with asked := some (1, c), post := rest }
    | [], c :: rest, _ => s.setTal { t with asked := some (1, c), bracket := rest }
    | [], [], c :: rest => s.setTal { t with asked := some (2, c), latchLeft := rest }
    | [], [], [] =>
      match t.sweepAt with
      | none => s
      | some i =>
        if s.act F.TAL_CTRL_SWEEP_EN = 0 then s
        else match s.nextSwept i with
          | some c => s.setTal { t with asked := some (0, c), sweepAt := some (c + 1) }
          | none =>
            -- the pass has ended
            let s := s.setTal { t with sweepAt := none }
            (s.set F.TAL_SWEEP_PASS_US (min 0xFFFF ((s.nowNs - t.passStart) / 1000))).wrapInc F.TAL_SWEEP_PASSES

/-- A post-pass still running at a seal that falls early, at the next boundary, is cut short there (R146). -/
def State.cutPost (s : State) : State :=
  if s.tim.closed.isSome then s.setTal { s.tal with post := [], postDue := false } else s

/-- SWEEP_PASS_START (R111). -/
def State.sweepStart (s : State) : State :=
  if s.tallyRuns && s.act F.TAL_CTRL_SWEEP_EN = 1 && s.tal.sweepAt.isNone then
    (s.setTal { s.tal with sweepAt := some 0, passStart := s.nowNs }).askNext
  else s

/-- How long before the boundary the pre-pass starts: n × d with d = 2 ÷ V, in ns, rounded up (R112). -/
def State.prepassNs (s : State) : Nat := (s.bracketList.length * 200000 + s.laneCap - 1) / s.laneCap

/-- BRACKET_PREPASS (R112). -/
def State.prepass (s : State) : State :=
  let s := s.reachNs (s.tim.nextNs - s.prepassNs)
  if s.tallyRuns && s.act F.TAL_CTRL_BRACKET_EN = 1 && !s.tal.preDone then
    (s.setTal { s.tal with bracket := s.tal.bracket ++ s.bracketList, preDone := true }).askNext
  else s

/-- The post-pass starts at the boundary, or when the pre-pass ends (R112). -/
def State.postpass (s : State) : State :=
  let s := s.setTal { s.tal with preDone := false }
  if s.tallyRuns && s.act F.TAL_CTRL_BRACKET_EN = 1 then (s.setTal { s.tal with postDue := true }).askNext else s

/-! ### Readings (R108, R114 to R116) -/

/-- STATUS bits (R106). -/
def stWrapped : Nat := 0
def stMulti : Nat := 1
def stNotCounting : Nat := 2
def stFault : Nat := 3

/-- What R114 makes of a reading: the advance of the extended value, and which crossing it counts. -/
structure Extend where
  add : Nat
  multi : Bool
  wrap : Bool
  back : Bool
deriving DecidableEq, Repr

/-- Extension of a value whose last low 48 bits were `low` (R114). -/
def extendBy (low value status : Nat) : Extend :=
  let crossed := value < low
  let d := (value + 2 ^ 48 - low) % 2 ^ 48
  if bit status stMulti then ⟨d + (2 - b2n crossed) * 2 ^ 48, true, false, false⟩
  else if bit status stWrapped then ⟨d + (1 - b2n crossed) * 2 ^ 48, false, true, false⟩
  else if crossed then ⟨value, false, false, true⟩
  else ⟨d, false, false, false⟩

/-- The boundary that waits for its seal, in 125 ps units. -/
def State.pendB (s : State) : Option Nat := s.tim.closed.map (fun c => 8 * c.closeNs)

/-- A flag collected by a counter for the epoch of a stamp. -/
def Ctr.flag (c : Ctr) (b : Option Nat) (t f : Nat) : Ctr :=
  match b with
  | some x => if t ≤ x then { c with flagsOld := c.flagsOld ||| f } else { c with flags := c.flags ||| f }
  | none => { c with flags := c.flags ||| f }

/-- An accepted reading is held: the last two, and those around a boundary that waits for its seal (spec/04, "Extension to 64 bits"). -/
def Ctr.hold (c : Ctr) (b : Option Nat) (r : Reading) : Ctr :=
  let c : Ctr := match b with
    | some x => if r.t ≤ x then { c with before2 := c.before1, before1 := some r }
      else { c with after := some (c.after.getD r) }
    | none => c
  { c with r2 := c.r1, r1 := some r }

/-- An accepted reading of a counter that is not a sampling one (R114, R115, R116, R120). Log entry 51 (DEDUCED). -/
def State.extendCtr (s : State) (c : Ctr) (t value status : Nat) : State :=
  let low := if c.newSeg then 0 else c.ext % 2 ^ 48
  let e := extendBy low value status
  let ext := (c.ext + e.add) % 2 ^ 64
  let b := s.pendB
  let seg := if c.newSeg then c.seg + 1 else c.seg
  let c := c.flag b t ((if e.multi then mfMulti else 0) ||| (if e.back then mfBackstep else 0))
  let c := c.hold b ⟨t, ext, seg⟩
  let c : Ctr := if c.vOpen.isNone then { c with vOpen := some ext, openLater := match b with
      | some x => x < t
      | none => false } else c
  let s := s.putCtr { c with ext := ext, seg := seg, newSeg := false, ts := some t, mmEpochs := 0, mmTold := false }
  let s := if e.multi then s.inc F.TAL_EXT_STAT_MULTI else s
  let s := if e.wrap then s.inc F.TAL_EXT_STAT_WRAPS else s
  if e.back then s.inc F.TAL_EXT_STAT_BACKSTEP else s

/-- A response is checked in the order of R108; the answer says whether the reading was accepted. Log entry 51 (DEDUCED). -/
def State.takeReading (s : State) (id t value gen status : Nat) : State × Bool :=
  let c : Ctr := { s.ctr id with status := status }
  let s := s.putCtr c
  if bit status stFault then (s.inc F.TAL_STN_STAT_FAULT, false)
  else if gen ≠ s.fld (F.MAP_A_GEN id) then
    let s := s.putCtr { c with flags := c.flags ||| mfMismatch }
    let s := ((s.inc F.TAL_GEN_STAT_MISMATCH).set F.TAL_GEN_LAST_STATION (id / 32)).set F.TAL_GEN_LAST_COUNTER (id % 32)
    (s, false)
  else
    let c : Ctr := { c with gen := gen }
    let (c, s) := if bit status stNotCounting then (c.flag s.pendB t mfNotCounting, s.inc F.TAL_STN_STAT_NOT_COUNTING) else (c, s)
    if s.ctrMode id = 1 then (s.putCtr { c with ext := value, ts := some t, mmEpochs := 0, mmTold := false }, true)
    else (s.extendCtr c t value status, true)

/-- TALLY_READ_RESPONSE: the response of the counter addressed (R108); a latch pass keeps its reading (R324). -/
def State.tallyRead (s : State) (t value gen status : Nat) : State :=
  let s := s.reach t
  match s.tal.asked with
  | none => s
  | some (kind, id) =>
    let s := (s.unstall 1 0).setTal { s.tal with asked := none }
    if !s.tallyRuns then s
    else
      let (s, ok) := s.takeReading id t value gen status
      let s := if kind = 2 then s.setTal { s.tal with latched := s.tal.latched ++ [((s.ctr id).ext, t, !ok)] } else s
      s.askNext

/-- GEN_STUCK (R118): mismatches have persisted for 4 epochs. -/
def State.genStuck (s : State) (id : Nat) : State :=
  let c := s.ctr id
  if 4 ≤ c.mmEpochs && !c.mmTold then
    let s := s.putCtr { c with mmTold := true }
    ((s.inc F.TAL_GEN_STAT_STUCK).log 0x10 0 id 0).alertIf F.TAL_CTRL_ALERT_EN 2
  else s

/-! ### Map writes (R109, R116, R117) -/

/-- A write of word +0x0 of a map entry takes effect: a change of EVENT ends the old event's increment and restarts at 0, a change of GEN
starts a segment. Log entry 51 (DEDUCED). -/
def State.mapApply (s : State) (id : Nat) (w : Word) : State :=
  let a := 0x400000 + 8 * id
  let ev0 := s.fld (F.MAP_A_EVENT id)
  let gen0 := s.fld (F.MAP_A_GEN id)
  let s := s.plainWrite a w
  let c := s.ctr id
  if s.fld (F.MAP_A_EVENT id) ≠ ev0 then
    let inc := match c.vOpen with
      | some v => c.ext - v
      | none => 0
    s.putCtr { c with splits := c.splits ++ [(ev0, inc)], flags := c.flags ||| mfSplit, ext := 0, vOpen := some 0, openLater := false,
                      r1 := none, r2 := none, newSeg := true }
  else if s.fld (F.MAP_A_GEN id) ≠ gen0 then s.putCtr { c with newSeg := true }
  else s

/-- A privileged write of a map entry: at once, or held until the seal of the epoch that waits for it (R109). -/
def State.mapWrite (s : State) (id : Nat) (w : Word) : State :=
  if s.tim.closed.isSome then s.setTal { s.tal with held := s.tal.held ++ [(id, w)] } else s.mapApply id w

/-! ### The value at the boundary (R119, R120) -/

/-- METHOD codes (R153). -/
def mExact : Nat := 0
def mInterp : Nat := 1
def mExtrap : Nat := 2
def mHeld : Nat := 3
def mStale : Nat := 4

/-- SKEW in units of 16 ns, from 125 ps units, saturating (R121). -/
def skew16 (x : Nat) : Nat := min 0xFFFF (x / 128)

/-- Method, V(B) before the floor of R120, and SKEW of a counter at the boundary `b` in 125 ps units. Log entry 14 (DESIGN CHOICE). -/
def Ctr.method (c : Ctr) (b staleUs extrapUs prev : Nat) : Nat × Nat × Nat :=
  match c.before1 with
  | none => (mStale, prev, 0xFFFF)
  | some a =>
    let age := b - a.t
    match c.after with
    | some f => (mInterp, a.v + (f.v - a.v) * (b - a.t) / (f.t - a.t), skew16 ((f.t - a.t) / 2))
    | none =>
      let held : Nat × Nat × Nat := if age ≤ 8000 * staleUs then (mHeld, a.v, skew16 age) else (mStale, prev, skew16 age)
      match c.before2 with
      | some p =>
        if p.seg = a.seg && extrapUs ≠ 0 && age ≤ 8000 * extrapUs then
          (mExtrap, if a.t = p.t then Config.extrapTie a.v age else a.v + (a.v - p.v) * age / (a.t - p.t), skew16 age)
        else held
      | none => held

/-- What the Tally passes to Scales for one counter: increment, method, SKEW, and the counter's state after the seal. -/
def State.boundaryValue (s : State) (id b : Nat) : Nat × Nat × Nat × Ctr :=
  let c := s.ctr id
  let rest : Ctr := { c with before1 := none, before2 := none, after := none, later := 0, openLater := false, flagsOld := 0, splitsOld := [],
                             samplesOld := 0 }
  match s.ctrMode id with
  | 1 => (c.samplesOld, mExact, 0, rest)
  | 2 =>
    let v := c.ext - c.later
    (v - c.vOpen.getD 0, mExact, 0, { rest with vOpen := some v })
  | _ =>
    match c.vOpen, c.openLater with
    | some prev, false =>
      let (m, v, k) := c.method b (s.fld F.TAL_LIMITS_STALE_US) (s.fld F.TAL_LIMITS_EXTRAP_MAX_US) prev
      let v := max v prev
      (v - prev, m, k, { rest with vOpen := some v })
    | _, _ => (0, mStale, 0xFFFF, rest)

/-- A counter holds an outstanding posted entry (R125). -/
def State.hasPost (s : State) (id : Nat) : Bool := s.tal.tickets.any (fun k => k.entries.any (fun e => e.ctr = id))

/-- An increment enters every metric of KIND 1 that names the event (R150). -/
def State.feedEvent (s : State) (event inc ts tag flags method skew : Nat) : State :=
  (s.metricsWhere true (fun d => d.kind = 1 && d.select = event)).foldl
    (fun s m => s.putVal true m (.fin (inc : Nat) 0) ts tag flags method skew) s

/-- Running figures of a seal: per-method counts, largest and summed SKEW, and counters. -/
structure SealAcc where
  counts : List Nat
  skewMax : Nat
  skewSum : Nat
  n : Nat
deriving DecidableEq, Repr

/-- One counter's values reach Scales at the seal (R121, R150). -/
def State.sealCtr (s : State) (cl : Closed) (p : State × SealAcc) (id : Nat) : State × SealAcc :=
  let (s', acc) := p
  let b := 8 * cl.closeNs
  let c := s.ctr id
  let (inc, m, k, c') := s.boundaryValue id b
  let event := s.fld (F.MAP_A_EVENT id)
  let flags := c.flagsOld ||| (if s.hasPost id then mfProv else 0) ||| (if m = mStale then mfStale else 0)
  let ts := tsNs cl.closeNs
  let st := id / 32
  let s' := c.splitsOld.foldl (fun s x => s.feedEvent x.1 x.2 ts st (flags ||| mfSplit) m k) s'
  let s' := if event = 0 then s' else s'.feedEvent event inc ts st flags m k
  let s' := s'.putCtr c'
  let s' := if s.ctrMode id = 2 && !cl.localEpoch then
      s'.setTal { s'.tal with history := ⟨id, cl.epoch, inc, 0, event⟩ :: s'.tal.history } else s'
  if s.ctrMode id = 1 then (s', acc)
  else (s', ⟨modNth acc.counts m (fun n => n + 1), max acc.skewMax k, acc.skewSum + k, acc.n + 1⟩)

/-- The Tally at a seal (R119 to R121, R133): every counter's increment goes to the closing bank, the figures are posted, and held map writes
take effect. -/
def State.talSeal (s : State) (cl : Closed) : TalFigures × State :=
  let (s, acc) := (s.mapWhere mapPresent).foldl (fun p id => p.1.sealCtr cl p id) (s, ⟨[0, 0, 0, 0, 0], 0, 0, 0⟩)
  let mean := if acc.n = 0 then 0 else acc.skewSum / acc.n
  let stale := acc.counts.getD 4 0
  let s := (List.range 4).foldl (fun s i => s.set (F.TAL_METHOD_COUNT i) (acc.counts.getD (i + 1) 0)) s
  let s := (s.set F.TAL_SKEW_MAX acc.skewMax).set F.TAL_SKEW_MEAN mean
  let s := if stale = 0 then s else s.inc F.TAL_STN_STAT_STALE_EPOCHS
  let s := s.set F.TAL_SAMPLE_STAT_ACCEPTED (min 0xFFFF s.tal.sampledOld)
  let t := s.tal
  let s := s.setTal { t with
    tickets := t.tickets.map (fun k => { k with entries := k.entries.map (fun (e : RaEntry) =>
      if e.isLater then { e with isLater := false } else { e with isSealed := true }) })
    -- only increments with an outstanding entry can still be corrected
    history := t.history.filter (fun h => t.tickets.any (fun k => k.entries.any (fun e => e.ctr = h.ctr && e.epoch = h.epoch)))
    sampledOld := 0 }
  (⟨stale, acc.skewMax, mean⟩, s)

/-- The words of the station map. -/
def State.mapWords (s : State) : List (Nat × Word) := s.regs.filter (fun x => decide (0x400000 ≤ x.1 ∧ x.1 ≤ 0x4FFFFF))

/-- The station map replaced. -/
def State.setMap (s : State) (m : List (Nat × Word)) : State :=
  { s with regs := m.foldl (fun r x => regWrite r x.1 x.2) (s.regs.filter (fun x => decide (x.1 < 0x400000 ∨ 0x4FFFFF < x.1))) }

/-- A station map of a switch takes effect at the boundary (R118, R406): counters whose EVENT or MODE changes, and new ones, start from 0 in a
segment of their own; until the seal the closed epoch keeps the old map and those counters as they stood. Log entry 51 (DEDUCED). -/
def State.mapSwitch (s : State) (m : List (Nat × Word)) : State :=
  let old := s.mapWords
  let key (w : Word) : Nat := let v := w.toNat; bits v 11 0 + 4096 * bits v 17 16 + 2 ^ 14 * b2n (mapPresent v)
  let ids := (m.filter (fun x => x.1 % 8 = 0)).map (fun x => (x.1 - 0x400000) / 8)
  let changed := ids.filter (fun i => key (regRead old (0x400000 + 8 * i)) ≠ key (regRead m (0x400000 + 8 * i)))
  let gone := (s.tal.ctrs.map (fun c => c.id)).filter (fun i => !ids.contains i)
  let touched (c : Ctr) : Bool := changed.contains c.id || gone.contains c.id
  let regen := s.tal.ctrs.map (fun (c : Ctr) =>
    if bits (regRead old (0x400000 + 8 * c.id)).toNat 15 12 ≠ bits (regRead m (0x400000 + 8 * c.id)).toNat 15 12 then { c with newSeg := true } else c)
  let fresh := changed.map (fun i => ({ newCtr i with vOpen := some 0, newSeg := true } : Ctr))
  (s.setMap m).setTal { s.tal with ctrs := fresh ++ regen.filter (fun c => !touched c), oldMap := some old, oldCtrs := s.tal.ctrs.filter touched }

/-- The Tally's seal under the map of the epoch that closed. Log entry 51 (DEDUCED). -/
def State.talSealOld (s : State) (cl : Closed) : TalFigures × State :=
  match s.tal.oldMap with
  | none => s.talSeal cl
  | some m =>
    let new := s.mapWords
    let has (c : Ctr) : Bool := s.tal.oldCtrs.any (fun o => o.id = c.id)
    let later := s.tal.ctrs.filter (fun c => has c || (regRead m (0x400000 + 8 * c.id) = 0))
    let ids := later.map (fun c => c.id)
    let gone := s.tal.oldCtrs.map (fun c => c.id)
    let s := (s.setMap m).setTal { s.tal with ctrs := s.tal.oldCtrs ++ s.tal.ctrs.filter (fun c => !ids.contains c.id) }
    let (fig, s) := s.talSeal cl
    (fig, (s.setMap new).setTal { s.tal with
      ctrs := later ++ s.tal.ctrs.filter (fun c => !ids.contains c.id && !gone.contains c.id), oldMap := none, oldCtrs := [] })

/-- Map writes held since the boundary take effect (R109). -/
def State.talHeld (s : State) : State :=
  let h := s.tal.held
  h.foldl (fun s x => s.mapApply x.1 x.2) (s.setTal { s.tal with held := [] })

/-- The Tally at a boundary: flags, splits and samples move to the closed epoch, the readings held are those at or before the boundary, and
tickets grow older. -/
def State.talBoundary (s : State) : State :=
  let t := s.tal
  let s := s.setTal { t with
    ctrs := t.ctrs.map (fun (c : Ctr) => { c with
      flagsOld := c.flags, flags := 0, splitsOld := c.splits, splits := [], before1 := c.r1, before2 := c.r2, after := none, later := 0,
      mmEpochs := if bit c.flags 2 then c.mmEpochs + 1 else 0, samplesOld := c.samples, samples := 0 })
    tickets := t.tickets.map (fun k => { k with age := k.age + 1 })
    sampledOld := t.sampled
    sampled := 0 }
  s.postpass

/-! ### Run-ahead tickets (R122 to R127) -/

/-- Entries across all tickets and outstanding tickets that the build holds (R110). -/
def raTickets : Build → Nat
  | .spoke => 1024
  | .hub => 4096
def raEntries : Build → Nat
  | .spoke => 4096
  | .hub => 16384

/-- Outstanding entries. -/
def TalSt.entryCount (t : TalSt) : Nat := (t.tickets.map (fun k => k.entries.length)).foldl (fun a b => a + b) 0

/-- TAL_RA_OPEN follows the tickets (R135). -/
def State.raCount (s : State) : State :=
  (s.set F.TAL_RA_OPEN_TICKETS s.tal.tickets.length).set F.TAL_RA_OPEN_ENTRIES s.tal.entryCount

/-- The event catalogue's entry of an event. -/
def State.evtInfo (s : State) (e : Nat) : Option EvtInfo := s.img.tabs.events.find? (fun x => x.num = e)

/-- RA_POST (R123): the refusals in the order of the table; an accepted delta counts from its stamp. Log entry 52 (DEDUCED). -/
def State.raPost (s : State) (t ticket id delta : Nat) : State :=
  let postOk := match s.evtInfo (s.fld (F.MAP_A_EVENT id)) with
    | some e => e.postOk
    | none => false
  if !(s.on (F.MAP_A_PRESENT id) && s.ctrMode id = 2 && postOk && s.act F.TAL_CTRL_RA_EN = 1) then s.inc F.TAL_RA_REFUSED_BADTARGET
  else
    let k := s.tal.tickets.find? (fun k => k.num = ticket)
    if k.isNone && raTickets s.build ≤ s.tal.tickets.length then s.inc F.TAL_RA_REFUSED_FULL
    else if (k.map (fun k => k.entries.length)).getD 0 ≥ 8 || raEntries s.build ≤ s.tal.entryCount then s.inc F.TAL_RA_REFUSED_ENTRIES
    else
      let isLater := match s.pendB with
        | some b => b ≤ t
        | none => false
      let epoch := match s.tim.closed with
        | some c => if t < 8 * c.closeNs then c.epoch else s.tim.epoch
        | none => s.tim.epoch
      let e : RaEntry := ⟨id, delta, epoch, false, isLater⟩
      let tickets := match k with
        | none => s.tal.tickets ++ [⟨ticket, [e], 0⟩]
        | some _ => s.tal.tickets.map (fun k => if k.num = ticket then { k with entries := k.entries ++ [e] } else k)
      let c := s.ctr id
      let c : Ctr := { c with ext := (c.ext + delta) % 2 ^ 64, later := if isLater then c.later + delta else c.later,
                              ts := some t, vOpen := some (c.vOpen.getD 0) }
      (((s.putCtr c).setTal { (s.putCtr c).tal with tickets := tickets }).inc F.TAL_RA_POSTED).raCount

/-- RA_COMMIT (R124). Log entry 52 (DEDUCED). -/
def State.raCommit (s : State) (ticket : Nat) : State :=
  if s.tal.tickets.any (fun k => k.num = ticket) then
    ((s.setTal { s.tal with tickets := s.tal.tickets.filter (fun k => k.num ≠ ticket) }).inc F.TAL_RA_COMMITTED).raCount
  else s.inc F.TAL_RA_REFUSED_UNKNOWN

/-- One cancelled entry (R124): in place before the seal of its epoch, and from the running value and the stored opening value after it. -/
def State.dropEntry (s : State) (e : RaEntry) : State :=
  let c := s.ctr e.ctr
  if e.isSealed then s.putCtr { c with ext := c.ext - e.delta, vOpen := c.vOpen.map (fun v => v - e.delta) }
  else s.putCtr { c with ext := c.ext - e.delta, later := if e.isLater then c.later - e.delta else c.later }

/-- The retraction records of a cancelled entry whose epoch has been sealed and forwarded: one for each metric that its counter feeds
(R126). The increment that stands from then on is the corrected one. Log entry 52 (DEDUCED). -/
def State.retractions (s : State) (ticket cause : Nat) (e : RaEntry) : List Bytes × State :=
  match s.tal.history.find? (fun h => h.ctr = e.ctr && h.epoch = e.epoch) with
  | none => ([], s)
  | some h =>
    let new := h.inc - e.delta
    let s := s.setTal { s.tal with history := s.tal.history.map (fun x => if x.ctr = e.ctr && x.epoch = e.epoch then { x with inc := new } else x) }
    (s.metricsWhere false (fun d => d.kind = 1 && d.select = h.event)).foldl (fun (p : List Bytes × State) m =>
      let r := p.2.mkRec 0x31 3 1 (s.metricDef false m).owner s.nowNs 0
        [(16, toLE 6 e.epoch), (22, toLE 2 m), (24, toLE 2 ticket), (26, toLE 1 cause), (28, toLE 4 (e.ctr / 32 + 4096 * (e.ctr % 32))), (32, toLE 8 h.inc), (40, toLE 8 new),
         (48, toLE 4 h.seq)]
      (p.1 ++ [r], p.2.inc F.TAL_RA_RETRACTED)) ([], s)

/-- A ticket's entries are removed, and the retraction records that this asks for (R124, R125). -/
def State.cancelTicket (s : State) (ticket cause : Nat) : List Bytes × State :=
  match s.tal.tickets.find? (fun k => k.num = ticket) with
  | none => ([], s)
  | some k =>
    let s := s.setTal { s.tal with tickets := s.tal.tickets.filter (fun k => k.num ≠ ticket) }
    let (rs, s) := k.entries.foldl (fun (p : List Bytes × State) e =>
      let s := p.2.dropEntry e
      if e.isSealed then
        let (rs, s) := s.retractions ticket cause e
        (p.1 ++ rs, s)
      else (p.1, s)) ([], s)
    (rs, s.raCount)

/-- TIMEOUT; 0 acts as 1 (R135). -/
def State.raTimeout (s : State) : Nat := max 1 (s.fld F.TAL_RA_CFG_TIMEOUT)

/-! ### The counter window (R129) -/

/-- The four words of a counter at an instant. -/
def State.ctrWords (s : State) (id : Nat) : List Word :=
  let c := s.ctr id
  let stale := s.ctrMode id ≠ 2 && (c.vOpen.isNone || (match c.ts with
    | some t => 8000 * s.fld F.TAL_LIMITS_STALE_US < s.stamp - t
    | none => true))
  let flags := (c.flags % 32) ||| (if s.hasPost id then mfProv else 0) ||| (if stale then mfStale else 0)
  words64 c.ext ++ [BitVec.ofNat 32 (match c.ts with
    | some t => tsNs (t / 8)
    | none => 0), BitVec.ofNat 32 (c.gen + 16 * c.status + 256 * flags)]

/-! ### Meanings -/

/-- SWEEP_PASS_START. -/
def execSweepPassStart (s : State) : Host.Outcome State Fault Refusal := done s.sweepStart

/-- BRACKET_PREPASS. -/
def execBracketPrepass (s : State) : Host.Outcome State Fault Refusal := done s.prepass

/-- TALLY_READ_RESPONSE. -/
def execTallyReadResponse (t : Nat) (value : BitVec 48) (gen status : BitVec 4) (s : State) : Host.Outcome State Fault Refusal :=
  done (s.tallyRead t value.toNat gen.toNat status.toNat)

/-- GEN_STUCK. -/
def execGenStuck (ctr : Nat) (s : State) : Host.Outcome State Fault Refusal := done (s.genStuck ctr)

/-- MAP_ENTRY_WRITE: a write of word +0x0 of entry `ctr`. -/
def execMapEntryWrite (a : Access) (ctr : Nat) (w : Word) (s : State) : Host.Outcome State Fault Refusal :=
  done (if ctr < 131072 then s.guardWrite a (0x400000 + 8 * ctr) (fun s => s.mapWrite ctr w) else s)

/-- COUNTER_WINDOW_CAPTURE: a read of VALUE_LO captures the four words (R129). -/
def execCounterWindowCapture (a : Access) (ctr : Nat) (s : State) : Host.Outcome State Fault Refusal :=
  done (if ctr < 131072 then s.guardRead a (0x200000 + 16 * ctr) (fun s =>
    let ws := s.ctrWords ctr
    (ws.headD 0, s.capture a (0x200000 + 16 * ctr) ws)) else s)

end Sys2Proof.Machine
end

