-- ==== Sys2Proof/Machine/Time.lean ====
section
/-! DEFINITION. Time: the counter and TB_REF (R68, R81), the servo (R75 to R79), time over XLP (R73, R342), masters and backups (R83,
R84), the Cadence schedule (R88 to R92, R483) and PULSE_OUT (R93, R94). What a boundary does elsewhere is composed in Epoch.lean. -/

namespace Sys2Proof.Machine

/-! ### The counter -/

/-- RATE in ppt (R98). -/
def State.rate (s : State) : Int := sext 29 (s.fld F.TIM_RATE_RATE_PPT)

/-- RATE written, clamped to ±200 ppm (R68). -/
def State.setRate (s : State) (r : Int) : State := (s.touch 3 0).set F.TIM_RATE_RATE_PPT (twos 29 (clampI (-200000000) 200000000 r))

/-- The slew that one edge applies of what TIM_ADJ still asks for: at most 200 ppm of a nanosecond. Log entry 46 (DEDUCED). -/
def slewStep (left : Int) : Int := clampI (-(2 ^ 48 / 5000)) (2 ^ 48 / 5000) left

/-- One TB_REF rising edge: the counter moves by 1 ns × (1 + RATE × 10⁻¹²), and by what it slews (R68, R78). Log entries 1 (DESIGN CHOICE), 46 (DEDUCED). -/
def State.tick (s : State) : State :=
  if !s.ports.powered || s.on F.TIM_STATUS_TBREF_LOST then s
  else
    let d := slewStep s.tim.slew
    let inc : Int := 2 ^ 48 + s.rate * 2 ^ 48 / 10 ^ 12 + d
    { s with tim := { s.tim with now := s.tim.now + BitVec.ofInt 112 inc, slew := s.tim.slew - d } }

/-- TB_REF is lost (R81): a level of region 1, and the counter stands still. -/
def State.tbrefLost (s : State) : State :=
  if s.on F.TIM_STATUS_TBREF_LOST then s else ((s.set F.TIM_STATUS_TBREF_LOST 1).log 0x0A 0 0 0).alert 1

/-! ### Servo states (R76) -/

def svFree : Nat := 0
def svAcquire : Nat := 1
def svLocked : Nat := 2
def svHoldover : Nat := 3

/-- The servo state. -/
def State.servo (s : State) : Nat := s.fld F.TIM_STATUS_SERVO

/-- How bad a servo state is for TIME_Q: LOCKED best, then HOLDOVER, ACQUIRE, FREE (R151). -/
def servoBadness : Nat → Nat
  | 2 => 0
  | 3 => 1
  | 1 => 2
  | _ => 3

/-- The worse of two servo states. -/
def worseServo (a b : Nat) : Nat := if servoBadness a < servoBadness b then b else a

/-- The servo enters a state; the worst state of the epoch follows it (R80). -/
def State.setServo (s : State) (v : Nat) : State :=
  let s := s.set F.TIM_STATUS_SERVO v
  { s with tim := { s.tim with worst := worseServo s.tim.worst v } }

/-- HOLDOVER: RATE is held at its last LOCKED average, a free value (R76). Log entry 12 (DESIGN CHOICE). -/
def State.enterHoldover (s : State) : State :=
  let (n, s) := s.fresh
  (s.setRate (Config.holdoverRate n s.rate)).setServo svHoldover

/-- JUMP_LIMIT in 2⁻¹⁶ ns; values below 50 ns act as 50 (R98). -/
def State.jumpLimit (s : State) : Int := (max 50 (s.fld F.TIM_JUMP_LIMIT_LIMIT_NS) : Nat) * 65536

/-- PERSIST; 0 acts as 1 (R98). -/
def State.persist (s : State) : Nat := max 1 (s.fld F.TIM_JUMP_LIMIT_PERSIST)

/-- A refused jump is counted and logged (R78); `magNs` is its magnitude in ns. Log entry 47 (DEDUCED). -/
def State.refuseJump (s : State) (magNs : Nat) (port detail : Nat) : State :=
  let us := min 0xFFFF (magNs / 1000)
  ((s.inc F.TIM_JUMP_REFUSED).set F.TIM_JUMP_LAST_US us).log 0x09 detail port us

/-! ### Corrected stamps (R74, R75), in 2⁻¹⁶ ns -/

/-- Fixed delay taken off each direction: half of EXT_DELAY when EXT_MODE = 1. Log entry 46 (DEDUCED). -/
def State.extHalf (s : State) (p : Nat) : Int :=
  if s.on (F.TIM_ASYM_EXT_VALID p) && s.on (F.TIM_ASYM_EXT_EXT_MODE p) then (s.fld (F.TIM_ASYM_EXT_EXT_DELAY p) : Int) * 4096 else 0

/-- An egress stamp in 125 ps units, corrected; a port without a valid entry takes no correction. -/
def State.egress (s : State) (p t : Nat) : Int :=
  (t : Int) * 8192 + (if s.on (F.TIM_ASYM_EXT_VALID p) then (s.fld (F.TIM_ASYM_LAT_TX_LAT p) : Int) * 8192 else 0) + s.extHalf p

/-- An ingress stamp in 125 ps units, corrected. -/
def State.ingress (s : State) (p t : Nat) : Int :=
  (t : Int) * 8192 - (if s.on (F.TIM_ASYM_EXT_VALID p) then (s.fld (F.TIM_ASYM_LAT_RX_LAT p) : Int) * 8192 else 0) - s.extHalf p

/-- The signed asymmetry of a port. -/
def State.asym (s : State) (p : Nat) : Int :=
  if s.on (F.TIM_ASYM_EXT_VALID p) then sext 20 (s.fld (F.TIM_ASYM p)) * 8192 else 0

/-- A port used for time without a valid entry shows in ASYM_MISSING (R74). -/
def State.useTimePort (s : State) (p : Nat) : State :=
  let s := if s.on (F.TIM_ASYM_EXT_VALID p) then s else s.set F.TIM_STATUS_ASYM_MISSING 1
  if s.tim.used.contains p then s else { s with tim := { s.tim with used := p :: s.tim.used } }

/-! ### IEEE 1588 messages in Time records (R73, R342); the message layout is the standard's (PRESUMED, log entry 21) -/

/-- Big-endian bytes of a signed 64-bit correctionField. -/
def corrBytes (c : Int) : Bytes := toBE 8 (twos 64 c)

/-- Ten bytes of a PTP timestamp: 48-bit seconds and 32-bit nanoseconds. Log entry 21 (PRESUMED). -/
def ptpTime (ns : Nat) : Bytes := toBE 6 (ns / 10 ^ 9) ++ toBE 4 (ns % 10 ^ 9)

/-- One message: type, sequenceId, correction in 2⁻¹⁶ ns, timestamp in ns, and what follows. Log entry 21 (PRESUMED). -/
def State.ptpMsg (s : State) (typ seq port : Nat) (corr : Int) (ns : Nat) (tail : Bytes) : Bytes :=
  let len := 44 + tail.length
  [BitVec.ofNat 8 typ, 0x12#8] ++ toBE 2 len ++ [BitVec.ofNat 8 (s.ident / 2 ^ 17), 0#8, 0x02#8, 0#8] ++ corrBytes corr
    ++ toBE 4 0 ++ toBE 8 s.ident ++ toBE 2 port ++ toBE 2 seq ++ [0#8, 0x7F#8] ++ ptpTime ns ++ tail

/-- A Time record: the message from offset 16, GM_RANK at 96, GM_SOURCE at 100 (R342). -/
def State.timeRec (s : State) (msg : Bytes) (rank source : Nat) : Bytes × State :=
  s.originate 0x10 1 2 0 s.nowNs [(16, msg), (96, toLE 1 rank), (100, toLE 4 source)]

/-- Fields of a message inside a Time record. Log entry 21 (PRESUMED). -/
def ptpType (r : Bytes) : Nat := le r 16 1 % 16
def ptpSeqId (r : Bytes) : Nat := be (slice r 46 2)
def ptpCorr (r : Bytes) : Int := sext 64 (be (slice r 24 8))
def ptpNs (r : Bytes) : Nat := be (slice r 50 6) * 10 ^ 9 + be (slice r 56 4)
def gmRankOf (r : Bytes) : Nat := le r 96 1 % 8
def gmSourceOf (r : Bytes) : Nat := le r 100 4 % 2 ^ 20

/-- The correction of a received message: its correctionField and the envelope's CORR (R342). -/
def rxCorr (x : Rx) : Int := ptpCorr x.bytes + x.corr.toInt

/-- The timestamp of a message with its correction, 2⁻¹⁶ ns. -/
def ptpStamp (x : Rx) : Int := (ptpNs x.bytes : Int) * 65536 + rxCorr x

/-- A two-step message's precise stamp laid into a queued follow-up record. Log entry 21 (PRESUMED). -/
def restamp (rec : Bytes) (st : Int) : Bytes :=
  closeRec (overlay (overlay rec 24 (corrBytes (st % 65536))) 50 (ptpTime (st / 65536).toNat))

/-- Ports on which the unit exchanges time: links that are UP and have a function. -/
def State.timePorts (s : State) : List Nat := s.upPorts.filter (fun p => s.fld (F.LNK_PORT_FUNC p) ≠ 0)

/-- Ports on which the unit sends its own time: every time port while acting grandmaster (R84), else the Chain and down-ports but
the one it follows, and the other ports that are no ranked upstream (R73, R83). -/
def State.timeDown (s : State) : List Nat :=
  if s.on F.TIM_STATUS_ACTING_GM then s.timePorts
  else s.timePorts.filter fun p =>
    let f := s.fld (F.LNK_PORT_FUNC p)
    if f = 1 || f = 2 then p ≠ s.fld F.TIM_STATUS_UP_PORT else !s.upstreams.contains p

/-- Rank and source of the time the unit sends: its own while acting, else those it follows (R342). -/
def State.sentRank (s : State) : Nat × Nat :=
  if s.on F.TIM_STATUS_ACTING_GM then (s.fld F.TIM_GM_RANK, s.ident) else (s.fld F.TIM_STATUS_GM_RANK, s.tim.gmSource)

/-- Sync and its Follow_Up queued on one port. -/
def State.sendSync (s : State) (p : Nat) : State :=
  let q := s.tim.ptpSeq
  let (rank, src) := s.sentRank
  let (r1, s) := s.timeRec (s.ptpMsg 0 q p 0 0 []) rank src
  let s := s.sendPeer p 1 r1
  let st := s.egress p s.stamp
  let (r2, s) := s.timeRec (s.ptpMsg 8 q p (st % 65536) (st / 65536).toNat []) rank src
  s.sendPeer p 1 r2

/-- A Sync interval (R73): Sync leaves downstream while LOCKED, in HOLDOVER or acting. -/
def State.syncInterval (s : State) : State :=
  let n := clampN 3 10 (s.fld F.TIM_SYNC_CFG_LOG_SYNC)
  let s := s.reachNs (s.tim.lastSyncTx + 1000 * 2 ^ n)
  let s := { s with tim := { s.tim with lastSyncTx := s.nowNs } }
  if s.injecting 7 && s.on F.TIM_STATUS_ACTING_GM then s
  else if s.servo = svLocked || s.servo = svHoldover || s.on F.TIM_STATUS_ACTING_GM then
    let s := s.timeDown.foldl (fun s p => s.sendSync p) s
    { s with tim := { s.tim with ptpSeq := (s.tim.ptpSeq + 1) % 2 ^ 16 } }
  else s

/-- A peer-delay interval: an exchange starts on every link that carries time (R73). Log entry 47 (DEDUCED). -/
def State.pdelayInterval (s : State) : State :=
  let s := s.reachNs (s.tim.lastPdTx + 1000 * 2 ^ clampN 6 14 (s.fld F.TIM_SYNC_CFG_LOG_PDELAY))
  let s := s.setTim { s.tim with lastPdTx := s.nowNs }
  let q := s.tim.pdSeq
  let s := s.timePorts.foldl (fun s p =>
    let s := s.useTimePort p
    let (r, s) := s.timeRec (s.ptpMsg 2 q p 0 0 (toBE 10 0)) 7 0
    let s := s.sendPeer p 1 r
    { s with tim := { s.tim with pdelay := ⟨p, q, s.egress p s.stamp, none, 0⟩ :: s.tim.pdelay.filter (fun x => x.port ≠ p) } }) s
  { s with tim := { s.tim with pdSeq := (q + 1) % 2 ^ 16 } }

/-- A Pdelay_Req is stamped and answered with both response messages (R73). -/
def State.pdelayReq (s : State) (x : Rx) : State :=
  let q := ptpSeqId x.bytes
  let peer := slice x.bytes 36 10
  let t2 := s.ingress x.port x.t
  let s := s.useTimePort x.port
  let (r1, s) := s.timeRec (s.ptpMsg 3 q x.port (t2 % 65536) (t2 / 65536).toNat peer) 7 0
  let s := s.sendPeer x.port 1 r1
  let t3 := s.egress x.port s.stamp
  let (r2, s) := s.timeRec (s.ptpMsg 10 q x.port (t3 % 65536) (t3 / 65536).toNat peer) 7 0
  s.sendPeer x.port 1 r2

/-- A Pdelay_Resp gives t2 and is stamped t4 (R75). -/
def State.pdelayResp (s : State) (x : Rx) : State :=
  let t4 := s.ingress x.port x.t
  { s with tim := { s.tim with pdelay := s.tim.pdelay.map (fun d =>
      if d.port = x.port && d.seq = ptpSeqId x.bytes then { d with t2 := some (ptpStamp x), t4 := t4 } else d) } }

/-- A Pdelay_Resp_Follow_Up gives t3 and completes the exchange: MEAN_DELAY = ((t4 − t1) − (t3 − t2)) ÷ 2 (R75). Log entry 47 (DEDUCED). -/
def State.pdelayFollow (s : State) (x : Rx) : State :=
  match s.tim.pdelay.find? (fun d => d.port = x.port && d.seq = ptpSeqId x.bytes) with
  | some ⟨_, _, t1, some t2, t4⟩ =>
    let m := ((t4 - t1) - (ptpStamp x - t2)) / 2
    let v := clampI 0 (2 ^ 24 - 1) (m / 8192)
    let s := s.set (F.TIM_ASYM_DELAY_MEAN_DELAY x.port) v.toNat
    { s with tim := { s.tim with measured := x.port :: s.tim.measured.filter (fun p => p ≠ x.port), pdelay := s.tim.pdelay.filter (fun d => !(d.port = x.port && d.seq = ptpSeqId x.bytes)) } }
  | _ => s

/-! ### Following (R83, R84) -/

/-- The upstream port to follow: the lowest rank heard, and among equals the port ranked higher (R83). -/
def State.bestPort (s : State) : Option Heard :=
  s.upstreams.foldl (fun best p =>
    match s.tim.heard.find? (fun h => h.port = p) with
    | none => best
    | some h => match best with
      | none => some h
      | some b => if h.rank < b.rank then some h else best) none

/-- The unit follows a port, or none. -/
def State.follow (s : State) : Option Heard → State
  | none => (s.set F.TIM_STATUS_UP_PORT 0x7F)
  | some h =>
    let s := ((s.set F.TIM_STATUS_UP_PORT h.port).set F.TIM_STATUS_GM_RANK h.rank).useTimePort h.port
    { s with tim := { s.tim with gmSource := h.source } }

/-- A Sync arrives (R83, R84): only on a ranked upstream port, and not while acting unless its rank is lower than the unit's own. An
accepted Sync waits for its Follow_Up; the first one starts ACQUIRE. -/
def State.syncRx (s : State) (x : Rx) : State :=
  if !s.upstreams.contains x.port then s
  else
    let rank := gmRankOf x.bytes
    let own := s.fld F.TIM_GM_RANK
    let s := { s with tim := { s.tim with everSync := true } }
    if s.on F.TIM_STATUS_ACTING_GM && !(rank < own) then s
    else
      let s := s.set F.TIM_STATUS_ACTING_GM 0
      let s := { s with tim := { s.tim with
        heard := ⟨x.port, s.nowNs, rank, gmSourceOf x.bytes⟩ :: s.tim.heard.filter (fun h => h.port ≠ x.port)
        gmQuiet := if rank < own then s.nowNs else s.tim.gmQuiet } }
      let b := s.bestPort
      let s := s.follow b
      if (b.map (fun h => h.port)) = some x.port then
        let s := if s.servo = svFree then { (s.setServo svAcquire) with tim := { (s.setServo svAcquire).tim with samples := [] } } else s
        { s with tim := { s.tim with syncRx :=
            (x.port, ptpSeqId x.bytes, s.ingress x.port x.t, rxCorr x) :: s.tim.syncRx.filter (fun y => y.1 ≠ x.port) } }
      else s

/-- The unit becomes acting grandmaster (R84): LOCKED on its own counter, RATE unchanged, no step. -/
def State.actGm (s : State) : State :=
  let s := (((s.set F.TIM_STATUS_ACTING_GM 1).set F.TIM_STATUS_GM_RANK (s.fld F.TIM_GM_RANK)).set F.TIM_STATUS_UP_PORT 0x7F).setServo svLocked
  { s with tim := { s.tim with samples := [], syncRx := [] } }

/-- GM_LOSS_US without Sync of lower rank (R84): a backup that is LOCKED or in HOLDOVER, or the master that has heard no Sync at all since
power-up, becomes acting grandmaster. -/
def State.gmLoss (s : State) : State :=
  let rank := s.fld F.TIM_GM_RANK
  let s := s.reachNs (s.tim.gmQuiet + 1000 * s.fld F.TIM_SYNC_CFG_GM_LOSS_US)
  if s.on F.TIM_STATUS_ACTING_GM then s
  else if rank = 0 then (if s.tim.everSync then s else s.actGm)
  else if rank < 7 && (s.servo = svLocked || s.servo = svHoldover) then s.actGm
  else s

/-- Nanoseconds without Sync after which a port is lost (R83). -/
def State.lossNs (s : State) : Nat :=
  max 1 (s.fld F.TIM_SYNC_CFG_LOSS_COUNT) * 1000 * 2 ^ clampN 3 10 (s.fld F.TIM_SYNC_CFG_LOG_SYNC)

/-- The port in use has had no Sync for LOSS_COUNT intervals (R83): the unit moves to the next port that delivers Sync; with none left
it goes from ACQUIRE to FREE or from LOCKED to HOLDOVER (R76). -/
def State.syncLoss (s : State) : State :=
  match s.tim.heard.find? (fun h => h.port = s.fld F.TIM_STATUS_UP_PORT) with
  | none => s
  | some h =>
    let s := s.reachNs (h.at_ + s.lossNs)
    let live := s.tim.heard.filter (fun x => x.port ≠ h.port && s.nowNs < x.at_ + s.lossNs)
    let s := { s with tim := { s.tim with heard := live, syncRx := s.tim.syncRx.filter (fun y => y.1 ≠ h.port) } }
    let b := s.bestPort
    let s := s.follow b
    match b with
    | some _ => s
    | none =>
      if s.on F.TIM_STATUS_ACTING_GM then s
      else if s.servo = svAcquire then
        let s := (s.setServo svFree).setRate 0
        { s with tim := { s.tim with samples := [] } }
      else if s.servo = svLocked then s.enterHoldover
      else s

/-! ### Offset samples (R75 to R79) -/

/-- What an offset sample does to the servo in LOCKED or HOLDOVER (R78, R79). -/
def State.sampleHeld (s : State) (port : Nat) (off : Int) : State :=
  if s.jumpLimit < off.natAbs then
    let s := s.refuseJump (off.natAbs / 65536) port 0
    let s := { s with tim := { s.tim with refusedRun := s.tim.refusedRun + 1 } }
    if s.tim.refusedRun = s.persist then
      let s := (s.set F.TIM_STATUS_JUMP_PERSIST 1).alertIf F.TIM_CTRL_ALERT_EN 1
      if s.servo = svLocked then s.enterHoldover else s
    else s
  else
    let (n, s) := s.fresh
    let s := s.setRate (Config.servoRate n s.rate off (s.fld F.TIM_SYNC_CFG_TAU))
    let s := s.set F.TIM_OFFSET (twos 32 (off / 8192))
    ({ s with tim := { s.tim with refusedRun := 0 } }).setServo svLocked

/-- The sixteenth ACQUIRE sample: RATE from the slope, one step of the counter by the negated mean offset, LOCKED (R76, R77). Log entry 12 (DESIGN CHOICE). -/
def State.lockStep (s : State) : State :=
  let sum : Int := (s.tim.samples.map (fun p => p.2)).foldl (fun a b => a + b) 0
  let detail := if s.fld F.TIM_STEPS = 0 then 0 else 1
  let s := s.setRate (Config.acquireRate s.tim.samples)
  let s := { s with tim := { s.tim with now := s.tim.now - BitVec.ofInt 112 (sum * 2 ^ 28), samples := [], refusedRun := 0 } }
  let s := (s.inc F.TIM_STEPS).setServo svLocked
  s.log 0x08 detail 0 (min 0xFFFF (sum.natAbs / 16 / 65536 / 1000))

/-- A Follow_Up completes an offset sample: offset = tr − ts − (mean_delay + asym) − correction (R75); a port whose delay has not been
measured yet gives none. The answer says whether the counter was stepped. Log entries 12 (DESIGN CHOICE), 46 (DEDUCED), 47 (DEDUCED). -/
def State.followUp (s : State) (x : Rx) : State × Bool :=
  match s.tim.syncRx.find? (fun y => y.1 = x.port && y.2.1 = ptpSeqId x.bytes) with
  | none => (s, false)
  | some (p, _, tr, corr) =>
    let mean : Int := (s.fld (F.TIM_ASYM_DELAY_MEAN_DELAY p) : Int) * 8192
    let off := tr - (ptpNs x.bytes : Int) * 65536 - (mean + s.asym p) - (corr + rxCorr x)
    let s := { s with tim := { s.tim with syncRx := s.tim.syncRx.filter (fun y => y.1 ≠ p) } }
    if s.on F.TIM_STATUS_ACTING_GM || !s.tim.measured.contains p then (s, false)
    else if s.servo = svAcquire then
      let s := s.set F.TIM_OFFSET (twos 32 (off / 8192))
      let s := { s with tim := { s.tim with samples := s.tim.samples ++ [(s.nowNs, off)] } }
      if 16 ≤ s.tim.samples.length then (s.lockStep, true) else (s, false)
    else if s.servo = svLocked || s.servo = svHoldover then (s.sampleHeld p off, false)
    else (s, false)

/-- A relock returns the servo to FREE (R82): in TEST or RECOVERY alone, and not at an acting grandmaster. Log entry 48 (DEDUCED). -/
def State.relock (s : State) : State :=
  if (s.svc = svcTest || s.svc = svcRecovery) && !s.on F.TIM_STATUS_ACTING_GM then
    let s := ((s.setServo svFree).setRate 0).set F.TIM_STATUS_UP_PORT 0x7F
    { s with tim := { s.tim with samples := [], refusedRun := 0, syncRx := [], heard := [] } }
  else s

/-- The master resumes as grandmaster (R84, R97). -/
def State.gmResume (s : State) : State := if s.fld F.TIM_GM_RANK = 0 then s.actGm else s

/-- TIM_ADJ (R78): a slew at the acting grandmaster when within JUMP_LIMIT, else a refused jump. Log entry 46 (DEDUCED). -/
def State.adjust (s : State) (w : Word) : State :=
  let ns := w.toInt
  if s.on F.TIM_STATUS_ACTING_GM && ns.natAbs * 65536 ≤ s.jumpLimit then
    { s with tim := { s.tim with slew := s.tim.slew + ns * 2 ^ 48 } }
  else s.refuseJump ns.natAbs 0x7F 1

/-! ### The Cadence schedule -/

/-- The unit is the Cadence source (R97). -/
def State.cadenceSource (s : State) : Bool := s.on F.TIM_CTRL_CADENCE_SRC

/-- A write of PERIOD_US (R90). -/
def State.periodWrite (s : State) (w : Word) : State :=
  let us := F.TIM_EPOCH_PERIOD_PERIOD_US.get w
  if !s.cadenceSource then s
  else if 100 ≤ us && us ≤ 1000000 then
    let s := s.set F.TIM_EPOCH_PERIOD_PERIOD_US us
    { s with tim := { s.tim with periodSoon := some (2, 1000 * us) } }
  else s.set F.TIM_STATUS_PERIOD_BAD 1

/-- A write of TIM_SEAL_LAG: the field reads the value that acts; it takes effect at the next boundary (R484). -/
def State.lagWrite (s : State) (w : Word) : State :=
  s.set F.TIM_SEAL_LAG_LAG_US (clampN 5 500 (F.TIM_SEAL_LAG_LAG_US.get w))

/-- The period of the epoch that the next boundary opens (R90). -/
def TimSt.nextPeriod (t : TimSt) : Nat :=
  match t.periodSoon with
  | some (1, p) => p
  | _ => t.period

/-- A Cadence announcement (R88, R342): epoch, its opening, the boundary after it, the period then in force, and the revision. Log entry 49 (DEDUCED). -/
def State.announce (s : State) (epoch opn nxt period revision : Nat) : State :=
  let (r, s) := s.originate 0x11 1 1 0 s.nowNs
    [(16, toLE 6 epoch), (24, toLE 8 opn), (32, toLE 8 nxt), (40, toLE 4 (period / 1000)), (44, toLE 1 revision)]
  s.sendEach s.timeDown 1 r

/-- A SYNC_IN edge at the stamp `t` under SYNC_MODE (R97, R91): stamped in modes 1 to 3, and in mode 2 compared at the Cadence source with
the nearest scheduled boundary; an accepted edge reschedules the boundary after it. A revised announcement leaves at once when that is the
next boundary; otherwise the one made at the boundary between names it. Log entry 49 (DEDUCED). -/
def State.syncIn (s : State) (t : Nat) : State :=
  let mode := s.fld F.TIM_CTRL_SYNC_MODE
  if mode = 0 then s
  else
    let ns := t / 8
    let s := s.setPair F.TIM_SYNC_LAST_LO F.TIM_SYNC_LAST_HI ns
    if mode = 2 && s.cadenceSource then
      let dOpen : Int := (t : Int) - 8 * s.tim.openNs
      let dNext : Int := (t : Int) - 8 * s.tim.nextNs
      let useNext := dNext.natAbs < dOpen.natAbs
      let c8 := if useNext then dNext else dOpen
      if s.tim.period < c8.natAbs then s.inc F.TIM_SYNC_STAT_OUTSIDE
      else if (if useNext then s.tim.usedNext else s.tim.usedOpen) then s.inc F.TIM_SYNC_STAT_EXTRA
      else
        let c := c8 / 8
        let b := if useNext then s.tim.nextNs else s.tim.openNs
        let p := if useNext then s.tim.nextPeriod else s.tim.period
        let moved := ((b : Int) + p + c).toNat
        let s := { s with tim :=
          if useNext then { s.tim with usedNext := true, pulled := some moved }
          else { s.tim with usedOpen := true, nextNs := moved } }
        let s := s.inc F.TIM_SYNC_STAT_ACCEPTED
        if useNext then s else s.announce s.tim.epoch b moved p 1
    else s

/-- What a received announcement asks for beyond the schedule: nothing, or a boundary at once (R92). -/
structure AnnFx where
  st : State
  close : Bool

/-- A Cadence announcement arrives (R88, R89, R92): taken on the port the unit follows, or on any ranked upstream port while it follows
none; a unit that is LOCKED and has not adopted adopts, unless the boundary it names has passed. Log entry 49 (DEDUCED). -/
def State.announcement (s : State) (x : Rx) : AnnFx :=
  let up := s.fld F.TIM_STATUS_UP_PORT
  let takes := if up = 0x7F then s.upstreams.contains x.port else x.port = up
  if !takes || s.cadenceSource then ⟨s, false⟩
  else
    let e := le x.bytes 16 6
    let nxt := le x.bytes 32 8
    let per := le x.bytes 40 4
    let rev := le x.bytes 44 1
    let s := s.sendEach (s.timeDown.filter (fun p => p ≠ x.port)) 1 x.bytes
    let late (s : State) : State :=
      let s := (s.set F.TIM_STATUS_CADENCE_LATE 1).inc F.TIM_SYNC_STAT_LATE_ANN
      s.log 0x0B 0 x.port ((s.nowNs - nxt) / 1000)
    let setPeriod (s : State) : State := s.set F.TIM_EPOCH_PERIOD_PERIOD_US per
    if !s.on F.TIM_STATUS_CADENCE_ADOPTED then
      if s.servo = svLocked && s.nowNs < nxt then
        let s := setPeriod (s.set F.TIM_STATUS_CADENCE_ADOPTED 1)
        ⟨{ s with tim := { s.tim with nextNs := nxt, adopt := some (e + 1), period := 1000 * per, pulled := none } }, false⟩
      else ⟨s, false⟩
    else
      let s := setPeriod s
      let cur := match s.tim.adopt with
        | some n => n - 1
        | none => s.tim.epoch
      let p := 1000 * per
      if e = cur then
        if nxt ≤ s.nowNs then
          -- the unit's own boundary still lies ahead: the epoch closes at once
          let s := late s
          ⟨{ s with tim := { s.tim with nextNs := s.nowNs, pulled := some (nxt + p), period := p } }, true⟩
        else ⟨{ s with tim := { s.tim with nextNs := nxt, period := p, pulled := none } }, false⟩
      else if e = cur + 1 then ⟨{ s with tim := { s.tim with pulled := some nxt } }, false⟩
      else if e < cur then
        -- the unit has used its own boundary: it keeps it and takes the schedule from the following one
        if nxt ≤ s.nowNs && (if e + 1 = cur then nxt ≠ s.tim.openNs else rev ≠ 0) then
          let s := late s
          ⟨{ s with tim := { s.tim with nextNs := max (nxt + (cur - e) * p) s.nowNs, period := p, epochLate := true } }, false⟩
        else ⟨s, false⟩
      else if s.nowNs < s.tim.nextNs && s.tim.nextNs < nxt then ⟨s, false⟩
      else
        let k := if nxt ≤ s.nowNs then (s.nowNs - nxt) / max 1 p + 1 else 0
        ⟨{ s with tim := { s.tim with nextNs := nxt + k * p, adopt := some (e + 1 + k), period := p, pulled := none } }, false⟩

/-! ### PULSE_OUT (R93, R94) -/

/-- Channel `k`. -/
def State.pulse (s : State) (k : Nat) : Pulse := s.tim.pulses.getD k idlePulse

/-- Channel `k` changed. -/
def State.setPulse (s : State) (k : Nat) (p : Pulse) : State := { s with tim := { s.tim with pulses := modNth s.tim.pulses k (fun _ => p) } }

/-- The level of the pin while a pulse is out, by POLARITY (R104). -/
def State.pulseLevel (s : State) (k : Nat) (out : Bool) : Bool := if s.on (F.TIM_PULSE_CTRL_POLARITY k) then !out else out

/-- The channel latches its words and starts (R93, R94): the first edge at least 200 ns away, else LATE. -/
def State.startPulse (s : State) (k : Nat) : State :=
  let start := s.pair (F.TIM_PULSE_START_LO k) (F.TIM_PULSE_START_HI k)
  let per := s.fld (F.TIM_PULSE_PERIOD k)
  let wid := s.fld (F.TIM_PULSE_WIDTH k)
  let cnt := s.fld (F.TIM_PULSE_COUNT k)
  let em := s.on (F.TIM_PULSE_CTRL_EPOCH_MODE k)
  let soonest := s.nowNs + 200
  let s := s.set (F.TIM_PULSE_CTRL_DONE k) 0
  let p : Pulse := ⟨true, start, per, wid, cnt, em, none, 0, none, s.pulseLevel k false, false, false⟩
  if em then s.setPulse k p
  else if soonest ≤ start then s.setPulse k { p with next := some start }
  else if per = 0 then ((s.set (F.TIM_PULSE_CTRL_LATE k) 1).set (F.TIM_PULSE_CTRL_ARM k) 0).setPulse k { p with armed := false }
  else
    let n := (soonest - start + per - 1) / per
    (s.set (F.TIM_PULSE_CTRL_LATE k) 1).setPulse k { p with next := some (start + n * per) }

/-- ARM is written to 1 (R93). Log entry 35 (DESIGN CHOICE). -/
def State.pulseArm (s : State) (k : Nat) : State :=
  let per := s.fld (F.TIM_PULSE_PERIOD k)
  let wid := s.fld (F.TIM_PULSE_WIDTH k)
  if wid < 2 || (per ≠ 0 && (per < 8 || per - 1 ≤ wid)) then
    (s.set (F.TIM_PULSE_CTRL_BADCFG k) 1).set (F.TIM_PULSE_CTRL_ARM k) 0
  else
    let p := s.pulse k
    if p.trailing.isSome then s.setPulse k { p with rearm := true, stopping := true, next := none } else s.startPulse k

/-- ARM is written to 0: the channel stops after the trailing edge of the pulse in progress (R93). Log entry 35 (DESIGN CHOICE). -/
def State.pulseDisarm (s : State) (k : Nat) : State :=
  let p := s.pulse k
  if p.trailing.isSome then s.setPulse k { p with stopping := true, rearm := false, next := none }
  else s.setPulse k { p with armed := false, next := none }

/-- A leading edge at time `at_` (R94). -/
def State.pulseFire (s : State) (k at_ : Nat) : State :=
  let p := s.pulse k
  let fired := p.fired + 1
  let isLast := (p.count ≠ 0 && p.count ≤ fired) || (!p.epochMode && p.period = 0)
  let s := if p.count ≠ 0 && p.count ≤ fired || (!p.epochMode && p.period = 0 && p.count ≤ 1) then s.set (F.TIM_PULSE_CTRL_DONE k) 1 else s
  s.setPulse k { p with
    fired := fired
    pin := s.pulseLevel k true
    trailing := some (at_ + p.width)
    next := if isLast || p.epochMode then none else some (at_ + p.period)
    armed := !isLast }

/-- The programmed time of a leading edge arrives; TB_REF lost, no pulse fires (R81). Log entry 50 (DEDUCED). -/
def State.pulseEdge (s : State) (k : Nat) : State :=
  match (s.pulse k).next with
  | some t => if s.on F.TIM_STATUS_TBREF_LOST then s else (s.reachNs t).pulseFire k t
  | none => s

/-- The trailing edge is driven; a stop or a new schedule that waited for it follows (R93). Log entry 50 (DEDUCED). -/
def State.pulseTrail (s : State) (k : Nat) : State :=
  let p := s.pulse k
  match p.trailing with
  | none => s
  | some t =>
    let s := s.reachNs t
    let s := s.setPulse k { p with trailing := none, pin := s.pulseLevel k false, armed := p.armed && !p.stopping, stopping := false, rearm := false }
    if p.rearm then s.startPulse k else s

/-- Channels in EPOCH_MODE fire at a boundary (R94). Log entry 50 (DEDUCED). -/
def State.pulsesAtBoundary (s : State) (at_ : Nat) : State :=
  (List.range 8).foldl (fun s k =>
    let p := s.pulse k
    if p.armed && p.epochMode && p.trailing.isNone then s.pulseFire k at_ else s) s

/-- A step forward from `old` to `new` passes over edges: they are not fired and the channel is LATE (R82). Log entry 50 (DEDUCED). -/
def State.pulsesStepped (s : State) (new : Nat) : State :=
  (List.range 8).foldl (fun s k =>
    let p := s.pulse k
    match p.next with
    | some t =>
      if t ≤ new then
        let s := s.set (F.TIM_PULSE_CTRL_LATE k) 1
        if p.period = 0 then s.setPulse k { p with next := none, armed := false }
        else s.setPulse k { p with next := some (t + ((new - t) / p.period + 1) * p.period) }
      else s
    | none => s) s

/-! ### Meanings of the time rows that touch nothing else -/

/-- TBREF_LOST. -/
def execTbrefLost (s : State) : Host.Outcome State Fault Refusal := done s.tbrefLost

/-- TBREF_RETURN: the counter resumes from its frozen value (R81). -/
def execTbrefReturn (s : State) : Host.Outcome State Fault Refusal := done (s.set F.TIM_STATUS_TBREF_LOST 0)

/-- SYNC_INTERVAL. -/
def execSyncInterval (s : State) : Host.Outcome State Fault Refusal := done s.syncInterval

/-- PDELAY_INTERVAL. -/
def execPdelayInterval (s : State) : Host.Outcome State Fault Refusal := done s.pdelayInterval

/-- SYNC. -/
def execSync (r : Rx) (s : State) : Host.Outcome State Fault Refusal := done (((s.reach r.t).consume r).syncRx r)

/-- PDELAY_REQ. -/
def execPdelayReq (r : Rx) (s : State) : Host.Outcome State Fault Refusal := done (((s.reach r.t).consume r).pdelayReq r)

/-- PDELAY_RESP. -/
def execPdelayResp (r : Rx) (s : State) : Host.Outcome State Fault Refusal := done (((s.reach r.t).consume r).pdelayResp r)

/-- PDELAY_RESP_FOLLOW_UP. -/
def execPdelayRespFollowUp (r : Rx) (s : State) : Host.Outcome State Fault Refusal := done (((s.reach r.t).consume r).pdelayFollow r)

/-- SYNC_PORT_LOSS. -/
def execSyncPortLoss (s : State) : Host.Outcome State Fault Refusal := done s.syncLoss

/-- GM_LOSS. -/
def execGmLoss (s : State) : Host.Outcome State Fault Refusal := done s.gmLoss

/-- RELOCK: a write of TIM_CTRL with RELOCK = 1. -/
def execRelock (a : Access) (w : Word) (s : State) : Host.Outcome State Fault Refusal :=
  done (s.guardWrite a 0x010010 (fun s => (s.plainWrite 0x010010 w).relock))

/-- GM_RESUME: a write of TIM_CTRL with GM_RESUME = 1. -/
def execGmResume (a : Access) (w : Word) (s : State) : Host.Outcome State Fault Refusal :=
  done (s.guardWrite a 0x010010 (fun s => (s.plainWrite 0x010010 w).gmResume))

/-- TIM_ADJ. -/
def execTimAdj (a : Access) (w : Word) (s : State) : Host.Outcome State Fault Refusal :=
  done (s.guardWrite a 0x010034 (fun s => s.adjust w))

/-- PERIOD_WRITE. -/
def execPeriodWrite (a : Access) (w : Word) (s : State) : Host.Outcome State Fault Refusal :=
  done (s.guardWrite a 0x010040 (fun s => s.periodWrite w))

/-- SEAL_LAG_WRITE. -/
def execSealLagWrite (a : Access) (w : Word) (s : State) : Host.Outcome State Fault Refusal :=
  done (s.guardWrite a 0x01005C (fun s => s.lagWrite w))

/-- PULSE_ARM: a write of the CTRL word of channel `k` with ARM = 1. -/
def execPulseArm (a : Access) (k : Nat) (w : Word) (s : State) : Host.Outcome State Fault Refusal :=
  done (if k < 8 then s.guardWrite a (0x012014 + 32 * k) (fun s => (s.plainWrite (0x012014 + 32 * k) (w ||| 1#32)).pulseArm k) else s)

/-- PULSE_DISARM: a write of the CTRL word of channel `k` with ARM = 0. -/
def execPulseDisarm (a : Access) (k : Nat) (w : Word) (s : State) : Host.Outcome State Fault Refusal :=
  done (if k < 8 then s.guardWrite a (0x012014 + 32 * k) (fun s => (s.plainWrite (0x012014 + 32 * k) (w &&& ~~~(1#32))).pulseDisarm k) else s)

/-- PULSE_EDGE. -/
def execPulseEdge (k : Nat) (s : State) : Host.Outcome State Fault Refusal := done (s.pulseEdge k)

/-- PULSE_TRAILING_EDGE. -/
def execPulseTrailingEdge (k : Nat) (s : State) : Host.Outcome State Fault Refusal := done (s.pulseTrail k)

end Sys2Proof.Machine
end

