-- ==== Sys2Proof/Machine/Reduction.lean ====
section
/-! DEFINITION. In-fabric reduction: the child table (R178), children's summaries (R162 to R167), late bundles (R169, R170), contributor
maps (R171), retractions (R172, R173), retention (R174 to R176), Derailleur commits (R177), the straggler search (R179 to R184), ranked lists
and reference records (R185, R186), and federation (R187). -/

namespace Sys2Proof.Machine

/-! ### The node -/

/-- LEVEL of the node (R161). -/
def State.level (s : State) : Nat := s.fld F.RED_NODE_LEVEL

/-- The node merges: a merge point with MERGE_EN in force (R189). Log entry 54 (DEDUCED). -/
def State.merging (s : State) : Bool := s.level ≠ 0 && s.act F.RED_CTRL_MERGE_EN = 1

/-- The domain root, the federation reference, or a merge point without an upward port: its result is published. Log entry 54 (DEDUCED). -/
def State.isRoot (s : State) : Bool := s.level ≠ 0 && (4 ≤ s.level || s.uplinks = [])

/-- Child table entries of the build (R188). -/
def childCount : Build → Nat
  | .spoke => 16
  | .hub => 128

/-- Entries of the child table in use: TYPE is not unused and some Spoke is expected. Log entry 54 (DEDUCED). -/
def State.children (s : State) : List Child :=
  (List.range (childCount s.build)).filterMap fun c =>
    let i := s.red.tbl + c
    if s.fld (F.CHILD_A_TYPE i) = 3 || s.fld (F.CHILD_C_EXPECTED i) = 0 then none
    else some ⟨i, s.fld (F.CHILD_A_PORT_A i), s.fld (F.CHILD_A_PORT_B i), s.fld (F.CHILD_A_TYPE i), s.on (F.CHILD_A_EXCLUDED i),
      s.fld (F.CHILD_B_CHILD_ID i), s.fld (F.CHILD_C_EXPECTED i), s.fld (F.CHILD_C_SLOT_BASE i)⟩

/-- A child key: SOURCE, or NODE_ID + 2²⁰ of a merge node (R166). -/
def recKey (b : Bytes) : Nat := recSource b + 2 ^ 20 * b2n (recNode b)

/-- The key of the sender that a link-management record names in PEER_ID (R351, R383). -/
def peerKey (b : Bytes) : Nat := le b 20 4 % 2 ^ 20 + 2 ^ 20 * b2n (recNode b)

/-- The key that an entry's identity gives. -/
def Child.key (c : Child) : Nat := c.id + 2 ^ 20 * b2n (c.typ = 2)

/-- The entry that a key on a port belongs to: the entry of that identity, or the Chain on that port. -/
def childFor (kids : List Child) (key port : Nat) : Option Child :=
  match kids.find? (fun c => c.key = key) with
  | some c => some c
  | none => kids.find? (fun c => c.typ = 0 && key < 2 ^ 20 && (c.portA = port || c.portB = port))

/-- The entry that a late bundle passed on by a child belongs to: its maker's, or the one on whose port it came (R169). -/
def bundleChild (kids : List Child) (key port : Nat) : Option Child :=
  match childFor kids key port with
  | some c => some c
  | none => kids.find? (fun c => c.portA = port || c.portB = port)

/-- The merge of an epoch. -/
def State.mergeFor (s : State) (epoch : Nat) : Option MergeSt := s.red.merges.find? (fun m => m.epoch = epoch)

/-- A merge changed. -/
def State.modMerge (s : State) (epoch : Nat) (f : MergeSt → MergeSt) : State :=
  s.setRed { s.red with merges := s.red.merges.map (fun (m : MergeSt) => if m.epoch = epoch then f m else m) }

/-- The child table for an epoch (R177). Log entry 54 (DEDUCED). -/
def State.kidsAt (s : State) (epoch : Nat) : List Child :=
  match s.mergeFor epoch with
  | some m => m.kids
  | none => s.children

/-- The merge of an epoch has started. -/
def State.mergeStarted (s : State) (epoch : Nat) : Bool :=
  match s.mergeFor epoch with
  | some m => m.started
  | none => s.red.merges.any (fun m => epoch < m.epoch && m.started)

/-- LATE_WINDOW (R190). -/
def State.lateWindow (s : State) : Nat := s.fld F.RED_WAIT_LATE_WINDOW

/-- A child is ABSENT: its every port is down, or it has answered or said so (R167, R383, R386). Log entry 57 (DEDUCED). -/
def State.kidAbsent (s : State) (epoch : Nat) (c : Child) : Bool :=
  let up (p : Nat) : Bool := p < s.build.ports && (s.lstate p = lsUp || s.lstate p = lsRelay)
  (!up c.portA && !(c.portB ≠ 0x7F && up c.portB)) || s.red.absentKeys.any (fun k => k.1 = c.key)
    || s.red.absentEpochs.contains (c.key, epoch)

/-! ### Upward (R174 to R176) -/

/-- The first usable upward port of a ranked list. -/
def State.firstUp (s : State) (ups : List Nat) : Option Nat := ups.find? (fun p => s.lstate p = lsUp)

/-- Every retained record is resent, oldest first (R175); an injected link fault has reached its recovery point (R458). Log entry 58 (DEDUCED). -/
def State.pathChange (s : State) : State :=
  let s := s.recovered 2
  (s.red.retained.foldl (fun (a : State × Option Bytes) (x : Retained) => match a.1.upNow with
    | some p =>
      let recs := if x.recs.head? = a.2 then x.recs.tail else x.recs
      ((recs.foldl (fun s b => s.sendPeer p 3 b) a.1).inc F.RED_RETAIN_STAT_REPLAYED, x.recs.getLast?)
    | none => a) (s, none)).1

/-- The upward port in use is followed: when it has failed and another ranked port is usable, what is held moves there (R176). -/
def State.upCheck (s : State) : State :=
  match s.upNow with
  | none => s
  | some p =>
    let was := s.red.uplinkUsed
    let s := s.setRed { s.red with uplinkUsed := some p }
    match was with
    | some q => if q = p then s else (s.inc F.RED_UPLINK_STAT_FAILOVERS).pathChange
    | none => s.pathChange

/-- Records sent upward in class 3. -/
def State.sendUp3 (s : State) (ups : List Nat) (recs : List Bytes) : State :=
  match s.firstUp ups with
  | some p => recs.foldl (fun s b => s.sendPeer p 3 b) s
  | none => s

/-- Epochs held are at most RETAIN; the oldest go (R174). -/
def State.trimRetained : Nat → State → State
  | 0, s => s
  | fuel + 1, s =>
    let es := s.red.retained.map (fun x => x.epoch)
    let distinct := es.foldl (fun (acc : List Nat) e => if acc.contains e then acc else acc ++ [e]) []
    if distinct.length ≤ max 1 (s.fld F.RED_WAIT_RETAIN) then s
    else
      let oldest := distinct.foldl min (distinct.headD 0)
      let gone := (s.red.retained.filter (fun x => x.epoch = oldest)).length
      State.trimRetained fuel ((s.setRed { s.red with retained := s.red.retained.filter (fun x => x.epoch ≠ oldest) }).add F.RED_RETAIN_STAT_DROPPED gone)

/-- EPOCH_ACK to children: key, port and head SEQ (R174, R351). Log entry 58 (DEDUCED). -/
def State.ackKids (s : State) (epoch : Nat) (kids : List (Nat × Nat × Nat)) : State :=
  kids.foldl (fun (s : State) (k : Nat × Nat × Nat) =>
    let (r, s) := s.linkMgmt 7 [(24, toLE 6 epoch), (32, toLE 4 k.2.2)]
    s.send k.2.1 2 (if k.1 < 2 ^ 20 then 1 else 2) (k.1 % 2 ^ 20) r) s

/-- Records that this node originates or passes on as a summary or bundle leave: they are kept until acknowledged, or at the root
acknowledged to its children at once. Log entry 58 (DEDUCED). -/
def State.retainUp (s : State) (epoch seq pgen : Nat) (send keep : List Bytes) (kids : List (Nat × Nat × Nat)) (ups : List Nat) : State :=
  let s := s.sendUp3 ups send
  let s := if s.isRoot then s.ackKids epoch kids else s
  if ups.isEmpty then s
  else
    let s := if (s.firstUp ups).isNone then s.inc F.RED_UPLINK_STAT_NO_ROUTE else s.setRed { s.red with uplinkUsed := s.upNow }
    let kept : Retained := ⟨epoch, seq, keep, if s.isRoot then [] else kids, pgen⟩
    State.trimRetained 16 (s.setRed { s.red with retained := s.red.retained ++ [kept] })

/-- An EPOCH_ACK frees what it names; the children contained are acknowledged in turn (R174). Log entry 58 (DEDUCED). -/
def State.epochAck (s : State) (b : Bytes) : State :=
  let e := le b 24 6
  let q := le b 32 4
  match s.red.retained.find? (fun x => x.epoch = e && x.seq = q) with
  | none => s
  | some x => (s.setRed { s.red with retained := eraseFirst (fun (y : Retained) => y.epoch = e && y.seq = q) s.red.retained }).ackKids e x.kids

/-! ### The search's parameters (R179) -/

/-- Metrics with STRAG = 1, in the catalogue of the epoch being sealed. -/
def State.searched (s : State) : List Nat :=
  (List.range 1024).filter (fun m => let d := s.catWord true m 0; bits d.toNat 2 0 ≠ 0 && bit (s.catWord true m 2).toNat 0)

/-- Parameters of a searched metric. -/
structure StragPar where
  side : Nat
  ref : Bool
  thresh : Nat
  window : Nat
  need : Nat
  drift : Nat
  topk : Nat
  a : Nat
  h : Nat
deriving DecidableEq, Repr

/-- Words +0x8 and +0xC of a metric. -/
def State.stragPar (s : State) (m : Nat) : StragPar :=
  let c := (s.catWord true m 2).toNat
  let d := (s.catWord true m 3).toNat
  ⟨bits c 2 1, bit c 3, bits c 15 4, max 1 (bits c 19 16), bits c 23 20, bits c 25 24, bits c 31 27, bits d 15 0, bits d 31 16⟩

/-! ### Source values (R180) -/

/-- A source-value record's bytes from 32 on, closed with BODY_CHK: the flits it takes. -/
def entryFlits (n size : Nat) : Nat := (36 + n * size + 63) / 64

/-- The unit's own source values of a sealed bank. -/
def State.ownValues (s : State) (bank : List Sect) : List (Nat × Nat × Int) :=
  s.searched.map fun m =>
    let x := sectOf bank m 0
    let fl := b2n (1 ≤ x.count) + 2 * b2n (bit x.flags 7)
    (m, fl, if x.count = 0 then 0 else x.sum / (x.count : Int))

/-- The source-value record. -/
def State.sourceValues (s : State) (epoch headSeq : Nat) (vals : List (Nat × Nat × Int)) : Bytes × State :=
  s.originate 0x25 3 (entryFlits vals.length 12) 0 s.nowNs
    [(16, toLE 6 epoch), (22, toLE 2 vals.length), (24, toLE 4 headSeq),
     (32, vals.flatMap (fun v => toLE 2 v.1 ++ toLE 2 v.2.1 ++ toLE 8 (twos 64 v.2.2)))]

/-- Entries of a received source-value record. -/
def readValues (b : Bytes) : List (Nat × Nat × Int) :=
  (List.range (le b 22 2)).map (fun i => (le b (32 + 12 * i) 2 % 1024, le b (34 + 12 * i) 2, sext 64 (le b (36 + 12 * i) 8)))

/-! ### Median and MAD (R181) -/

/-- The lower median of pairs sorted by key. -/
def lowerMedian (target : Nat) : Nat → List (Int × Nat) → Int
  | _, [] => 0
  | run, (k, c) :: rest => if target ≤ run + c then k else lowerMedian target (run + c) rest

/-- Insertion into pairs sorted by an integer key. -/
def insertI (x : Int × Nat) : List (Int × Nat) → List (Int × Nat)
  | [] => [x]
  | y :: ys => if y.1 ≤ x.1 then y :: insertI x ys else x :: y :: ys

/-- m and MAD of a histogram, when it holds a value. -/
def medianMad (hist : List (Nat × Nat)) : Option (Int × Int) :=
  let hs := hist.filter (fun p => p.2 ≠ 0)
  let n : Nat := (hs.map (fun (p : Nat × Nat) => p.2)).foldl (fun (a b : Nat) => a + b) 0
  if n = 0 then none
  else
    let t := (n + 1) / 2
    let m := lowerMedian t 0 (hs.map (fun p => (codeValue p.1, p.2)))
    let devs : List (Int × Nat) := hs.foldl (fun (acc : List (Int × Nat)) (p : Nat × Nat) => insertI (((codeValue p.1 - m).natAbs : Int), p.2) acc) []
    some (m, max (max (lowerMedian t 0 devs) (m / 128)) 1)

/-- The reference of an epoch and metric as it was fixed. -/
def State.fixedRef (s : State) (epoch m : Nat) : Option (Int × Int) :=
  (s.red.fixed.find? (fun f => f.1 = epoch && f.2.1 = m)).map (fun f => f.2.2)

/-- A reference is fixed for an epoch. -/
def State.fixRef (s : State) (epoch m : Nat) (r : Int × Int) : State :=
  s.setRed { s.red with fixed := ((epoch, m, r.1, r.2) :: s.red.fixed).take 1024 }

/-- At the seal, metrics with REF = 1 take the root's figures of the epoch before; without them the node falls back (R181). -/
def State.sealRefs (s : State) (epoch : Nat) : State :=
  if s.level < 2 || s.act F.RED_CTRL_STRAG_EN = 0 then s
  else
    let ms := s.searched.filter (fun m => (s.stragPar m).ref)
    let got (m : Nat) : Option (Nat × Nat × Int × Int) := s.red.refs.find? (fun r => r.1 + 1 = epoch && r.2.1 = m)
    let s1 := if ms.any (fun m => (got m).isNone) then s.inc F.RED_STRAG_STAT_REF_FALLBACK else s
    ms.foldl (fun (s : State) m => match got m with
      | some r => s.fixRef epoch m (r.2.2.1, r.2.2.2)
      | none => s) s1

/-! ### Scoring a source (R182 to R184) -/

/-- Z of a value against m and MAD. -/
def zOf (x m mad : Int) : Int := clampI (-32767) 32767 (2560000 * (x - m) / (14826 * mad))

/-- The test of R182. -/
def flagged (p : StragPar) (x m mad : Int) : Bool :=
  let d : Int := match p.side with
    | 0 => x - m
    | 1 => m - x
    | _ => ((x - m).natAbs : Int)
  decide ((p.thresh : Int) * 14826 * mad ≤ 160000 * d)

/-- Ones among the low `n` bits. -/
def onesIn : Nat → Nat → Nat
  | 0, _ => 0
  | n + 1, v => v % 2 + onesIn n (v / 2)

/-- A source's record in the search; a new source starts from 0. -/
def State.stat (s : State) (src m : Nat) : SrcStat :=
  (s.red.stats.find? (fun x => x.src = src && x.metric = m)).getD ⟨src, m, 0, 0, 0, 0, false⟩

/-- A source's record replaced. -/
def State.putStat (s : State) (x : SrcStat) : State :=
  s.setRed { s.red with stats := x :: s.red.stats.filter (fun (y : SrcStat) => !(y.src = x.src && y.metric = x.metric)) }

/-- A source's history has changed: it is a straggler while NEED ones stand in it, and a new one is counted and raises an alarm (R182). -/
def State.judgeStrag (s : State) (p : StragPar) (epoch ns : Nat) (x : SrcStat) (z : Int) : State :=
  let now := decide (p.need ≤ onesIn p.window x.hits)
  let s := s.putStat { x with strag := now }
  if now && !x.strag then
    let s := s.inc F.RED_STRAG_STAT_FLAGGED
    if s.act F.RED_CTRL_CRIER_EN = 1 then
      s.ownAlarm ns 0 true (alarmBody epoch 1 7 (x.src + 2 ^ 20 * x.metric) 0 0 (rn32 z (-8)) (rn32 p.thresh (-4)) 0)
    else s
  else s

/-- CAUSE bits (R186). -/
def caStrag : Nat := 1
def caDrift : Nat := 2
def caLate : Nat := 4
def caAbsent : Nat := 8
def caFlag : Nat := 16

/-- An epoch in which the source is not PRESENT (R182, R184). -/
def State.quiet (s : State) (p : StragPar) (epoch ns : Nat) (x : SrcStat) : State :=
  let n := x.absentFor + 1
  let x : SrcStat := { x with
    hits := (2 * x.hits) % 2 ^ p.window, absentFor := n, s := if p.window ≤ n then 0 else x.s, m := if p.window ≤ n then 0 else x.m }
  s.judgeStrag p epoch ns x 0

/-- A source takes an epoch: its flag, its drift state and its list entry. Log entry 56 (DEDUCED). -/
def State.scoreSource (s : State) (p : StragPar) (epoch ns src m : Nat) (ref : Option (Int × Int)) (v : Option (Nat × Int)) : Option Rank × State :=
  let x := s.stat src m
  match v, ref with
  | some (fl, xv), some (med, mad) =>
    if bit fl 0 then
      let z := zOf xv med mad
      let f := flagged p xv med mad
      let o := driftUpdate p.drift p.side p.a p.h x.s x.m z
      let x : SrcStat := { x with hits := (2 * x.hits + b2n f) % 2 ^ p.window, s := o.s, m := o.m, absentFor := 0 }
      let s := s.judgeStrag p epoch ns x z
      let st := (s.stat src m).strag
      (some ⟨src, m, z, clampI (-32767) 32767 o.shown, onesIn p.window x.hits + 16 * p.window,
        (if st then caStrag else 0) + (if o.drifting then caDrift else 0) + (if f then caFlag else 0), lb12 xv⟩, s)
    else (none, s.quiet p epoch ns x)
  | _, _ => (none, s.quiet p epoch ns x)

/-! ### Ranked lists (R185, R186) -/

/-- The ranking key as one number, lowest first. -/
def Rank.order (r : Rank) : Nat :=
  let cls := if bit r.cause 0 then 0 else if bit r.cause 2 then 1 else if bit r.cause 1 then 2 else 3
  ((cls * 2 ^ 16 + (32767 - r.z.natAbs)) * 2 ^ 20 + r.src) * 2 ^ 10 + r.metric

/-- Lists merged: one entry per SOURCE and METRIC, the first-ranking one, cut to TOPK per metric. -/
def mergeRanks (topk : Nat → Nat) (rs : List Rank) : List Rank :=
  let uniq := (sortBy Rank.order rs).foldl (fun (acc : List Rank) r =>
    if acc.any (fun x => x.src = r.src && x.metric = r.metric) then acc else acc ++ [r]) []
  uniq.foldl (fun (acc : List Rank) r => if (acc.filter (fun x => x.metric = r.metric)).length < topk r.metric then acc ++ [r] else acc) []

/-- An entry's 16 bytes. -/
def Rank.bytes (r : Rank) : Bytes :=
  toLE 4 (r.src % 2 ^ 20 + 2 ^ 20 * r.metric) ++ toLE 2 (twos 16 r.z) ++ toLE 2 (twos 16 r.drift) ++ toLE 1 r.hits ++ toLE 1 r.cause
    ++ toLE 2 (r.xcode % 4096) ++ toLE 4 0

/-- Entries of a received straggler record. -/
def readRanks (b : Bytes) : List Rank :=
  (List.range (le b 22 2)).map fun i =>
    let o := 32 + 16 * i
    let w := le b o 4
    ⟨w % 2 ^ 20, w / 2 ^ 20 % 1024, sext 16 (le b (o + 4) 2), sext 16 (le b (o + 6) 2), le b (o + 8) 1, le b (o + 9) 1, le b (o + 10) 2 % 4096⟩

/-- TOPK of a metric, 0 to 16. -/
def State.topk (s : State) (m : Nat) : Nat := min 16 (s.stragPar m).topk

/-- The root's list in its window at 0x54_0000. -/
def State.showRanks (s : State) (rs : List Rank) : State :=
  (List.range 255).foldl (fun (s : State) i =>
    let b : Bytes := match rs[i]? with
      | some r => r.bytes
      | none => []
    (List.range 4).foldl (fun (s : State) j => s.setWord (0x540000 + 16 * i + 4 * j) (BitVec.ofNat 32 (le b (4 * j) 4))) s) s

/-- The straggler record. -/
def State.stragRecord (s : State) (epoch headSeq : Nat) (rs : List Rank) : Bytes × State :=
  s.originate 0x24 3 (entryFlits rs.length 16) 0 s.nowNs
    [(16, toLE 6 epoch), (22, toLE 2 rs.length), (24, toLE 4 headSeq), (32, rs.flatMap Rank.bytes)]

/-- The histogram of a metric in a set of sections. -/
def histOf (xs : List Sect) (m : Nat) : List (Nat × Nat) := (sectOf xs m 0).hist

/-- The search of a tray node over the Spokes whose source values are contained (R181 to R185). Log entry 56 (DEDUCED). -/
def State.search (s : State) (m : MergeSt) (tray : List Sect) : List Rank × State :=
  let vals := s.red.vals.filter (fun v => v.epoch = m.epoch && !v.late)
  let ms := s.searched
  let late := (m.kids.filter (fun c => c.typ = 0 && (m.missing.contains c.idx || m.absent.contains c.idx))).flatMap (fun c => match ms with
    | [] => []
    | x :: _ => [(⟨c.id, x, 0, 0, 16 * (s.stragPar x).window, caLate + (if m.absent.contains c.idx then caAbsent else 0), 0⟩ : Rank)])
  let (rs, s) := ms.foldl (fun (p : List Rank × State) k =>
    let par := p.2.stragPar k
    let ref := match p.2.fixedRef m.epoch k with
      | some r => some r
      | none => medianMad (histOf tray k)
    let s := match ref with
      | some r => p.2.fixRef m.epoch k r
      | none => p.2
    let known := (s.red.stats.filter (fun x => x.metric = k)).map (fun x => x.src)
    let srcs := sortBy (fun (x : Nat) => x) (known ++ (vals.map (fun v => v.src)).filter (fun x => !known.contains x))
    srcs.foldl (fun (p : List Rank × State) src =>
      let v := ((vals.filter (fun x => x.src = src)).flatMap (fun x => x.entries)).find? (fun e => e.1 = k)
      let (r, s) := p.2.scoreSource par m.epoch m.sealNs src k ref (v.map (fun e => e.2))
      (p.1 ++ r.toList, s)) (p.1, s)) ([], s)
  (mergeRanks s.topk (rs ++ late), s)

/-- A late Spoke is scored against what was fixed for its epoch; its bit is set at that epoch's place while the place lies in the window
(R183). Log entry 55 (DEDUCED). -/
def State.scoreLate (s : State) (epoch src : Nat) (entries : List (Nat × Nat × Int)) : State :=
  let last := (s.red.merges.filter (fun x => x.sent)).foldl (fun (a : Nat) x => max a x.epoch) 0
  let (any, s) := s.searched.foldl (fun (p : Bool × State) k =>
    match entries.find? (fun e => e.1 = k), p.2.fixedRef epoch k with
    | some e, some (med, mad) =>
      if !bit e.2.1 0 then p
      else
        let par := p.2.stragPar k
        let x := p.2.stat src k
        let pos := last - epoch
        let x : SrcStat := if flagged par e.2.2 med mad && pos < par.window then { x with hits := x.hits ||| 2 ^ pos } else x
        (true, p.2.judgeStrag par epoch p.2.nowNs x (zOf e.2.2 med mad))
    | _, _ => p) (false, s)
  if any then s.inc F.RED_STRAG_STAT_LATE_SCORED else s

/-- The reference record of the root, and the entries it holds. -/
def State.refRecord (s : State) (epoch headSeq : Nat) (secs : List Sect) : List (Nat × Int × Int) × Bytes × State :=
  let es : List (Nat × Int × Int) := s.searched.filterMap (fun m => (medianMad (histOf secs m)).map (fun r => (m, r.1, r.2)))
  let (r, s) := s.originate 0x26 3 (entryFlits es.length 24) 0 s.nowNs
    [(16, toLE 6 epoch), (22, toLE 2 es.length), (32, es.flatMap (fun e => toLE 2 e.1 ++ toLE 6 0 ++ toLE 8 (twos 64 e.2.1) ++ toLE 8 (twos 64 e.2.2)))]
  let _ := headSeq
  (es, r, s)

/-- Reference figures kept at a tray node; the last sixteen epochs stay. -/
def State.keepRefs (s : State) (epoch : Nat) (es : List (Nat × Int × Int)) : State :=
  s.setRed { s.red with refs := es.map (fun e => (epoch, e)) ++ s.red.refs.filter (fun r => r.1 ≠ epoch && epoch < r.1 + 16) }

/-- A reference record travels down to the children that are nodes (R186). -/
def State.refDown (s : State) (b : Bytes) : State :=
  (s.children.filter (fun c => c.typ = 2)).foldl (fun s c => s.sendPeer (if s.lstate c.portA = lsUp then c.portA else c.portB) 3 b) s

/-! ### Merging (R162 to R167) -/

/-- The summary's SVC: RECOVERY before TEST before SERVICE (R162). -/
def worseSvc (a b : Nat) : Nat :=
  if a = svcRecovery || b = svcRecovery then svcRecovery else if a = svcTest || b = svcTest then svcTest else svcService

/-- TIME_Q of a merge: the worst servo state, other bits ORed. -/
def mergeTimeQ (a b : Nat) : Nat := worseServo (a % 8) (b % 8) + 8 * (a / 8 ||| b / 8)

/-- A child's head merged into the head; `counts` says that its EXPECTED is counted here. -/
def mergeHead (h c : HeadInfo) (counts misaligned : Bool) : HeadInfo :=
  { h with
    svc := worseSvc h.svc c.svc
    timeQ := mergeTimeQ h.timeQ c.timeQ ||| (if misaligned then 8 else 0)
    sflags := h.sflags ||| c.sflags
    contrib := h.contrib + c.contrib
    expected := h.expected + (if counts then c.expected else 0)
    stale := h.stale + c.stale
    skewMax := max h.skewMax c.skewMax
    skewMean := max h.skewMean c.skewMean }

/-- Times that differ by more than the tolerance (R165). -/
def apart (a b tol : Nat) : Bool := a + tol < b || b + tol < a

/-- A child's summary merged into a head and its sections. -/
def State.mergeChild (s : State) (h : HeadInfo) (secs : List Sect) (x : Summary) (counts : Bool) : HeadInfo × List Sect × State :=
  let c := readHead x.head
  let tol := s.fld F.RED_ALIGN_TOL_NS
  let mis := apart c.openNs h.openNs tol || apart c.closeNs h.closeNs tol
  let s := if mis then s.inc F.RED_MERGE_STAT_MISALIGNED else s
  let (secs, s) := s.mergeSects h.openNs secs x.sects
  (mergeHead h c counts mis, secs, s)

/-- The own part of a head; `n` Spoke summaries of its own. -/
def MergeSt.head (m : MergeSt) (n : Nat) : HeadInfo :=
  ⟨m.epoch, m.openNs, m.closeNs, m.svc, m.timeQ, m.sflags, m.pgen, n, n, m.catId, m.fig.stale, m.fig.skewMax, m.fig.skewMean⟩

/-- On-time summaries of an epoch, checked, of children that are not EXCLUDED, by key. -/
def State.contained (s : State) (m : MergeSt) : List Arrival :=
  sortBy (fun a => a.key) (s.red.arrivals.filter (fun a => a.epoch = m.epoch && a.checked && !a.late
    && !(m.kids.any (fun c => c.idx = a.child && c.excl))))

/-- The merge of an epoch: head, sections, and the sections of the tray alone, on which a tray node searches. -/
def State.mergeAll (s : State) (m : MergeSt) (own : List Sect) : HeadInfo × List Sect × List Sect × State :=
  let node (a : Arrival) : Bool := m.kids.any (fun c => c.idx = a.child && c.typ = 2)
  let xs := s.contained m
  let step (p : HeadInfo × List Sect × State) (a : Arrival) : HeadInfo × List Sect × State := p.2.2.mergeChild p.1 p.2.1 a.sum (!a.bundled)
  let (h, tray, s) := (xs.filter (fun a => !node a)).foldl step (m.head (if s.hub then 0 else 1), own, s)
  let (h, secs, s) := (xs.filter node).foldl step (h, tray, s)
  (h, secs, tray, s)

/-! ### Retractions on a result (R173) -/

/-- Where a code's count stands: in its own entry, or at the edge on its side. -/
def whereCode (d : MetricDef) (h : List (Nat × Nat)) (c : Nat) : Nat :=
  if h.any (fun p => p.1 = c && p.2 ≠ 0) then c else edgeCode d c

/-- One count taken from a code. -/
def subCode (c : Nat) (h : List (Nat × Nat)) : List (Nat × Nat) :=
  (h.map (fun (p : Nat × Nat) => if p.1 = c then (p.1, p.2 - 1) else p)).filter (fun p => p.2 ≠ 0)

/-- A retraction record applied to sections. -/
def State.applyRetraction (s : State) (secs : List Sect) (b : Bytes) : List Sect :=
  let m := le b 22 2 % 1024
  let d := s.metricDef true m
  match (toFixed (.fin (le b 32 8) 0) d.frac).1, (toFixed (.fin (le b 40 8) 0) d.frac).1 with
  | some qo, some qn => secs.map (fun (x : Sect) =>
      if x.metric = m && x.stall = recStall b then
        { x with
          sum := x.sum + (qn - qo)
          sumsq := x.sumsq + qn.natAbs * qn.natAbs - qo.natAbs * qo.natAbs
          hist := if d.hist then (clampHist d (addCode (lb12 qn) 1 (subCode (whereCode d x.hist (lb12 qo)) x.hist))).1 else x.hist }
      else x)
  | _, _ => secs

/-! ### The own sections and the summary leave -/

/-- The own sections of an epoch are taken from the closing bank: the sealed sums, the per-epoch detectors and the bank kept for late CHILD
rows follow (R160, R217, R236). -/
def State.takeOwn (s : State) (m : MergeSt) : List Sect × State :=
  match m.own with
  | some x => (x, s)
  | none =>
    let b := s.scl.closing
    let s := s.setScl { s.scl with sums := b }
    let s := s.setInf { s.inf with past := ((m.epoch, b) :: s.inf.past).take (s.lateWindow + 2) }
    let s := s.setRed { s.red with ownWaits := false }
    let s := s.modMerge m.epoch (fun (m : MergeSt) => { m with own := some b })
    (b, s.detEpoch m.epoch b)

/-- A head has its SEQ: increments of the epoch that a later cancel may correct name it (R126). -/
def State.noteHead (s : State) (epoch seq : Nat) : State :=
  s.setTal { s.tal with history := s.tal.history.map (fun (h : Forwarded) => if h.epoch = epoch && h.seq = 0 then { h with seq := seq } else h) }

/-- A summary is formed and its head enters the round (R151, R424). -/
def State.leaveSummary (s : State) (h : HeadInfo) (secs : List Sect) : Summary × State :=
  let (x, s) := s.formSummary h secs
  (x, s.headLeaves x.head)

/-- The round of this seal ends: the records to send and the records to keep (R423, R174). Log entry 54 (DEDUCED). -/
def State.closeRound (s : State) (epoch : Nat) (recs : List Bytes) : List Bytes × List Bytes × State :=
  let round := s.sec.round
  let (sl, s) := s.sealRound epoch
  (recs ++ [sl], round ++ [sl], s)

/-- A unit that does not merge: its own summary leaves with its source values and its seal record. Log entry 54 (DEDUCED). -/
def State.ownLeave (s : State) (epoch : Nat) : State :=
  match s.mergeFor epoch with
  | none => s
  | some m =>
    if m.sent then s
    else
      let (own, s) := s.takeOwn m
      let (x, s) := s.leaveSummary (m.head 1) own
      let seq := recSeq x.head
      let s := s.noteHead epoch seq
      let vals := if s.hub then [] else s.ownValues own
      let (recs, s) := if vals.isEmpty then (x.head :: x.parts, s)
        else
          let (r, s) := s.sourceValues epoch seq vals
          (x.head :: x.parts ++ [r], s)
      let (ds, s) := s.ownDigests epoch
      let (send, keep, s) := s.closeRound epoch (recs ++ ds)
      let s := s.modMerge epoch (fun (m : MergeSt) => { m with started := true, complete := true, sent := true })
      s.retainUp epoch seq m.pgen send keep [] m.ups

/-- The contributor record (R171). -/
def State.contributor (s : State) (epoch headSeq : Nat) (slots : List Nat) : Bytes × State :=
  let map := (slots.filter (fun k => k < 320)).foldl (fun (a : Nat) k => a ||| 2 ^ k) 0
  s.originate 0x22 3 2 0 s.nowNs [(16, toLE 6 epoch), (24, toLE 4 (s.fld F.RED_NODE_NODE_ID)), (28, toLE 4 headSeq), (32, toLE 40 map)]

/-- The root publishes a summary of an epoch again, with a new SEQ (R169). -/
def State.republish (s : State) (epoch : Nat) (h : HeadInfo) (secs : List Sect) (slots : List Nat) : State :=
  let (x, s) := s.leaveSummary h secs
  let s := s.setRed { s.red with results := s.red.results.map (fun (r : Nat × Summary) => if r.1 = epoch then (epoch, x) else r) }
  let (recs, s) := if s.level ≤ 2 then
      let (r, s) := s.contributor epoch (recSeq x.head) slots
      (x.head :: x.parts ++ [r], s)
    else (x.head :: x.parts, s)
  s.sendUp3 s.uplinks recs

/-- Tray slots of a summary: those of its contributor record, of a direct Spoke, or the run of a Chain (R171). Log entry 56 (DEDUCED). -/
def State.slotsOf (s : State) (c : Child) (epoch key contrib : Nat) : List Nat :=
  match s.red.maps.find? (fun m => m.1 = epoch && m.2.1 = key) with
  | some m => m.2.2
  | none => if c.typ = 1 then [c.slotBase] else if c.typ = 0 then (List.range contrib).map (fun i => c.slotBase + i) else []

/-- The root merges a late summary into its retained result and publishes it again. -/
def State.lateMerge (s : State) (a : Arrival) : State :=
  match s.red.results.find? (fun r => r.1 = a.epoch), s.mergeFor a.epoch with
  | some (_, x), some m =>
    let (h, secs, s) := s.mergeChild (readHead x.head) x.sects a.sum false
    let mine := match m.kids.find? (fun c => c.idx = a.child) with
      | some c => s.slotsOf c a.epoch a.key (readHead a.sum.head).contrib
      | none => []
    let slots := m.mbits ++ mine.filter (fun k => !m.mbits.contains k)
    let s := s.modMerge a.epoch (fun (m : MergeSt) => { m with mbits := slots })
    let s := if a.child < 512 then s.set (F.CHILD_D_STATE a.child) 2 else s
    (s.republish a.epoch h secs slots).ackKids a.epoch [a.ack]
  | _, _ => s

/-- A late summary at a node below the root leaves in a late bundle; its Spokes are scored, and form CHILD rows (R169, R170, R183, R236). -/
def State.lateBundle (s : State) (a : Arrival) : State :=
  let h := readHead a.sum.head
  let seq := recSeq a.sum.head
  let (lh, s) := s.originate 0x23 3 1 0 s.nowNs
    [(16, toLE 6 a.epoch), (22, toLE 2 (max 1 (s.tim.epoch - a.epoch))), (24, toLE 4 (a.key % 2 ^ 20)), (28, toLE 4 seq),
     (32, toLE 4 (s.fld F.RED_NODE_NODE_ID))]
  let s := (s.inc F.RED_LATE_STAT_FORWARDED).set (F.CHILD_D_STATE a.child) 2
  let vals := sortBy (fun v => v.src) (s.red.vals.filter (fun v => v.epoch = a.epoch && v.late && v.fromKey = a.key))
  let s := s.setRed { s.red with lateKeys := ((a.epoch, a.key) :: vals.map (fun v => (v.epoch, v.src)) ++ s.red.lateKeys).take 8192 }
  let s := s.retainUp a.epoch (recSeq lh) h.pgen (lh :: a.recs) (lh :: a.recs) [a.ack] s.uplinks
  if s.level < 2 then s
  else
    let s := if s.act F.RED_CTRL_STRAG_EN = 1 then vals.foldl (fun (s : State) v => s.scoreLate a.epoch v.src v.entries) s else s
    let bank := ((s.inf.past.find? (fun p => p.1 = a.epoch)).map (fun p => p.2)).getD []
    vals.foldl (fun (s : State) v => s.childRows a.epoch v.src v.entries bank true) s

/-- A checked late summary is dealt with once the merge of its epoch is out. Log entry 55 (DEDUCED). -/
def State.lateOut (s : State) (a : Arrival) : State :=
  if s.isRoot then (if s.red.results.any (fun r => r.1 = a.epoch) then s.lateMerge a else s) else s.lateBundle a

/-- The merged summary leaves, or is published (R162, R167, R171, R185, R186). -/
def State.mergeForward (s : State) (epoch : Nat) : State :=
  match s.mergeFor epoch with
  | none => s
  | some m =>
    if m.sent then s
    else
      let (own, s) := s.takeOwn m
      let (h, secs, tray, s) := s.mergeAll m own
      let gone := m.kids.filter (fun c => m.missing.contains c.idx || m.absent.contains c.idx)
      let inc := !gone.isEmpty
      let h : HeadInfo := { h with
        expected := h.expected + (gone.map (fun c => c.expected)).foldl (fun (a b : Nat) => a + b) 0
        sflags := h.sflags ||| 4 ||| b2n inc
        pgen := m.pgen }
      let secs := (s.red.retr.filter (fun r => r.1 = epoch)).foldl (fun acc r => s.applyRetraction acc r.2) secs
      let secs := if inc then secs.map (fun (x : Sect) => { x with flags := x.flags ||| mfIncomplete }) else secs
      let s := s.setRed { s.red with retr := s.red.retr.filter (fun r => r.1 ≠ epoch) }
      let s := if inc then s.inc F.RED_INCOMPLETE_EPOCHS else s
      let s := if bit h.sflags 0 && s.act F.RED_CTRL_ALERT_EN = 1 then s.alert 4 else s
      let s := (s.raiseTo F.RED_INCOMPLETE_MISSING_MAX (h.expected - h.contrib)).set F.RED_CONTRIB (min F.RED_CONTRIB.max h.contrib)
      let s := s.set F.RED_EXPECTED (min F.RED_EXPECTED.max h.expected)
      let (x, s) := s.leaveSummary h secs
      let seq := recSeq x.head
      let s := s.noteHead epoch seq
      let recs := x.head :: x.parts
      let (recs, s) := if s.level ≤ 2 then
          let (r, s) := s.contributor epoch seq m.mbits
          (recs ++ [r], s)
        else (recs, s)
      let vals := if s.hub || s.level ≠ 1 then [] else s.ownValues own
      let (recs, s) := if vals.isEmpty then (recs, s)
        else
          let (r, s) := s.sourceValues epoch seq vals
          (recs ++ [r], s)
      let (ds, s) := s.ownDigests epoch
      let s := if s.isRoot then ds.foldl (fun (s : State) b => s.digestTake b) s else s
      let recs := recs ++ ds
      let (recs, s) := if s.level < 2 || s.act F.RED_CTRL_STRAG_EN = 0 then (recs, s)
        else
          let (rs, s) := s.search m tray
          let lists := (s.red.lists.filter (fun l => l.1 = epoch)).flatMap (fun l => l.2)
          let rs := mergeRanks s.topk (rs ++ lists)
          let rs := if s.isRoot then rs.take (s.fld F.RED_TOPK_ROOT_LEN) else rs
          let s := if s.isRoot then s.showRanks rs else s
          let (r, s) := s.stragRecord epoch seq rs
          (recs ++ [r], s)
      let (recs, s) := if s.isRoot then
          let (es, r, s) := s.refRecord epoch seq secs
          let s := s.keepRefs epoch es
          (recs ++ [r], s.refDown r)
        else (recs, s)
      let (send, keep, s) := s.closeRound epoch recs
      let us := (s.nowNs - m.sealNs) / 1000
      let s := (s.set F.RED_LAT_LAST_US (min F.RED_LAT_LAST_US.max us)).raiseTo F.RED_LAT_MAX_US us
      let s := s.modMerge epoch (fun (m : MergeSt) => { m with complete := true, sent := true })
      let s := if s.isRoot then s.setRed { s.red with results := ((epoch, x) :: s.red.results).take 16 } else s
      let s := s.retainUp epoch seq m.pgen send keep ((s.contained m).map (fun a => a.ack)) m.ups
      if s.isRoot then (s.red.arrivals.filter (fun a => a.epoch = epoch && a.late && a.checked)).foldl (fun s a => s.lateMerge a) s else s

/-- The merge leaves once it is done and its CHILD rows are scored or CHILD_US has passed (R234). -/
def State.forwardIfDone (s : State) (epoch : Nat) : State :=
  match s.mergeFor epoch with
  | some m => if m.complete && !m.sent && (m.childOver || !s.childRowsWait epoch) then s.mergeForward epoch else s
  | none => s

/-- The merge of an epoch starts with what has arrived (R167). -/
def State.startMerge (s : State) (epoch : Nat) : State :=
  match s.mergeFor epoch with
  | none => s
  | some m =>
    if m.started then s
    else
      let arr := s.contained m
      let here (c : Child) : Bool := arr.any (fun a => a.child = c.idx && !a.bundled)
      let due := m.kids.filter (fun c => !c.excl)
      let abs := due.filter (fun c => !here c && s.kidAbsent epoch c)
      let miss := due.filter (fun c => !here c && !s.kidAbsent epoch c)
      let s := due.foldl (fun (s : State) c =>
        if here c then s.set (F.CHILD_D_STATE c.idx) 0
        else (s.set (F.CHILD_D_STATE c.idx) (if s.kidAbsent epoch c then 3 else 1)).inc (F.CHILD_D_LATE_COUNT c.idx)) s
      let slots := arr.flatMap (fun a => match m.kids.find? (fun c => c.idx = a.child) with
        | some c => s.slotsOf c epoch a.key (readHead a.sum.head).contrib
        | none => [])
      -- a Chain head's own slot stands before its members'
      let low := m.kids.foldl (fun (a : Nat) c => min a c.slotBase) 512
      let slots := if s.level = 1 && 0 < low && low < 512 then (low - 1) :: slots else slots
      let s := s.modMerge epoch (fun (m : MergeSt) => { m with
        started := true, startNs := s.nowNs, missing := miss.map (fun c => c.idx), absent := abs.map (fun c => c.idx), mbits := slots })
      -- a child whose seal has not arrived is late from here on (R169, R426)
      let open_ := s.red.arrivals.filter (fun a => a.epoch = epoch && !a.checked)
      let s := s.setRed { s.red with
        arrivals := s.red.arrivals.map (fun (a : Arrival) => if a.epoch = epoch && !a.checked then { a with late := true } else a)
        vals := s.red.vals.map (fun (v : SrcVals) => if v.epoch = epoch && open_.any (fun a => a.key = v.src || a.key = v.fromKey) then { v with late := true } else v) }
      let own := m.own.getD s.scl.closing
      let s := if s.hub || s.level < 2 then s
        else s.setRed { s.red with vals := ⟨s.ident, epoch, s.ownValues own, s.ident, false⟩ :: s.red.vals }
      if s.level ≠ 2 then s
      else (sortBy (fun v => v.src) (s.red.vals.filter (fun v => v.epoch = epoch && !v.late))).foldl
        (fun (s : State) v => s.childRows epoch v.src v.entries own false) s

/-- The merge starts when the own part is ready and every child it waits for has arrived. -/
def State.tryStart (s : State) (epoch : Nat) : State :=
  match s.mergeFor epoch with
  | none => s
  | some m =>
    let arr := s.contained m
    if m.started || !m.ready || !s.merging || s.injecting 4 then s
    else if (m.kids.filter (fun c => !c.excl && !s.kidAbsent epoch c)).all (fun c => arr.any (fun a => a.child = c.idx && !a.bundled)) then s.startMerge epoch
    else s

/-- The own part of an epoch is ready: every EPOCH model has finished, or EPOCH_US has passed (R234). -/
def State.ownReady (s : State) (epoch : Nat) : State :=
  let s := s.modMerge epoch (fun (m : MergeSt) => { m with ready := true })
  if s.merging then s.tryStart epoch else s.ownLeave epoch

/-! ### Children's rounds (R426, R428) -/

/-- The round of a child. -/
def State.roundOf (s : State) (key : Nat) : Round := (s.sec.rounds.find? (fun r => r.key = key)).getD ⟨key, none, [], none, none, false⟩

/-- A child's round replaced. -/
def State.putRound (s : State) (r : Round) : State := s.setSec { s.sec with rounds := r :: s.sec.rounds.filter (fun x => x.key ≠ r.key) }

/-- A SEQ that lies before the next one expected. -/
def seqOld (next : Option Nat) (seq : Nat) : Bool := match next with
  | some n => decide (2 ^ 31 ≤ (seq + 2 ^ 32 - n % 2 ^ 32) % 2 ^ 32)
  | none => false

/-- A chained record of a child joins its round; one already seen does not. Log entry 89 (DEDUCED). -/
def State.hashRec (s : State) (b : Bytes) : State :=
  let key := recKey b
  if recClass b ≠ 3 || s.level = 0 || (s.children.all (fun c => c.key ≠ key) && (s.sec.rounds.all (fun r => r.key ≠ key))) then s
  else
    let r := s.roundOf key
    if seqOld r.nextSeq (recSeq b) then s else s.putRound { r with recs := r.recs ++ [b], nextSeq := some ((recSeq b + 1) % 2 ^ 32) }

/-- A child seen first on a Chain's port has a round of its own. Log entry 89 (DEDUCED). -/
def State.openRound (s : State) (key : Nat) : State := if s.sec.rounds.any (fun r => r.key = key) then s else s.putRound (s.roundOf key)

/-- SEQ runs without a gap from FIRST_SEQ to LAST_SEQ. -/
def roundGapless (recs : List Bytes) (sl : Bytes) : Bool :=
  let first := le sl 24 4
  let n := (le sl 28 4 + 2 ^ 32 - first) % 2 ^ 32 + 1
  recs.map recSeq = (if recs.isEmpty && n = 2 ^ 32 then [] else (List.range (min n (recs.length + 1))).map (fun i => (first + i) % 2 ^ 32))

/-- The computed CHAIN equals the seal's. -/
def roundHash (recs : List Bytes) (sl : Bytes) : Bool := sha384 (slice sl 48 48 ++ recs.flatten) = slice sl 96 48

/-- A child's failure of the record chain (R426). Log entry 89 (DEDUCED). -/
def State.chainFail (s : State) (f : Fld) (key detail : Nat) : State := (s.inc f).secFail (key % 2 ^ 20) detail

/-- A late bundle's round checked on its own (R428): 0 good, 1 a gap, 2 the hash, 3 the signature. -/
def State.bundleFault (s : State) (recs : List Bytes) : Nat :=
  match recs.reverse with
  | [] => 1
  | sl :: rest =>
    let body := rest.reverse
    if recKind sl ≠ 0x61 || !roundGapless body sl then 1 else if !roundHash body sl then 2 else if !s.sealSigOk sl then 3 else 0

/-! ### Arrivals -/

/-- CAT_ID of the catalogue in force for an epoch. -/
def State.catIdAt (s : State) (epoch : Nat) : Nat :=
  match s.mergeFor epoch with
  | some m => m.catId
  | none => if s.scl.oldCat.isSome && epoch < s.tim.epoch then s.scl.oldCatId else s.fld F.SCL_CAT_ID

/-- The unit's own opening of an epoch. -/
def State.openOf (s : State) (epoch : Nat) : Nat :=
  match s.mergeFor epoch with
  | some m => m.openNs
  | none => match s.tim.closed with
    | some c => if c.epoch = epoch then c.openNs else s.tim.openNs
    | none => s.tim.openNs

/-- PGENs compared modulo 2¹⁶ within a half-range: `a` is higher than `b` (R358). -/
def pgenNewer (a b : Nat) : Bool := let d := (a + 65536 - b % 65536) % 65536; decide (0 < d ∧ d < 32768)

/-- A summary's PGEN against the highest accepted from its key: kept up to date, or stale (R358). Log entry 60 (DEDUCED). -/
def State.pgenTake (s : State) (key pgen epoch : Nat) : Option State :=
  match s.lnk.pgenSeen.find? (fun p => p.1 = key) with
  | none => some (s.setLnk { s.lnk with pgenSeen := (key, pgen, epoch) :: s.lnk.pgenSeen })
  | some (_, g, e) =>
    if pgenNewer pgen g then some (s.setLnk { s.lnk with pgenSeen := (key, pgen, epoch) :: s.lnk.pgenSeen.filter (fun p => p.1 ≠ key) })
    else if pgen = g || epoch < e then some s else none

/-- A Spoke whose slot bit is set for the epoch has been contained (R171). -/
def State.slotHeld (s : State) (epoch : Nat) (c : Child) (key : Nat) : Bool :=
  c.typ = 1 && key = c.key && match s.mergeFor epoch with
    | some m => m.started && m.mbits.contains c.slotBase
    | none => false

/-- The summary of an EXCLUDED child has arrived; it is not merged (R362). Log entry 57 (DEDUCED). -/
def State.barSummary (s : State) (c : Child) (epoch : Nat) : State :=
  s.setRed { s.red with barred := (c.idx, epoch) :: s.red.barred.filter (fun k => k ≠ (c.idx, epoch)) }

/-- A summary is taken, replaced, refused or discarded (R164, R166, R169, R358), an EXCLUDED child's discarded (R362); late ones wait for their round's check. `bundle` holds the
late head's SEQ and the records of a late bundle. Log entry 55 (DEDUCED). -/
def State.takeSummary (s : State) (x : Summary) (port : Nat) (c : Child) (key : Nat) (bundle : Option (Nat × List Bytes)) : State :=
  let h := readHead x.head
  let started := s.mergeStarted h.epoch
  let s := s.setRed { s.red with absentKeys := s.red.absentKeys.filter (fun k => k.1 ≠ key && k.1 ≠ c.key) }
  if c.excl then s.barSummary c h.epoch
  else if h.catId ≠ s.catIdAt h.epoch then s.inc F.RED_MERGE_STAT_CAT_MISMATCH
  else if s.tim.epoch < h.epoch || (started && (s.lateWindow = 0 || s.lateWindow < s.tim.epoch - h.epoch)) then s.inc F.RED_LATE_STAT_EXPIRED
  else if s.level = 5 && apart h.openNs (s.openOf h.epoch) 1000 then s.inc F.RED_MERGE_STAT_MISALIGNED
  else match s.pgenTake key h.pgen h.epoch with
    | none => s.inc F.LNK_PGEN_STAT_STALE
    | some s =>
      let ack : Nat × Nat × Nat := match bundle with
        | some b => (c.key, port, b.1)
        | none => (key, port, recSeq x.head)
      let a : Arrival := ⟨h.epoch, key, c.idx, port, x, started, ack, bundle.isSome, bundle.isSome, (bundle.map (fun b => b.2)).getD []⟩
      match s.red.arrivals.find? (fun y => y.epoch = h.epoch && y.key = key) with
      | some old =>
        if !started && pgenNewer h.pgen (readHead old.sum.head).pgen then
          (s.setRed { s.red with arrivals := s.red.arrivals.filter (fun y => !(y.epoch = h.epoch && y.key = key)) ++ [a] }).inc F.RED_MERGE_STAT_REPLACED
        else s.inc F.RED_MERGE_STAT_DUP
      | none =>
        if s.slotHeld h.epoch c key then s.inc F.RED_MERGE_STAT_DUP
        else s.setRed { s.red with arrivals := s.red.arrivals ++ [a] }

/-- A child's summary at a merge point, or relayed where nothing is merged. -/
def State.childSummary (s : State) (x : Rx) (parts : List Bytes) : State :=
  if !s.loaded then s
  else if !s.merging then (x.bytes :: parts).foldl (fun s b => s.sendUp 3 b) s
  else
    let key := recKey x.bytes
    match childFor (s.kidsAt (le x.bytes 16 6)) key x.port with
    | none => s
    | some c =>
      let s := (x.bytes :: parts).foldl State.hashRec (s.openRound key)
      s.takeSummary ⟨x.bytes, parts⟩ x.port c key none

/-- The round of a child has passed its checks: the child counts as arrived (R426), or its late summary goes on. Log entry 55 (DEDUCED). -/
def State.roundChecked (s : State) (key epoch : Nat) (recs : List Bytes) (chain : Bytes) : State :=
  match s.red.arrivals.find? (fun a => a.key = key && a.epoch = epoch && !a.checked) with
  | none => s.commitChild epoch key chain
  | some a =>
    let a : Arrival := { a with checked := true, recs := recs }
    let s := s.setRed { s.red with arrivals := s.red.arrivals.map (fun (y : Arrival) => if y.key = key && y.epoch = epoch then a else y) }
    let s := s.commitChild epoch key chain
    if a.late then s.lateOut a else s.tryStart epoch

/-- Summaries of a child that have not been checked are discarded (R164). -/
def State.dropArrival (s : State) (key : Nat) : State :=
  s.setRed { s.red with arrivals := s.red.arrivals.filter (fun a => !(a.key = key && !a.checked)) }

/-- A child's seal record at a merge point (R426, R427). Log entry 55 (DEDUCED). -/
def State.sealArrives (s : State) (x : Rx) : State :=
  let b := x.bytes
  if !s.loaded then s
  else if !s.merging then s.sendUp 3 b
  else
    let key := recKey b
    let r := s.roundOf key
    if (s.sec.rounds.all (fun y => y.key ≠ key) && (childFor s.children key x.port).isNone) || seqOld r.nextSeq (recSeq b) then s
    else
      let next : Round := { r with recs := [b], nextSeq := some ((recSeq b + 1) % 2 ^ 32) }
      let job : VerJob := ⟨key, b, s.sec.roundNo⟩
      let queue (s : State) : State := s.setSec { s.sec with verify := if r.chain.isNone then job :: s.sec.verify else s.sec.verify ++ [job] }
      if !roundGapless r.recs b then ((s.putRound next).dropArrival key).chainFail F.SEC_CHAIN_STAT_GAP key 5
      else if (match r.chain with
          | some c => decide (c ≠ slice b 48 48)
          | none => false) || !roundHash r.recs b then ((s.putRound next).dropArrival key).chainFail F.SEC_CHAIN_STAT_HASH_FAIL key 5
      else
        let epoch := le b 16 6
        let s := queue (s.putRound { next with chain := some (slice b 96 48), epoch := some epoch })
        if r.unverified then s.dropArrival key else s.roundChecked key epoch (r.recs ++ [b]) (slice b 96 48)

/-- A received late bundle (R169, R428). Log entry 55 (DEDUCED). -/
def State.bundleRx (s : State) (x : Rx) (recs : List Bytes) : State :=
  let lh := x.bytes
  if !s.loaded then s
  else if !s.merging then (lh :: recs).foldl (fun s b => s.sendUp 3 b) s
  else match bundleChild s.children (recKey lh) x.port with
    | none => s
    | some c =>
      if c.excl then s.barSummary c (le lh 16 6)
      else
      let s := if (childFor s.children (recKey lh) x.port).isSome then (s.openRound (recKey lh)).hashRec lh else s
      let epoch := le lh 16 6
      match s.bundleFault recs with
      | 0 =>
        match recs.find? (fun b => recKind b = 0x20) with
        | none => s
        | some head =>
          let key := recKey head
          let parts := recs.filter (fun b => recKind b = 0x21)
          let late := s.mergeStarted epoch
          let s := s.setRed { s.red with vals := (recs.filter (fun b => recKind b = 0x25)).map (fun b => ⟨recSource b, le b 16 6, readValues b, key, late⟩) ++ s.red.vals }
          if !late || s.isRoot then
            let n := s.red.arrivals.length
            let s := s.takeSummary ⟨head, parts⟩ x.port c key (some (recSeq lh, recs))
            if s.red.arrivals.length = n then s
            else
              let s := s.commitChild epoch key (slice (recs.getLastD []) 96 48)
              if late then (match s.red.arrivals.getLast? with
                | some a => s.lateOut a
                | none => s) else s
          else if s.lateWindow = 0 || s.lateWindow < s.tim.epoch - epoch then s.inc F.RED_LATE_STAT_EXPIRED
          else
            let s := s.setRed { s.red with lateKeys := ((epoch, key) :: s.red.lateKeys).take 8192 }
            let s := s.retainUp epoch (recSeq lh) (le head 46 2) (lh :: recs) (lh :: recs) [(c.key, x.port, recSeq lh)] s.uplinks
            if s.level ≠ 2 then s
            else
              let vals := s.red.vals.filter (fun v => v.epoch = epoch && v.late && v.fromKey = key)
              let bank := ((s.inf.past.find? (fun p => p.1 = epoch)).map (fun p => p.2)).getD []
              vals.foldl (fun (s : State) v =>
                (if s.act F.RED_CTRL_STRAG_EN = 1 then s.scoreLate epoch v.src v.entries else s).childRows epoch v.src v.entries bank true) s
      | 1 => s.chainFail F.SEC_CHAIN_STAT_GAP (le lh 24 4) 5
      | 2 => s.chainFail F.SEC_CHAIN_STAT_HASH_FAIL (le lh 24 4) 5
      | _ => s.chainFail F.SEC_CHAIN_STAT_SIG_FAIL (le lh 24 4) 6

/-- A contributor record's slots (R171). -/
def mapSlots (b : Bytes) : List Nat := (List.range 320).filter (fun k => bit (le b 32 40) k)

/-- A received contributor record is kept for LATE_WINDOW epochs. -/
def State.contributorRx (s : State) (x : Rx) : State :=
  if !s.loaded then s
  else if !s.merging then s.sendUp 3 x.bytes
  else
    let s := s.hashRec x.bytes
    let e := le x.bytes 16 6
    let key := recKey x.bytes
    s.setRed { s.red with maps := (e, key, mapSlots x.bytes) :: s.red.maps.filter (fun m => !(m.1 = e && m.2.1 = key)
      && s.tim.epoch ≤ m.1 + s.lateWindow + 1) }

/-- A received source-value record: kept for the search, and at a Chain head passed on (R179, R180); once the merge has started it goes
in the late bundle of its round. -/
def State.sourceRx (s : State) (x : Rx) : State :=
  if !s.loaded then s
  else if !s.merging then s.sendUp 3 x.bytes
  else
    let s := s.hashRec x.bytes
    let b := x.bytes
    let e := le b 16 6
    let src := recSource b
    let from_ := match childFor s.children (recKey b) x.port with
      | some c => if c.key = recKey b then recKey b else
          ((s.red.arrivals.find? (fun a => a.epoch = e && a.child = c.idx)).map (fun a => a.key)).getD c.key
      | none => recKey b
    let s := s.setRed { s.red with vals := ⟨src, e, readValues b, from_, s.mergeStarted e⟩ :: s.red.vals.filter (fun v => !(v.src = src && v.epoch = e)
      && s.tim.epoch ≤ v.epoch + s.lateWindow + 1) }
    if s.level = 1 && !s.mergeStarted e then s.sendUp 3 b else s

/-- A received straggler record is merged into the list of its epoch (R185). -/
def State.stragglerRx (s : State) (x : Rx) : State :=
  if !s.loaded then s
  else if !s.merging then s.sendUp 3 x.bytes
  else
    let s := s.hashRec x.bytes
    let e := le x.bytes 16 6
    s.setRed { s.red with lists := (e, readRanks x.bytes) :: s.red.lists.filter (fun l => s.tim.epoch ≤ l.1 + s.lateWindow + 1) }

/-- A received reference record: kept at a tray node, passed down by the nodes above it (R181, R186). -/
def State.referenceRx (s : State) (x : Rx) : State :=
  let b := x.bytes
  let es : List (Nat × Int × Int) := (List.range (le b 22 2)).map (fun i =>
    (le b (32 + 24 * i) 2 % 1024, sext 64 (le b (40 + 24 * i) 8), sext 64 (le b (48 + 24 * i) 8)))
  let s := s.keepRefs (le b 16 6) es
  if 3 ≤ s.level then s.refDown b else s

/-! ### Retractions (R173) -/

/-- The tray slot of a Spoke: that of a direct Spoke or a Chain's head, or the position it answered discovery with (R352). -/
def State.slotOfSpoke (s : State) (src : Nat) : Option Nat :=
  match s.children.find? (fun c => c.typ ≠ 2 && c.id = src) with
  | some c => some c.slotBase
  | none => match s.lnk.replies.find? (fun r => r.2.2.2 = src && r.2.1 = 0) with
    | some r => (s.children.find? (fun c => c.typ = 0 && c.portA = r.1)).map (fun c => c.slotBase + r.2.2.1)
    | none => none

/-- A Spoke is contained in what has been forwarded for an epoch. -/
def State.spokeIn (s : State) (epoch src port : Nat) : Bool :=
  s.red.lateKeys.contains (epoch, src) || match s.mergeFor epoch with
    | none => false
    | some m =>
      let byChild := s.red.arrivals.any (fun a => a.epoch = epoch && a.checked && !a.late && (a.key = src || a.port = port))
      match s.slotOfSpoke src with
      | some k => m.mbits.contains k || s.red.arrivals.any (fun a => a.epoch = epoch && a.checked && a.key = src)
      | none => byChild || s.red.vals.any (fun v => v.epoch = epoch && v.src = src)

/-- A retraction record at this node: from a child on a port, or its own. The answer says whether it goes on upward. -/
def State.retraction (s : State) (b : Bytes) (port : Option Nat) : Bool × State :=
  let epoch := le b 16 6
  if s.lateWindow < s.tim.epoch - epoch then (false, s.inc F.RED_CORR_STAT_EXPIRED)
  else if !s.mergeStarted epoch then
    (false, (s.setRed { s.red with retr := s.red.retr ++ [(epoch, b)] }).inc F.RED_CORR_STAT_APPLIED)
  else
    let orphan := match port with
      | some p => (s.level = 2 || s.level = 3) && !s.spokeIn epoch (recSource b) p
      | none => false
    if orphan then (false, s.inc F.RED_CORR_STAT_ORPHAN)
    else if s.isRoot then
      match s.red.results.find? (fun r => r.1 = epoch), s.mergeFor epoch with
      | some (_, x), some m =>
        (false, (s.republish epoch (readHead x.head) (s.applyRetraction x.sects b) m.mbits).inc F.RED_CORR_STAT_APPLIED)
      | _, some m => if m.sent then (false, s.inc F.RED_CORR_STAT_EXPIRED)
          else (false, (s.setRed { s.red with retr := s.red.retr ++ [(epoch, b)] }).inc F.RED_CORR_STAT_APPLIED)
      | _, none => (false, s.inc F.RED_CORR_STAT_EXPIRED)
    else (true, s)

/-- A received retraction record. -/
def State.retractionRx (s : State) (x : Rx) : State :=
  if !s.loaded then s
  else if !s.merging then s.sendUp 3 x.bytes
  else
    let (up, s) := (s.hashRec x.bytes).retraction x.bytes (some x.port)
    if up then s.sendUp 3 x.bytes else s

/-- A record of this unit with another SEQ. -/
def withSeq (b : Bytes) (seq : Nat) : Bytes :=
  let h := slice b 0 6 ++ toLE 4 seq ++ slice b 10 5
  h ++ [crc8 h] ++ b.drop 16

/-- The unit's own retraction records go their way (R126, R173). -/
def State.retractOwn (s : State) (rs : List Bytes) : State :=
  rs.foldl (fun (s : State) b =>
    let (up, s) := if s.merging then s.retraction b none else (true, s)
    if up then
      let r := withSeq b (s.seqOf 3)
      (s.chained [r]).sendUp 3 r
    else s) s

/-! ### Derailleur commits (R177, R193) -/

/-- A write of RED_DRL_CTRL.COMMIT. Log entry 60 (DEDUCED). -/
def State.drlCommit (s : State) : State :=
  let t := s.fld F.RED_DRL_EPOCH_LO + 2 ^ 32 * s.fld F.RED_DRL_EPOCH_HI
  if t ≤ s.tim.epoch then s.set F.RED_DRL_CTRL_LATE 1
  else (s.setRed { s.red with drlTarget := some t }).set F.RED_DRL_CTRL_PENDING 1

/-- A new placement generation. Log entry 60 (DEDUCED). -/
def State.nextPgen (s : State) : State := s.setLnk { s.lnk with pgen := (s.lnk.pgen + 1) % 65536 }

/-- At the seal of the epoch that closes at the target's opening boundary the shadow becomes active. Log entry 60 (DEDUCED). -/
def State.drlSeal (s : State) (epoch : Nat) : State :=
  match s.red.drlTarget with
  | none => s
  | some t =>
    if epoch + 1 < t then s
    else
      let s := (List.range 128).foldl (fun (s : State) c => (List.range 3).foldl (fun (s : State) j =>
        s.setWord (0x530000 + 16 * c + 4 * j) (s.word (0x530800 + 16 * c + 4 * j))) s) s
      let s := s.setWord 0x040008 (s.word 0x04003C)
      ((s.setRed { s.red with drlTarget := none, uplinkUsed := s.upNow }).set F.RED_DRL_CTRL_PENDING 0).nextPgen

/-! ### Takeover's second node (R359) -/

/-- The unit's own node and the takeover's node change places. Log entry 59 (DEDUCED). -/
def State.swapTko (s : State) : State :=
  match s.tko with
  | none => s
  | some t =>
    let mine : TkoSt := ⟨s.fld F.RED_NODE_NODE_ID, s.lnk.pgen, s.seqOf 3, s.red, s.sec.prevChain, s.sec.round, s.sec.firstSeq, s.sec.headHash,
      s.sec.commits, s.sec.rounds⟩
    let s := { s with red := t.red, tko := some mine }
    let s := s.setLnk { s.lnk with pgen := t.pgen, seqs := modNth s.lnk.seqs 3 (fun _ => t.seq) }
    let s := s.setSec { s.sec with
      prevChain := t.prevChain, round := t.round, firstSeq := t.firstSeq, headHash := t.headHash, commits := t.commits, rounds := t.rounds }
    s.set F.RED_NODE_NODE_ID t.nodeId

/-- Something done by the takeover's node. Log entry 59 (DEDUCED). -/
def State.asTakeover (s : State) (f : State → State) : State := if s.tko.isSome then (f s.swapTko).swapTko else s

/-- Something done by each node of the unit. Log entry 59 (DEDUCED). -/
def State.eachNode (s : State) (f : State → State) : State := (f s).asTakeover f

/-- A child's record goes to the node whose child table holds its child. Log entry 59 (DEDUCED). -/
def State.atNode (s : State) (key port : Nat) (f : State → State) : State :=
  if s.tko.isSome && (childFor s.children key port).isNone then s.asTakeover f else f s

/-! ### The seal (R146, R189) -/

/-- Whether an epoch's summary is forwarded: not from BRING-UP, not of the local Cadence, and not in QUIET or HOLD (R22, R89,
R467). -/
def Closed.emits (c : Closed) : Bool := c.svc ≠ svcBringup && !c.localEpoch && !c.quiet

/-- TIME_Q of an epoch (R151). -/
def State.timeQ (s : State) (c : Closed) : Nat := c.worst + (if c.late then 8 else 0) + (if s.on F.TIM_STATUS_ASYM_MISSING then 16 else 0)

/-- SFLAGS of an epoch apart from what its sections say. Log entry 39 (DEDUCED). -/
def Closed.sflags (c : Closed) : Nat :=
  b2n (c.stepped || c.incomplete || c.svc = svcRecovery) + (if c.svc = svcRecovery then 2 else 0)

/-- What the reduction does at a seal before the own summary leaves. -/
def State.redSeal (s : State) (cl : Closed) (fig : TalFigures) : State :=
  let s := s.takeForce [0x040000]
  let s := s.sealRefs cl.epoch
  let old (e : Nat) : Bool := s.tim.epoch ≤ e + s.lateWindow + 2
  let s := s.setRed { s.red with
    arrivals := s.red.arrivals.filter (fun a => old a.epoch), lists := s.red.lists.filter (fun l => old l.1),
    lateKeys := s.red.lateKeys.filter (fun k => old k.1), retr := s.red.retr.filter (fun r => old r.1),
    absentEpochs := s.red.absentEpochs.filter (fun k => old k.2), barred := s.red.barred.filter (fun k => old k.2) }
  let own : Option (List Sect) := if s.red.tbl = 0 then none else some []
  let m : MergeSt := ⟨cl.epoch, cl.openNs, cl.closeNs, s.nowNs, cl.svc, s.timeQ cl, cl.sflags, s.lnk.pgen,
    if s.scl.oldCat.isSome then s.scl.oldCatId else s.fld F.SCL_CAT_ID, fig, own, s.children, s.uplinks, false, false, false, 0, false, false, [], [], []⟩
  let s := if cl.emits then s.setRed { s.red with
      merges := (s.red.merges ++ [m]).drop (s.red.merges.length + 1 - 18), ownWaits := s.red.tbl = 0 } else s
  if s.red.tbl = 0 then s.drlSeal cl.epoch else s

/-- At a boundary the own sections of an epoch that has not left yet are set aside. -/
def State.redBoundary (s : State) : State :=
  s.red.merges.foldl (fun (s : State) m => if !m.sent && m.own.isNone then (s.takeOwn m).2 else s) s

/-! ### Meanings -/

/-- CHILD_SUMMARY. -/
def execChildSummary (r : Rx) (parts : List Bytes) (s : State) : Host.Outcome State Fault Refusal :=
  done (((s.reach r.t).consume r).atNode (recKey r.bytes) r.port (fun s => s.childSummary r parts))

/-- The oldest merge that satisfies `p`. -/
def State.oldestMerge (s : State) (p : MergeSt → Bool) : Option MergeSt := s.red.merges.find? p

/-- The deadline of the oldest merge that has not started. -/
def State.mergeDeadline (s : State) : State :=
  match s.oldestMerge (fun m => !m.started) with
  | some m => if s.merging && !s.injecting 4 then (s.reachNs (m.sealNs + 1000 * max 1 (s.fld F.RED_WAIT_WAIT_US))).startMerge m.epoch else s
  | none => s

/-- MERGE_DEADLINE. -/
def execMergeDeadline (s : State) : Host.Outcome State Fault Refusal := done (s.eachNode State.mergeDeadline)

/-- The oldest merge that runs is done. -/
def State.mergeComplete (s : State) : State :=
  if s.injecting 4 then s else
  match s.oldestMerge (fun m => m.started && !m.complete) with
  | some m => (s.modMerge m.epoch (fun (m : MergeSt) => { m with complete := true })).forwardIfDone m.epoch
  | none => s

/-- MERGE_COMPLETE. -/
def execMergeComplete (s : State) : Host.Outcome State Fault Refusal := done (s.eachNode State.mergeComplete)

/-- LATE_BUNDLE. -/
def execLateBundle (r : Rx) (recs : List Bytes) (s : State) : Host.Outcome State Fault Refusal :=
  done (((s.reach r.t).consume r).atNode (recKey r.bytes) r.port (fun s => s.bundleRx r recs))

/-- CONTRIBUTOR_RECORD. -/
def execContributorRecord (r : Rx) (s : State) : Host.Outcome State Fault Refusal :=
  done (((s.reach r.t).consume r).atNode (recKey r.bytes) r.port (fun s => s.contributorRx r))

/-- RETRACTION_RECORD. -/
def execRetractionRecord (r : Rx) (s : State) : Host.Outcome State Fault Refusal :=
  done (((s.reach r.t).consume r).atNode (recKey r.bytes) r.port (fun s => s.retractionRx r))

/-- SOURCE_VALUE_RECORD. -/
def execSourceValueRecord (r : Rx) (s : State) : Host.Outcome State Fault Refusal :=
  done (((s.reach r.t).consume r).atNode (recKey r.bytes) r.port (fun s => s.sourceRx r))

/-- STRAGGLER_RECORD. -/
def execStragglerRecord (r : Rx) (s : State) : Host.Outcome State Fault Refusal :=
  done (((s.reach r.t).consume r).atNode (recKey r.bytes) r.port (fun s => s.stragglerRx r))

/-- REFERENCE_RECORD. -/
def execReferenceRecord (r : Rx) (s : State) : Host.Outcome State Fault Refusal := done (((s.reach r.t).consume r).eachNode (fun s => s.referenceRx r))

/-- EPOCH_ACK. -/
def execEpochAck (r : Rx) (s : State) : Host.Outcome State Fault Refusal := done (((s.reach r.t).consume r).eachNode (fun s => s.epochAck r.bytes))

/-- DERAILLEUR_COMMIT: a write of RED_DRL_CTRL with COMMIT = 1. -/
def execDerailleurCommit (a : Access) (w : Word) (s : State) : Host.Outcome State Fault Refusal :=
  done (s.guardWrite a 0x040040 (fun s => (s.plainWrite 0x040040 w).drlCommit))

/-- A scored row: when it was the last of its epoch, the summary that waited for it leaves (R234). Log entry 18 (DESIGN CHOICE). -/
def State.rowScored (s : State) (n : Nat) (err : StoreErr) : State :=
  match (s.slot n).rows with
  | [] => s
  | r :: _ =>
    let forced := (s.injected 5).any (fun i => i.target = n && !i.recovered)
    let (k, s) := if forced then s.fresh else (0, s)
    let s := s.rowDone n (if forced then StoreErr.double (Config.injectTile k) (Config.injectAddr k) else err)
    let s := if forced then s.recovered 5 else s
    if r.late then s
    else if r.kind = 1 then
      match s.mergeFor r.epoch with
      | some m => if !m.ready && !s.epochRowsWait r.epoch then s.ownReady r.epoch else s
      | none => s
    else if r.kind = 2 then s.eachNode (fun s => s.forwardIfDone r.epoch)
    else s

/-- ROW_SCORED. -/
def execRowScored (slot : Nat) (err : StoreErr) (s : State) : Host.Outcome State Fault Refusal := done (s.rowScored slot err)

/-- EPOCH_US has passed since a seal with EPOCH rows still waiting (R234, R235). -/
def State.epochBudget (s : State) : State :=
  match s.oldestMerge (fun m => !m.ready) with
  | some m => ((s.reachNs (m.sealNs + 1000 * s.fld F.INF_BUDGET_EPOCH_US)).overrun 1 m.epoch).ownReady m.epoch
  | none => s

/-- EPOCH_BUDGET_EXPIRY. -/
def execEpochBudgetExpiry (s : State) : Host.Outcome State Fault Refusal := done s.epochBudget

/-- CHILD_US has passed since a merge started with CHILD rows still waiting (R234, R235). -/
def State.childBudget (s : State) : State :=
  match s.oldestMerge (fun m => m.started && !m.sent) with
  | some m =>
    let s := (s.reachNs (m.startNs + 1000 * s.fld F.INF_BUDGET_CHILD_US)).overrun 2 m.epoch
    (s.modMerge m.epoch (fun (m : MergeSt) => { m with childOver := true })).forwardIfDone m.epoch
  | none => s

/-- CHILD_BUDGET_EXPIRY. -/
def execChildBudgetExpiry (s : State) : Host.Outcome State Fault Refusal := done (s.eachNode State.childBudget)

end Sys2Proof.Machine
end

