-- ==== Sys2Proof/Machine/TracePort.lean ====
section
/-! DEFINITION. Trace at the ingress (R252 to R258, R271) and the commands of trace capture and Pannier streams (R260, R265, R266, R270). -/

namespace Sys2Proof.Machine

/-! ### Accepting a packet (R253 to R257, R271) -/

/-- Reserved TYPEs and those that the block alone inserts (R253). Log entry 66 (DEDUCED). -/
def badType (typ : Nat) : Bool := (0xF1 ≤ typ && typ ≤ 0xFB) || 0xFC ≤ typ

/-- A comparator matches a packet (R256). -/
def State.cmpHits (s : State) (k : Nat) (p : Pkt) : Bool :=
  let lo := p.payload % 2 ^ 32
  (s.on (F.TRC_CMP_ANY k) || s.fld (F.TRC_CMP_CHANNEL k) = p.chan)
    && (p.typ ^^^ s.fld (F.TRC_CMP_TYPE_CMP k)) &&& s.fld (F.TRC_CMP_TYPE_MASK k) = 0
    && (lo ^^^ s.fld (F.TRC_CMP_MATCH k)) &&& s.fld (F.TRC_CMP_MASK k) = 0

/-- A comparator with METRIC_EN passes PAYLOAD[31:0] to Scales and triggers STREAM models (R256). -/
def State.cmpMetric (s : State) (k : Nat) (p : Pkt) : State :=
  if !s.on (F.TRC_CMP_METRIC_EN k) then s
  else
    let s := (s.metricsWhere false (fun d => d.kind = 3 && d.select = k)).foldl (fun s m =>
      s.scalesTake ⟨m, BitVec.ofNat 64 (p.payload % 2 ^ 32), p.t, 0, 0⟩) s
    s.fireTrigger 1 k p.t []

/-- The sixteen comparators watch an accepted packet; the answer lists those whose event fires, on every COUNT-th match (R256). -/
def State.compare (s : State) (p : Pkt) : List Nat × State :=
  (List.range 16).foldl (fun (x : List Nat × State) k =>
    let s := x.2
    if !s.cmpHits k p then x
    else
      let n := s.trc.hits.getD k 0 + 1
      let fires := max 1 (s.fld (F.TRC_CMP_COUNT k)) ≤ n
      let s := s.setTrc { s.trc with hits := modNth s.trc.hits k (fun _ => if fires then 0 else n) }
      (if fires then x.1 ++ [k] else x.1, s.cmpMetric k p)) ([], s)

/-- A captured packet counts towards event 6 of its sequencer, given once per state (R257). -/
def State.seqCount (s : State) (q : Nat) (p : Pkt) : State :=
  let n := s.trc.seqBytes.getD q 0 + p.size
  let s := s.setTrc { s.trc with seqBytes := modNth s.trc.seqBytes q (fun _ => n) }
  if !s.trc.seqPost.getD q false && 1024 * s.fld (F.TRC_SEQ_POST_POST_KIB q) ≤ n then
    (s.setTrc { s.trc with seqPost := modNth s.trc.seqPost q (fun _ => true) }).seqEvent q 6 p.t
  else s

/-- A packet is accepted: counted, compared, shown to the sequencers, and captured or filtered (R254 to R258). A LOSS packet goes before it
when the channel has lost packets (R271). Log entry 66 (DEDUCED). -/
def State.acceptPkt (s : State) (p : Pkt) : State :=
  let c := p.chan
  let s := s.wrapInc (F.TRC_CHAN_STAT_ACC c)
  let (hits, s) := s.compare p
  let s := (List.range 4).foldl (fun s q => s.seqItem q p.t (fun ev => 16 ≤ ev && hits.contains (ev - 16))) s
  let q := s.fld (F.TRC_CHAN_SEQ c)
  let k := s.fld (F.TRC_CHAN_STREAM c)
  let loss : List Pkt := match (s.chan c).lost with
    | some (ts, n, w) => [insPkt c p.t 0xF9 ts [n % 2 ^ 32 + 2 ^ 32 * (w % 2 ^ 32)]]
    | none => []
  let s := s.modChan c (fun ch => { ch with fifo := ch.fifo ++ loss, lost := none })
  if s.seqCapture q then
    ((s.modChan c (fun ch => { ch with fifo := ch.fifo ++ [p] })).drain k).seqCount q p
  else (s.inc (F.TRC_CHAN_STAT_FILT c)).drain k

/-- A packet is dropped: counted, and told by the next LOSS packet (R271). Log entry 66 (DEDUCED). -/
def State.dropPkt (s : State) (p : Pkt) : State :=
  (s.inc (F.TRC_CHAN_STAT_DROP p.chan)).modChan p.chan (fun ch => { ch with
    lost := match ch.lost with
      | some (ts, n, w) => some (ts, n + 1, w + p.words.length)
      | none => some (tsNs (p.t / 8), 1, p.words.length) })

/-- The channel's FIFO has room for all words of a packet (R254, R277). -/
def State.pktFits (s : State) (p : Pkt) : Bool := (s.chan p.chan).used + p.words.length ≤ 64

/-- Channels whose withheld packet now finds room accept it. -/
def State.release (s : State) : State :=
  (List.range 16).foldl (fun s c => match (s.chan c).stalled with
    | some p => if s.pktFits p then (s.modChan c (fun ch => { ch with stalled := none })).acceptPkt p else s
    | none => s) s

/-- A packet's head word rises on a channel (R252 to R254, R271). Log entry 66 (DEDUCED). -/
def State.tracePacket (s : State) (p : Pkt) : State :=
  let c := p.chan
  if !s.serves then s
  else if !s.collects || !s.on F.TRC_CTRL_EN || !s.on (F.TRC_CHAN_EN c) then s.inc (F.TRC_CHAN_STAT_FILT c)
  else if badType p.typ then s.inc (F.TRC_CHAN_STAT_STALL_BAD_TYPE c)
  else if (s.chan c).stalled.isSome then s
  else if s.pktFits p then s.acceptPkt p
  else if s.on (F.TRC_CHAN_STALL_EN c) && !(s.chan c).discarding then
    (s.inc (F.TRC_CHAN_STAT_STALL_STALLS c)).modChan c (fun ch => { ch with stalled := some p, stalledNs := s.nowNs })
  else s.dropPkt p

/-- TRACE_PACKET: a head word and its continuation words on a channel. A packet whose words are not 1 + LEN is none. -/
def execTracePacket (t chan : Nat) (head : BitVec 64) (conts : List (BitVec 64)) (s : State) : Host.Outcome State Fault Refusal :=
  let s := s.reach t
  done (if chan < 16 && conts.length = bits head.toNat 63 60 then
    (s.tracePacket ⟨chan, t, head.toNat :: conts.map (fun w => w.toNat), false⟩).release else s)

/-- STALL_LIMIT_US has passed since a channel withheld its ack: the packet is discarded, and so is what follows while there is too little
room, until the FIFO is half empty (R271). -/
def State.stallTimeout (s : State) (c : Nat) : State :=
  match (s.chan c).stalled with
  | none => s
  | some p =>
    let us := s.fld F.TRC_LIMITS_STALL_LIMIT_US
    if us = 0 then s
    else
      let s := s.reachNs ((s.chan c).stalledNs + 1000 * us)
      let s := s.inc (F.TRC_CHAN_STAT_STALL_STALL_TIMEOUTS c)
      (s.modChan c (fun ch => { ch with stalled := none, discarding := true })).dropPkt p

/-- TRACE_STALL_TIMEOUT. -/
def execTraceStallTimeout (chan : Nat) (s : State) : Host.Outcome State Fault Refusal := done (s.stallTimeout chan)

/-! ### Sequencers (R257, R258) -/

/-- SEQ_TIME_EVENT: local time reaches TRC_SEQ[q].TIME. -/
def execSeqTimeEvent (q : Nat) (s : State) : Host.Outcome State Fault Refusal :=
  done (if q < 4 then
    let t := s.pair (F.TRC_SEQ_TIME_LO q) (F.TRC_SEQ_TIME_HI q)
    ((s.reachNs t).seqEvent q 7 (8 * t)).release else s)

/-- FIRE in a sequencer's first word. -/
def State.seqFire (s : State) (q : Nat) : State := (s.seqEvent q 5 s.stamp).release

/-- RESTART: state 0, no entry actions (R258). -/
def State.seqRestart (s : State) (q : Nat) : State :=
  (s.set (F.TRC_SEQ_STATE q) 0).setTrc { s.trc with
    seqBytes := modNth s.trc.seqBytes q (fun _ => 0), seqPost := modNth s.trc.seqPost q (fun _ => false) }

/-- SEQ_FIRE. -/
def execSeqFire (a : Access) (q : Nat) (w : Word) (s : State) : Host.Outcome State Fault Refusal :=
  done (if q < 4 then s.guardWrite a (0x060300 + 64 * q) (fun s => (s.plainWrite (0x060300 + 64 * q) w).seqFire q) else s)

/-- SEQ_RESTART. -/
def execSeqRestart (a : Access) (q : Nat) (w : Word) (s : State) : Host.Outcome State Fault Refusal :=
  done (if q < 4 then s.guardWrite a (0x060300 + 64 * q) (fun s => (s.plainWrite (0x060300 + 64 * q) w).seqRestart q) else s)

/-! ### Blocks, flushes and sync points -/

/-- BLOCK_AGE_EXPIRY. -/
def execBlockAgeExpiry (stream : Nat) (s : State) : Host.Outcome State Fault Refusal := done (s.blockAge stream).release

/-- BLOCK_CODED. -/
def execBlockCoded (stream : Nat) (s : State) : Host.Outcome State Fault Refusal := done (s.blockCoded stream).release

/-- Streams that STREAM and ALL of a command word name. -/
def State.namedStreams (s : State) (w : Word) : List Nat :=
  (List.range (streams s.build)).filter (fun k => bit w.toNat 6 || k = bits w.toNat 5 0)

/-- The effect of a write of TRC_FLUSH. -/
def State.traceFlush (s : State) (w : Word) : State := (s.flushStreams (s.namedStreams w) (bit w.toNat 7)).release

/-- TRACE_FLUSH. -/
def execTraceFlush (a : Access) (w : Word) (s : State) : Host.Outcome State Fault Refusal :=
  done (s.guardWrite a 0x060004 (fun s => (s.plainWrite 0x060004 w).traceFlush w))

/-- The effect of a write of TRC_SYNC: a sync point in each named TRACE stream that takes items (R265). -/
def State.traceSync (s : State) (w : Word) : State :=
  ((s.namedStreams w).filter (fun k => s.isTraceStream k && s.takesItems k)).foldl (fun s k =>
    (s.modPan k (fun p => { p with syncWanted := true })).drain k) s

/-- TRACE_SYNC. -/
def execTraceSync (a : Access) (w : Word) (s : State) : Host.Outcome State Fault Refusal :=
  done (s.guardWrite a 0x060008 (fun s => (s.plainWrite 0x060008 w).traceSync w))

/-! ### Stream commands (R270) -/

/-- A write of a stream's CMD word with an effect of its own; a stream beyond the build's count has none. Log entry 35 (DESIGN CHOICE). -/
def State.panCmd (s : State) (k : Nat) (w : Word) (f : State → State) : State :=
  let s := s.plainWrite (0x06100C + 64 * k) w
  if k < streams s.build then (f s).release else s

/-- PANNIER_START. -/
def execPannierStart (a : Access) (stream : Nat) (w : Word) (s : State) : Host.Outcome State Fault Refusal :=
  done (if stream < 64 then s.guardWrite a (0x06100C + 64 * stream) (fun s => s.panCmd stream w (fun s => s.panStart stream)) else s)

/-- PANNIER_APPEND. -/
def execPannierAppend (a : Access) (stream : Nat) (w : Word) (s : State) : Host.Outcome State Fault Refusal :=
  done (if stream < 64 then s.guardWrite a (0x06100C + 64 * stream) (fun s => s.panCmd stream w (fun s => s.panAppend stream)) else s)

/-- PANNIER_STOP. -/
def execPannierStop (a : Access) (stream : Nat) (w : Word) (s : State) : Host.Outcome State Fault Refusal :=
  done (if stream < 64 then s.guardWrite a (0x06100C + 64 * stream) (fun s => s.panCmd stream w (fun s => s.panStop stream)) else s)

/-- PANNIER_POLL. -/
def execPannierPoll (stream : Nat) (s : State) : Host.Outcome State Fault Refusal := done (s.panPoll stream)

end Sys2Proof.Machine
end

