-- ==== Sys2Proof/Machine/LinkState.lean ====
section
/-! DEFINITION. Changes of a port's link state: LSTATE and its Ledger event (R363, R369), a link that has come UP (R352, R426) and one
that has gone DOWN (R347). -/

namespace Sys2Proof.Machine

/-- LSTATE changes; ALERT_N on DOWN and MISCABLED when LNK_CTRL.ALERT_EN is 1 (R363, R365). -/
def State.setLstate (s : State) (p st : Nat) : State :=
  if s.lstate p = st then s
  else
    let s := (s.set (F.LNK_PORT_STATE_LSTATE p) st).log 0x30 st p 0
    if st = lsDown || st = lsMiscabled then s.alertIf F.LNK_CTRL_ALERT_EN 9 else s

/-- Ports of the node's Chains with the END that each one is: 0 for PORT_A, 1 for PORT_B (R352). -/
def State.chainEnds (s : State) : List (Nat × Nat) :=
  (s.children.filter (fun c => c.typ = 0)).flatMap fun c => ([(c.portA, 0), (c.portB, 1)] : List (Nat × Nat)).filter (fun e => e.1 < s.build.ports)

/-- DISCOVER sent from a Hub on one end of a Chain (R352). -/
def State.discoverOn (s : State) (e : Nat × Nat) : State :=
  if s.hub && s.on F.LNK_CTRL_DISC_EN then s.mgmtEach [e.1] 2 [(17, toLE 1 e.2), (18, [0]), (19, toLE 1 e.1)] else s

/-- The link that the node's upward records use has come UP again: a path change (R175, R426). -/
def State.upwardAgain (s : State) (p : Nat) : State :=
  if s.upNow = some p then (s.setRed { s.red with uplinkUsed := some p }).pathChange else s

/-- A link is UP: its Chain is discovered, and what is held for it is resent. -/
def State.portUp (s : State) (p : Nat) : State :=
  if s.lstate p = lsUp then s
  else
    let s := (s.setLstate p lsUp).eachNode (fun s => s.upwardAgain p)
    ((s.chainEnds.filter (fun e => e.1 = p))).foldl State.discoverOn s

/-- A port goes DOWN: nothing is carried across it, its sessions' keys are erased, and what went upward on it moves to the next ranked
port (R347, R416, R176). Log entry 78 (DEDUCED). -/
def State.portDown (s : State) (p : Nat) : State :=
  if s.lstate p = lsDown then s
  else
    let held := (s.link p).any (fun l => l.heldReset)
    let s := s.modLink p (fun _ => { newLink p with heldReset := held })
    let s := s.setLnk { s.lnk with sess := s.lnk.sess.filter (fun x => x.port ≠ p) }
    let s := s.setTim { s.tim with used := s.tim.used.filter (fun x => x ≠ p) }
    let s := (s.setLstate p lsDown).inc (F.LNK_PORT_MISC_DOWN_COUNT p)
    let s := if s.fld F.BRU_INBAND_TGT_PORT = p then s.set F.BRU_INBAND_BUSY 0 else s
    s.eachNode State.upCheck

end Sys2Proof.Machine
end

