-- ==== Sys2Proof/Machine/Security.lean ====
section
/-! DEFINITION. The Pyrmeide root at work: sessions on links (R429 to R432), domain keys (R433), children's seals and their verification
(R426, R427), the version floor (R419), debug levels (R420) and attestation on request (R422, R443). -/

namespace Sys2Proof.Machine

/-! ### Sessions (R429, R430) -/

/-- Sessions of the build (R440). -/
def sessLimit : Build → Nat
  | .spoke => 8
  | .hub => 256

/-- The session of a port with a peer. -/
def State.sessAt (s : State) (p peer : Nat) : Option Sess := s.lnk.sess.find? (fun x => x.port = p && x.peer = peer)

/-- A session replaced or added. -/
def State.putSess (s : State) (x : Sess) : State :=
  s.setLnk { s.lnk with sess := s.lnk.sess.filter (fun y => !(y.port = x.port && y.peer = x.peer)) ++ [x] }

/-- Whether an exchange may run on a port: encrypted, its link up, and the root is powered, holds keys and is not RETIRED (R416, R437,
R438, R467); on the way out of HOLD the root is powered. -/
def State.keyxRuns (s : State) (p : Nat) : Bool :=
  s.loaded && s.on (F.LNK_PORT_FUNC_ENC p) && !s.keyless && s.lifecycle ≠ 4 && !(s.power = 2 && !s.on F.BLK_POWER_PEND_VALID) && (s.lstate p = lsHello || s.lstate p = lsUp)

/-- KEYX: this end's NONCE and ephemeral key. -/
def State.sendKeyx (s : State) (x : Sess) : State :=
  let (r, s) := s.originate 0x52 2 3 0 s.nowNs
    [(16, [13]), (20, toLE 4 s.ident), (24, x.myNonce), (40, publicKey x.myEph)]
  s.send x.port 2 (if s.on (F.LNK_PORT_FUNC_SWITCHED x.port) then 1 else 0) x.peer r

/-- An exchange opens at this end with a fresh NONCE and ephemeral key, for a KEY_ID. Log entry 11 (DESIGN CHOICE). -/
def State.startKeyx (s : State) (p peer keyId : Nat) : State :=
  let old := s.sessAt p peer
  if !s.keyxRuns p || (old.isNone && sessLimit s.build ≤ s.lnk.sess.length) then s
  else
    let (n, s) := s.fresh
    let blank : Sess := ⟨p, peer, false, false, 0, 0, [], 0, [], [], [], [], [], [], false, List.replicate 5 0, List.replicate 5 0⟩
    let x : Sess := { old.getD blank with
      nextId := keyId, myNonce := (List.range 16).map (Config.nonce n), myEph := Config.ephemeral n % (p384N - 1) + 1,
      peerNonce := [], peerEph := [] }
    (s.putSess x).sendKeyx x

/-- NONCE of the attestation that answers a KEYX: the first 16 bytes of SHA-384 of the asker's NONCE and the answerer's EPH_PK. -/
def bindNonce (nonce eph : Bytes) : Bytes := (sha384 (nonce ++ eph)).take 16

/-- This end's attestation goes to the peer of a session. -/
def State.sendAttest (s : State) (x : Sess) : State :=
  let (r, s) := s.attest (bindNonce x.peerNonce (publicKey x.myEph))
  s.send x.port 2 (if s.on (F.LNK_PORT_FUNC_SWITCHED x.port) then 1 else 0) x.peer r

/-- KEYX received: an end with no exchange open opens one, and each answers with its attestation. Inside a session it is a rekey. Log entry 87 (DEDUCED). -/
def State.keyxRx (s : State) (x : Rx) : State :=
  let peer := le x.bytes 20 4 % 2 ^ 20
  if !s.keyxRuns x.port then s
  else
    let s := match s.sessAt x.port peer with
      | none => s.startKeyx x.port peer 1
      | some y => if !y.formed || y.nextId ≠ y.keyId then s else s.startKeyx x.port peer (if x.enc then y.keyId + 1 else 1)
    match s.sessAt x.port peer with
    | none => s
    | some y =>
      let y : Sess := { y with peerNonce := slice x.bytes 24 16, peerEph := slice x.bytes 40 96 }
      (s.putSess y).sendAttest y

/-- A failed check of a peer. -/
def State.peerFail (s : State) (p : Nat) : State := (s.inc F.SEC_LINK_STAT_ATT_FAIL).secFail p 4

/-- Whether a session may form with a unit of a lifecycle and ENDORSED (R437). -/
def State.mayPeer (s : State) (life : Nat) (endorsed : Bool) : Bool :=
  let plain (l : Nat) (e : Bool) : Bool := l = 1 || (l = 2 && !e)
  let own := s.fld F.SEC_STATE_ENDORSED = 1
  (s.lifecycle = 2 && own && life = 2 && endorsed) || (plain s.lifecycle own && plain life endorsed)

/-- The header SOURCE of a record equals the PEER_ID of the port's HELLO (R429); on a SWITCHED port, which has several peers, it names the
session's peer. Log entry 80 (DEDUCED). -/
def State.helloNames (s : State) (p : Nat) (b : Bytes) : Bool :=
  s.on (F.LNK_PORT_FUNC_SWITCHED p) || recSource b = s.fld (F.LNK_PORT_PEER_PEER_ID p)

/-- Whether a session may form with an operator endpoint (R437). -/
def State.mayOperate (s : State) : Bool := s.lifecycle = 1 || s.lifecycle = 2

/-- One direction's key and SALT (R430). Log entry 79 (DEDUCED). -/
def sessKey (z : Bytes) (name : String) (lo hi : Bytes) (keyId : Nat) : Bytes := (hmac384 z (ascii name ++ lo ++ hi ++ toLE 4 keyId)).take 36

/-- The domain keys that a new downstream peer is sent: the generation in force and pending ones (R433). Log entry 88 (DEDUCED). -/
def State.domainKeysTo (s : State) (p peer : Nat) : State :=
  let now := s.domainKeyAt s.tim.epoch
  let ks := s.sec.dkeys.filter (fun k => s.tim.epoch < k.2.1 || some k.2.2 = now)
  ks.foldl (fun (s : State) k =>
    let (r, s) := s.originate 0x63 2 2 0 s.nowNs [(16, toLE 4 k.1), (24, toLE 6 k.2.1), (32, k.2.2)]
    s.send p 2 (if s.on (F.LNK_PORT_FUNC_SWITCHED p) then 1 else 0) peer r) s

/-- The peer of a session has been checked: the keys of its KEY_ID are derived; a first session takes the port UP, a rekey keeps the old
receive key for a while. -/
def State.formSession (s : State) (x : Sess) (operator : Bool) : State :=
  let z := ecdh x.myEph x.peerEph
  let low := s.ident < x.peer
  let nLo := if low then x.myNonce else x.peerNonce
  let nHi := if low then x.peerNonce else x.myNonce
  let tLo := sessKey z "XLP-LO" nLo nHi x.nextId
  let tHi := sessKey z "XLP-HI" nLo nHi x.nextId
  let rekey := x.formed && x.nextId = x.keyId + 1
  let y : Sess := { x with
    formed := true, operator := operator, keyId := x.nextId, txKey := if low then tLo else tHi, rxKey := if low then tHi else tLo,
    oldRxKey := if rekey then x.rxKey else [], oldRxNext := x.rxNext, overlap := false,
    txCtr := List.replicate 5 0, rxNext := List.replicate 5 0 }
  let s := s.putSess y
  if rekey then (s.inc F.SEC_KEY_STAT_REKEYS).secChange x.port y.keyId 1
  else
    let s := s.secChange x.port 0 0
    let s := if s.lstate x.port = lsHello then s.portUp x.port else s
    if s.downPorts.contains x.port then s.domainKeysTo x.port x.peer else s

/-- The checks of an attestation record against a session (R421, R422, R429). -/
def State.attestOk (s : State) (x : Sess) (b : Bytes) : Bool :=
  let tail := slice b 336 440
  let bind := le tail 144 1
  x.peerEph ≠ [] && slice b 24 16 = bindNonce x.myNonce x.peerEph
    && ecdsaVerify (tailAlias tail) (sha384 (slice b 0 240)) (slice b 240 96) && le b 52 4 = aliasIdOf (tailAlias tail)
    && s.tailOk (slice b 40 8) tail (bit (le b 22 1) 7) && s.mayPeer (bind % 8) (bit (le b 22 1) 7)

/-- An attestation record received: it completes the exchange under way; in a session without one it is checked afresh (R420). Log entry 87 (DEDUCED). -/
def State.attestRx (s : State) (x : Rx) : State :=
  if !s.keyxRuns x.port then s
  else match s.sessAt x.port (recSource x.bytes) with
    | none => s.peerFail x.port
    | some y =>
      if !s.attestOk y x.bytes || !s.helloNames x.port x.bytes then s.peerFail x.port
      else
        let s := if bits (le x.bytes 480 1) 4 3 = 2 then s.inc F.SEC_KEY_STAT_OPEN_PEERS else s
        if y.formed && y.nextId = y.keyId then s else s.formSession y false

/-- An operator's credential record received. Log entry 87 (DEDUCED). -/
def State.credentialRx (s : State) (x : Rx) : State :=
  let b := x.bytes
  if !s.keyxRuns x.port then s
  else match s.sessAt x.port (recSource b) with
    | none => s.peerFail x.port
    | some y =>
      if !s.authentic 5 (slice b 32 224) then (s.authReject x.port 3).peerFail x.port
      else if y.peerEph = [] || slice b 16 16 ≠ bindNonce y.myNonce y.peerEph
          || !ecdsaVerify (slice b 32 96) (sha384 (slice b 0 256)) (slice b 256 96) || !s.mayOperate || !s.helloNames x.port b then s.peerFail x.port
      else if y.formed && y.nextId = y.keyId then s else s.formSession y true

/-- Every 10 ms a port that a failed check left in HELLO tries again. -/
def State.sessionRetry (s : State) (p : Nat) : State :=
  if s.lstate p ≠ lsHello then s
  else (s.lnk.sess.filter (fun x => x.port = p && !x.formed)).foldl (fun (s : State) x => s.startKeyx p x.peer 1) s

/-- A session whose count in some class has reached 2³² runs the exchange again. Log entry 87 (DEDUCED). -/
def State.rekey (s : State) (p : Nat) : State :=
  (s.lnk.sess.filter (fun x => x.port = p && x.formed && x.nextId = x.keyId && x.txCtr.any (fun n => 2 ^ 32 ≤ n))).foldl
    (fun (s : State) x => s.startKeyx p x.peer (x.keyId + 1)) s

/-- 1 ms after the first frame under a new key, the old one ends. -/
def State.overlapEnds (s : State) (p : Nat) : State :=
  s.setLnk { s.lnk with sess := s.lnk.sess.map (fun (x : Sess) => if x.port = p && x.overlap then { x with oldRxKey := [], overlap := false } else x) }

/-! ### Who may be privileged (R432, R433) -/

/-- PRIV_FROM bit 0: an operator endpoint is the peer on the port. -/
def State.fromOperator (s : State) (p : Nat) : Bool := s.lnk.sess.any (fun x => x.port = p && x.formed && x.operator)

/-- PRIV_FROM bit 1: the port is a ranked upward or time port, or leads to the lateral sibling. -/
def State.fromAbove (s : State) (p : Nat) : Bool :=
  s.upstreams.contains p || s.uplinks.contains p || s.fld F.LNK_TKO_SIB_PORT = p

/-- PRIV_FROM bit 2: an attested unit of the same domain. -/
def State.fromDomain (s : State) (p : Nat) (b : Bytes) : Bool :=
  s.lnk.sess.any (fun x => x.port = p && x.formed && !x.operator) && (s.hub || recNode b || recSource b / 2 ^ 17 = s.ident / 2 ^ 17)

/-- A record on a port comes from a source that the given bits of PRIV_FROM admit. -/
def State.admits (s : State) (mask p : Nat) (b : Bytes) : Bool :=
  let m := s.fld F.SEC_CTRL_PRIV_FROM
  (bit mask 0 && bit m 0 && s.fromOperator p) || (bit mask 1 && bit m 1 && s.fromAbove p) || (bit mask 2 && bit m 2 && s.fromDomain p b)

/-! ### Domain keys (R433) -/

/-- A generation is in force: DKEY_VALID, DKEY_GEN and an event. Log entry 88 (DEDUCED). -/
def State.dkeyInForce (s : State) (gen : Nat) : State := ((s.set F.SEC_STATE_DKEY_VALID 1).set F.SEC_STATE_DKEY_GEN gen).secChange 0 gen 2

/-- A domain key record: installed, and forwarded on every downstream session. Log entry 88 (DEDUCED). -/
def State.domainKeyRx (s : State) (x : Rx) : State :=
  let b := x.bytes
  if !x.enc || !s.admits 3 x.port b then s
  else
    let gen := le b 16 4
    let target := le b 24 6
    let s := s.setSec { s.sec with dkeys := s.sec.dkeys.filter (fun k => k.1 ≠ gen) ++ [(gen, target, slice b 32 32)] }
    let s := if target ≤ s.tim.epoch && s.domainKeyAt s.tim.epoch = some (slice b 32 32) then s.dkeyInForce gen else s
    (s.lnk.sess.filter (fun y => y.formed && y.port ≠ x.port && s.downPorts.contains y.port)).foldl (fun (s : State) y =>
      s.send y.port 2 (if s.on (F.LNK_PORT_FUNC_SWITCHED y.port) then 1 else 0) y.peer b) s

/-- At the boundary that opens an epoch: a generation takes force, and those superseded 4 epochs ago go. Log entry 88 (DEDUCED). -/
def State.secBoundary (s : State) (e : Nat) : State :=
  let ks := s.sec.dkeys
  let s := s.setSec { s.sec with dkeys := ks.filter (fun k => !ks.any (fun n => k.2.1 < n.2.1 && n.2.1 + 4 ≤ e)) }
  ((ks.filter (fun k => k.2.1 = e)).drop ((ks.filter (fun k => k.2.1 = e)).length - 1)).foldl (fun (s : State) k => s.dkeyInForce k.1) s

/-! ### Verification behind the merge (R427) -/

/-- Identity tails that the root caches (R440). -/
def tailLimit : Build → Nat
  | .spoke => 64
  | .hub => 512

/-- The oldest cached item goes when the cache is full. -/
def cacheIn {α : Type} (limit : Nat) (x : α) (l : List α) : List α := (l ++ [x]).drop (l.length + 1 - limit)

/-- A seal's signature and identity verify: SIG with the ALIAS_PK cached for its ALIAS_ID, else with that of its tail; DEV_SIG and ENDORSE
unless their keys are cached. What was verified is cached. Log entry 89 (DEDUCED). -/
def State.verifySeal (s : State) (b : Bytes) : Bool × State :=
  let aid := le b 36 4
  let tail := slice b 336 440
  let serial := slice b 40 8
  let known := s.sec.aliasCache.find? (fun c => c.1 = aid)
  let pk := match known with
    | some c => c.2
    | none => tailAlias tail
  let sig := ecdsaVerify pk (sha384 (slice b 0 240)) (slice b 240 96)
  let dev := known.isSome || (aid = aliasIdOf pk && ecdsaVerify (tailDevPk tail) (sha384 (serial ++ slice tail 0 145)) (tailDevSig tail))
  let endorsed := bit (le b 22 1) 7 || s.fld F.SEC_STATE_ENDORSED = 1
  let owner := known.isSome || s.sec.devCache.contains (tailDevPk tail) || !endorsed
    || ecdsaVerify s.ownerPk (sha384 (serial ++ tailDevPk tail)) (tailEndorse tail)
  if s.keyless then (true, s)
  else if sig && dev && owner then
    if known.isSome then (true, s)
    else
      let n := tailLimit s.build
      (true, s.setSec { s.sec with
        aliasCache := cacheIn n (aid, pk) s.sec.aliasCache
        devCache := if s.sec.devCache.contains (tailDevPk tail) then s.sec.devCache else cacheIn n (tailDevPk tail) s.sec.devCache })
  else (false, s)

/-- SEC_KEY_STAT.UNVERIFIED shows the children that are UNVERIFIED now. Log entry 89 (DEDUCED). -/
def State.showUnverified (s : State) : State :=
  let other := match s.tko with
    | some t => t.rounds
    | none => []
  s.set F.SEC_KEY_STAT_UNVERIFIED (min 255 ((s.sec.rounds ++ other).filter (fun r => r.unverified)).length)

/-- A child becomes UNVERIFIED, or is so no longer. -/
def State.markChild (s : State) (key : Nat) (bad : Bool) : State :=
  s.eachNode (fun s => s.setSec { s.sec with rounds := s.sec.rounds.map (fun (r : Round) => if r.key = key then { r with unverified := bad } else r) })

/-- The verification at the head of the queue completes. -/
def State.verifyDone (s : State) : State :=
  match s.sec.verify with
  | [] => s
  | j :: rest =>
    let (ok, s) := (s.setSec { s.sec with verify := rest }).verifySeal j.record
    if ok then (s.markChild j.key false).showUnverified
    else ((s.markChild j.key true).chainFail F.SEC_CHAIN_STAT_SIG_FAIL j.key 6).showUnverified

/-- Seals still waiting LAG rounds after their own are dropped. Log entry 89 (DEDUCED). -/
def State.lagExpiry (s : State) : State :=
  let lag := max 1 (s.fld F.SEC_CTRL_LAG)
  let late := s.sec.verify.filter (fun j => j.round + lag ≤ s.sec.roundNo)
  let s := s.setSec { s.sec with verify := s.sec.verify.filter (fun j => !(j.round + lag ≤ s.sec.roundNo)) }
  late.foldl (fun (s : State) _ => (s.inc F.SEC_CHAIN_STAT_LAG_EXCEEDED).secChange 0 0 5) s

/-! ### The floor (R419), debug levels (R420) and attestation on request (R422) -/

/-- A write of SEC_FLOOR_SET raises the floor; a lower value is ignored. -/
def State.floorSet (s : State) (w : Word) : State :=
  let g := w.toNat % 65536
  if g ≤ s.fld F.SEC_FLOOR_GEN then s else (s.set F.SEC_FLOOR_GEN g).secChange 0 g 4

/-- The debug level changes: a new alias key, a fresh attestation on every session, and an event. -/
def State.setDebug (s : State) (level : Nat) : State :=
  if s.debug = level then s
  else
    let s := (s.set F.SEC_STATE_DEBUG level).newAlias
    let s := s.setSec { s.sec with notAfter := none }
    let s := (s.lnk.sess.filter (fun x => x.formed && !x.operator)).foldl State.sendAttest s
    s.secChange 0 level 3

/-- A request is refused. -/
def State.debugRefuse (s : State) : State := s.set F.SEC_DBG_REFUSED 1

/-- MAGIC of a debug token. -/
def tokenMagic : Nat := 0x4E4B5458

/-- A write of SEC_DBG: a lower level takes effect at once; a raise is taken, fetches its token, or is refused. Log entry 90 (DEDUCED). -/
def State.debugWrite (s : State) (w : Word) : State :=
  let level := bits w.toNat 1 0
  let s := s.plainWrite 0x0B0018 w
  if s.lifecycle = 4 || level = s.debug then s
  else if level < s.debug then s.setDebug level
  else if level = 3 then s.debugRefuse
  else if s.lifecycle = 0 || s.lifecycle = 3 then s.setDebug level
  else if !bit w.toNat 2 || s.on F.SEC_DBG_BUSY then s.debugRefuse
  else
    let s := (s.setSec { s.sec with tokenLevel := level, token := none }).set F.SEC_DBG_BUSY 1
    if s.on F.SEC_DBG_SRC then s.setSec { s.sec with token := some ((s.stagedObject tokenMagic).getD []) }
    else s.setPorts { s.ports with jobs := s.ports.jobs ++ [⟨.token, s.pair F.SEC_TOKEN_LO F.SEC_TOKEN_HI / 16 * 16, 144, [], true⟩] }

/-- The fetched token is checked: the level is raised, or the request refused. Log entry 90 (DEDUCED). -/
def State.tokenChecked (s : State) : State :=
  match s.sec.token with
  | none => s
  | some t =>
    let s := (s.setSec { s.sec with token := none }).set F.SEC_DBG_BUSY 0
    let until_ := le t 8 8
    if t.length < 144 then s.debugRefuse
    else if le t 0 4 ≠ tokenMagic || !s.authentic 4 (t.take 144) || (s.lifecycle = 2 && slice t 116 8 = List.replicate 8 0) then
      (s.authReject 0 3).debugRefuse
    else if le t 4 1 < s.sec.tokenLevel || (until_ ≠ 0 && until_ ≤ s.tim.epoch) || s.lifecycle = 4 then s.debugRefuse
    else
      let s := if s.debug < s.sec.tokenLevel then s.setDebug s.sec.tokenLevel else s
      s.setSec { s.sec with notAfter := if until_ = 0 then none else some until_ }

/-- The epoch NOT_AFTER has opened: the level falls to SEALED. -/
def State.debugExpiry (s : State) : State :=
  match s.sec.notAfter with
  | some e => if e ≤ s.tim.epoch then (s.setSec { s.sec with notAfter := none }).setDebug 0 else s
  | none => s

/-- A write of SEC_ATT: GO asks for an attestation record over SEC_ATT_NONCE. Log entry 90 (DEDUCED). -/
def State.attestAsk (s : State) (w : Word) : State :=
  let s := s.plainWrite 0x0B0024 w
  if !bit w.toNat 0 || s.on F.SEC_ATT_BUSY then s
  else
    let nonce := (List.range 4).flatMap (fun i => toLE 4 (s.fld (F.SEC_ATT_NONCE i)))
    (s.setSec { s.sec with forming := some nonce }).set F.SEC_ATT_BUSY 1

/-- The record is signed: it stands in the window at 0x5B_0000. -/
def State.attestDone (s : State) : State :=
  match s.sec.forming with
  | none => s
  | some nonce =>
    let (r, s) := s.attest nonce
    ((s.setSec { s.sec with forming := none, window := r }).set F.SEC_ATT_BUSY 0).set F.SEC_ATT_DONE 1

/-! ### Meanings -/

/-- KEYX. -/
def execKeyx (r : Rx) (s : State) : Host.Outcome State Fault Refusal := done (((s.reach r.t).consume r).keyxRx r)

/-- ATTESTATION_RECORD. -/
def execAttestationRecord (r : Rx) (s : State) : Host.Outcome State Fault Refusal := done (((s.reach r.t).consume r).attestRx r)

/-- CREDENTIAL_RECORD. -/
def execCredentialRecord (r : Rx) (s : State) : Host.Outcome State Fault Refusal := done (((s.reach r.t).consume r).credentialRx r)

/-- SESSION_RETRY. -/
def execSessionRetry (port : Nat) (s : State) : Host.Outcome State Fault Refusal := done (s.sessionRetry port)

/-- REKEY. -/
def execRekey (port : Nat) (s : State) : Host.Outcome State Fault Refusal := done (s.rekey port)

/-- KEY_OVERLAP_EXPIRY. -/
def execKeyOverlapExpiry (port : Nat) (s : State) : Host.Outcome State Fault Refusal := done (s.overlapEnds port)

/-- DOMAIN_KEY_RECORD. -/
def execDomainKeyRecord (r : Rx) (s : State) : Host.Outcome State Fault Refusal := done (((s.reach r.t).consume r).domainKeyRx r)

/-- SEAL_RECORD. -/
def execSealRecord (r : Rx) (s : State) : Host.Outcome State Fault Refusal :=
  done (((s.reach r.t).consume r).atNode (recKey r.bytes) r.port (fun s => s.sealArrives r))

/-- SIG_VERIFY_DONE. -/
def execSigVerifyDone (s : State) : Host.Outcome State Fault Refusal := done s.verifyDone

/-- VERIFY_LAG_EXPIRY. -/
def execVerifyLagExpiry (s : State) : Host.Outcome State Fault Refusal := done s.lagExpiry

/-- FLOOR_SET: a write of SEC_FLOOR_SET. -/
def execFloorSet (a : Access) (w : Word) (s : State) : Host.Outcome State Fault Refusal :=
  done (s.guardWrite a 0x0B0014 (fun s => s.floorSet w))

/-- DEBUG_LEVEL_REQUEST: a write of SEC_DBG. -/
def execDebugLevelRequest (a : Access) (w : Word) (s : State) : Host.Outcome State Fault Refusal :=
  done (s.guardWrite a 0x0B0018 (fun s => s.debugWrite w))

/-- TOKEN_CHECKED. -/
def execTokenChecked (s : State) : Host.Outcome State Fault Refusal := done s.tokenChecked

/-- DEBUG_TOKEN_EXPIRY. -/
def execDebugTokenExpiry (s : State) : Host.Outcome State Fault Refusal := done s.debugExpiry

/-- ATTESTATION_REQUEST: a write of SEC_ATT. -/
def execAttestationRequest (a : Access) (w : Word) (s : State) : Host.Outcome State Fault Refusal :=
  done (s.guardWrite a 0x0B0024 (fun s => s.attestAsk w))

/-- ATTESTATION_FORMED. -/
def execAttestationFormed (s : State) : Host.Outcome State Fault Refusal := done s.attestDone

end Sys2Proof.Machine
end

