-- ==== Sys2Proof/Machine/LinkLayer.lean ====
section
/-! DEFINITION. The link layer: groups and frames out (R339, R340, R342, R344, R345) and in (R343, R346), silence (R347), ageing (R348),
frames passed on, and Control answers (R349, R386). -/

namespace Sys2Proof.Machine

/-! ### Control answers (R349, R350, R386) -/

/-- STATUS codes. -/
def stOk : Nat := 0
def stLate : Nat := 1
def stBusy : Nat := 2
def stQuota : Nat := 3
def stShed : Nat := 4
def stDenied : Nat := 5
def stNoRoute : Nat := 6
def stAbsent : Nat := 7
def stUpdating : Nat := 8
def stDecode : Nat := 9
def stRetry : Nat := 10
def stTimeout : Nat := 11

/-- Fields of a Control request. -/
def crTxn (b : Bytes) : Nat := le b 16 4
def crWrite (b : Bytes) : Bool := le b 20 1 = 1
def crPriv (b : Bytes) : Bool := bit (le b 21 1) 0
def crDeadline (b : Bytes) : Nat := le b 22 2
def crAddr (b : Bytes) : Nat := le b 24 8 % 2 ^ 48
def crData (b : Bytes) : Word := BitVec.ofNat 32 (le b 32 4)

/-- A request as it is queued. -/
def ctlOf (port at_ : Nat) (enc priv : Bool) (b : Bytes) : CtlReq :=
  ⟨port, recSource b, recNode b, recStall b, priv, crTxn b, crWrite b, crAddr b, crData b, crDeadline b, at_, enc⟩

/-- The Control response to a request; ABSENT and UPDATING are counted (R386). -/
def State.respond (s : State) (q : CtlReq) (status : Nat) (data : Word) (retryUs : Nat) : State :=
  let us := min 0xFFFF ((s.nowNs - q.at_) / 1000)
  let (r, s) := s.originate 0x51 2 1 q.stall s.nowNs
    [(16, toLE 4 q.txn), (20, toLE 1 status), (22, toLE 2 us), (24, toLE 4 data.toNat), (28, toLE 4 retryUs)]
  let s := if status = stAbsent then s.inc F.BRU_ANSWER_STAT_ABSENT else if status = stUpdating then s.inc F.BRU_ANSWER_STAT_UPDATING else s
  s.send q.port 2 (if q.node then 2 else 1) q.source r

/-- ABSENT with RETRY_US of BRU_RETRY. Log entry 97 (DEDUCED). -/
def State.respondAbsent (s : State) (q : CtlReq) : State := s.respond q stAbsent 0 (s.fld F.BRU_RETRY)

/-! ### Routing -/

/-- The port that leads to a child: its head's, or its tail's when that is not UP. -/
def State.kidPort (s : State) (c : Child) : Nat := if s.lstate c.portA ≠ lsUp && c.portB < s.build.ports && s.lstate c.portB = lsUp then c.portB else c.portA

/-- The port toward a unit or node, whether its link is UP or not: a child's, a Chain member's, the other Chain port of a member, else the
upward port. -/
def State.routePort (s : State) (key : Nat) (inPort : Option Nat) : Option Nat :=
  match s.children.find? (fun c => c.key = key) with
  | some c => some (s.kidPort c)
  | none => match s.lnk.replies.find? (fun r => r.2.2.2 = key) with
    | some r => some r.1
    | none =>
      let chain := if s.hub then none else (s.funcPorts 1).find? (fun p => some p ≠ inPort && s.lstate p = lsUp && (inPort.any (fun q => s.fld (F.LNK_PORT_FUNC q) = 1)))
      chain.orElse (fun _ => s.upNow.filter (fun p => some p ≠ inPort))

/-- The status with which a neighbour answers for a target whose port is not UP (R386). -/
def State.awayStatus (s : State) (p : Nat) : Nat :=
  if (s.link p).any (fun l => l.heldReset) || s.fld (F.LNK_PORT_STATE_DECL p) = 2 then stAbsent else stNoRoute

/-- A request that cannot go on is answered here. -/
def State.answerAway (s : State) (q : CtlReq) (p : Option Nat) : State :=
  match p with
  | some p => if s.awayStatus p = stAbsent then s.respondAbsent q else (s.inc F.LNK_SVC_STAT2_NO_ROUTE).respond q stNoRoute 0 0
  | none => (s.inc F.LNK_SVC_STAT2_NO_ROUTE).respond q stNoRoute 0 0

/-- PRIV of a request is honoured only when it came encrypted from a source that PRIV_FROM admits; otherwise it is cleared, counted and
logged (R432). Log entry 82 (DEDUCED). -/
def State.privCheck (s : State) (port : Nat) (enc : Bool) (b : Bytes) : Bool × State :=
  if !crPriv b then (false, s)
  else if enc && s.admits 7 port b then (true, s)
  else (false, (s.inc F.SEC_LINK_STAT_PRIV_STRIP).secFail port 7)

/-- A request with PRIV as given. -/
def setPriv (b : Bytes) (priv : Bool) : Bytes := closeRec (overlay b 21 (toLE 1 (le b 21 1 / 2 * 2 + b2n priv)))

/-- A Control request is passed on toward a unit, or answered for it. -/
def State.passRequest (s : State) (x : Rx) (p : Option Nat) (destKind dest : Nat) : State :=
  let (priv, s) := s.privCheck x.port x.enc x.bytes
  let ok := p.any (fun p => s.lstate p = lsUp)
  if ok then s.send (p.getD 0) 2 destKind dest (if crPriv x.bytes = priv then x.bytes else setPriv x.bytes priv)
  else s.answerAway (ctlOf x.port s.nowNs x.enc priv x.bytes) p

/-- A frame for another unit or node is passed on (R342). -/
def State.passOn (s : State) (x : Rx) (destKind dest : Nat) : State :=
  let p := s.routePort (dest + (if destKind = 2 then 2 ^ 20 else 0)) (some x.port)
  if recKind x.bytes = 0x50 then s.passRequest x p destKind dest
  else match p with
    | some p => s.send p (recClass x.bytes) destKind dest x.bytes
    | none => s

/-! ### Frames out -/

/-- Receive buffer of a class in flits: the image's allocation, before it the defaults (R344, R374). Log entry 79 (DEDUCED). -/
def State.creditOf (s : State) (p c : Nat) : Nat :=
  16 * (if s.loaded then bits (s.fld (F.LNK_PORT_CREDIT p)) (6 * c + 5) (6 * c) else [2, 2, 8, 36, 16].getD c 0)

/-- The session that encrypts a frame. -/
def State.sessFor (s : State) (p : Nat) (f : Frame) : Option Sess :=
  let xs := s.lnk.sess.filter (fun x => x.port = p && x.formed)
  match xs.find? (fun x => f.destKind ≠ 0 && x.peer = f.dest) with
  | some x => some x
  | none => xs.head?

/-- The envelope (R342); TAG and ECRC are laid in later. Log entry 79 (DEDUCED). -/
def envelope (f : Frame) (flits keyId : Nat) (iv : Bytes) : Bytes :=
  layout 64 [(0, 4, f.dest % 2 ^ 20 + 2 ^ 20 * (f.destKind % 8) + 2 ^ 23 * f.cls), (4, 1, flits), (5, 1, b2n (!iv.isEmpty)), (8, 4, keyId)]
    |> fun e => overlay e 12 (slice iv 0 12)

/-- A frame's flits: the envelope, then the record, encrypted when it is to be (R342, R430). -/
def State.frameFlits (s : State) (p : Nat) (f : Frame) : List Bytes × State :=
  let n := (f.bytes.length + 63) / 64
  let close (e : Bytes) : Bytes := overlay e 60 (toLE 4 (crc32c (e.take 60)))
  match if f.enc then s.sessFor p f else none with
  | none => (close (envelope f n 0 []) :: pieces n 64 f.bytes, s)
  | some x =>
    let count := x.txCtr.getD f.cls 0
    let iv := slice x.txKey 32 4 ++ toLE 8 (f.cls * 2 ^ 61 + count)
    let e := envelope f n x.keyId iv
    let key := x.txKey.take 32
    let ct := gcmCrypt key iv f.bytes
    let e := close (overlay e 24 (gcmTag key iv (e.take 24) ct))
    (e :: pieces n 64 ct, s.putSess { x with txCtr := modNth x.txCtr f.cls (fun k => k + 1) })

/-- What the stamp of a message leaving on a port settles: the precise stamp of a queued follow-up, or t1 of an exchange (R73, R75). -/
def State.stampEgress (s : State) (p t : Nat) (b : Bytes) : State :=
  if recKind b ≠ 0x10 then s
  else
    let st := s.egress p t
    let follow (typ : Nat) : State := s.modLink p (fun l => { l with txq := l.txq.map (fun (f : Frame) =>
      if recKind f.bytes = 0x10 && ptpType f.bytes = typ && ptpSeqId f.bytes = ptpSeqId b then { f with bytes := restamp f.bytes st } else f) })
    match ptpType b with
    | 0 => follow 8
    | 3 => follow 10
    | 2 => s.setTim { s.tim with pdelay := s.tim.pdelay.map (fun (d : Pdelay) => if d.port = p && d.seq = ptpSeqId b then { d with t1 := st } else d) }
    | _ => s

/-- Flits of the frame of a class in progress on a port. -/
def LinkSt.inProgress (l : LinkSt) (c : Nat) : List Bytes := ((l.cur.find? (fun x => x.1 = c)).map (fun x => x.2)).getD []

/-- The first frame queued of a class. -/
def LinkSt.firstOf (l : LinkSt) (c : Nat) : Option Frame := l.txq.find? (fun f => f.cls = c)

/-- The receiver's free credit of a class covers a frame of n flits. Log entry 79 (DEDUCED). -/
def State.fits (s : State) (l : LinkSt) (c n : Nat) : Bool :=
  let out := (l.sent.getD c 0 + 4096 - l.peerFreed.getD c 0) % 4096
  out + n ≤ s.creditOf l.port c

/-- A class has a flit ready: of its frame in progress, or of a frame that its credit covers. -/
def State.flitReady (s : State) (l : LinkSt) (c : Nat) : Bool :=
  l.inProgress c ≠ [] || (l.firstOf c).any (fun f => s.fits l c (1 + (f.bytes.length + 63) / 64))

/-- A class's next frame waits for credit. -/
def State.creditWaits (s : State) (l : LinkSt) (c : Nat) : Bool :=
  l.inProgress c = [] && (l.firstOf c).any (fun f => !s.fits l c (1 + (f.bytes.length + 63) / 64))

/-- One flit of a class leaves. -/
def State.takeFlit (s : State) (p c : Nat) (flits : List Bytes) : State :=
  s.modLink p (fun (l : LinkSt) => { l with
    cur := (c, flits) :: l.cur.filter (fun x => x.1 ≠ c)
    sent := modNth l.sent c (fun n => (n + 1) % 4096) })

/-- One payload slot is filled: its MAP entry and its flit (R340, R345). -/
def State.fillSlot (s : State) (p t : Nat) : (Nat × Bytes) × State :=
  match s.link p with
  | none => ((0, zeros 64), s)
  | some l =>
    let s := if (List.range 5).any (s.creditWaits l) then s.inc (F.LNK_PORT_CWAIT p) else s
    match (List.range 5).find? (s.flitReady l) with
    | none => ((0, zeros 64), s)
    | some c =>
      let s := if (List.range 5).any (fun d => c < d && l.inProgress d ≠ []) then s.inc (F.LNK_PORT_PREEMPT p) else s
      let s := s.wrapInc (F.LNK_PORT_TX p)
      match l.inProgress c with
      | f :: rest => ((c + 16, f), s.takeFlit p c rest)
      | [] => match l.firstOf c with
        | none => ((0, zeros 64), s)
        | some f =>
          let s := s.modLink p (fun (l : LinkSt) => { l with txq := eraseFirst (fun y => y == f) l.txq })
          let (flits, s) := s.frameFlits p f
          let s := s.stampEgress p t f.bytes
          ((c + 24, flits.headD (zeros 64)), s.takeFlit p c flits.tail)

/-- Payload slots filled one after another. -/
def State.fillSlots (s : State) (p t : Nat) : Nat → List (Nat × Bytes) × State
  | 0 => ([], s)
  | n + 1 =>
    let (x, s) := s.fillSlot p t
    let (xs, s) := s.fillSlots p t n
    (x :: xs, s)

/-- The control flit (R340). Log entry 78 (DEDUCED). -/
def State.controlFlit (s : State) (l : LinkSt) (gseq : Nat) (map : List Nat) : Bytes :=
  let m := map.foldr (fun e v => e + 32 * v) 0
  let credit := l.freed.foldr (fun n v => n % 4096 + 4096 * v) 0
  let c := layout 64 [(0, 4, gseq), (4, 10, m), (14, 2, b2n l.askRetry + 2 * b2n (s.lstate l.port = lsRelay)), (16, 4, l.rxAck), (20, 8, credit),
    (28, 4, crc32c l.prev.flatten)]
  overlay c 60 (toLE 4 (crc32c (c.take 60)))

/-- The INBAND_RESET that waited for its slot has left on a port: DONE, and an event (R388, R394). -/
def State.inbandLeft (s : State) (p : Nat) : State :=
  let waits := s.lnk.ports.any (fun l => l.txq.any (fun f => le f.bytes 0 1 = 0x52 && le f.bytes 16 1 = 11))
  if s.on F.BRU_INBAND_BUSY && !waits then
    (((s.set F.BRU_INBAND_BUSY 0).set F.BRU_INBAND_DONE 1).log 0x3B 4 p 0).alertIf F.BRU_CTRL_ALERT_EN 10
  else s

/-- The next group leaves on a port: the next group to resend, an idle group while 64 are unacknowledged, else a new one (R339, R346). Log entry 78 (DEDUCED). -/
def State.groupSend (s : State) (p t : Nat) : State :=
  match s.link p with
  | none => s
  | some l =>
    if s.lstate p = lsDown || !s.ports.powered then s
    else match l.resend with
      | g :: rest =>
        (s.modLink p (fun (l : LinkSt) => { l with resend := rest, prev := g.tail, wire := g })).inc (F.LNK_PORT_REPLAY_REPLAYS p)
      | [] =>
        if 64 ≤ l.sentGroups.length then
          -- an idle group takes no number of its own: it repeats that of the group before it
          s.modLink p (fun (l : LinkSt) =>
            let c := s.controlFlit l ((l.gseq + 2 ^ 32 - 1) % 2 ^ 32) (List.replicate 15 0)
            { l with wire := c :: List.replicate 15 (zeros 64), askRetry := false })
        else
          let (xs, s) := s.fillSlots p t 15
          let s := s.inbandLeft p
          s.modLink p (fun (l : LinkSt) =>
            let g := s.controlFlit l l.gseq (xs.map (fun x => x.1)) :: xs.map (fun x => x.2)
            { l with gseq := (l.gseq + 1) % 2 ^ 32, prev := g.tail, wire := g, sentGroups := l.sentGroups ++ [g], askRetry := false })

/-! ### Frames in -/

/-- Record kinds that the chapters define. -/
def definedKinds : List Nat :=
  [0x10, 0x11, 0x20, 0x21, 0x22, 0x23, 0x24, 0x25, 0x26, 0x27, 0x28, 0x2A, 0x2D, 0x2E, 0x2F, 0x31, 0x32, 0x33, 0x40, 0x41, 0x42, 0x50, 0x51, 0x52,
   0x60, 0x61, 0x63, 0x64]

/-- BODY_CHK holds, where the record's layout has one: a chunk's stands at 60 and covers its data too; sample, PC-sample and broadcast
records and the shadow feed have none (R128, R326, R329, R341, R356, R361). -/
def bodyOk (b : Bytes) : Bool :=
  let k := recKind b
  if k = 0x32 || k = 0x33 || k = 0x2E || k = 0x2F then true
  else if k = 0x2D then le b 60 4 = crc32c (slice b 16 44 ++ slice b 64 (le b 40 2))
  else le b (b.length - 4) 4 = crc32c (slice b 16 (b.length - 20))

/-- Message types of IEEE 1588 that the block uses (R73). -/
def ptpUsed (b : Bytes) : Bool := [0, 2, 3, 8, 10].contains (ptpType b)

/-- A frame is rejected: its FRAME_ERR field and a Ledger entry (R343, R363). -/
def State.rejectFrame (s : State) (p : Nat) (f : Fld) (detail : Nat) : State := (s.inc f).log 0x32 detail p 0

/-- The record of an encrypted frame, if a session of the port opens it: the key in force, or the one before it while it is still accepted;
the count of its class must not have come before (R430). -/
def State.decrypt (s : State) (p : Nat) (env body : Bytes) : Option (Option Bytes × State) :=
  let iv := slice env 12 12
  let keyId := le env 8 4
  let ctr := le env 16 8
  let cls := ctr / 2 ^ 61
  let count := ctr % 2 ^ 61
  let opens (k : Bytes) : Bool := k ≠ [] && slice iv 0 4 = slice k 32 4 && gcmTag (k.take 32) iv (env.take 24) body = slice env 24 16
  let xs := s.lnk.sess.filter (fun x => x.port = p && x.formed)
  match xs.find? (fun x => x.keyId = keyId && opens x.rxKey) with
  | some x =>
    if count < x.rxNext.getD cls 0 then some (none, s.inc F.SEC_LINK_STAT_REPLAY)
    else
      let y : Sess := { x with rxNext := modNth x.rxNext cls (fun _ => count + 1), overlap := x.overlap || x.oldRxKey ≠ [] }
      some (some (gcmCrypt (x.rxKey.take 32) iv body), s.putSess y)
  | none => match xs.find? (fun x => x.keyId = keyId + 1 && opens x.oldRxKey) with
    | some x =>
      if count < x.oldRxNext.getD cls 0 then some (none, s.inc F.SEC_LINK_STAT_REPLAY)
      else some (some (gcmCrypt (x.oldRxKey.take 32) iv body), s.putSess { x with oldRxNext := modNth x.oldRxNext cls (fun _ => count + 1) })
    | none => none

/-- A record goes to those it is for: this unit or its takeover's node, the failed Hub's ports while it relays, or another unit (R342, R359). Log entry 84 (DEDUCED). -/
def State.routeRecord (s : State) (x : Rx) (destKind dest : Nat) : State :=
  let b := x.bytes
  let mine : State := s.setLnk { s.lnk with inbox := s.lnk.inbox ++ [x] }
  let mgmt := recKind b = 0x52 && destKind = 0
  let sib := s.fld F.LNK_TKO_SIB_PORT
  if s.on F.LNK_TKO_RELAYING && s.lstate x.port = lsRelay && !mgmt then s.send sib (recClass b) destKind dest b
  else if s.on F.LNK_TKO_RELAYING && x.port = sib && !mgmt then
    (s.portList.filter (fun p => s.lstate p = lsRelay)).foldl (fun (s : State) p => s.send p (recClass b) destKind dest b) s
  else match destKind with
    | 1 => if dest = s.ident && !s.hub then mine else s.passOn x destKind dest
    | 2 => if (dest = s.ident && s.hub) || s.tko.any (fun t => t.nodeId = dest) then mine else s.passOn x destKind dest
    | _ => mine

/-- A whole frame is checked and delivered (R343, R354, R431). -/
def State.frameRx (s : State) (p t : Nat) (flits : List Bytes) : State :=
  let env := flits.headD []
  let body := flits.tail.flatten
  if le env 60 4 ≠ crc32c (env.take 60) then s.rejectFrame p (F.LNK_PORT_FRAME_ERR_ECRC_FAIL p) 0
  else
    let enc := bit (le env 5 1) 0
    match if enc then s.decrypt p env body else some (some body, s) with
    | none => s.rejectFrame p (F.LNK_PORT_FRAME_ERR_GCM_FAIL p) 1
    | some (none, s) => s
    | some (some b, s) =>
      if le b 15 1 ≠ (crc8 (b.take 15)).toNat then s.rejectFrame p (F.LNK_PORT_FRAME_ERR_HCHK_FAIL p) 2
      else if !definedKinds.contains (recKind b) then s.inc (F.LNK_PORT_MISC_BAD_KIND p)
      else if !bodyOk b then s.rejectFrame p (F.LNK_PORT_FRAME_ERR_BODY_FAIL p) 3
      else if s.loaded && s.on (F.LNK_PORT_FUNC_ENC p) && !enc && !clearKind b then s.inc F.SEC_LINK_STAT_CLEAR_DROP
      else if recKind b = 0x10 && !ptpUsed b then s.inc (F.LNK_PORT_MISC_PTP_OTHER p)
      else if !s.carries p (recClass b) (recKind b) then s
      else
        let route := le env 0 4
        s.routeRecord ⟨p, t, enc, BitVec.ofNat 64 (le env 40 8), b⟩ (bits route 22 20) (route % 2 ^ 20)

/-- One payload flit joins the frame of its class; a whole frame is taken out of the buffer (R345). Log entry 79 (DEDUCED). -/
def State.flitRx (s : State) (p t entry : Nat) (flit : Bytes) : State :=
  match s.link p with
  | none => s
  | some l =>
    let c := entry % 8
    if !bit entry 4 then s
    else
      let s := s.wrapInc (F.LNK_PORT_RX p)
      let old := ((l.rxPart.find? (fun x => x.1 = c)).map (fun x => x.2)).getD []
      let part := if bit entry 3 then [flit] else if old.isEmpty then [] else old ++ [flit]
      let gone := if bit entry 3 then old.length else if old.isEmpty then 1 else 0
      let whole := !part.isEmpty && part.length = 1 + le (part.headD []) 4 1
      let free := gone + (if whole then part.length else 0)
      let s := s.modLink p (fun (l : LinkSt) => { l with
        rxPart := (if whole || part.isEmpty then [] else [(c, part)]) ++ l.rxPart.filter (fun x => x.1 ≠ c)
        freed := modNth l.freed c (fun n => (n + free) % 4096) })
      if whole then s.frameRx p t part else s

/-- A group known to be intact is delivered, and acknowledged (R346). Log entry 78 (DEDUCED). -/
def State.deliverGroup (s : State) (p t : Nat) (g : List Bytes) : State :=
  let ctl := g.headD []
  let map := le ctl 4 10
  let s := s.modLink p (fun (l : LinkSt) => { l with rxAck := le ctl 0 4, rxHeld := none })
  ((List.range 15).zip g.tail).foldl (fun (s : State) x => s.flitRx p t (map / 32 ^ x.1 % 32) x.2) s

/-- `a` lies at or before `b`, as sequence numbers of 32 bits. -/
def seqLe (a b : Nat) : Bool := decide ((b + 2 ^ 32 - a % 2 ^ 32) % 2 ^ 32 < 2 ^ 31)

/-- What an intact control flit says of this end's sending: ACK, CREDIT and RETRY_REQ (R340, R346). -/
def State.controlRx (s : State) (p : Nat) (ctl : Bytes) : State :=
  let ack := le ctl 16 4
  let credit := le ctl 20 8
  let s := s.modLink p (fun (l : LinkSt) =>
    let left (gs : List (List Bytes)) : List (List Bytes) := gs.filter (fun g => !seqLe (le (g.headD []) 0 4) ack)
    { l with sentGroups := left l.sentGroups, resend := left l.resend
             fails := if (left l.sentGroups).length = l.sentGroups.length then l.fails else 0
             peerFreed := (List.range 5).map (fun c => credit / 4096 ^ c % 4096) })
  if !bit (le ctl 14 2) 0 then s
  else
    let s := s.modLink p (fun (l : LinkSt) => { l with resend := l.sentGroups, fails := l.fails + 1 })
    match s.link p with
    | some l => if 16 ≤ l.fails then (s.log 0x31 0 p l.fails).portDown p else s
    | none => s

/-- A group arrives: the one held before it is delivered when both checks match; otherwise a resend is asked for (R346). Log entry 78 (DEDUCED). -/
def State.groupRx (s : State) (p t : Nat) (g : List Bytes) : State :=
  match s.link p with
  | none => s
  | some l =>
    if s.lstate p = lsDown || !s.ports.powered then s
    else
      let ctl := slice (g.headD []) 0 64
      let g := ctl :: (List.range 15).map (fun i => slice (g.tail.getD i []) 0 64)
      let good := le ctl 60 4 = crc32c (ctl.take 60)
      let fits := match l.rxHeld with
        | some h => le ctl 28 4 = crc32c h.tail.flatten
        | none => true
      let seq := le ctl 0 4
      let bad (s : State) : State :=
        let next := match l.rxHeld with
          | some h => le (h.headD []) 0 4
          | none => l.rxNext
        (s.modLink p (fun (l : LinkSt) => { l with rxHeld := none, rxNext := next, askRetry := true, waiting := true })).inc
          (F.LNK_PORT_REPLAY_GROUP_ERR p)
      if !good || !fits then bad s
      else
        let s := match l.rxHeld with
          | some h => s.deliverGroup p l.rxHeldT h
          | none => s
        let s := s.controlRx p ctl
        if seq = l.rxNext then
          s.modLink p (fun (l : LinkSt) => { l with rxHeld := some g, rxHeldT := t, rxNext := (seq + 1) % 2 ^ 32, waiting := false })
        else if seqLe seq l.rxNext || l.waiting then s
        else bad s

/-! ### Ageing (R348) -/

/-- The age in ns at which a queued frame of a class falls due; class 3 has none, class 2 only for requests. -/
def State.ageLimit (s : State) (f : Frame) : Option Nat :=
  match f.cls with
  | 0 => some s.tim.period
  | 1 => some (1000 * 2 ^ clampN 3 10 (s.fld F.TIM_SYNC_CFG_LOG_SYNC))
  | 2 => if recKind f.bytes = 0x50 then some (1000 * crDeadline f.bytes) else none
  | 4 => some (1000000 * max 1 (s.fld F.LNK_SVC_BULK_MS))
  | _ => none

/-- A newer message of the same type as an aged class 1 frame waits behind it. -/
def newerOf (q : List Frame) (f : Frame) : Bool :=
  q.any (fun g => g.cls = 1 && f.since < g.since && recKind g.bytes = recKind f.bytes
    && (recKind f.bytes ≠ 0x10 || ptpType g.bytes = ptpType f.bytes))

/-- An aged request is answered with SHED, toward its requester, or to the access of this unit that asked. -/
def State.shedOut (s : State) (p : Nat) (b : Bytes) : State :=
  let s := s.inc F.LNK_SVC_STAT1_SHED
  let key := recSource b + 2 ^ 20 * b2n (recNode b)
  if recSource b = s.ident && recNode b = s.hub then s
  else
    let q := ctlOf ((s.routePort key none).getD p) s.nowNs false false b
    s.respond q stShed 0 0

end Sys2Proof.Machine
end

