-- ==== Sys2Proof/Machine/Links.lean ====
section
/-! DEFINITION. Topology and failover: link up, HELLO and the cabling plan (R354), Chain discovery (R352, R353), Control requests out and in
(R349, R350, R386), the tray address space (R355), broadcast (R356), takeover (R359, R360), spare admission (R361) and split views (R362). -/

namespace Sys2Proof.Machine

/-! ### Link up and the cabling plan (R354) -/

/-- HELLO on a port: PEER_ID and PORT. Log entry 80 (DEDUCED). -/
def State.sendHello (s : State) (p : Nat) : State := s.mgmtEach [p] 1 [(20, toLE 4 s.ident), (24, toLE 1 p)]

/-- RESET_NOTICE once the link comes up after a reset (R384, R387). -/
def State.sendNotice (s : State) (p : Nat) : State :=
  if s.bru.notice = 0 || s.bru.noticePorts.contains p then s
  else
    let s := s.mgmtEach [p] 12 [(20, toLE 4 s.ident), (24, toLE 1 (s.bru.notice - 1)), (26, toLE 2 (s.fld F.BRU_RESET_COUNT))]
    s.setBru { s.bru with noticePorts := s.bru.noticePorts ++ [p] }

/-- A port that fuses have removed, or that an injected fault holds DOWN (R372, R455). -/
def State.portBarred (s : State) (p : Nat) : Bool :=
  s.bru.hidden.contains (tileNum s.build tkLink p) || (s.injected 2).any (fun i => i.target = p)

/-- A link comes up: its link layer starts afresh, and HELLO goes out. -/
def State.linkUp (s : State) (p : Nat) : State :=
  if s.build.ports ≤ p || s.lstate p ≠ lsDown || !s.ports.powered || s.portBarred p then s
  else
    let s := s.modLink p (fun _ => newLink p)
    let s := s.setLstate p lsHello
    (s.sendHello p).sendNotice p

/-- A port's plan names the peer and the peer port seen. -/
def State.planMet (s : State) (p peer port : Nat) : Bool :=
  !s.on (F.LNK_PORT_PLAN_PLAN_VALID p)
    || (s.fld (F.LNK_PORT_PLAN_PLAN_PEER p) = peer && s.fld (F.LNK_PORT_PLAN_PLAN_PORT p) = port)

/-- A port of the same FUNC that sees this port's planned peer while this one sees its. Log entry 75 (DEDUCED). -/
def State.swapMate (s : State) (p : Nat) : Option Nat :=
  s.portList.find? (fun q => q ≠ p && s.fld (F.LNK_PORT_FUNC q) = s.fld (F.LNK_PORT_FUNC p)
    && (s.lstate q = lsMiscabled) && s.on (F.LNK_PORT_PLAN_PLAN_VALID p) && s.on (F.LNK_PORT_PLAN_PLAN_VALID q)
    && s.planMet p (s.fld (F.LNK_PORT_PEER_PEER_ID q)) (s.fld (F.LNK_PORT_STATE_PEER_PORT q))
    && s.planMet q (s.fld (F.LNK_PORT_PEER_PEER_ID p)) (s.fld (F.LNK_PORT_STATE_PEER_PORT p)))

/-- Registers that name ports by role: the ranked upward ports, the ranked time ports and the Crier's. -/
def roleFields : List Fld :=
  [F.RED_UPLINK_PORT0, F.RED_UPLINK_PORT1, F.RED_UPLINK_PORT2, F.RED_UPLINK_PORT3, F.TIM_UPSTREAM_PORT0, F.TIM_UPSTREAM_PORT1,
   F.TIM_UPSTREAM_PORT2, F.TIM_UPSTREAM_PORT3, F.INF_CRIER_PORT_X0, F.INF_CRIER_PORT_X1]

/-- Two ports exchange their places in the registers given. -/
def State.exchange (s : State) (fs : List Fld) (p q : Nat) : State :=
  fs.foldl (fun (s : State) f => if s.fld f = p then s.set f q else if s.fld f = q then s.set f p else s) s

/-- A port whose peer is as planned goes on: UP without encryption or with a session formed, else a session is formed (R429). -/
def State.portAgreed (s : State) (p : Nat) : State :=
  let s := if s.lstate p = lsMiscabled then s.setLstate p lsHello else s
  let x := s.sessAt p (s.fld (F.LNK_PORT_PEER_PEER_ID p))
  if s.lstate p ≠ lsHello && s.lstate p ≠ lsUp then s
  else if !s.on (F.LNK_PORT_FUNC_ENC p) || x.any (fun x => x.formed) then s.portUp p
  else
    let s := s.setLstate p lsHello
    if x.isSome then s else s.startKeyx p (s.fld (F.LNK_PORT_PEER_PEER_ID p)) 1

/-- The peer that a port has heard is held against the plan. Log entries 56 (DEDUCED), 80 (DEDUCED). -/
def State.planCheck (s : State) (p : Nat) : State :=
  let port := s.fld (F.LNK_PORT_STATE_PEER_PORT p)
  if s.planMet p (s.fld (F.LNK_PORT_PEER_PEER_ID p)) port then (s.set (F.LNK_PORT_STATE_SWAPPED p) 0).portAgreed p
  else match s.swapMate p with
    | some q =>
      let used := s.on F.LNK_CTRL_ACCEPT_SWAP
      let lo := min p q
      let s := (s.set (F.LNK_PORT_STATE_SWAPPED p) 1).set (F.LNK_PORT_STATE_SWAPPED q) 1
      let s := s.log 0x33 (if used then 1 else 2) (lo + 256 * max p q) port
      if used then ((s.exchange roleFields p q).portAgreed p).portAgreed q
      else s.setLstate p lsMiscabled
    | none =>
      if s.lstate p = lsMiscabled then s else (s.setLstate p lsMiscabled).log 0x33 0 p port

/-- A HELLO names the peer; an image loaded, it is checked against the plan. -/
def State.helloRx (s : State) (x : Rx) : State :=
  let p := x.port
  if s.lstate p = lsDown || s.lstate p = lsRelay then s
  else
    let s := (s.set (F.LNK_PORT_PEER_PEER_ID p) (le x.bytes 20 4 % 2 ^ 20)).set (F.LNK_PORT_STATE_PEER_PORT p) (le x.bytes 24 1)
    let s := s.modLink p (fun (l : LinkSt) => { l with heard := true })
    if s.loaded then s.planCheck p else s

/-- An image has loaded: every port that is not DOWN says HELLO under the identity that the image gives, and a peer heard before is checked
against the plan. Log entry 80 (DEDUCED). -/
def State.helloAgain (s : State) : State :=
  (s.portList.filter (fun p => s.lstate p ≠ lsDown)).foldl (fun (s : State) p =>
    let s := s.sendHello p
    if (s.link p).any (fun l => l.heard) then s.planCheck p else s) s

/-! ### Chain discovery (R352, R353) -/

/-- Every PERIOD epochs a Hub discovers its Chains. Log entry 81 (DEDUCED). -/
def State.discoveryPeriod (s : State) : State :=
  if s.fld F.LNK_DISC_PERIOD = 0 then s else s.chainEnds.foldl State.discoverOn s

/-- A member turns its upward and time ports toward the other end of its Chain; the member at the tail end merges the tail segment at
LEVEL 1 while it is turned (R353). Log entry 81 (DEDUCED). -/
def State.turnChain (s : State) (turned : Bool) : State :=
  match s.lnk.endA, s.lnk.endB with
  | some a, some b =>
    let s := s.setLnk { s.lnk with turned := turned }
    let s := s.exchange (roleFields.take 8) a.1 b.1
    let s := if b.2 = 0 then s.set F.RED_NODE_LEVEL (b2n turned) else s
    let s := s.setRed { s.red with uplinkUsed := s.upNow }
    s.pathChange
  | _, _ => s

/-- A DISCOVER at a Spoke: recorded, answered toward the sender, and forwarded on the other Chain port with one hop more. -/
def State.discoverRx (s : State) (x : Rx) : State :=
  let p := x.port
  let fin := le x.bytes 17 1
  let hops := le x.bytes 18 1
  let hubPort := le x.bytes 19 1
  if s.hub || !s.loaded || !s.on F.LNK_CTRL_DISC_EN || s.fld (F.LNK_PORT_FUNC p) ≠ 1 then s
  else
    let back := s.lnk.turned
    let lost := fin = 1 && s.lnk.endA.isSome && s.lnk.endB.isSome && !s.lnk.aFresh && !s.lnk.turned
    let s :=
      if fin = 0 then
        let s := s.setLnk { s.lnk with endA := some (p, hops), aFresh := true }
        let s := (s.funcPorts 1).foldl (fun (s : State) q => s.set (F.LNK_PORT_STATE_HEAD_SIDE q) (b2n (q = p))) s
        s.set (F.LNK_PORT_STATE_CHAIN_POS p) (min hops 15)
      else s.setLnk { s.lnk with endB := some (p, hops), aFresh := false }
    let s := if fin = 0 && back then s.turnChain false else if lost then s.turnChain true else s
    let s := s.mgmtEach [p] 3 [(17, toLE 1 fin), (18, toLE 1 hops), (19, toLE 1 hubPort), (20, toLE 4 s.ident)]
    s.mgmtEach ((s.funcPorts 1).filter (fun q => q ≠ p && s.lstate q = lsUp)) 2
      [(17, toLE 1 fin), (18, toLE 1 (hops + 1)), (19, toLE 1 hubPort)]

/-- How a Chain of n members stands by the answers held: 0 joined, 1 segmented, 2 members isolated, and where it is broken. -/
def chainStand (rs : List (Nat × Nat × Nat × Nat)) (n : Nat) : Nat × Nat :=
  let heard (fin : Nat) : List Nat := rs.foldl (fun l r => if r.2.1 = fin && !l.contains r.2.2.2 then l ++ [r.2.2.2] else l) []
  let a := heard 0
  let b := heard 1
  let both := a ++ b.filter (fun x => !a.contains x)
  if a.length = n then (0, 0) else if both.length = n then (1, a.length) else (2, a.length)

/-- A DISC_REPLY: a member passes it on toward the end it answers; the Hub keeps it and checks the Chain. A wrong sum of HOPS, and a change
of how the Chain stands once both ends have answered, are topology events (R352, R363). Log entry 81 (DEDUCED). -/
def State.discReplyRx (s : State) (x : Rx) : State :=
  let fin := le x.bytes 17 1
  let hops := le x.bytes 18 1
  let hubPort := le x.bytes 19 1
  let src := le x.bytes 20 4 % 2 ^ 20
  if !s.hub then
    match if fin = 0 then s.lnk.endA else s.lnk.endB with
    | some e => if e.1 = x.port then s else s.sendPeer e.1 2 x.bytes
    | none => s
  else
    let old := s.lnk.replies
    let new := old.filter (fun r => !(r.2.1 = fin && (r.2.2.2 = src || (r.1 = hubPort && r.2.2.1 = hops)))) ++ [(hubPort, fin, hops, src)]
    let s := s.setLnk { s.lnk with replies := new, answers := s.lnk.answers ++ [(hubPort, fin, hops, src)] }
    match s.children.find? (fun c => c.typ = 0 && (if fin = 0 then c.portA = hubPort else c.portB = hubPort)) with
    | none => s
    | some c =>
      let mine := s.lnk.answers.filter (fun r => (r.2.1 = 0 && r.1 = c.portA) || (r.2.1 = 1 && r.1 = c.portB))
      let other := (mine.find? (fun r => r.2.2.2 = src && r.2.1 ≠ fin)).map (fun r => r.2.2.1)
      let idx := c.idx % 128
      let s := if !old.contains (hubPort, fin, hops, src) && other.any (fun h => h + hops + 1 ≠ c.expected) then s.log 0x34 1 idx hops else s
      let (st, at_) := chainStand mine c.expected
      let was := s.lnk.chains.find? (fun k => k.1 = idx)
      if st = 0 && was.any (fun k => k.2 = 0) then s
      else if st = 0 then
        (s.setLnk { s.lnk with chains := (idx, 0) :: s.lnk.chains.filter (fun k => k.1 ≠ idx) }).log 0x34 0 idx at_
      else s

/-- Before a new round of discovery, a Chain whose members did not all answer the last one is reported, and its answers are let go. Log entry 81 (DEDUCED). -/
def State.chainReview (s : State) : State :=
  let s := (s.children.filter (fun c => c.typ = 0)).foldl (fun (s : State) c =>
    let mine := s.lnk.answers.filter (fun r => (r.2.1 = 0 && r.1 = c.portA) || (r.2.1 = 1 && r.1 = c.portB))
    let idx := c.idx % 128
    let (st, at_) := chainStand mine c.expected
    let was := (s.lnk.chains.find? (fun k => k.1 = idx)).map (fun k => k.2)
    if was.isNone && mine.isEmpty then s
    else if was = some st then s
    else (s.setLnk { s.lnk with chains := (idx, st) :: s.lnk.chains.filter (fun k => k.1 ≠ idx) }).log 0x34 st idx at_) s
  s.setLnk { s.lnk with answers := [] }

/-! ### Control requests (R349, R350, R355, R386) -/

/-- An access of this unit that waited for a Control response completes with a status: the tray window's result (R355). -/
def State.completeRequest (s : State) (txn status : Nat) (data : Word) : State :=
  match s.lnk.out.find? (fun o => o.txn = txn) with
  | none => s
  | some o =>
    let s := s.setLnk { s.lnk with out := s.lnk.out.filter (fun y => y.txn ≠ txn) }
    if !o.tray then s
    else
      let good := status = stOk || status = stLate
      let s := if good then s else s.inc F.LNK_TRAY_STAT_ERRORS
      let resp : Resp := if good then .ok else if status = stDenied then .denied else if status = stDecode then .decode else .retry
      let s := if resp = .retry then s.set F.LNK_TRAY_STAT_LAST_STATUS status else s
      s.setPorts { s.ports with answer := some ⟨o.src, resp, if good then data else 0⟩ }

/-- A Control response: the request of this unit that it answers is complete, and a child that answers ABSENT or UPDATING counts as ABSENT
(R167, R386). -/
def State.responseRx (s : State) (x : Rx) : State :=
  let b := x.bytes
  let status := le b 20 1
  let s := if (status = stAbsent || status = stUpdating) && s.children.any (fun c => c.key = recKey b) then
      s.setRed { s.red with absentKeys := (recKey b, s.tim.epoch) :: s.red.absentKeys.filter (fun k => k.1 ≠ recKey b) } else s
  s.completeRequest (crTxn b) status (BitVec.ofNat 32 (le b 24 4))

/-- No response came: the requester forms TIMEOUT. -/
def State.controlTimeout (s : State) (txn : Nat) : State :=
  if s.lnk.out.any (fun o => o.txn = txn) then (s.inc F.LNK_SVC_STAT2_TIMEOUT).completeRequest txn stTimeout 0 else s

/-- The Spoke of a tray slot and the port that leads to it (R355). -/
def State.slotTarget (s : State) (slot : Nat) : Option (Nat × Nat) :=
  if 320 ≤ slot then none
  else match s.children.find? (fun c => (c.typ = 1 && c.slotBase = slot) || (c.typ = 0 && c.slotBase ≤ slot && slot < c.slotBase + c.expected)) with
    | none => none
    | some c =>
      let p := s.kidPort c
      let pos := slot - c.slotBase
      if c.typ = 1 || pos = 0 then some (c.id, p)
      else match s.lnk.replies.find? (fun r => (r.1 = c.portA && r.2.1 = 0 && r.2.2.1 = pos)
          || (r.1 = c.portB && r.2.1 = 1 && r.2.2.1 + pos + 1 = c.expected)) with
        | some r => some (r.2.2.2, p)
        | none => none

/-- Phases before market open in which the unit itself answers PRIV = 0 requests with ABSENT (R386). -/
def State.preOpen (s : State) : Bool := s.fld F.BRU_STATUS_PHASE ≠ 6

/-- A received Control request: away, passed on to a tray slot, refused, or queued (R350, R386, R432). Log entry 82 (DEDUCED). -/
def State.requestRx (s : State) (x : Rx) : State :=
  let b := x.bytes
  let q := ctlOf x.port s.nowNs x.enc (crPriv b) b
  let phase := s.fld F.BRU_STATUS_PHASE
  if s.ports.inReset || s.power = 2 || phase ≤ 1 || !s.loaded then s.respondAbsent q
  else if bit q.addr 47 && s.hub then
    match s.slotTarget (bits q.addr 32 24) with
    | some (src, p) => s.passRequest x (some p) 1 src
    | none => s.answerAway q none
  else
    let (priv, s) := s.privCheck x.port x.enc b
    let q : CtlReq := { q with priv := priv, addr := if bit q.addr 47 then q.addr % 2 ^ 24 else q.addr }
    if !priv && s.preOpen then s.respondAbsent q
    else if 64 ≤ s.lnk.ctl.length then
      let (n, s) := s.fresh
      (s.inc F.LNK_SVC_STAT0_BUSY).respond q stBusy 0 (Config.busyRetry n % 2 ^ 32)
    else if !priv && max 1 (s.fld F.LNK_SVC_STALL_OUT) ≤ (s.lnk.ctl.filter (fun y => !y.priv && y.stall = q.stall)).length then
      (s.inc F.LNK_SVC_STAT1_QUOTA).respond q stQuota 0 0
    else s.setLnk { s.lnk with ctl := s.lnk.ctl ++ [q] }

/-- Requests queued when reset asserts are answered at once (R386). -/
def State.flushRequests (s : State) : State := s.lnk.ctl.foldl State.respondAbsent (s.setLnk { s.lnk with ctl := [] })

/-- The next request served: privileged ones first, in order, then the Stalls in turn (R350). -/
def State.nextRequest (s : State) : Option CtlReq :=
  match s.lnk.ctl.find? (fun q => q.priv) with
  | some q => some q
  | none =>
    let order (q : CtlReq) : Nat := (q.stall + 4096 - (s.lnk.ctlLast + 1) % 4096) % 4096
    (sortBy order s.lnk.ctl).head?

/-- An access to the tray window becomes a Control request to the Spoke of the slot (R355). Log entry 82 (DEDUCED). -/
def State.trayAccess (s : State) (a : Access) (addr : Nat) (write : Bool) (w : Word) : State :=
  let s := s.reach a.t
  if !s.serves then s
  else match if trayAddr addr && a.src ≠ .xlp then s.judge a addr write else .decode 2 with
    | .ok =>
      let fail (s : State) (status : Nat) : State :=
        ((s.inc F.LNK_TRAY_STAT_ERRORS).set F.LNK_TRAY_STAT_LAST_STATUS status).answer a .retry 0
      let slot := s.fld F.LNK_TRAY_SEL_SLOT
      match s.slotTarget slot with
      | none => fail (s.inc F.LNK_SVC_STAT2_NO_ROUTE) stNoRoute
      | some (src, p) =>
        if s.lstate p ≠ lsUp then
          if s.awayStatus p = stAbsent then fail (s.inc F.BRU_ANSWER_STAT_ABSENT) stAbsent else fail (s.inc F.LNK_SVC_STAT2_NO_ROUTE) stNoRoute
        else
          let txn := s.lnk.nextTxn
          let off := 2 ^ 47 + slot * 2 ^ 24 + s.fld F.LNK_TRAY_SEL_PAGE * 2 ^ 20 + addr % 2 ^ 20
          let (r, s) := s.originate 0x50 2 1 a.stall.toNat s.nowNs
            [(16, toLE 4 txn), (20, toLE 1 (b2n write)), (21, toLE 1 (b2n (privileged a))), (22, toLE 2 (s.fld F.LNK_SVC_TIMEOUT_US)),
             (24, toLE 8 off), (32, toLE 4 (if write then w.toNat else 0))]
          let o : CtlOut := ⟨txn, a.src, true, s.nowNs⟩
          let s := s.setLnk { s.lnk with nextTxn := (txn + 1) % 2 ^ 32, out := s.lnk.out ++ [o] }
          (s.setPorts { s.ports with answer := none }).send p 2 1 src r
    | v => s.refuse a v

/-- Aged frames of a port's queue are dropped, replaced or answered (R348). Log entry 79 (DEDUCED). -/
def State.ageOut (s : State) (p : Nat) : State :=
  match s.link p with
  | none => s
  | some l =>
    let due (f : Frame) : Bool := (s.ageLimit f).any (fun n => f.since + n ≤ s.nowNs) && (f.cls ≠ 1 || newerOf l.txq f)
    let gone := l.txq.filter due
    let s := s.modLink p (fun (l : LinkSt) => { l with txq := l.txq.filter (fun f => !due f) })
    gone.foldl (fun (s : State) f =>
      if f.cls = 2 then
        if recSource f.bytes = s.ident && recNode f.bytes = s.hub then (s.shedOut p f.bytes).completeRequest (crTxn f.bytes) stShed 0
        else s.shedOut p f.bytes
      else s.inc (F.LNK_PORT_MISC_AGED p)) s

/-! ### Broadcast (R356) -/

/-- A chunk's fields. -/
def bcObject (b : Bytes) : Nat := le b 16 4
def bcOffset (b : Bytes) : Nat := le b 20 4
def bcTotal (b : Bytes) : Nat := le b 24 4
def bcBytes (b : Bytes) : Nat := min 4032 (le b 28 2)

/-- Bytes held in the staging area. -/
def State.stagedBytes (s : State) : Nat :=
  (s.lnk.bcast.flatMap (fun o => o.chunks.map (fun c => c.2.length))).foldl (fun a b => a + b) 0

/-- Ports on which chunks go on: the downstream ports; before an image gives ports their functions, every other one. Log entry 83 (DEDUCED). -/
def State.bcastPorts (s : State) (inPort : Nat) : List Nat :=
  (if s.loaded then s.downPorts else s.portList).filter (fun p => p ≠ inPort && s.lstate p ≠ lsDown)

/-- Chunks of an object that are still lacking. Log entry 83 (DEDUCED). -/
def Bcast.lacking (o : Bcast) : List Nat :=
  ((List.range ((o.total + 4031) / 4032)).map (fun i => 4032 * i)).filter (fun k => o.chunks.all (fun c => c.1 ≠ k))

/-- A chunk is stored in the free model store and forwarded; when the object's last chunk has come, the parent is asked for what is
lacking. Log entry 83 (DEDUCED). -/
def State.chunkRx (s : State) (x : Rx) : State :=
  let b := x.bytes
  let o := bcObject b
  let data := slice b 64 (bcBytes b)
  let kept := (s.lnk.bcast.find? (fun y => y.object = o)).getD ⟨o, bcTotal b, [], x.port⟩
  let fresh := kept.chunks.all (fun c => c.1 ≠ bcOffset b)
  let room := s.stagedBytes + data.length ≤ 1024 * s.fld F.INF_STORE_FREE_KIB
  let now : Bcast := if fresh && room then { kept with chunks := kept.chunks ++ [(bcOffset b, data)] } else kept
  let s := s.setLnk { s.lnk with bcast := s.lnk.bcast.filter (fun y => y.object ≠ o) ++ [now] }
  let s := (s.bcastPorts x.port).foldl (fun (s : State) p => s.send p 4 3 0 b) s
  if bcOffset b + bcBytes b = now.total then
    now.lacking.foldl (fun (s : State) k => s.mgmtEach [x.port] 8 [(20, toLE 4 o), (24, toLE 4 k)]) s
  else s

/-- A chunk of a held object is sent again by unicast. Log entry 83 (DEDUCED). -/
def State.nackRx (s : State) (x : Rx) : State :=
  let o := le x.bytes 20 4
  let k := le x.bytes 24 4
  match (s.lnk.bcast.find? (fun y => y.object = o)) with
  | none => s
  | some y => match y.chunks.find? (fun c => c.1 = k) with
    | none => s
    | some c =>
      let (r, s) := s.originateBare 0x2E 4 64 0 s.nowNs [(16, toLE 4 o), (20, toLE 4 k), (24, toLE 4 y.total), (28, toLE 2 c.2.length), (64, c.2)]
      s.sendPeer x.port 4 r

/-! ### Takeover (R359, R360) -/

/-- The lateral port, when there is one. -/
def State.sibPort (s : State) : Option Nat := let p := s.fld F.LNK_TKO_SIB_PORT; if p < s.build.ports then some p else none

/-- The lateral link is UP. -/
def State.sibUp (s : State) : Bool := s.sibPort.any (fun p => s.lstate p = lsUp)

/-- The last epoch whose merged summary has left. -/
def State.lastMerged (s : State) : Nat := ((s.red.merges.filter (fun m => m.sent)).map (fun m => m.epoch)).foldl max 0

/-- HEARTBEAT to the sibling; none while merge tiles are made to stop. -/
def State.sendHeartbeat (s : State) : State :=
  match s.sibPort with
  | some p => if s.hub && !s.injecting 4 then s.mgmtEach [p] 4 [(20, toLE 4 s.ident), (24, toLE 6 s.lastMerged)] else s
  | none => s

/-- The sibling's heartbeat. -/
def State.heartbeatRx (s : State) (x : Rx) : State :=
  if some x.port = s.sibPort then s.setLnk { s.lnk with heartbeat := some (le x.bytes 20 4 % 2 ^ 20, le x.bytes 24 6) } else s

/-- A class 0x36 event; ALERT_N when enabled. -/
def State.tkoEvent (s : State) (detail : Nat) : State := (s.log 0x36 detail (s.fld F.LNK_TKO_SIB_PORT) 0).alertIf F.LNK_CTRL_ALERT_EN 9

/-- TAKE or HANDBACK is refused. -/
def State.tkoRefuse (s : State) : State := (s.set F.LNK_TKO_REFUSED 1).tkoEvent 3

/-- TAKE goes to the sibling, and this unit runs a second LEVEL 2 node under its NODE_ID with the next PGEN. Log entries 59 (DEDUCED), 84 (DEDUCED). -/
def State.takeOver (s : State) : State :=
  if !(s.hub && s.sibUp && s.on F.LNK_CTRL_TKO_EN && s.tko.isNone) then s.tkoRefuse
  else
    let p := s.fld F.LNK_TKO_SIB_PORT
    let node := (s.lnk.heartbeat.map (fun h => h.1)).getD (s.fld (F.LNK_PORT_PEER_PEER_ID p))
    let g := (s.lnk.tkoPgen + 1) % 65536
    let s := s.mgmtEach [p] 5 [(20, toLE 4 node), (24, toLE 2 g)]
    let t : TkoSt := ⟨node, g, 0, { initRed with tbl := 256 }, zeros 48, [], 0, zeros 48, [], []⟩
    let s := (s.setLnk { s.lnk with tkoPgen := g }).setTko (some t)
    ((s.set F.LNK_TKO_TAKEN 1).inc F.LNK_TKO_STAT_TAKEOVERS).tkoEvent 0

/-- DETECT_US after a seal the sibling's LAST_EPOCH has not reached the epoch: with the lateral link UP its node is taken. Log entry 84 (DEDUCED). -/
def State.takeDetect (s : State) : State :=
  let s := s.reachNs (s.tim.sealNs + 1000 * s.fld F.LNK_TKO_DETECT_US)
  match s.tim.sealedEpoch, s.lnk.heartbeat with
  | some e, some (_, last) => if s.hub && s.on F.LNK_CTRL_TKO_EN && s.sibUp && s.tko.isNone && last < e then s.takeOver else s
  | _, _ => s

/-- TAKE received: the down-ports relay, and TAKEOVER goes down every Chain. Log entry 84 (DEDUCED). -/
def State.takeRx (s : State) (x : Rx) : State :=
  if some x.port ≠ s.sibPort || le x.bytes 20 4 % 2 ^ 20 ≠ s.ident || s.on F.LNK_TKO_RELAYING then s
  else if !(s.hub && s.on F.LNK_CTRL_TKO_EN) then s.tkoRefuse
  else
    let g := le x.bytes 24 2
    let down := s.downPorts.filter (fun p => s.lstate p = lsUp)
    let s := (s.setLnk { s.lnk with pgen := g }).set F.LNK_TKO_RELAYING 1
    let s := down.foldl (fun (s : State) p => s.setLstate p lsRelay) s
    ((s.mgmtEach down 6 [(20, toLE 4 s.ident), (24, toLE 2 g)]).tkoEvent 1).recovered 4

/-- A relaying Hub serves its down-ports itself again. -/
def State.endRelay (s : State) (g : Nat) : State :=
  let down := s.portList.filter (fun p => s.lstate p = lsRelay)
  let s := (s.setLnk { s.lnk with pgen := g }).set F.LNK_TKO_RELAYING 0
  let s := down.foldl (fun (s : State) p => s.setLstate p lsUp) s
  s.mgmtEach down 6 [(20, toLE 4 s.ident), (24, toLE 2 g)]

/-- TAKEOVER received: from the sibling of a relaying Hub it hands the Chains back; elsewhere it is a path change (R175, R360). -/
def State.takeoverRx (s : State) (x : Rx) : State :=
  let g := le x.bytes 24 2
  if s.on F.LNK_TKO_RELAYING && some x.port = s.sibPort && le x.bytes 20 4 % 2 ^ 20 = s.ident then s.endRelay g
  else s.pathChange

/-- Target epoch in LNK_TKO_EPOCH. -/
def State.tkoTarget (s : State) : Nat := s.fld F.LNK_TKO_EPOCH_LO + 2 ^ 32 * s.fld F.LNK_TKO_EPOCH_HI_EPOCH

/-- A write of LNK_TKO with HANDBACK. Log entry 84 (DEDUCED). -/
def State.askHandback (s : State) : State :=
  if s.tko.isSome && s.sibUp && s.tim.epoch < s.tkoTarget then s.setLnk { s.lnk with handback := some s.tkoTarget } else s.tkoRefuse

/-- At the seal of the epoch that closes at the target's opening boundary the Chains go back. Log entry 84 (DEDUCED). -/
def State.handbackSeal (s : State) (epoch : Nat) : State :=
  match s.lnk.handback, s.tko with
  | some t, some k =>
    if epoch + 1 < t then s
    else
      let g := (k.pgen + 1) % 65536
      let s := s.mgmtEach [s.fld F.LNK_TKO_SIB_PORT] 6 [(20, toLE 4 k.nodeId), (24, toLE 2 g)]
      let s := (s.setLnk { s.lnk with handback := none, tkoPgen := g }).setTko none
      ((s.set F.LNK_TKO_TAKEN 0).inc F.LNK_TKO_STAT_HANDBACKS).tkoEvent 2
  | _, _ => s

/-! ### Spare admission (R361) -/

/-- A class 0x37 event. -/
def State.spareEvent (s : State) (detail : Nat) : State :=
  s.log 0x37 detail (s.fld F.LNK_SPARE_CAND_SOURCE) (s.fld F.LNK_SPARE_MATCHED)

/-- START: admission of the candidate begins. -/
def State.spareBegin (s : State) : State :=
  let s := ((s.set F.LNK_SPARE_STATE 1).set F.LNK_SPARE_MATCHED 0).set F.LNK_SPARE_MISMATCHES 0
  (s.setLnk { s.lnk with spareDig := [], spareEpoch := none }).spareEvent 0

/-- ADMIT, in READY, with a target epoch ahead. Log entry 85 (DEDUCED). -/
def State.spareAdmit (s : State) : State :=
  if s.fld F.LNK_SPARE_STATE = 2 && s.tim.epoch < s.tkoTarget then s.setLnk { s.lnk with spareEpoch := some s.tkoTarget } else s

/-- At the seal before the target epoch the slot moves to the candidate and the working Spoke is EXCLUDED. -/
def State.spareSeal (s : State) (epoch : Nat) : State :=
  match s.lnk.spareEpoch with
  | none => s
  | some t =>
    if epoch + 1 < t then s
    else
      let s := s.setLnk { s.lnk with spareEpoch := none }
      let work := s.fld F.LNK_SPARE_WORK_SOURCE
      let cand := s.fld F.LNK_SPARE_CAND_SOURCE
      let s := match s.children.find? (fun c => c.typ ≠ 2 && c.id = work) with
        | none => s
        | some w =>
          let s : State := s.set (F.CHILD_A_EXCLUDED w.idx) 1
          match s.children.find? (fun (c : Child) => c.typ ≠ 2 && c.id = cand) with
          | some c => (s.set (F.CHILD_C_SLOT_BASE c.idx) w.slotBase).set (F.CHILD_A_EXCLUDED c.idx) 0
          | none => s
      ((s.nextPgen).set F.LNK_SPARE_STATE 3).spareEvent 2

/-- What the two Spokes digest besides the scores: the catalogue identity, and MODEL_ID and VERSION of the slots. -/
def State.spareHead (s : State) : Bytes :=
  toLE 4 (s.fld F.SCL_CAT_ID) ++ (sortBy (fun (x : Slot) => x.num) s.inf.slots).flatMap (fun x => match x.cur with
    | some im => toLE 4 (mId im) ++ toLE 4 (mVersion im)
    | none => [])

/-- Inputs of a row in a shadow-feed record: a byte that says whether the input is there, and its 8 bytes. Log entry 85 (DEDUCED). -/
def inputBytes (x : Option Int) : Bytes := match x with
  | some i => 1#8 :: toLE 8 (twos 64 i)
  | none => zeros 9

/-- Inputs read back. Log entry 85 (DEDUCED). -/
def readInputs (b : Bytes) (n : Nat) : List (Option Int) :=
  (List.range n).map (fun i => if le b (32 + 9 * i) 1 = 1 then some (sext 64 (le b (33 + 9 * i) 8)) else none)

/-- Scores of a row as bytes. -/
def scoreBytes (im : Bytes) (ins : List (Option Int)) : Bytes := (score im ins).scores.flatMap (toLE 4)

/-- The digest of an epoch's rows goes to the tray node. -/
def State.sendShadowDig (s : State) (epoch cand : Nat) (scores : Bytes) : State :=
  let (r, s) := s.linkMgmt 9 [(24, toLE 6 epoch), (32, toLE 4 cand), (36, (sha384 (s.spareHead ++ scores)).take 8)]
  s.sendUp 2 r

/-- At a seal the working Spoke copies the inputs of its EPOCH rows to the candidate and sends its own digest. Log entry 85 (DEDUCED). -/
def State.spareFeed (s : State) (epoch : Nat) : State :=
  let cand := s.fld F.LNK_SPARE_CAND_SOURCE
  if !(s.fld F.LNK_SPARE_STATE = 1 || s.fld F.LNK_SPARE_STATE = 2) || s.fld F.LNK_SPARE_WORK_SOURCE ≠ s.ident || s.hub || !s.infers then s
  else
    let rows := (sortBy (fun (x : Slot) => x.num) s.inf.slots).filterMap (fun x => match x.version epoch with
      | (_, some im) => if mKind im = 1 && !x.suspended then some (x.num, im, rowInputs im ⟨s.scl.closing, [], [], []⟩) else none
      | _ => none)
    let n := rows.length
    let list : List (Nat × List (Option Int)) := if n = 0 then [(0, [])] else rows.map (fun r => (r.1, r.2.2))
    let s := ((List.range list.length).zip list).foldl (fun (s : State) r =>
      let ins := r.2.2
      let (b, s) := s.originateBare 0x2F 4 ((32 + 9 * ins.length + 63) / 64) 0 s.nowNs
        ([(16, toLE 6 epoch), (22, toLE 1 r.2.1), (23, toLE 1 r.1), (24, toLE 1 n), (26, toLE 2 ins.length), (28, toLE 4 cand)]
          ++ [(32, ins.flatMap inputBytes)])
      match s.upNow with
      | some p => s.send p 4 1 cand b
      | none => s) s
    s.sendShadowDig epoch cand (rows.flatMap (fun r => scoreBytes r.2.1 r.2.2))

/-- A shadow-feed record at the candidate: the row is scored beside the unit's own work, and with the epoch's last row the digest goes out. Log entry 85 (DEDUCED). -/
def State.feedRx (s : State) (x : Rx) : State :=
  let b := x.bytes
  let epoch := le b 16 6
  if !s.loaded || s.hub then s
  else
    let rows := (s.lnk.candRows.filter (fun y => le y 16 6 = epoch && le y 23 1 ≠ le b 23 1)) ++ [b]
    if rows.length < max 1 (le b 24 1) then s.setLnk { s.lnk with candRows := rows }
    else
      let s := s.setLnk { s.lnk with candRows := [] }
      let scores := (sortBy (fun y => le y 23 1) rows).flatMap (fun y => match (s.slot (le y 22 1)).cur with
        | some im => if le b 24 1 = 0 then [] else scoreBytes im (readInputs y (le y 26 2))
        | none => [])
      s.sendShadowDig epoch s.ident scores

/-- A SHADOW_DIG: below the tray node it goes up; there it is compared with its pair. Log entry 85 (DEDUCED). -/
def State.shadowDigRx (s : State) (x : Rx) : State :=
  let b := x.bytes
  if s.level ≠ 2 then s.sendUp 2 b
  else
    let cand := le b 32 4 % 2 ^ 20
    if s.fld F.LNK_SPARE_CAND_SOURCE ≠ cand || !(s.fld F.LNK_SPARE_STATE = 1 || s.fld F.LNK_SPARE_STATE = 2) then s
    else
      let e := le b 24 6
      let src := recSource b
      match s.lnk.spareDig.find? (fun d => d.1 = e && d.2.1 ≠ src) with
      | none => s.setLnk { s.lnk with spareDig := (e, src, le b 36 8) :: s.lnk.spareDig.filter (fun d => !(d.1 = e && d.2.1 = src) && e ≤ d.1 + 16) }
      | some d =>
        let s := s.setLnk { s.lnk with spareDig := s.lnk.spareDig.filter (fun y => y.1 ≠ e) }
        if d.2.2 = le b 36 8 then
          let s := s.inc F.LNK_SPARE_MATCHED
          if s.fld F.LNK_SPARE_STATE = 1 && max 1 (s.fld F.LNK_SPARE_SHADOW_EPOCHS) ≤ s.fld F.LNK_SPARE_MATCHED then
            (s.set F.LNK_SPARE_STATE 2).spareEvent 1
          else s
        else
          let s := ((s.set F.LNK_SPARE_MATCHED 0).inc F.LNK_SPARE_MISMATCHES).set F.LNK_SPARE_STATE 1
          let s := s.spareEvent 3
          if 4 ≤ s.fld F.LNK_SPARE_MISMATCHES then (s.set F.LNK_SPARE_STATE 4).spareEvent 4 else s

/-! ### Split views (R362) -/

/-- Rows of the table in which a child's management plane and data path disagree, at a seal. Log entries 57 (DEDUCED), 86 (DEDUCED). -/
def State.disagreements (s : State) (epoch : Nat) (c : Child) : List Nat :=
  let arrives := s.red.arrivals.any (fun a => a.child = c.idx && epoch ≤ a.epoch + 1)
  let sound := s.red.arrivals.any (fun a => a.child = c.idx && a.checked && epoch ≤ a.epoch + 1)
  let barred := s.red.barred.any (fun k => k.1 = c.idx && epoch ≤ k.2 + 1)
  let decl := s.fld (F.LNK_PORT_STATE_DECL c.portA)
  let up (p : Nat) : Bool := p < s.build.ports && (s.lstate p = lsUp || s.lstate p = lsRelay)
  let linked := up c.portA || up c.portB
  let down := [c.portA, c.portB].all (fun p => s.build.ports ≤ p || s.lstate p = lsDown)
  let cabled := s.lstate c.portA ≠ lsMiscabled && (s.build.ports ≤ c.portB || s.lstate c.portB ≠ lsMiscabled)
  (if c.excl && barred then [0] else []) ++ (if decl = 1 && sound then [1] else []) ++ (if decl = 0 && down then [2] else [])
    ++ (if decl = 0 && linked && !arrives && !c.excl then [3] else []) ++ (if !cabled then [4] else [])

/-- ACTIVE while a reported disagreement persists. Log entry 86 (DEDUCED). -/
def State.showSplit (s : State) : State := s.set F.LNK_SPLIT_ACTIVE (b2n (s.lnk.splits.any (fun x => x.2.2.2)))

/-- Disagreements are counted in epochs at each seal. Log entry 86 (DEDUCED). -/
def State.splitSeal (s : State) (epoch : Nat) : State :=
  let now := s.children.flatMap (fun c => (s.disagreements epoch c).map (fun r => (c.idx, r)))
  let next := now.map (fun k => match s.lnk.splits.find? (fun x => x.1 = k.1 && x.2.1 = k.2) with
    | some x => (k.1, k.2, x.2.2.1 + 1, x.2.2.2)
    | none => (k.1, k.2, 1, false))
  (s.setLnk { s.lnk with splits := next }).showSplit

/-- A disagreement has lasted EPOCHS. Log entry 86 (DEDUCED). -/
def State.splitPersist (s : State) (child row : Nat) : State :=
  match s.lnk.splits.find? (fun x => x.1 = child && x.2.1 = row) with
  | none => s
  | some (c, r, n, told) =>
    if told || n < max 1 (s.fld F.LNK_SPLIT_EPOCHS) then s
    else
      let s := s.setLnk { s.lnk with splits := s.lnk.splits.map (fun x => if x.1 = c && x.2.1 = r then (c, r, n, true) else x) }
      let s := ((s.inc F.LNK_SPLIT_SPLITS).set F.LNK_SPLIT_LAST_CHILD c).showSplit
      (s.log 0x35 r (s.fld (F.CHILD_B_CHILD_ID c)) n).alertIf F.LNK_CTRL_ALERT_EN 9

/-- What the links do at a seal. -/
def State.lnkSeal (s : State) (epoch : Nat) : State := (((s.spareFeed epoch).handbackSeal epoch).spareSeal epoch).splitSeal epoch

/-! ### Meanings -/

/-- GROUP_SEND. -/
def execGroupSend (port t : Nat) (s : State) : Host.Outcome State Fault Refusal := done ((s.reach t).groupSend port t)

/-- GROUP_RECEIVED. -/
def execGroupReceived (port t : Nat) (flits : List Bytes) (s : State) : Host.Outcome State Fault Refusal := done ((s.reach t).groupRx port t flits)

/-- LINK_SILENCE_TIMEOUT. -/
def execLinkSilenceTimeout (port : Nat) (s : State) : Host.Outcome State Fault Refusal := done (s.portDown port)

/-- LINK_UP. -/
def execLinkUp (port t : Nat) (s : State) : Host.Outcome State Fault Refusal := done ((s.reach t).linkUp port)

/-- FRAME_AGE_EXPIRY. -/
def execFrameAgeExpiry (port : Nat) (s : State) : Host.Outcome State Fault Refusal := done (s.ageOut port)

/-- CONTROL_REQUEST. -/
def execControlRequest (r : Rx) (s : State) : Host.Outcome State Fault Refusal := done (((s.reach r.t).consume r).requestRx r)

/-- CONTROL_RESPONSE. -/
def execControlResponse (r : Rx) (s : State) : Host.Outcome State Fault Refusal := done (((s.reach r.t).consume r).responseRx r)

/-- CONTROL_TIMEOUT. -/
def execControlTimeout (txn : Nat) (s : State) : Host.Outcome State Fault Refusal := done (s.controlTimeout txn)

/-- HELLO. -/
def execHello (r : Rx) (s : State) : Host.Outcome State Fault Refusal := done (((s.reach r.t).consume r).helloRx r)

/-- DISCOVERY_PERIOD. -/
def execDiscoveryPeriod (s : State) : Host.Outcome State Fault Refusal := done s.chainReview.discoveryPeriod

/-- DISCOVER. -/
def execDiscover (r : Rx) (s : State) : Host.Outcome State Fault Refusal := done (((s.reach r.t).consume r).discoverRx r)

/-- DISC_REPLY. -/
def execDiscReply (r : Rx) (s : State) : Host.Outcome State Fault Refusal := done (((s.reach r.t).consume r).discReplyRx r)

/-- HEARTBEAT_INTERVAL. -/
def execHeartbeatInterval (s : State) : Host.Outcome State Fault Refusal := done s.sendHeartbeat

/-- HEARTBEAT. -/
def execHeartbeat (r : Rx) (s : State) : Host.Outcome State Fault Refusal := done (((s.reach r.t).consume r).heartbeatRx r)

/-- TAKEOVER_DETECT. -/
def execTakeoverDetect (s : State) : Host.Outcome State Fault Refusal := done s.takeDetect

/-- TAKE. -/
def execTake (r : Rx) (s : State) : Host.Outcome State Fault Refusal := done (((s.reach r.t).consume r).takeRx r)

/-- TAKEOVER. -/
def execTakeover (r : Rx) (s : State) : Host.Outcome State Fault Refusal := done (((s.reach r.t).consume r).takeoverRx r)

/-- TKO_TAKE: a write of LNK_TKO with TAKE = 1. -/
def execTkoTake (a : Access) (w : Word) (s : State) : Host.Outcome State Fault Refusal :=
  done (s.guardWrite a 0x090020 (fun s => (s.plainWrite 0x090020 w).takeOver))

/-- TKO_HANDBACK: a write of LNK_TKO with HANDBACK = 1. -/
def execTkoHandback (a : Access) (w : Word) (s : State) : Host.Outcome State Fault Refusal :=
  done (s.guardWrite a 0x090020 (fun s => (s.plainWrite 0x090020 w).askHandback))

/-- BCAST_NACK. -/
def execBcastNack (r : Rx) (s : State) : Host.Outcome State Fault Refusal := done (((s.reach r.t).consume r).nackRx r)

/-- SPARE_START: a write of LNK_SPARE with START = 1. -/
def execSpareStart (a : Access) (w : Word) (s : State) : Host.Outcome State Fault Refusal :=
  done (s.guardWrite a 0x090034 (fun s => (s.plainWrite 0x090034 w).spareBegin))

/-- SPARE_ADMIT: a write of LNK_SPARE with ADMIT = 1. -/
def execSpareAdmit (a : Access) (w : Word) (s : State) : Host.Outcome State Fault Refusal :=
  done (s.guardWrite a 0x090034 (fun s => (s.plainWrite 0x090034 w).spareAdmit))

/-- SHADOW_FEED. -/
def execShadowFeed (r : Rx) (s : State) : Host.Outcome State Fault Refusal := done (((s.reach r.t).consume r).feedRx r)

/-- SHADOW_DIG. -/
def execShadowDig (r : Rx) (s : State) : Host.Outcome State Fault Refusal := done (((s.reach r.t).consume r).shadowDigRx r)

/-- SPLIT_VIEW_PERSIST. -/
def execSplitViewPersist (child row : Nat) (s : State) : Host.Outcome State Fault Refusal := done (s.splitPersist child row)

/-- TRAY_WINDOW_ACCESS. -/
def execTrayWindowAccess (a : Access) (addr : Nat) (write : Bool) (w : Word) (s : State) : Host.Outcome State Fault Refusal :=
  done (s.trayAccess a addr write w)

end Sys2Proof.Machine
end

