-- ==== Sys2Proof/Machine/RunAhead.lean ====
section
/-! DEFINITION. Reports on the Service Port: their arrival (R306 to R309), the values and triggers they feed (R138, R198, R228, R308), and the
Tally's reports: run-ahead tickets (R122 to R126) and samples (R128). -/

namespace Sys2Proof.Machine

/-! ### The Service Port FIFO (R306, R307) -/

/-- Fields of the defined report types, low and high bit, in the order listed (R122, R307). -/
def typeFields : Nat → List (Nat × Nat)
  | 0x10 => [(0, 15), (16, 27), (28, 32), (33, 80)]
  | 0x11 => [(0, 15)]
  | 0x12 => [(0, 15)]
  | 0x13 => [(0, 11), (12, 16), (17, 32), (33, 96)]
  | 0x20 => [(0, 31), (32, 32), (33, 44)]
  | 0x21 => [(0, 15), (16, 79), (80, 87)]
  | 0x22 => [(0, 3), (4, 7), (8, 71)]
  | 0x23 => [(0, 23), (24, 55), (56, 113)]
  | 0x24 => [(0, 23), (24, 47), (48, 79), (80, 80)]
  | 0x25 => [(0, 15), (16, 16), (17, 36), (37, 84)]
  | 0x26 => [(0, 15), (16, 47), (48, 111)]
  | 0x27 => [(0, 15), (16, 47)]
  | 0x28 => [(0, 11), (12, 17), (18, 29), (30, 37), (38, 69), (70, 101)]
  | 0x29 => [(0, 11), (12, 23), (24, 47), (48, 105)]
  | 0x2A => [(0, 11), (12, 23), (24, 47), (48, 55), (56, 87), (88, 119)]
  | 0x2B => [(0, 11), (12, 43), (44, 75)]
  | 0x2C => [(0, 11), (12, 12), (13, 28), (29, 60)]
  | _ => []

/-- Field `i` of a report. -/
def rf (r : Report) (typ i : Nat) : Nat := match (typeFields typ)[i]? with
  | some (lo, hi) => bits r.body.toNat hi lo
  | none => 0

/-- The image's fields of a host TYPE (R308). -/
def State.hostFields (s : State) (typ : Nat) : List RepField := s.img.tabs.reports.filter (fun f => f.typ = typ)

/-- A TYPE that R122 or R307 defines, or that the image declares. -/
def State.typeKnown (s : State) (typ : Nat) : Bool := !(typeFields typ).isEmpty || !(s.hostFields typ).isEmpty

/-- Digest reports. -/
def digestType (typ : Nat) : Bool := typ = 0x25 || typ = 0x26 || typ = 0x27

/-- A report lost at a full FIFO is marked where its own service accounts for losses (R306, R311, R326, R128). Log entry 72 (DEDUCED). -/
def State.markLost (s : State) (typ : Nat) (r : Report) : State :=
  if typ = 0x26 then s.setSrv { s.srv with colls := s.srv.colls.map (fun (c : Coll) =>
    if c.coll = rf r 0x26 0 then { c with tapDrop := true } else c) }
  else if typ = 0x21 then s.inc F.SVC_PCS_DROPPED
  else if typ = 0x13 then s.inc F.TAL_SAMPLE_STAT_DROPPED
  else s

/-- SERVICE_REPORT_ARRIVAL (R306, R307): acknowledged at once; queued, or discarded and counted. -/
def State.reportArrives (s : State) (typ : Byte) (r : Report) : State :=
  let s := s.reach r.t
  let n := typ.toNat
  if !s.ports.powered || s.ports.inReset then s
  else if 256 ≤ s.srv.fifo.length then
    (if digestType n then s.inc F.SVC_DROP_DIGEST else s.inc F.SVC_DROP_OTHER).markLost n r
  else if !s.typeKnown n then s.inc F.SVC_STAT_BAD_TYPE
  else s.setSrv { s.srv with fifo := s.srv.fifo ++ [(typ, r)] }

/-- A report is taken from the FIFO, at the time of its stamp at the earliest. Log entry 72 (DEDUCED). -/
def State.takeReport (s : State) (typ : Nat) (r : Report) : State :=
  let s := s.reach r.t
  s.setSrv { s.srv with fifo := eraseFirst (fun x => x.1.toNat = typ && x.2 == r) s.srv.fifo }

/-! ### Values and triggers (R138, R198, R228) -/

/-- The host core that a report names: TAG of its values (R145). -/
def repCore (r : Report) (typ : Nat) : Nat :=
  if typ = 0x21 then rf r 0x21 0 % 4096 else if typ = 0x13 then rf r 0x13 2 % 4096 else 0

/-- The fields of a report: number and raw bits. -/
def State.reportValues (s : State) (typ : Nat) (r : Report) : List (Nat × Nat) :=
  let b := r.body.toNat
  if typ < 0x80 then ((List.range 16).zip (typeFields typ)).map (fun f => (f.1, bits b f.2.2 f.2.1))
  else (s.hostFields typ).map (fun f => (f.field, bits b (f.lsb + f.width - 1) f.lsb))

/-- KIND 2 metrics whose SELECT names TYPE and field take the field. -/
def State.feedField (s : State) (typ t tag : Nat) (f : Nat × Nat) : State :=
  (s.metricsWhere false (fun d => d.kind = 2 && d.select % 256 = typ && d.select / 256 = f.1)).foldl (fun s m =>
    s.scalesTake ⟨m, BitVec.ofNat 64 f.2, t, 0, BitVec.ofNat 12 tag⟩) s

/-- Metrics that REPORT inputs of the models name. -/
def State.reportMetrics (s : State) : List Nat :=
  (s.inf.slots.flatMap (fun x => match x.cur with
    | some im => ((mSelectors im).filter (fun y => y.stat = 6)).map (fun y => y.metric)
    | none => [])).eraseDups

/-- The report's fields as REPORT inputs: field, metric whose scale is meant, and the value converted under R140; NaN gives none. -/
def State.reportInputs (s : State) (fs : List (Nat × Nat)) : List (Nat × Nat × Int) :=
  fs.flatMap (fun f => s.reportMetrics.filterMap (fun m =>
    let d := s.metricDef false m
    ((toFixed (rawVal d.fmt f.2) d.frac).1).map (fun q => (f.1, m, q))))

/-- A report feeds its KIND 2 metrics, then the STREAM models that it triggers. Log entry 72 (DEDUCED). -/
def State.feedReport (s : State) (typ : Nat) (r : Report) : State :=
  let fs := s.reportValues typ r
  let s := fs.foldl (fun s f => s.feedField typ r.t (repCore r typ) f) s
  s.fireTrigger 0 typ r.t (s.reportInputs fs)

/-! ### Run-ahead tickets (R123 to R126) -/

/-- STATION and COUNTER as a counter number. -/
def repCtr (r : Report) (typ st ct : Nat) : Nat := 32 * rf r typ st + rf r typ ct

/-- RA_CANCEL (R124, R126). Log entry 52 (DEDUCED). -/
def State.raCancel (s : State) (ticket : Nat) : State :=
  if s.tal.tickets.any (fun k => k.num = ticket) then
    let (rs, s) := s.cancelTicket ticket 1
    (s.inc F.TAL_RA_CANCELLED).retractOwn rs
  else s.inc F.TAL_RA_REFUSED_UNKNOWN

/-- A ticket expires at the TIMEOUT-th boundary after its first post (R125). Log entry 52 (DEDUCED). -/
def State.raExpire (s : State) (ticket : Nat) : State :=
  match s.tal.tickets.find? (fun k => k.num = ticket) with
  | none => s
  | some k =>
    if k.age < s.raTimeout then s
    else
      let (rs, s) := s.cancelTicket ticket 2
      ((s.inc F.TAL_RA_EXPIRED).log 0x11 0 ticket k.entries.length).retractOwn rs

/-! ### Samples (R128) -/

/-- A SAMPLE report: counted for its counter and the epoch of its stamp, and recorded; dropped beyond the limit, with SAMPLE_EN 0 and for a
counter that is not MODE 1. Log entry 77 (DEDUCED). -/
def State.sampleRx (s : State) (r : Report) : State :=
  let id := repCtr r 0x13 0 1
  let closing := s.bankAt r.t = some true
  let n := if closing then s.tal.sampledOld else s.tal.sampled
  if !(s.on (F.MAP_A_PRESENT id) && s.ctrMode id = 1) || s.act F.TAL_CTRL_SAMPLE_EN = 0 || s.fld F.TAL_SAMPLE_CFG_MAX_PER_EPOCH ≤ n then
    s.inc F.TAL_SAMPLE_STAT_DROPPED
  else
    let c := s.ctr id
    let s := s.putCtr (if closing then { c with samplesOld := c.samplesOld + 1 } else { c with samples := c.samples + 1 })
    let s := s.setTal (if closing then { s.tal with sampledOld := n + 1 } else { s.tal with sampled := n + 1 })
    let ev := s.fld (F.MAP_A_EVENT id)
    let (lo, hi, un) := match s.evtInfo ev with
      | some e => (e.skidMin, e.skidMax, e.skidUnit)
      | none => (0, 0, 0)
    let (rec_, s) := s.originateBare 0x32 4 1 (s.fld (F.MAP_B_OWNER id)) (r.t / 8)
      [(16, toLE 8 (rf r 0x13 3)), (24, toLE 2 (rf r 0x13 2)), (26, toLE 2 ev), (28, toLE 4 (rf r 0x13 0 + 4096 * rf r 0x13 1)),
       (32, toLE 2 lo), (34, toLE 2 hi), (36, toLE 1 un)]
    s.toRoute F.TRC_ROUTE_SAMPLE rec_

/-! ### Meanings -/

/-- SERVICE_REPORT_ARRIVAL. -/
def execServiceReportArrival (t : Nat) (typ : Byte) (body : BitVec 120) (s : State) : Host.Outcome State Fault Refusal :=
  done (s.reportArrives typ ⟨t, body⟩)

/-- RA_POST: a report of TYPE 0x10. -/
def execRaPost (r : Report) (s : State) : Host.Outcome State Fault Refusal :=
  done (((s.takeReport 0x10 r).feedReport 0x10 r).raPost r.t (rf r 0x10 0) (repCtr r 0x10 1 2) (rf r 0x10 3))

/-- RA_COMMIT: a report of TYPE 0x11. -/
def execRaCommit (r : Report) (s : State) : Host.Outcome State Fault Refusal :=
  done (((s.takeReport 0x11 r).feedReport 0x11 r).raCommit (rf r 0x11 0))

/-- RA_CANCEL: a report of TYPE 0x12. -/
def execRaCancel (r : Report) (s : State) : Host.Outcome State Fault Refusal :=
  done (((s.takeReport 0x12 r).feedReport 0x12 r).raCancel (rf r 0x12 0))

/-- RA_TICKET_EXPIRY. -/
def execRaTicketExpiry (ticket : Nat) (s : State) : Host.Outcome State Fault Refusal := done (s.raExpire ticket)

/-- SAMPLE: a report of TYPE 0x13. -/
def execSample (r : Report) (s : State) : Host.Outcome State Fault Refusal :=
  done (((s.takeReport 0x13 r).feedReport 0x13 r).sampleRx r).release

/-- HOST_REPORT: a report of a TYPE that the image declares (R308). -/
def execHostReport (typ : Byte) (r : Report) (s : State) : Host.Outcome State Fault Refusal :=
  let s := s.takeReport typ.toNat r
  done (if (s.hostFields typ.toNat).isEmpty then s.inc F.SVC_STAT_BAD_TYPE else s.feedReport typ.toNat r)

end Sys2Proof.Machine
end

