-- ==== Sys2Proof/Machine/Services.lean ====
section
/-! DEFINITION. Services to the host accelerator (spec/11): digests (R310 to R313), duplicate sampling (R314 to R316), charges and tile states
(R317 to R319), stepping (R321 to R323), latches (R324, R325), PC samples and operation counts (R326, R327), and dumps (R328 to R330). -/

namespace Sys2Proof.Machine

/-! ### When a service runs (R309, R332) -/

/-- An image is loaded, the power state is RUN, and the service state is not BRING-UP. -/
def State.svcRuns (s : State) : Bool := s.loaded && s.power = 0 && s.svc ≠ svcBringup

/-- A service that an enable of SVC_CTRL governs. -/
def State.svcOn (s : State) (en : Fld) : Bool := s.svcRuns && s.act en = 1

/-- Field tests and unheld dumps run in TEST and SERVICE. -/
def State.testsRun (s : State) : Bool := s.svcRuns && (s.svc = svcTest || s.svc = svcService)

/-- A report is taken; when its service does not run it is discarded and counted, else it feeds its metrics and has the effect `f`. Log entry 72 (DEDUCED). -/
def State.serveReport (s : State) (typ : Nat) (r : Report) (runs : State → Bool) (f : State → State) : State :=
  let s := s.takeReport typ r
  if runs s then f (s.feedReport typ r) else s.inc F.SVC_STAT_STATE_DROP

/-- Host tiles of the image. -/
def State.hostTiles (s : State) : Nat := s.fld F.SVC_HOST_TILES

/-- A report that names a tile beyond TILES counts as BAD_TYPE (R307). Log entry 72 (DEDUCED). -/
def State.withTiles (s : State) (tiles : List Nat) (f : State → State) : State :=
  if tiles.any (fun t => s.hostTiles ≤ t) then s.inc F.SVC_STAT_BAD_TYPE else f s

/-! ### Digests (R310, R311) -/

/-- Open collectives that the build holds (R331). -/
def collLimit : Build → Nat
  | .spoke => 64
  | .hub => 1024

/-- DIG_OPEN. Log entry 73 (DEDUCED). -/
def State.digOpen (s : State) (r : Report) : State :=
  let coll := rf r 0x25 0
  let peer := rf r 0x25 2
  let ke := rf r 0x25 3
  let now := s.epochOf r.t
  let otherDomain := !s.hub && peer / 2 ^ 17 ≠ s.ident / 2 ^ 17
  match s.digestKey ke with
  | none => s.inc F.SVC_DIG_STAT_REFUSED
  | some k =>
    if collLimit s.build ≤ s.srv.colls.length || s.srv.colls.any (fun c => c.coll = coll) || now < ke || ke + 3 < now || otherDomain then
      s.inc F.SVC_DIG_STAT_REFUSED
    else s.setSrv { s.srv with colls := s.srv.colls ++ [⟨coll, rf r 0x25 1, peer, ke, BitVec.ofNat 64 k, 0, 0, false, 0⟩] }

/-- DIG_TAP. -/
def State.digTap (s : State) (r : Report) : State :=
  let coll := rf r 0x26 0
  if s.srv.colls.any (fun c => c.coll = coll) then
    s.setSrv { s.srv with colls := s.srv.colls.map (fun (c : Coll) =>
      if c.coll = coll then
        { c with digest := c.digest ^^^ gf64Mul (BitVec.ofNat 64 (rf r 0x26 2)) (gf64Pow c.key (rf r 0x26 1 + 1)), taps := c.taps + 1 }
      else c) }
  else s.inc F.SVC_DROP_DIGEST

/-- A collective closes: its record waits for the summary of its epoch, and its entry is free (R311, R312). -/
def State.closeColl (s : State) (c : Coll) (epoch ns words : Nat) (aborted : Bool) : State :=
  let flags := b2n aborted + 2 * b2n c.tapDrop + 4 * b2n (!aborted && c.taps < words)
  let body := (layout 60 [(16, 6, epoch), (22, 2, c.coll), (24, 6, c.keyEpoch), (30, 1, c.role), (31, 1, flags), (32, 4, c.peer), (36, 4, words),
    (40, 8, c.digest.toNat)]).drop 16
  s.setSrv { s.srv with colls := s.srv.colls.filter (fun x => x.coll ≠ c.coll), digs := s.srv.digs ++ [(epoch, ns, body)] }

/-- DIG_CLOSE. Log entry 73 (DEDUCED). -/
def State.digClose (s : State) (r : Report) : State :=
  match s.srv.colls.find? (fun c => c.coll = rf r 0x27 0) with
  | some c => s.closeColl c (s.epochOf r.t) (r.t / 8) (rf r 0x27 1) false
  | none => s.inc F.SVC_DROP_DIGEST

/-- COLL_TIMEOUT; 0 acts as 1 (R333). -/
def State.collTimeout (s : State) (coll : Nat) : State :=
  match s.srv.colls.find? (fun c => c.coll = coll) with
  | some c => if max 1 (s.fld F.SVC_DIG_CFG_COLL_TIMEOUT) ≤ c.age then s.closeColl c s.tim.epoch s.nowNs 0 true else s
  | none => s

/-- A received digest record (R312, R313): passed on below LEVEL 2, paired or held at LEVEL 2 and above. -/
def State.digestRx (s : State) (x : Rx) : State :=
  if !s.loaded then s
  else if !s.merging then s.sendUp 3 x.bytes
  else
    let s := s.hashRec x.bytes
    if s.level < 2 then s.sendUp 3 x.bytes else s.digestTake x.bytes

/-- The root's hold of records has lasted PAIR_WINDOW epochs (R313). -/
def State.pairExpiry (s : State) : State :=
  if !s.isRoot then s
  else
    let (old, rest) := s.srv.held.partition (fun h => h.2 + s.fld F.SVC_DIG_CFG_PAIR_WINDOW ≤ s.tim.epoch)
    (old.map (fun h => h.1)).foldl (fun (s : State) b => s.unpaired b) (s.setSrv { s.srv with held := rest })

/-! ### Tile words and states (R317 to R319, R337) -/

/-- A tile's word is about to change: its page of a checkpoint is kept (R445). -/
def State.touchTile (s : State) (t : Nat) : State := s.touch 4 ((match s.build with
  | .spoke => 12288
  | .hub => 16384) + 16 * t)

/-- STATE of a tile: 0 NORMAL, 1 SUSPECT, 2 TESTING, 3 FAILED. -/
def State.tileState (s : State) (t : Nat) : Nat := s.fld (F.HTILE_STATE t)

/-- SVC_FT_PEND follows the queue. -/
def State.showQueue (s : State) : State :=
  (s.set F.SVC_FT_PEND_TILE (s.srv.ftq.headD 0)).set F.SVC_FT_PEND_DEPTH s.srv.ftq.length

/-- A field-test request: queued, or counted when 16 wait (R319). -/
def State.ftRequest (s : State) (t : Nat) : State :=
  if !s.testsRun then s
  else
    let s := s.setSrv { s.srv with ftAsked := (t, s.tim.epoch) :: s.srv.ftAsked.filter (fun x => x.1 ≠ t) }
    if 16 ≤ s.srv.ftq.length then s.inc F.SVC_FT_PEND_QFULL
    else (s.setSrv { s.srv with ftq := s.srv.ftq ++ [t] }).showQueue

/-- A charge: SCORE + 1; at THRESH a NORMAL tile becomes SUSPECT (R317, R318). Log entry 75 (DEDUCED). -/
def State.charge (s : State) (t ns epoch : Nat) : State :=
  let s := (s.touchTile t).inc (F.HTILE_STATE_SCORE t)
  if s.act F.SVC_CTRL_FT_EN = 1 && s.tileState t = 0 && max 1 (s.fld F.SVC_FT_THRESH) ≤ s.fld (F.HTILE_STATE_SCORE t) then
    ((s.set (F.HTILE_STATE t) 1).finding ns epoch 7 t 0 0 0 0).ftRequest t
  else s

/-- POISON. Log entry 75 (DEDUCED). -/
def State.poison (s : State) (r : Report) : State :=
  let tile := rf r 0x29 0
  let origin := rf r 0x29 1
  let c := if origin = 0xFFF then tile else origin
  s.withTiles [tile, c] fun s =>
    let s := ((s.touchTile c).inc F.SVC_CHK_STAT_POISON).inc (F.HTILE_POISON c)
    let e := s.epochOf r.t
    (s.finding (r.t / 8) e 4 c tile (rf r 0x29 2) (64 * rf r 0x29 3) 0).charge c (r.t / 8) e

/-- CHECK. Log entry 75 (DEDUCED). -/
def State.checkRx (s : State) (r : Report) : State :=
  let tile := rf r 0x2A 0
  let c := rf r 0x2A 1
  let ex := rf r 0x2A 4
  let co := rf r 0x2A 5
  s.withTiles [tile, c] fun s =>
    if ex = co then s.inc F.SVC_CHK_STAT_EQUAL
    else
      let s := ((s.touchTile c).inc F.SVC_CHK_STAT_CHECK_FAIL).inc (F.HTILE_POISON_CHECK_FAIL c)
      let e := s.epochOf r.t
      (s.finding (r.t / 8) e 5 c tile (rf r 0x2A 2 + 2 ^ 24 * rf r 0x2A 3) ex co).charge c (r.t / 8) e

/-- NUMERIC. Log entry 75 (DEDUCED). -/
def State.numeric (s : State) (r : Report) : State :=
  let t := rf r 0x2B 0
  s.withTiles [t] fun s =>
    if rf r 0x2B 1 = 0 then s
    else
      let s := ((s.touchTile t).inc F.SVC_CHK_STAT_NAN_REPORTS).inc (F.HTILE_NAN_NAN_REPORTS t)
      if s.act F.SVC_CTRL_CHARGE_NAN = 0 then s
      else
        let e := s.epochOf r.t
        (s.finding (r.t / 8) e 6 t 0 0 0 (rf r 0x2B 1)).charge t (r.t / 8) e

/-- FT_RESULT. Log entry 75 (DEDUCED). -/
def State.ftResult (s : State) (r : Report) : State :=
  let t := rf r 0x2C 0
  s.withTiles [t] fun s =>
    if s.tileState t ≠ 1 && s.tileState t ≠ 2 then s.inc F.SVC_STAT_BAD_TYPE
    else
      let s := s.touchTile t
      if rf r 0x2C 1 = 1 then ((s.set (F.HTILE_STATE t) 0).set (F.HTILE_STATE_SCORE t) 0).inc (F.HTILE_NAN_FT_PASS t)
      else
        ((s.set (F.HTILE_STATE t) 3).inc (F.HTILE_NAN_FT_FAIL t)).finding (r.t / 8) (s.epochOf r.t) 8 t 0 (rf r 0x2C 2) (rf r 0x2C 3) 0

/-- FT_TIMEOUT: TIMEOUT epochs after its last request a tile still SUSPECT or TESTING is requested again (R319). -/
def State.ftTimeout (s : State) (t : Nat) : State :=
  let since := match s.srv.ftAsked.find? (fun x => x.1 = t) with
    | some x => x.2
    | none => 0
  if s.act F.SVC_CTRL_FT_EN = 1 && (s.tileState t = 1 || s.tileState t = 2) && since + max 1 (s.fld F.SVC_FT_TIMEOUT) ≤ s.tim.epoch then
    s.ftRequest t
  else s

/-- TEST of SVC_FT_REQ: NORMAL to TESTING (R318). -/
def State.ftReqTest (s : State) (w : Word) : State :=
  let t := F.SVC_FT_REQ_TILE.get w
  if s.act F.SVC_CTRL_FT_EN = 1 && s.testsRun && t < s.hostTiles && s.tileState t = 0 then
    ((s.touchTile t).set (F.HTILE_STATE t) 2).ftRequest t
  else s

/-- CLEAR of SVC_FT_REQ: FAILED to NORMAL (R318). Log entry 75 (DEDUCED). -/
def State.ftReqClear (s : State) (w : Word) : State :=
  let t := F.SVC_FT_REQ_TILE.get w
  if t < s.hostTiles && s.tileState t = 3 then (s.touchTile t).set (F.HTILE_STATE t) 0 else s

/-- ACK of SVC_FT_PEND. -/
def State.ftAck (s : State) : State := (s.setSrv { s.srv with ftq := s.srv.ftq.tail }).showQueue

/-! ### Duplicate sampling (R314 to R316) -/

/-- LOG_RATE: below 4 acts as 4, above 12 as 12 (R333). -/
def State.logRate (s : State) : Nat := clampN 4 12 (s.fld F.SVC_HOST_LOG_RATE)

/-- The 768-bit string of tile `t` for epoch `e` (R314). -/
def planString (key : Bytes) (e t : Nat) : Nat :=
  let m (k : Nat) : Bytes := toLE 8 e ++ toLE 2 t ++ toLE 2 k
  le (hmac384 key (m 0) ++ hmac384 key (m 1)) 0 96

/-- Slot `i` of tile `t` is selected in a plan (R314). -/
def DupPlan.selects (p : DupPlan) (t i : Nat) : Bool :=
  if p.tiles ≤ t || 64 ≤ i || p.none_.contains t then false
  else if p.full.contains t then true
  else planString p.key p.epoch t / 2 ^ (12 * i) % 2 ^ p.logRate = 0

/-- The mask of tile `t`. -/
def DupPlan.mask (p : DupPlan) (t : Nat) : Nat :=
  (List.range 64).foldl (fun (m : Nat) i => if p.selects t i then m ||| 2 ^ i else m) 0

/-- DUP_PLAN_WRITE: the plan for the next epoch goes to its half of the plan area, the masks first and then the header (R315). Log entry 74 (DEDUCED). -/
def State.planWrite (s : State) : State :=
  let e := s.tim.epoch + 1
  if !s.svcOn F.SVC_CTRL_DUP_EN || s.srv.plans.any (fun p => p.epoch = e) then s
  else
    let p : DupPlan := ⟨e, s.logRate, s.hostTiles, s.sampleKey, s.srv.snap.1, s.srv.snap.2, false, []⟩
    let at_ := s.pair F.SVC_PLAN_LO F.SVC_PLAN_HI / 64 * 64 + (e % 2) * 0x8040
    let masks := padTo 64 ((List.range p.tiles).flatMap (fun t => toLE 8 (p.mask t)))
    let head := layout 64 [(0, 6, e), (8, 2, p.tiles), (10, 1, p.logRate)]
    let s := s.setSrv { s.srv with plans := s.srv.plans ++ [p] }
    let lines := hwriteLines (at_ + 64) .plan masks ++ [⟨at_, head, .plan, true⟩]
    s.setPorts { s.ports with hwrites := s.ports.hwrites ++ lines }

/-- A write of the plan has completed: with its last one the plan stands; an error leaves it incomplete (R315). Log entry 74 (DEDUCED). -/
def State.planWritten (s : State) (ok last : Bool) : State :=
  let e := s.tim.epoch + 1
  if !ok then s.setSrv { s.srv with plans := s.srv.plans.filter (fun p => p.written || p.epoch ≠ e) }
  else if last then s.setSrv { s.srv with plans := s.srv.plans.map (fun (p : DupPlan) => if p.epoch = e then { p with written := true } else p) }
  else s

/-- RESULT_WINDOW; 0 acts as 1 (R333). Log entry 74 (DEDUCED). -/
def State.resultWindow (s : State) : Nat := max 1 (s.fld F.SVC_HOST_RESULT_WINDOW)

/-- DUP_RESULT (R316). Log entry 74 (DEDUCED). -/
def State.dupResult (s : State) (r : Report) : State :=
  let tile := rf r 0x28 0
  let item := rf r 0x28 1
  let shadow := rf r 0x28 2
  let a := rf r 0x28 4
  let b := rf r 0x28 5
  s.withTiles [tile, shadow] fun s =>
    match s.srv.plans.find? (fun p => p.epoch % 256 = rf r 0x28 3 && p.epoch ≤ s.tim.epoch && s.tim.epoch < p.epoch + s.resultWindow) with
    | none => s.inc F.SVC_DUP_STAT2_UNPLANNED
    | some p =>
      if !p.selects tile item then s.inc F.SVC_DUP_STAT2_UNPLANNED
      else if p.reported.contains (tile, item) then s.inc F.SVC_DUP_STAT2_REPEAT
      else
        let s := s.setSrv { s.srv with plans := s.srv.plans.map (fun (q : DupPlan) =>
          if q.epoch = p.epoch then { q with reported := (tile, item) :: q.reported } else q) }
        if a = b then s.wrapInc F.SVC_DUP_MATCH
        else
          let e := s.epochOf r.t
          let s := ((s.touchTile tile).inc F.SVC_DUP_STAT_MISMATCH).inc (F.HTILE_DUP_DUP_MISMATCH tile)
          let s := (s.finding (r.t / 8) e 3 tile shadow item a b).charge tile (r.t / 8) e
          if shadow = tile then s else ((s.touchTile shadow).inc (F.HTILE_DUP_DUP_MISMATCH shadow)).charge shadow (r.t / 8) e

/-- The window of the oldest plan has closed: selected slots with no result are MISSED (R316). Log entry 74 (DEDUCED). -/
def State.windowClose (s : State) : State :=
  match s.srv.plans.find? (fun p => p.epoch + s.resultWindow ≤ s.tim.epoch) with
  | none => s
  | some p =>
    let s := s.setSrv { s.srv with plans := s.srv.plans.filter (fun q => q.epoch ≠ p.epoch) }
    (List.range p.tiles).foldl (fun (s : State) t =>
      let n := ((List.range 64).filter (fun i => p.selects t i && !p.reported.contains (t, i))).length
      if n = 0 then s else ((s.touchTile t).add F.SVC_DUP_STAT_MISSED n).add (F.HTILE_DUP_MISSED t) n) s

/-! ### Stepping (R321 to R323) -/

/-- A write of SVC_STEP: MODE changes only in TEST, and a break already met is forgotten when it does; GRANT adds to CREDIT. Log entry 76 (DEDUCED). -/
def State.stepWrite (s : State) (w : Word) : State :=
  let m := F.SVC_STEP_MODE.get w
  let s := if s.svc = svcTest then
      (s.set F.SVC_STEP_MODE m).setSrv { s.srv with broke := s.srv.broke && s.fld F.SVC_STEP_MODE = m }
    else s
  (s.add F.SVC_STEP_CREDIT (F.SVC_STEP_GRANT.get w)).gateServe

/-- The block leaves TEST (R323). Log entry 76 (DEDUCED). -/
def State.leaveTest (s : State) : State :=
  let s := ((s.set F.SVC_STEP_MODE 0).set F.SVC_STEP_CREDIT 0).setSrv { s.srv with
    dump := s.srv.dump.map (fun (d : Dump) => { d with held := false }), broke := false }
  s.gateServe

/-- The break mark of MODE 2 is stamped (R321, R322). Log entry 76 (DEDUCED). -/
def State.breakMark (s : State) (r : Report) : State :=
  let start := rf r 0x20 1 = 0
  let s := if start then s.setSrv { s.srv with begun := s.srv.begun + 1 } else s
  if start && s.fld F.SVC_STEP_MODE = 2 && !s.srv.broke && rf r 0x20 0 = s.fld F.SVC_STEP_BRK then
    ((s.setSrv { s.srv with broke := true }).set F.SVC_STEP_CREDIT 0).add F.SVC_STEP_SLIP (s.ports.gateAcks - s.srv.begun)
  else s

/-! ### Counter latches (R324, R325) -/

/-- Counters of the latch set that are used, in order. -/
def State.latchSet (s : State) : List Nat :=
  (List.range (min 32 (s.fld F.SVC_LATCH_CFG_N))).map (fun i => 32 * s.fld (F.SVC_LATCH_STATION i) + s.fld (F.SVC_LATCH_COUNTER i))

/-- A latch pass starts. -/
def State.latchStart (s : State) (m : Mark) : State :=
  let s := s.setSrv { s.srv with running := some m }
  (s.setTal { s.tal with latchLeft := s.latchSet, latched := [] }).askNext

/-- A bracket pass is under way. -/
def State.bracketing (s : State) : Bool := !s.tal.bracket.isEmpty || !s.tal.post.isEmpty || s.tal.postDue || (match s.tal.asked with
  | some (1, _) => true
  | _ => false)

/-- A mark starts a latch pass, or queues behind the one that runs, up to 4 (R324). -/
def State.latchMark (s : State) (r : Report) : State :=
  let m : Mark := ⟨r.t, s.epochOf r.t, rf r 0x20 0, rf r 0x20 1 = 1, rf r 0x20 2, s.bracketing⟩
  if s.srv.running.isNone then s.latchStart m
  else if s.srv.marks.length < 4 then s.setSrv { s.srv with marks := s.srv.marks ++ [m] }
  else s.inc F.SVC_DROP_OTHER

/-- CMD_MARK (R321, R324). Log entry 76 (DEDUCED). -/
def State.cmdMark (s : State) (r : Report) : State :=
  let s := (s.takeReport 0x20 r).breakMark r
  if s.svcOn F.SVC_CTRL_LATCH_EN then (s.feedReport 0x20 r).latchMark r
  else if s.svcRuns && s.fld F.SVC_STEP_MODE = 2 then s.feedReport 0x20 r
  else s.inc F.SVC_STAT_STATE_DROP

/-- The latch record (R325). -/
def State.latchRecord (s : State) (m : Mark) : State :=
  let n := s.tal.latched.length
  let es := ((List.range n).zip s.tal.latched).flatMap (fun p =>
    let v := p.2
    toLE 8 v.1 ++ toLE 2 (min 0xFFFF (v.2.1 - m.t)) ++ toLE 1 p.1 ++ toLE 1 (b2n v.2.2))
  let (r, s) := s.originate 0x2A 4 ((36 + 12 * n + 63) / 64) 0 (m.t / 8)
    [(16, toLE 6 m.epoch), (22, toLE 1 n), (23, toLE 1 (b2n m.isEnd + 2 * b2n m.delayed)), (24, toLE 4 m.seq), (28, toLE 2 m.queue), (32, es)]
  s.toRoute F.TRC_ROUTE_SERVICE r

/-- LATCH_PASS_DONE: the last reading has come; the record is written and the next mark starts its pass. Log entry 76 (DEDUCED). -/
def State.latchDone (s : State) : State :=
  let reading := match s.tal.asked with
    | some (2, _) => true
    | _ => false
  match s.srv.running with
  | none => s
  | some m =>
    if !s.tal.latchLeft.isEmpty || reading then s
    else
      let s := s.latchRecord m
      let s := s.setTal { s.tal with latched := [] }
      match s.srv.marks with
      | [] => s.setSrv { s.srv with running := none }
      | x :: rest => (s.setSrv { s.srv with marks := rest }).latchStart x

/-! ### PC samples and operation counts (R326, R327) -/

/-- PC_SAMPLE. Log entry 77 (DEDUCED). -/
def State.pcSample (s : State) (r : Report) : State :=
  if s.fld F.SVC_PCS_MAX_PER_EPOCH ≤ s.srv.pcs then s.inc F.SVC_PCS_DROPPED
  else
    let s := s.setSrv { s.srv with pcs := s.srv.pcs + 1 }
    let (b, s) := s.originateBare 0x33 4 1 0 (r.t / 8) [(16, toLE 8 (rf r 0x21 1)), (24, toLE 2 (rf r 0x21 0)), (26, toLE 1 (rf r 0x21 2))]
    s.toRoute F.TRC_ROUTE_SERVICE b

/-- OPCOUNT: the cell saturates at 2⁶⁴ − 1. -/
def State.opcount (s : State) (r : Report) : State :=
  let cell := 16 * rf r 0x22 0 + rf r 0x22 1
  let old := match s.srv.ops.find? (fun x => x.1 = cell) with
    | some x => x.2
    | none => 0
  s.setSrv { s.srv with ops := (cell, min (2 ^ 64 - 1) (old + rf r 0x22 2)) :: s.srv.ops.filter (fun x => x.1 ≠ cell) }

/-- The table is frozen into the sealed window and the live table cleared (R327, R338). Log entry 77 (DEDUCED). -/
def State.opsSeal (s : State) : State :=
  let live := s.srv.ops
  let s := (List.range 256).foldl (fun (s : State) c =>
    let n := match live.find? (fun x => x.1 = c) with
      | some x => x.2
      | none => 0
    (s.setWord (0x5A0000 + 8 * c) (BitVec.ofNat 32 n)).setWord (0x5A0004 + 8 * c) (BitVec.ofNat 32 (n / 2 ^ 32))) s
  s.setSrv { s.srv with ops := [] }

/-! ### Dumps (R328 to R330) -/

/-- A dump may run: with HOLD in TEST alone, without it in TEST and SERVICE (R309). -/
def State.dumpsRun (s : State) : Bool := if s.on F.SVC_DUMP_CTRL_HOLD then s.svcRuns && s.svc = svcTest else s.testsRun

/-- A write of SVC_DUMP_CTRL: HOLD changes only in TEST. Log entry 77 (DEDUCED). -/
def State.dumpWrite (s : State) (w : Word) : State :=
  let w := if s.svc = svcTest then w else F.SVC_DUMP_CTRL_HOLD.put w (s.fld F.SVC_DUMP_CTRL_HOLD)
  (s.plainWrite 0x08004C w).setSrv { s.srv with tag := none }

/-- TENSOR_TAG: a match is held pending; a later one replaces it. -/
def State.tensorTag (s : State) (r : Report) : State :=
  if s.on F.SVC_DUMP_CTRL_ARM && rf r 0x23 0 = s.fld F.SVC_DUMP_ID_TENSOR_ID && rf r 0x23 1 = s.fld F.SVC_DUMP_STEP then
    s.setSrv { s.srv with tag := some (rf r 0x23 0, rf r 0x23 1, 64 * rf r 0x23 2) }
  else s

/-- A chunk record (R329). -/
def State.chunkRecord (s : State) (d : Dump) (final aborted torn : Bool) : State :=
  let n := d.chunk.length
  let flags := b2n final + 2 * b2n d.held + 4 * b2n torn + 8 * b2n d.crcValid + 16 * b2n aborted
  let (r, s) := s.originateBy (fun bs => closeChunk bs n) 0x2D 4 64 0 d.chunkNs
    [(16, toLE 6 d.epoch), (22, toLE 1 flags), (24, toLE 4 d.tensor), (28, toLE 4 d.step), (32, toLE 8 d.offset), (40, toLE 2 n),
     (44, toLE 4 d.hostCrc), (48, toLE 4 (if final then (~~~d.crc).toNat else 0)), (64, d.chunk)]
  s.toRoute F.TRC_ROUTE_DUMP r

/-- The copy ends: BUSY clears; DONE, TORN or FAIL sets; a held gate is released (R330). -/
def State.dumpEnd (s : State) (d : Dump) (aborted : Bool) : State :=
  let torn := !aborted && d.crcValid && (~~~d.crc).toNat ≠ d.hostCrc
  let s := (s.chunkRecord d true aborted torn).setSrv { s.srv with dump := none }
  let s := (s.set F.SVC_DUMP_CTRL_BUSY 0).set (if aborted then F.SVC_DUMP_CTRL_FAIL else if torn then F.SVC_DUMP_CTRL_TORN else F.SVC_DUMP_CTRL_DONE) 1
  s.gateServe

/-- Bytes of the tensor arrive from the Boot Read Port; `final` with the last of them. -/
def State.dumpData (s : State) (bs : Bytes) (final : Bool) : State :=
  match s.srv.dump with
  | none => s
  | some d =>
    let d : Dump := { d with chunk := d.chunk ++ bs, chunkNs := if d.chunk.isEmpty then s.nowNs else d.chunkNs, crc := crc32cFrom d.crc bs }
    if final then s.dumpEnd d false
    else if 4032 ≤ d.chunk.length then
      let s := s.chunkRecord d false false false
      s.setSrv { s.srv with dump := some { d with offset := d.offset + d.chunk.length, chunk := [] } }
    else s.setSrv { s.srv with dump := some d }

/-- A port error response ends the copy (R330). -/
def State.dumpError (s : State) : State :=
  match s.srv.dump with
  | none => s
  | some d => s.dumpEnd (if d.chunk.isEmpty then { d with chunkNs := s.nowNs } else d) true

/-- TENSOR_LEN of the tagged tensor triggers the dump. Log entry 77 (DEDUCED). -/
def State.tensorLen (s : State) (r : Report) : State :=
  match s.srv.tag with
  | none => s
  | some (id, step, addr) =>
    if rf r 0x24 0 ≠ id || !s.on F.SVC_DUMP_CTRL_ARM || s.srv.dump.isSome then s
    else
      let n := 64 * rf r 0x24 1
      let d : Dump := { tensor := id, step := step, addr := addr, total := n, hostCrc := rf r 0x24 2, crcValid := rf r 0x24 3 = 1,
                        held := s.on F.SVC_DUMP_CTRL_HOLD, epoch := s.epochOf r.t, offset := 0, chunk := [], chunkNs := s.nowNs,
                        crc := 0xFFFFFFFF#32 }
      let s := ((s.set F.SVC_DUMP_CTRL_ARM 0).set F.SVC_DUMP_CTRL_BUSY 1).setSrv { s.srv with tag := none, dump := some d }
      if n = 0 then s.dumpEnd d false
      else s.setPorts { s.ports with jobs := s.ports.jobs ++ [⟨.dump, addr, n, [], true⟩] }

/-! ### Boundaries and seals -/

/-- The services at the boundary that opens epoch `e` (R311, R315, R318, R326, R332). -/
def State.svcBoundary (s : State) (e : Nat) : State :=
  let due := s.svcOn F.SVC_CTRL_DUP_EN
  let stands := s.srv.plans.any (fun p => p.epoch = e && p.written)
  let s := if due && !stands then s.inc F.SVC_DUP_STAT2_PLAN_LATE else s
  let ts := List.range s.hostTiles
  let s := s.setSrv { s.srv with
    plans := s.srv.plans.filter (fun p => p.written)
    snap := (ts.filter (fun t => s.tileState t = 1), ts.filter (fun t => s.tileState t = 3))
    colls := s.srv.colls.map (fun (c : Coll) => { c with age := c.age + 1 })
    pcs := 0 }
  let s := if e % max 1 (s.fld F.SVC_FT_WINDOW) = 0 then
      (ts.filter (fun t => s.tileState t = 0 && s.fld (F.HTILE_STATE_SCORE t) ≠ 0)).foldl (fun (s : State) t =>
        (s.touchTile t).set (F.HTILE_STATE_SCORE t) 0) s
    else s
  s.takeForce [0x080000]

/-- The services at a seal: the operation table is frozen, and a node below the root passes its unpaired records upward (R313, R327). -/
def State.svcSeal (s : State) : State :=
  let s := if s.svcRuns then s.opsSeal else s
  if s.isRoot then s
  else
    let old := s.srv.held
    old.foldl (fun (s : State) h => s.sendUp 3 h.1) (s.setSrv { s.srv with held := [] })

/-! ### Meanings -/

/-- DIG_OPEN: TYPE 0x25. -/
def execDigOpen (r : Report) (s : State) : Host.Outcome State Fault Refusal :=
  done (s.serveReport 0x25 r (fun s => s.svcOn F.SVC_CTRL_DIG_EN) (fun s => s.digOpen r))

/-- DIG_TAP: TYPE 0x26. -/
def execDigTap (r : Report) (s : State) : Host.Outcome State Fault Refusal :=
  done (s.serveReport 0x26 r (fun s => s.svcOn F.SVC_CTRL_DIG_EN) (fun s => s.digTap r))

/-- DIG_CLOSE: TYPE 0x27. -/
def execDigClose (r : Report) (s : State) : Host.Outcome State Fault Refusal :=
  done (s.serveReport 0x27 r (fun s => s.svcOn F.SVC_CTRL_DIG_EN) (fun s => s.digClose r))

/-- COLL_TIMEOUT. -/
def execCollTimeout (coll : Nat) (s : State) : Host.Outcome State Fault Refusal := done (s.collTimeout coll)

/-- DIGEST_RECORD. -/
def execDigestRecord (r : Rx) (s : State) : Host.Outcome State Fault Refusal :=
  done (((s.reach r.t).consume r).atNode (recKey r.bytes) r.port (fun s => s.digestRx r))

/-- DIGEST_PAIR_EXPIRY. -/
def execDigestPairExpiry (s : State) : Host.Outcome State Fault Refusal := done s.pairExpiry

/-- DUP_PLAN_WRITE. -/
def execDupPlanWrite (s : State) : Host.Outcome State Fault Refusal := done s.planWrite

/-- DUP_RESULT: TYPE 0x28. -/
def execDupResult (r : Report) (s : State) : Host.Outcome State Fault Refusal :=
  done (s.serveReport 0x28 r (fun s => s.svcOn F.SVC_CTRL_DUP_EN) (fun s => s.dupResult r))

/-- DUP_RESULT_WINDOW_CLOSE. -/
def execDupResultWindowClose (s : State) : Host.Outcome State Fault Refusal := done s.windowClose

/-- POISON: TYPE 0x29. -/
def execPoison (r : Report) (s : State) : Host.Outcome State Fault Refusal :=
  done (s.serveReport 0x29 r (fun s => s.svcOn F.SVC_CTRL_CHK_EN) (fun s => s.poison r))

/-- CHECK: TYPE 0x2A. -/
def execCheck (r : Report) (s : State) : Host.Outcome State Fault Refusal :=
  done (s.serveReport 0x2A r (fun s => s.svcOn F.SVC_CTRL_CHK_EN) (fun s => s.checkRx r))

/-- NUMERIC: TYPE 0x2B. -/
def execNumeric (r : Report) (s : State) : Host.Outcome State Fault Refusal :=
  done (s.serveReport 0x2B r (fun s => s.svcOn F.SVC_CTRL_CHK_EN) (fun s => s.numeric r))

/-- FT_RESULT: TYPE 0x2C. -/
def execFtResult (r : Report) (s : State) : Host.Outcome State Fault Refusal :=
  done (s.serveReport 0x2C r (fun s => s.testsRun && s.act F.SVC_CTRL_FT_EN = 1) (fun s => s.ftResult r))

/-- FT_TIMEOUT. -/
def execFtTimeout (tile : Nat) (s : State) : Host.Outcome State Fault Refusal := done (s.ftTimeout tile)

/-- FT_REQ_TEST: a write of SVC_FT_REQ with TEST = 1. -/
def execFtReqTest (a : Access) (w : Word) (s : State) : Host.Outcome State Fault Refusal :=
  done (s.guardWrite a 0x080054 (fun s => s.ftReqTest w))

/-- FT_REQ_CLEAR: a write of SVC_FT_REQ with CLEAR = 1. -/
def execFtReqClear (a : Access) (w : Word) (s : State) : Host.Outcome State Fault Refusal :=
  done (s.guardWrite a 0x080054 (fun s => s.ftReqClear w))

/-- FT_ACK: a write of SVC_FT_PEND with ACK = 1. -/
def execFtAck (a : Access) (w : Word) (s : State) : Host.Outcome State Fault Refusal :=
  done (s.guardWrite a 0x080058 (fun s => (s.plainWrite 0x080058 w).ftAck))

/-- STEP_GRANT: a write of SVC_STEP. -/
def execStepGrant (a : Access) (w : Word) (s : State) : Host.Outcome State Fault Refusal :=
  done (s.guardWrite a 0x080034 (fun s => s.stepWrite w))

/-- STEP_MODE_WRITE: a write of SVC_STEP. -/
def execStepModeWrite (a : Access) (w : Word) (s : State) : Host.Outcome State Fault Refusal :=
  done (s.guardWrite a 0x080034 (fun s => s.stepWrite w))

/-- CMD_MARK: TYPE 0x20. -/
def execCmdMark (r : Report) (s : State) : Host.Outcome State Fault Refusal := done (s.cmdMark r)

/-- LATCH_PASS_DONE. -/
def execLatchPassDone (s : State) : Host.Outcome State Fault Refusal := done s.latchDone.release

/-- PC_SAMPLE: TYPE 0x21. -/
def execPcSample (r : Report) (s : State) : Host.Outcome State Fault Refusal :=
  done (s.serveReport 0x21 r (fun s => s.svcOn F.SVC_CTRL_PCS_EN) (fun s => s.pcSample r)).release

/-- OPCOUNT: TYPE 0x22. -/
def execOpcount (r : Report) (s : State) : Host.Outcome State Fault Refusal :=
  done (s.serveReport 0x22 r (fun s => s.svcOn F.SVC_CTRL_OPS_EN) (fun s => s.opcount r))

/-- TENSOR_TAG: TYPE 0x23. -/
def execTensorTag (r : Report) (s : State) : Host.Outcome State Fault Refusal :=
  done (s.serveReport 0x23 r State.dumpsRun (fun s => s.tensorTag r))

/-- TENSOR_LEN: TYPE 0x24. -/
def execTensorLen (r : Report) (s : State) : Host.Outcome State Fault Refusal :=
  done (s.serveReport 0x24 r State.dumpsRun (fun s => s.tensorLen r))

/-- DUMP_ARM: a write of SVC_DUMP_CTRL with ARM = 1. -/
def execDumpArm (a : Access) (w : Word) (s : State) : Host.Outcome State Fault Refusal :=
  done (s.guardWrite a 0x08004C (fun s => s.dumpWrite w))

end Sys2Proof.Machine
end

