-- ==== Sys2Proof/Machine/ServiceState.lean ====
section
/-! DEFINITION. Service states (R19, R22 to R25): a change of state and its Ledger event, entry to RECOVERY, requests and their refusal, and
what a boundary makes due and the seal after it brings into effect. -/

namespace Sys2Proof.Machine

/-- STATE of BLK_IMG_STAT (R412). -/
def imIdle : Nat := 0
def imFetching : Nat := 1
def imChecking : Nat := 2
def imStaged : Nat := 3
def imPending : Nat := 4

/-- The state of in-service staging. -/
def State.imgState (s : State) : Nat := s.fld F.BLK_IMG_STAT_STATE

/-- The windows of R406 open again. -/
def State.openWindows (s : State) : State := s.setImg { s.img with built := false, winClosed := false, childClosed := false }

/-- A pending image switch is cancelled and its image returns to STAGED (R407). -/
def State.cancelSwitch (s : State) : State :=
  if s.imgState = imPending then
    (((s.set F.BLK_IMG_STAT_STATE imStaged).set F.BLK_IMG_STAT_CANCELLED 1).openWindows).mdlCancel
  else s

/-- The service state changes: BLK_STATE and its class 0x01 event; what runs in TEST alone ends with it (R23, R303, R323). -/
def State.setSvc (s : State) (st cause : Nat) : State :=
  let was := s.svc
  let s := ((s.set F.BLK_STATE st).set F.BLK_STATE_ENTRY_CAUSE cause).log 0x01 cause st 0
  if was = svcTest && st ≠ svcTest then s.leaveTest else s

/-- The schedule of fault injection is disarmed (R456). -/
def State.disarm (s : State) : State := s.set F.CON_FI_CTRL_ARMED 0

/-- A hung tile that the image routes to and that is not hidden: the next to have its known-answer run in RECOVERY (R19). -/
def State.katNext (s : State) : Option Nat := s.bru.hung.find? (fun t => s.routed.contains t && !s.bru.hidden.contains t)

/-- A pending power request is cancelled (R469). -/
def State.cancelPower (s : State) : State := (s.set F.BLK_POWER_PEND_VALID 0).set F.BLK_POWER_PEND_TARGET 0

/-- RECOVERY is entered with a cause (R23, R25, R469): pending requests and a pending switch are cancelled, the schedule of fault injection is
disarmed, and the recovery action of cause 0x02 is complete at once (R19). Log entry 44 (DEDUCED). -/
def State.enterRecovery (s : State) (cause : Nat) : State :=
  if s.svc ≠ svcTest && s.svc ≠ svcService then s
  else
    let s := if s.on F.BLK_STATE_PEND_VALID then
        ((s.set F.BLK_STATE_PEND_VALID 0).set F.BLK_STATE_PEND_TARGET 0).set F.BLK_STATE_REQ_CANCELLED 1 else s
    let s := s.cancelSwitch.disarm.cancelPower
    let s := s.setBru { s.bru with recDone := cause = 0x02, dueRec := false, dueOpen := false, duePend := false, recEpochs := 0, katTile := none }
    s.setSvc svcRecovery cause

/-- Whether the recovery action of the entry cause is complete (R19). Log entries 3 (DESIGN CHOICE), 44 (DEDUCED). -/
def State.recoveryMet (s : State) : Bool :=
  match s.fld F.BLK_STATE_ENTRY_CAUSE with
  | 0x10 => !s.bru.hung.any (fun t => s.routed.contains t)
  | 0x11 => 2 ≤ s.bru.recEpochs
  | 0x12 => s.fld F.CON_RST_STAT_STATE ≠ 1
  | 0x13 => !s.red.retained.any (fun x => x.epoch ≤ s.bru.resentTo)
  | _ => true

/-- RECOVERY_COMPLETE: SERVICE follows at the next boundary. Log entry 44 (DEDUCED). -/
def State.recoveryDone (s : State) : State :=
  if s.svc = svcRecovery && s.recoveryMet then s.setBru { s.bru with recDone := true } else s

/-- The recovery action cannot complete: the hung tile has failed its known-answer run and is hidden (R19). Log entries 40 (DEDUCED), 44 (DEDUCED). -/
def State.recoveryStuck (s : State) : Bool := s.fld F.BLK_STATE_ENTRY_CAUSE = 0x10 && s.bru.hung.any (fun t => s.bru.hidden.contains t)

/-- A request is refused (R24). -/
def State.refuseState (s : State) : State := (s.set F.BLK_STATE_REQ_REFUSED 1).inc F.BLK_STATE_REFUSALS

/-- A request waits for the next boundary. -/
def State.pendState (s : State) (st : Nat) : State := (s.set F.BLK_STATE_PEND_TARGET st).set F.BLK_STATE_PEND_VALID 1

/-- A privileged write of BLK_STATE_REQ (R23, R24). Log entry 43 (DEDUCED). -/
def State.stateRequest (s : State) (w : Word) : State :=
  let t := F.BLK_STATE_REQ_TARGET.get w
  let phase := s.fld F.BRU_STATUS_PHASE
  if s.on F.BLK_STATE_PEND_VALID then s.refuseState
  else if s.svc = svcBringup && t = svcTest && s.loaded && s.fld F.BRU_STATUS_PHASE ≠ 6 && !s.bru.opened then
    (s.setBru { s.bru with fromBringup := true }).setSvc svcTest 0x02
  else if s.svc = svcService && t = svcTest then s.pendState t
  else if s.svc = svcTest && t = svcService && phase = 6 && !s.bru.opened then s.pendState t
  else if (s.svc = svcService || s.svc = svcTest) && t = svcRecovery then s.enterRecovery 0x02
  else if s.svc = svcRecovery && t = svcService && s.recoveryStuck then s.pendState t
  else s.refuseState

/-- At a boundary: a pending request, market open and the end of RECOVERY fall due (R23). Log entry 43 (DEDUCED). -/
def State.svcDue (s : State) : State :=
  let early := s.svc = svcBringup || s.svc = svcTest
  let inRec : Bool := s.svc = svcRecovery
  s.setBru { s.bru with
    dueRec := inRec && s.bru.recDone, dueOpen := s.bru.opened && early, duePend := s.on F.BLK_STATE_PEND_VALID
    recEpochs := if inRec then s.bru.recEpochs + 1 else s.bru.recEpochs }

/-- What fell due takes effect once the epoch that closed at the boundary is sealed (R25). Log entry 43 (DEDUCED). -/
def State.svcStateSeal (s : State) : State :=
  let b := s.bru
  let clear (s : State) : State := (s.set F.BLK_STATE_PEND_VALID 0).set F.BLK_STATE_PEND_TARGET 0
  let s := s.setBru { b with dueRec := false, dueOpen := false, duePend := false }
  if b.dueRec && s.svc = svcRecovery then
    ((clear s).setBru { s.bru with recDone := false, opened := false, fromBringup := false }).setSvc svcService 0x20
  else if b.dueOpen && (s.svc = svcBringup || s.svc = svcTest) then
    (s.setBru { s.bru with opened := false, fromBringup := false }).setSvc svcService 0x01
  else if b.duePend && s.on F.BLK_STATE_PEND_VALID then
    let t := s.fld F.BLK_STATE_PEND_TARGET
    ((clear s).setBru { s.bru with fromBringup := false }).setSvc t 0x02
  else s

/-- STATE_REQUEST. -/
def execStateRequest (a : Access) (w : Word) (s : State) : Host.Outcome State Fault Refusal :=
  done (s.guardWrite a 0x000014 (fun s => s.stateRequest w))

/-- RECOVERY_COMPLETE. -/
def execRecoveryComplete (s : State) : Host.Outcome State Fault Refusal := done s.recoveryDone

end Sys2Proof.Machine
end

