-- ==== Sys2Proof/Machine/Images.lean ====
section
/-! DEFINITION. Configuration images: the checks of R402 in their order, loading (R400), and switching in service (R403 to R407). -/

namespace Sys2Proof.Machine

/-! ### Format: code 0x05 (R397 to R399, R308, R452) -/

/-- Size of a section's entries; 0 where the section has no entries of one size. -/
def entrySize : Nat → Nat
  | 2 => 16 | 3 => 12 | 4 => 8 | 5 => 8 | 7 => 16 | 8 => 8
  | _ => 0

/-- Largest image of a build (R410). -/
def imgLimit : Build → Nat
  | .spoke => 2 * 2 ^ 20
  | .hub => 32 * 2 ^ 20

/-- Half of the Kiosk memory (R15, R452). -/
def kioskHalf : Build → Nat
  | .spoke => 128 * 1024
  | .hub => 2 * 2 ^ 20

/-- No two ranges (start, end) of a list overlap. -/
def disjoint : List (Nat × Nat) → Bool
  | [] => true
  | (a, b) :: rest => rest.all (fun r => r.2 ≤ a || b ≤ r.1 || a = b || r.1 = r.2) && disjoint rest

/-- Strictly rising. -/
def rising : List Nat → Bool
  | [] => true
  | [_] => true
  | a :: b :: rest => decide (a < b) && rising (b :: rest)

/-- The ROUTES section is well formed. -/
def routesOk (b : Bytes) : Bool :=
  let e := imgSect b 1
  let (np, nr, ns) := imgCounts b
  let r := e.off + 8 + 24 * np
  8 ≤ e.len && le b (e.off + 6) 2 = 0 && 8 + 24 * np + 12 * nr + 4 * ns ≤ e.len
    && (List.range np).all (fun i => let p := e.off + 8 + 24 * i; le b (p + 2) 1 ≤ 7 && (List.range 8).all (fun j => le b (p + 8 + 2 * j) 2 < 512))
    && (List.range nr).all (fun i => let p := r + 12 * i; le b p 2 < 512 && le b (p + 2) 2 < 512 && le b (p + 5) 1 < 2)
    && (List.range ns).all (fun i => let w := le b (r + 12 * nr + 4 * i) 4; bits w 15 9 = 0 && bits w 31 25 = 0)

/-- Width that an input format takes (R138, R308). -/
def fmtBits : Nat → Nat
  | 0 => 64 | 1 => 64 | 2 => 64 | 3 => 32 | 6 => 32 | 7 => 32
  | _ => 16

/-- The REPORTS section is well formed (R308). -/
def reportsOk (b : Bytes) : Bool :=
  let e := imgSect b 8
  (List.range (e.len / 8)).all (fun i =>
    let o := e.off + 8 * i
    128 ≤ le b o 1 && le b (o + 1) 1 ≤ 15 && le b (o + 2) 1 + le b (o + 3) 1 ≤ 120 && le b (o + 4) 1 < 8 && le b (o + 5) 3 = 0
      && le b (o + 3) 1 = fmtBits (le b (o + 4) 1)
      && (List.range i).all (fun j => le b (e.off + 8 * j) 2 ≠ le b o 2))

/-- The KIOSK section is well formed (R452). -/
def kioskOk (bd : Build) (b : Bytes) : Bool :=
  let e := imgSect b 6
  let o := e.off
  e.len = 0 || (32 ≤ e.len && le b o 4 = 0x4B534B58 && le b (o + 16) 4 ≤ 4096 && le b (o + 20) 12 = 0
    && le b (o + 8) 4 + le b (o + 12) 4 ≤ kioskHalf bd && 32 + le b (o + 8) 4 + le b (o + 12) 4 ≤ e.len)

/-- The image is well formed. -/
def imgFormatOk (bd : Build) (b : Bytes) : Bool :=
  let n := b.length
  let d := imgDir b
  let top := 64 + 16 * imgSections b
  192 ≤ n && le b 0 4 = imgMagic && imgLength b = n && n ≤ imgLimit bd && le b 36 28 = 0 && imgVersion b ≠ 0
    && (imgRole b = 1 || imgRole b = 2) && 3 ≤ imgSections b && imgSections b ≤ 16 && top ≤ n - 128
    && (List.range (imgSections b)).all (fun i => le b (64 + 16 * i + 2) 2 = 0)
    && d.all (fun e => 1 ≤ e.typ && e.typ ≤ 8 && e.off % 8 = 0 && top ≤ e.off && e.off + e.len ≤ n - 128
        && (entrySize e.typ = 0 || e.len = entrySize e.typ * e.entries))
    && disjoint (d.map (fun e => (e.off, e.off + e.len)))
    && [1, 2, 3, 4, 5, 6, 7, 8].all (fun t => let k := (d.filter (fun e => e.typ = t)).length
        if t = 1 || t = 2 || t = 5 then k = 1 else k ≤ 1)
    && imgCatId b = le (sha384 (imgSectBytes b 2)) 0 4
    && routesOk b
    && (List.range ((imgSect b 2).len / 16)).all (fun m => !bit (imgCatWord b m 0).toNat 15 && bits (imgCatWord b m 1).toNat 31 24 = 0
        && !bit (imgCatWord b m 2).toNat 26)
    && (let e := imgSect b 3; (List.range (e.len / 12)).all (fun i => le b (e.off + 12 * i) 4 < 2 ^ 17))
    && (imgStations b).all (fun x => bits x.2.1.toNat 31 22 = 0 && bits x.2.2.toNat 31 13 = 0) && rising ((imgStations b).map (fun x => x.1))
    && (let e := imgSect b 4; (List.range (e.len / 8)).all (fun i => le b (e.off + 8 * i + 7) 1 = 0))
    && (let e := imgSect b 5; (List.range (e.len / 8)).all (fun i => le b (e.off + 8 * i + 3) 1 = 0))
    && reportsOk b && kioskOk bd b

/-! ### Placement: codes 0x08 to 0x0A (R11, R12, R16, R399, R401) -/

/-- A lane is hidden with its Scales tile (R16). -/
def State.laneHidden (s : State) (l : Nat) : Bool := s.bru.hidden.contains (tileNum s.build tkScales l)

/-- Crossbar numbers that an image names. -/
def imgTiles (b : Bytes) : List Nat :=
  (imgPipes b).flatMap (fun p => p.tiles) ++ (imgRoutes b).flatMap (fun r => [r.src, r.dst]) ++ (imgSpares b).flatMap (fun p => [p.1, p.2])

/-- Code 0x08: nothing named is hidden. -/
def State.placesVisible (s : State) (b : Bytes) : Bool :=
  (imgTiles b).all (fun t => !s.bru.hidden.contains t) && (imgRoutes b).all (fun r => !s.laneHidden r.lane)

/-- Pipelines of a build (R11). -/
def pipeLimit : Build → Nat
  | .spoke => 32
  | .hub => 512

/-- Pipelines that may share a tile. -/
def shareLimit (b : Build) (t : Nat) : Nat := let k := tileKind b t; if k = tkTree || k = tkMac then 4 else 1

/-- Code 0x09: the limits of R11 and R399. -/
def imgPlacesOk (bd : Build) (b : Bytes) : Bool :=
  let ps := imgPipes b
  let rs := imgRoutes b
  let o := (imgSect b 1).off + 8
  let known (t : Nat) : Bool := (tileOf bd t).isSome
  ps.length ≤ pipeLimit bd && disjoint (ps.map (fun p => (p.num, p.num + 1)))
    && (List.range ps.length).all (fun i =>
        let p := o + 24 * i
        let n := le b (p + 3) 1
        1 ≤ n && n ≤ 8 && (List.range 8).all (fun j => let t := le b (p + 8 + 2 * j) 2; if j < n then known t else t = 0x1FF)
          && le b (p + 4) 2 ≤ 16 && le b (p + 6) 2 ≤ 64 && (le b (p + 2) 1 = 3 || (le b (p + 4) 2 = 0 && le b (p + 6) 2 = 0)))
    && (ps.flatMap (fun p => p.tiles)).all (fun t => (ps.filter (fun p => p.tiles.contains t)).length ≤ shareLimit bd t)
    && rs.all (fun r => known r.src && known r.dst && r.lane < bd.lanes && ps.any (fun p => p.num = r.pipe)
        && (rs.filter (fun x => x.lane = r.lane)).length ≤ 16 && (rs.filter (fun x => x.lane = r.lane && x.alarm)).length ≤ 2)
    && (imgSpares b).all (fun x => known x.1 && tileKind bd x.1 = tileKind bd x.2 && ps.all (fun p => !p.tiles.contains x.2))

/-- LOAD_PERMILLE of a lane (R401). -/
def imgLoad (b : Bytes) (lane : Nat) : Nat :=
  (((imgRoutes b).filter (fun r => r.lane = lane)).map (fun r => r.rate)).foldl (fun x y => x + y) 0 * 100 / imgLaneCap b

/-- Code 0x0A: MIN_MV in range and no lane above 800 permille. -/
def imgLoadsOk (bd : Build) (b : Bytes) : Bool :=
  550 ≤ imgMinMv b && imgMinMv b ≤ 950 && (List.range bd.lanes).all (fun l => imgLoad b l ≤ 800)

/-! ### Map, catalogue and registers: codes 0x0B to 0x11 -/

/-- The value that the image's REGISTERS entries leave at an address. -/
def imgReg (b : Bytes) (a : Nat) : Option Word := ((imgRegs b).reverse.find? (fun p => p.1 = a)).map (fun p => p.2)

/-- A field of it; 0 without an entry. -/
def imgFld (b : Bytes) (f : Fld) : Nat := f.get ((imgReg b f.addr).getD 0)

/-- Bracket counters of an image. -/
def imgBrackets (b : Bytes) : Nat :=
  ((imgStations b).filter (fun x => let w := x.2.1.toNat; mapPresent w && bit w 20 && bits w 17 16 ≠ 2)).length

/-- The seal lag that an image sets: 20 µs without an entry (R484). -/
def imgLag (b : Bytes) : Nat := if (imgReg b 0x01005C).isSome then imgFld b F.TIM_SEAL_LAG_LAG_US else 20

/-- Code 0x0B: the bracket passes end at least 2 µs before the seal (R113). -/
def imgPassOk (b : Bytes) : Bool := imgBrackets b * 200000 + 2000 * imgLaneCap b ≤ imgLag b * 1000 * imgLaneCap b

/-- Metrics of an image. -/
def imgMetrics (b : Bytes) : List Nat := List.range ((imgSect b 2).len / 16)

/-- Use of each usable Scales tile under an image. -/
def State.imgMemory (s : State) (b : Bytes) : Option (List Nat) :=
  let tiles := (List.range s.build.lanes).filter (fun l => !s.laneHidden l)
  placeMetrics (((imgMetrics b).map (fun m => metricBytes (imgCatWord b m 0).toNat (imgCatWord b m 1).toNat)).filter (fun c => c ≠ 0)) (tiles.map (fun _ => 0))

/-- Codec working memory in KiB (R15). -/
def codecKib : Build → Nat
  | .spoke => 512
  | .hub => 8192

/-- Pannier streams that a record route names, and its largest record in bytes (R128, R245, R325, R326, R329). Log entry 98 (DEDUCED). -/
def recordRoutes : List (Fld × Nat) :=
  [(F.TRC_ROUTE_SAMPLE, 64), (F.TRC_ROUTE_SCORE, 128), (F.TRC_ROUTE_SERVICE, 448), (F.TRC_ROUTE_DUMP, 4096)]

/-- Code 0x0D: the rules of Pannier streams (R259). -/
def imgStreamsOk (bd : Build) (b : Bytes) : Bool :=
  let n := streams bd
  let need := ((List.range n).map (fun k => if imgFld b (F.TRC_PAN_CTRL_EN k) = 1 then 2 * imgFld b (F.TRC_PAN_CTRL_BLOCK_KIB k) + 4 else 0)).foldl
    (fun x y => x + y) 0
  need ≤ codecKib bd
    && (List.range 16).all (fun c => imgFld b (F.TRC_CHAN_EN c) = 0
        || (imgFld b (F.TRC_CHAN_STREAM c) < n && imgFld b (F.TRC_PAN_CTRL_CODEC (imgFld b (F.TRC_CHAN_STREAM c))) = 3))
    && recordRoutes.all (fun x => let k := imgFld b x.1
        (imgReg b 0x060014).isNone || n ≤ k || imgFld b (F.TRC_PAN_CTRL_EN k) = 0
          || (imgFld b (F.TRC_PAN_CTRL_CODEC k) ≠ 3 && x.2 ≤ 1024 * imgFld b (F.TRC_PAN_CTRL_BLOCK_KIB k)))

/-- Code 0x0E: the catalogue (R138, R139, R179, R188). -/
def imgCatalogueOk (b : Bytes) : Bool :=
  let ms := (imgMetrics b).filter (fun m => bits (imgCatWord b m 0).toNat 2 0 ≠ 0)
  let strag (m : Nat) : Bool := bit (imgCatWord b m 2).toNat 0
  (imgMetrics b).length ≤ 1024 && (ms.filter strag).length ≤ 64
    && ms.all (fun m =>
        let a := (imgCatWord b m 0).toNat
        let w := (imgCatWord b m 1).toNat
        let c := (imgCatWord b m 2).toNat
        let frac := sext 7 (bits a 12 6)
        bits a 2 0 ≤ 5 && decide (-32 ≤ frac ∧ frac ≤ 32)
          && (!bit a 13 || (1 ≤ bits w 5 0 && bits w 5 0 ≤ bits w 11 6
              && (ms.filter (fun k => let x := (imgCatWord b k 0).toNat; bit x 13 && bits x 27 16 = bits a 27 16)).length ≤ 64))
          && (!strag m || (bits c 2 1 ≠ 3 && 1 ≤ bits c 19 16 && 1 ≤ bits c 23 20 && bits c 23 20 ≤ bits c 19 16 && bits c 31 27 ≤ 16)))

/-- Code 0x0F: the station map and the event catalogue (R110). Log entry 98 (DEDUCED). -/
def imgStationsOk (b : Bytes) : Bool :=
  imgBrackets b ≤ 4096 && (imgEvents b).length ≤ 4032 && (imgEvents b).all (fun e => e.num < 0xFC0)
    && (imgStations b).all (fun x => bits x.2.1.toNat 11 0 < 0xFC0 && bits x.2.1.toNat 17 16 ≠ 3)

/-- Addresses that the block derives, and windows that the image's other sections hold (R400). -/
def derivedAddrs : List (Nat × Nat) :=
  [(0x00000C, 0x00000F), (0x000300, 0x0004FF), (0x020004, 0x020007), (0x030004, 0x03000F), (F.INF_DRIFT_ACTIVE.addr, F.INF_DRIFT_ACTIVE.addr + 3),
   (0x400000, 0x4FFFFF), (0x500000, 0x503FFF)]

/-- Ranges that the spec states for fields, outside which a value neither clamps nor acts as another (R90, R132, R161, R168, R250, R277,
R292, R324, R336, R484). Log entry 99 (DEDUCED). -/
def fieldRanges (b : Bytes) : List (Fld × Nat × Nat × Nat) :=
  [(F.TIM_SEAL_LAG_LAG_US, 5, 500, 1), (F.TIM_EPOCH_PERIOD_PERIOD_US, 100, 1000000, 1), (F.RED_NODE_LEVEL, 0, 5, 1), (F.LED_CFG_KEEP, 1024, 32768, 1024),
   (F.TAL_LIMITS_STALE_US, 100, 4095, 1), (F.RED_WAIT_WAIT_US, 1, 1000, 1), (F.SVC_HOST_TILES, 1, 4096, 1), (F.SVC_LATCH_CFG_N, 0, 32, 1),
   (F.INF_BUDGET_EPOCH_US, 1, 500, 1), (F.INF_BUDGET_CHILD_US, 1, 500, 1)]
  ++ ((List.range 64).filter (fun k => imgFld b (F.TRC_PAN_CTRL_EN k) = 1)).map (fun k => (F.TRC_PAN_CTRL_BLOCK_KIB k, 4, 64, 1))

/-- A REGISTERS entry is allowed (R400). Log entries 98 (DEDUCED), 99 (DEDUCED). -/
def imgEntryOk (bd : Build) (rs : List (Fld × Nat × Nat × Nat)) (x : Nat × Word) : Bool :=
  let (a, v) := x
  !inRanges derivedAddrs a && match regRow a with
    | none => false
    | some r => (a - r.base) / r.stride < synthCount bd r
        && r.fields.any (fun f => f.rst = .image || f.acc = .rw)
        && v &&& ~~~(accMask (fun _ => true) r.fields) = 0
        && rs.all (fun q => q.1.addr ≠ a || (q.2.1 ≤ q.1.get v && q.1.get v ≤ q.2.2.1 && q.1.get v % q.2.2.2 = 0))

/-- Most REGISTERS entries (R410). -/
def regsLimit : Build → Nat
  | .spoke => 8192
  | .hub => 65536

/-- Code 0x10. Log entry 98 (DEDUCED). -/
def imgRegsOk (bd : Build) (b : Bytes) : Bool :=
  let rs := fieldRanges b
  (imgRegs b).length ≤ regsLimit bd && (imgRegs b).all (imgEntryOk bd rs)

/-- Fewest units of 16 flits that hold the largest frame of each class (R344). Log entry 98 (DEDUCED). -/
def minUnits : List Nat := [1, 1, 1, 16, 5]

/-- Code 0x11: the credit allocations (R344). Log entry 98 (DEDUCED). -/
def imgCreditOk (bd : Build) (b : Bytes) : Bool :=
  (List.range bd.ports).all (fun p => match imgReg b (0x091010 + 64 * p) with
    | none => true
    | some w =>
      let us := (List.range 5).map (fun c => bits w.toNat (6 * c + 5) (6 * c))
      us.foldl (fun x y => x + y) 0 ≤ 64 && (us.zip minUnits).all (fun p => decide (p.2 ≤ p.1)))

/-! ### In service: codes 0x12 to 0x14 (R404, R405) -/

/-- Code 0x12: what must not change. Log entry 100 (DEDUCED). -/
def imgSame (bd : Build) (a b : Bytes) : Bool :=
  let same (f : Fld) : Bool := imgFld a f = imgFld b f
  imgRole a = imgRole b && imgReg a 0x040004 = imgReg b 0x040004 && same F.TIM_GM_RANK && same F.TIM_CTRL_CADENCE_SRC
    && (List.range bd.ports).all (fun p => same (F.LNK_PORT_FUNC p)) && same F.LNK_TKO_SIB_PORT
    && (List.range 64).all (fun g => (imgReg a (0x0A0800 + 4 * g)).getD 0 = (imgReg b (0x0A0800 + 4 * g)).getD 0)
    && same F.BRU_INRUSH_BUDGET && imgSectBytes a 7 = imgSectBytes b 7

/-- Code 0x13: old and new routes and contexts together (R405). -/
def imgOverlapOk (bd : Build) (a b : Bytes) : Bool :=
  let key (r : Route) : Nat × Nat × Nat := (r.src, r.dst, r.lane)
  let rs := imgRoutes a ++ (imgRoutes b).filter (fun r => !(imgRoutes a).any (fun x => key x = key r))
  let ps := imgPipes a ++ (imgPipes b).filter (fun p => !(imgPipes a).contains p)
  (List.range bd.lanes).all (fun l => let x := rs.filter (fun r => r.lane = l); x.length ≤ 16 && (x.filter (fun r => r.alarm)).length ≤ 2)
    && (ps.flatMap (fun p => p.tiles)).all (fun t => let k := tileKind bd t
        !(k = tkTree || k = tkMac) || (ps.filter (fun p => p.tiles.contains t)).length ≤ 4)

/-- VERSION[31:16] reaches the floor (R419). -/
def State.aboveFloor (s : State) (b : Bytes) : Bool := s.fld F.SEC_FLOOR_GEN ≤ imgVersion b / 65536

/-- The code with which an image is rejected, in the order of R402; 0 when it passes. Log entry 98 (DEDUCED). -/
def State.imageCause (s : State) (b : Bytes) (err : Bool) : Nat :=
  let bd := s.build
  let inService := s.loaded
  if err then 0x01
  else if !s.authentic 1 b then 0x02
  else if !(le b 4 2 = 3 && le b 6 2 ≤ 1) then 0x03
  else if !s.aboveFloor b then 0x04
  else if !imgFormatOk bd b then 0x05
  else if !(le b 25 1 = bd.lanes && le b 26 1 = bd.ports && le b 27 1 = bd.kioskCores) then 0x06
  else if (inService && imgRole b ≠ s.fld F.BLK_ROLE) || (bd = .spoke && 3 ≤ imgFld b F.RED_NODE_LEVEL) then 0x07
  else if !s.placesVisible b then 0x08
  else if !imgPlacesOk bd b then 0x09
  else if !imgLoadsOk bd b then 0x0A
  else if !imgPassOk b then 0x0B
  else if (s.imgMemory b).isNone then 0x0C
  else if !imgStreamsOk bd b then 0x0D
  else if !imgCatalogueOk b then 0x0E
  else if !imgStationsOk b then 0x0F
  else if !imgRegsOk bd b then 0x10
  else if !imgCreditOk bd b then 0x11
  else if inService && !imgSame bd s.img.running b then 0x12
  else if inService && !imgOverlapOk bd s.img.running b then 0x13
  else if 1024 * (s.fld F.INF_STORE_FREE_KIB + s.shadowKib) < b.length then 0x14 else 0

/-! ### What an image puts in place (R400) -/

/-- Bits of a register that a REGISTERS entry sets: the RW fields and those whose Reset column reads "image". -/
def imageMask (fs : List RegField) : Word := fs.foldl (fun m f => if f.acc = .rw || f.rst = .image then m ||| f.fld.mask else m) 0

/-- A REGISTERS entry takes effect; a LED_CFG entry counts in the first image after power-up alone, and not once writing has wrapped (R292);
TIM_EPOCH_PERIOD sets the period of the epoch that the next boundary opens, but where the domain's Cadence is adopted (R89, R90). Log entries 48 (DEDUCED), 101 (DEDUCED). -/
def State.applyEntry (s : State) (first : Bool) (x : Nat × Word) : State :=
  let (a, v) := x
  match regRow a with
  | none => s
  | some r =>
    let m := imageMask r.fields
    let put (s : State) : State := s.setWord a ((s.word a &&& ~~~m) ||| (v &&& m))
    if a = F.LED_CFG_KEEP.addr then (if first && !s.led.wrapped then put s else s)
    else if a = F.TIM_EPOCH_PERIOD_PERIOD_US.addr then
      if s.on F.TIM_STATUS_CADENCE_ADOPTED then s
      else
        let us := F.TIM_EPOCH_PERIOD_PERIOD_US.get v
        let n := if s.loaded then 2 else 1
        let s := put s
        if s.tim.period = 1000 * us then s else { s with tim := { s.tim with periodSoon := some (n, 1000 * us) } }
    else put s

/-- Words of an image's catalogue, by address. -/
def imgCatalogue (b : Bytes) : List (Nat × Word) :=
  (imgMetrics b).flatMap (fun m => (List.range 4).map (fun i => (0x500000 + 16 * m + 4 * i, imgCatWord b m i)))

/-- Words of an image's station map, by address. -/
def imgMap (b : Bytes) : List (Nat × Word) := (imgStations b).flatMap (fun x => [(0x400000 + 8 * x.1, x.2.1), (0x400004 + 8 * x.1, x.2.2)])

/-- The catalogue replaced. -/
def State.setCatalogue (s : State) (c : List (Nat × Word)) : State :=
  { s with regs := c.foldl (fun r x => regWrite r x.1 x.2) (s.regs.filter (fun x => decide (x.1 < 0x500000 ∨ 0x503FFF < x.1))) }

/-- Registers that describe an image and what the block derives from it (R27, R35, R132, R157, R413). -/
def State.describeImage (s : State) (b : Bytes) (fromSwitch : Bool) : State :=
  let s := (s.set F.BLK_ROLE (imgRole b)).set F.BLK_ROLE_PIPELINES (imgPipes b).length
  let s := (List.range s.build.lanes).foldl (fun (s : State) l =>
    (s.set (F.BLK_LANE_LOAD_ROUTES l) ((imgRoutes b).filter (fun r => r.lane = l)).length).set (F.BLK_LANE_LOAD_LOAD_PERMILLE l) (imgLoad b l)) s
  let s := (s.set F.TAL_MAP_COUNTERS ((imgStations b).filter (fun x => mapPresent x.2.1.toNat)).length).set F.TAL_MAP_BRACKETS (imgBrackets b)
  let ms := (imgMetrics b).filter (fun m => bits (imgCatWord b m 0).toNat 2 0 ≠ 0)
  let s := ((s.set F.SCL_CAT_ID (imgCatId b)).set F.SCL_METRICS ms.length).set F.SCL_METRICS_HIST_METRICS
    (ms.filter (fun m => bit (imgCatWord b m 0).toNat 13)).length
  let use := (s.imgMemory b).getD []
  let s := (s.set F.SCL_MEM_BANK_KIB ((use.foldl (fun x y => x + y) 0 + 1023) / 1024)).set F.SCL_MEM_TILE_MAX_KIB
    ((use.foldl (fun x y => max x y) 0 + 1023) / 1024)
  let s := ((s.set F.BLK_IMG_ID (imgId b)).set F.BLK_IMG_VER (imgVersion b)).set F.BLK_IMG_INFO_MIN_MV (imgMinMv b)
  let s := (s.set F.BLK_IMG_INFO_FROM_SWITCH (b2n fromSwitch)).setWord 0x000078 (BitVec.ofNat 32 (imgProfiles b % 2 ^ 24))
  let s := s.setSec { s.sec with mImage := sha384 (b.take (b.length - 128)) }
  (s.setImg { s.img with running := b, tabs := imgTables b }).newAlias

/-- Lockstep pairs of the build (R3, R453). -/
def kioskPairs (b : Build) : List Nat := List.range (b.kioskCores / 2)

/-- An image loads in BRING-UP: registers, catalogue, map, host firmware, and every link that is not DOWN says HELLO afresh under its FUNC. Log entry 101 (DEDUCED). -/
def State.loadImage (s : State) (b : Bytes) : State :=
  let first := !s.led.keepSet
  let s := (imgRegs b).foldl (fun (s : State) x => s.applyEntry first x) s
  let s := if (imgReg b 0x01005C).isNone then s.set F.TIM_SEAL_LAG_LAG_US 20 else s
  let s := s.setLed { s.led with keepSet := true }
  let s := ((s.setCatalogue (imgCatalogue b)).setMap (imgMap b)).describeImage b false
  let o := (imgSect b 7).off
  let fw : Option (Nat × Nat × Nat) := if (imgSect b 7).len < 16 then none else some (le b o 4, le b (o + 4) 8, le b (o + 12) 4)
  let s := s.setBru { s.bru with fwObject := fw }
  (s.takeForce [0x020000, 0x030000, 0x040000, 0x050000, 0x080000]).helloAgain

/-! ### Switching in service (R403 to R407) -/

/-- A rejection in service (R402). Log entry 100 (DEDUCED). -/
def State.imgReject (s : State) (code : Nat) : State :=
  (((s.set F.BLK_IMG_STAT_LAST_REJECT code).inc F.BLK_IMG_STAT_REJECTS).set F.BLK_IMG_STAT_REJECTED 1).alertIf F.BLK_IMG_CTRL_ALERT_EN 0

/-- Staging is at rest again, with nothing staged. -/
def State.imgIdle (s : State) : State :=
  let s := s.setImg { s.img with staged := [], fetched := none, fetchErr := false }
  (s.set F.BLK_IMG_STAT_STATE imIdle).openWindows

/-- The service state lets an image be staged and committed (R22, R403). Log entry 100 (DEDUCED). -/
def State.mayStage (s : State) : Bool := s.loaded && (s.svc = svcTest || s.svc = svcService)

/-- OP = STAGE. Log entry 100 (DEDUCED). -/
def State.imgStage (s : State) : State :=
  if !s.mayStage || s.imgState ≠ imIdle then s.imgReject 0x15
  else if s.on F.BLK_IMG_CTRL_SRC then
    let (b, err) := match s.stagedObject imgMagic with
      | some b => (b, false)
      | none => ([], true)
    (s.setImg { s.img with fetched := some b, fetchErr := err }).set F.BLK_IMG_STAT_STATE imChecking
  else
    let addr := s.pair F.BLK_IMG_SRC_LO F.BLK_IMG_SRC_HI / 16 * 16
    (s.setPorts { s.ports with jobs := s.ports.jobs ++ [⟨.stageImage, addr, s.fld F.BLK_IMG_LEN_LENGTH, [], true⟩] }).set F.BLK_IMG_STAT_STATE imFetching

/-- The checks of a staged image are done: it is STAGED, or rejected and discarded. Store held by shadow pages goes to it (R448). -/
def State.stageChecked (s : State) (b : Bytes) (err : Bool) : State :=
  let c := s.imageCause b err
  if c = 0 then
    let s := if 1024 * s.fld F.INF_STORE_FREE_KIB < b.length then s.abandon 2 else s
    ((s.setImg { s.img with staged := b, fetched := none, fetchErr := false }).set F.BLK_IMG_STAT_STATE imStaged).set F.BLK_IMG_STAT_DONE 1
  else
    let s := if c = 2 then s.authReject 0 0 else s
    s.imgIdle.imgReject c

/-- The target epoch of BLK_IMG_EPOCH. -/
def State.imgTarget (s : State) : Nat := s.fld F.BLK_IMG_EPOCH_LO + 2 ^ 32 * s.fld F.BLK_IMG_EPOCH_HI_EPOCH

/-- OP = COMMIT. Log entry 100 (DEDUCED). -/
def State.imgCommit (s : State) : State :=
  let t := s.imgTarget
  if !s.mayStage || (s.imgState ≠ imStaged && s.imgState ≠ imPending) then s.imgReject 0x15
  else if t ≤ s.tim.epoch || (t = s.tim.epoch + 1 && s.tim.nextNs < s.nowNs + 50000) then s.imgReject 0x16
  else ((s.openWindows).setImg { s.openWindows.img with target := t }).set F.BLK_IMG_STAT_STATE imPending

/-- OP = ABORT. -/
def State.imgAbort (s : State) : State :=
  if s.imgState = imStaged || s.imgState = imPending then
    let was := s.imgState = imPending
    let s := s.imgIdle
    if was then s.mdlCancel else s
  else s.imgReject 0x15

/-- Child-table entries of an image, by address. -/
def imgChildren (b : Bytes) : List (Nat × Word) := (imgRegs b).filter (fun p => decide (0x530000 ≤ p.1 ∧ p.1 < 0x530800))

/-- The child table of an image differs from the active one (R404). -/
def State.childDiffers (s : State) (b : Bytes) : Bool :=
  (imgChildren b).any (fun p => decide (p.1 % 16 < 12) && s.word p.1 ≠ ((imgReg b p.1).getD 0))

/-- IMAGE_SHADOW_BUILD: 50 µs before the target boundary (R406). Log entry 101 (DEDUCED). -/
def State.shadowBuild (s : State) : State :=
  if s.imgState = imPending && s.img.target = s.tim.epoch + 1 then
    let s := s.reachNs (s.tim.nextNs - 50000)
    s.setImg { s.img with built := true, winClosed := true, childClosed := s.childDiffers s.img.staged }
  else s

/-- A switch fails: the old version stays in force, RECOVERY with cause 0x11, and models committed with it are cancelled (R407). Log entry 101 (DEDUCED). -/
def State.switchFails (s : State) : State :=
  let s := ((s.set F.BLK_IMG_STAT_FAILED 1).alertIf F.BLK_IMG_CTRL_ALERT_EN 0).imgIdle
  (s.mdlCancel).enterRecovery 0x11

/-- The image takes force at the boundary that opens `epoch` (R406): the closing epoch keeps the old catalogue and map until its seal; a
child table that differs goes to the shadow and its Derailleur commit (R404); new Kiosk firmware starts in the other half (R453). Log entry 101 (DEDUCED). -/
def State.takeImage (s : State) (epoch : Nat) (b : Bytes) : State :=
  let old := s.regs.filter (fun x => decide (0x500000 ≤ x.1 ∧ x.1 ≤ 0x503FFF))
  let s := s.setScl { s.scl with oldCat := some old, oldCatId := s.fld F.SCL_CAT_ID }
  let kids := s.childDiffers b
  let active := imgChildren b
  let prev := s.img.running
  let was := s.on F.BLK_IMG_INFO_FROM_SWITCH
  let s := ((imgRegs b).filter (fun p => !active.contains p)).foldl (fun (s : State) x => s.applyEntry false x) s
  let s := if (imgReg b 0x01005C).isNone then s.set F.TIM_SEAL_LAG_LAG_US 20 else s
  let s := if kids then
      let s := (List.range 384).foldl (fun (s : State) (i : Nat) => let a : Nat := 0x530000 + 16 * (i / 3) + 4 * (i % 3); s.setWord (a + 0x800) ((imgReg b a).getD 0)) s
      let s := s.setWord 0x04003C ((imgReg b 0x04003C).getD (s.word 0x040008))
      (s.setRed { s.red with drlTarget := some epoch }).set F.RED_DRL_CTRL_PENDING 1
    else s
  let s := (s.setCatalogue (imgCatalogue b)).mapSwitch (imgMap b)
  let s := (s.describeImage b true).inc F.BLK_IMG_STAT_SWITCHES
  let s := s.setImg { s.img with prev := prev, prevSwitched := was, staged := [], built := true }
  let s := s.set F.BLK_IMG_STAT_STATE imIdle
  if (imgSect b 6).len = 0 then s
  else s.setCon { s.con with kiosk := ⟨1 - s.con.kiosk.half, kioskPairs s.build, s.nowNs⟩ }

/-- A pending switch at the boundary that opens `epoch` (R403, R407, R419). Log entry 101 (DEDUCED). -/
def State.imgBoundary (s : State) (epoch : Nat) : State :=
  let b := s.img.staged
  if s.imgState ≠ imPending || epoch < s.img.target then s
  else if !s.aboveFloor b then (s.imgIdle.imgReject 0x04).mdlCancel
  else if (imgTiles b).any s.tileDown then
    let s := s.switchFails
    s.setBru { s.bru with recEpochs := 1 }
  else s.takeImage epoch b

/-- The previous image comes back when new Kiosk firmware does not start (R407, R453): registers and windows return to its values. Log entry 103 (DEDUCED). -/
def State.restoreImage (s : State) : State :=
  let b := s.img.prev
  if b.isEmpty then s
  else
    let s := (imgRegs b).foldl (fun (s : State) x => if inRanges [(0x530000, 0x5307FF)] x.1 then s else s.applyEntry false x) s
    let s := s.setCatalogue (imgCatalogue b)
    let s := if s.tal.oldMap.isSome then
        let had (c : Ctr) : Bool := s.tal.oldCtrs.any (fun o => o.id = c.id)
        (s.setMap (imgMap b)).setTal { s.tal with oldMap := none, oldCtrs := [], ctrs := s.tal.oldCtrs ++ s.tal.ctrs.filter (fun c => !had c) }
      else
        let s := s.mapSwitch (imgMap b)
        s.setTal { s.tal with oldMap := none, oldCtrs := [] }
    let s := s.describeImage b s.img.prevSwitched
    s.setImg { s.img with prev := [] }

/-! ### Meanings -/

/-- A write of BLK_IMG_CTRL with an operation. -/
def State.imgWrite (s : State) (w : Word) (f : State → State) : State := f (s.plainWrite 0x000050 w)

/-- A stage that has just started belongs to a Kiosk core or not (R454). -/
def State.noteStage (s : State) (a : Access) : State :=
  if s.imgState = imFetching || s.imgState = imChecking then s.setCon { s.con with kioskStage := srcPort a.src = .kioskM } else s

/-- IMAGE_STAGE. -/
def execImageStage (a : Access) (w : Word) (s : State) : Host.Outcome State Fault Refusal :=
  done (s.guardWrite a 0x000050 (fun s => (s.imgWrite w State.imgStage).noteStage a))

/-- IMAGE_COMMIT. -/
def execImageCommit (a : Access) (w : Word) (s : State) : Host.Outcome State Fault Refusal :=
  done (s.guardWrite a 0x000050 (fun s => s.imgWrite w State.imgCommit))

/-- IMAGE_ABORT. -/
def execImageAbort (a : Access) (w : Word) (s : State) : Host.Outcome State Fault Refusal :=
  done (s.guardWrite a 0x000050 (fun s => s.imgWrite w State.imgAbort))

/-- IMAGE_SHADOW_BUILD. -/
def execImageShadowBuild (s : State) : Host.Outcome State Fault Refusal := done s.shadowBuild

end Sys2Proof.Machine
end

