-- ==== Sys2Proof/Machine/Continuity.lean ====
section
/-! DEFINITION. Continuity: checkpoints (R445 to R449), restore (R450, R451), Kiosk handoff (R453, R454) and faults injected on schedule (R455
to R458). -/

namespace Sys2Proof.Machine

/-! ### What a checkpoint holds (R446, R447) -/

def ckptMagic : Nat := 0x504B4358
def ckptFormat : Nat := 0x00030001

/-- Class 0x3E (R459). -/
def State.conEvent (s : State) (detail subj val : Nat) : State := s.log 0x3E detail subj val

/-- Bytes of words. -/
def wordBytes (ws : List Word) : Bytes := ws.flatMap (fun w => toLE 4 w.toNat)

/-- An open slot as section 1 keeps it: its entry, its full last time, its shadow tally. -/
def LSlot.bytes (x : LSlot) : Bytes :=
  slice (x.ent.bytes ++ toLE 4 x.ent.pos ++ toLE 8 x.ent.last ++ toLE 4 x.shadow.count ++ toLE 8 x.shadow.last ++ toLE 2 x.shadow.vmin
    ++ toLE 2 x.shadow.vmax ++ toLE 1 (b2n x.closing)) 0 64

/-- Section 1: the partition, then 1 KiB: 8 open slots, the mirror, SEQ, the next position, flags and the retire list. -/
def State.ckptLedger (s : State) : Bytes :=
  let l := s.led
  let lines := wordBytes ((List.range 64).flatMap (fun c => (l.line c).words))
  let ents := (List.range (ledPositions s.build)).flatMap (fun p => match l.sram.find? (fun x => x.1 = p) with
    | some x => x.2.bytes
    | none => List.replicate 32 0)
  let tail := slice ((l.slots.take 8).flatMap LSlot.bytes) 0 512 ++ l.mirror ++ toLE 4 l.seq ++ toLE 4 l.wptr ++ toLE 1 l.state ++ toLE 1 (b2n l.wrapped)
    ++ toLE 1 l.retired.length ++ toLE 1 l.slots.length ++ l.retired.flatMap (toLE 4)
  lines ++ ents ++ slice tail 0 1024

/-- Section 2: for each slot with a version its words, its image and its detectors. -/
def State.ckptModels (s : State) : Bytes :=
  s.inf.slots.flatMap (fun x => match x.cur with
    | none => []
    | some b =>
      let ds := (List.range (detectorCount s.build)).filter (fun d => s.fld (F.DRIFT_CFG_TYPE d) ≠ 0 && s.fld (F.DRIFT_CFG_MODEL d) = x.num)
      slice (toLE 2 x.num ++ toLE 1 x.state ++ toLE 1 0 ++ toLE 4 b.length ++ toLE 4 ds.length) 0 64 ++ padTo 64 b
        ++ ds.flatMap (fun d => wordBytes ((List.range 8).map (fun i => s.word (0x560000 + 32 * d + 4 * i)))))

/-- Section 3: RATE, servo state, TIM_STEPS, then the TIM_ASYM words. -/
def State.ckptTime (s : State) : Bytes :=
  slice (slice (toLE 4 (s.word F.TIM_RATE_RATE_PPT.addr).toNat ++ toLE 4 s.servo ++ toLE 4 (s.fld F.TIM_STEPS)) 0 512
    ++ wordBytes ((List.range 384).map (fun i => s.word (0x011000 + 4 * i)))) 0 4096

/-- Bytes of section 4 before the host tile words. -/
def seqBytes : Build → Nat
  | .spoke => 12 * 1024
  | .hub => 16 * 1024

/-- Section 4: record-chain SEQ, the PGENs of the node identities, BLOCK_SEQ of each stream, the highest PGEN of each child key; then the host
tile words. -/
def State.ckptSequences (s : State) : Bytes :=
  let tko := match s.tko with
    | some t => t.pgen
    | none => 0
  let front := slice (toLE 4 (s.seqOf 3) ++ toLE 2 s.lnk.pgen ++ toLE 2 tko ++ toLE 4 s.lnk.pgenSeen.length) 0 16
    ++ wordBytes ((List.range 64).map (fun k => BitVec.ofNat 32 (s.fld (F.TRC_PAN_BLOCK_SEQ k))))
    ++ s.lnk.pgenSeen.flatMap (fun p => toLE 4 p.1 ++ toLE 2 p.2.1 ++ toLE 6 p.2.2)
  slice front 0 (seqBytes s.build)
    ++ wordBytes ((List.range 16384).map (fun i => if i / 4 < s.hostTiles then s.word (0x590000 + 4 * i) else 0))

/-- The four sections. Log entry 102 (DEDUCED). -/
def State.ckptSections (s : State) : List Bytes := [s.ckptLedger, s.ckptModels, s.ckptTime, s.ckptSequences]

/-- The 256-byte header. -/
def State.ckptHeader (s : State) (epoch : Nat) (lens : List Nat) : Bytes :=
  slice (toLE 4 ckptMagic ++ toLE 4 ckptFormat ++ s.serial ++ toLE 6 epoch ++ toLE 2 15 ++ toLE 4 (s.word 0x000008).toNat
    ++ toLE 4 (s.word 0x000018).toNat ++ toLE 4 (s.word 0x00001C).toNat ++ toLE 4 (s.fld F.BLK_IMG_ID) ++ slice s.sec.mImage 0 48
    ++ lens.flatMap (toLE 8)) 0 256

/-- The trailer, padded to 640 bytes: TOTAL_HASH, SIG and the identity tail. -/
def State.ckptTrailer (s : State) (epoch : Nat) (data : Bytes) : Bytes :=
  let h := sha384 data
  slice (h ++ s.aliasSign (h ++ toLE 6 epoch) ++ s.identityTail) 0 640

/-- Where sections of given lengths start: each on a 64-byte boundary after the header. -/
def sectOffs (lens : List Nat) : List Nat := (List.range lens.length).map (fun i => 256 + ((lens.take i).map (fun n => (n + 63) / 64 * 64)).foldl (fun x y => x + y) 0)

/-! ### Taking a checkpoint (R445, R447 to R449) -/

/-- Lines of the checkpoint go to the Host Memory Port one at a time; the trailer is formed and written last. -/
def State.ckptNext (s : State) : State :=
  match s.con.copy with
  | none => s
  | some c =>
    if c.acked < c.put then s
    else
      let c : Copy := if c.put = c.data.length && !c.trailer then { c with data := c.data ++ s.ckptTrailer c.epoch c.data, trailer := true } else c
      if c.put < c.data.length then
        let s := s.setCon { s.con with copy := some { c with put := c.put + 64 } }
        s.hwrite ⟨c.addr + c.put, slice c.data c.put 64, .checkpoint, c.put + 64 = c.data.length && c.trailer⟩
      else s.setCon { s.con with copy := some c }

/-- The copy of a checkpoint starts with everything frozen; `held` withholds the issue gate (R449). Log entry 102 (DEDUCED). -/
def State.ckptStart (s : State) (epoch : Nat) (held : Bool) : State :=
  let ss := s.ckptSections
  let lens := ss.map List.length
  let total := 256 + (ss.map (fun b => (b.length + 63) / 64 * 64)).foldl (fun x y => x + y) 0 + 640
  if 1024 * s.fld F.CON_CKPT_LEN_LEN_KIB < total then s.abandon 5
  else
    let data := s.ckptHeader epoch lens ++ ss.flatMap (padTo 64)
    let addr := s.pair F.CON_CKPT_ADDR_LO F.CON_CKPT_ADDR_HI / 64 * 64
    let s := s.setCon { s.con with ckptAt := none, copy := some ⟨epoch, addr, data, sectOffs lens, 0, 0, false, [], held, s.nowNs⟩ }
    (s.set F.CON_CKPT_STAT_STATE 2).ckptNext

/-- Step mode. -/
def State.stepMode (s : State) : Bool := s.on F.CON_CTRL_STEP_MODE

/-- A checkpoint at the seal of an epoch: of the one that closes at the target's opening boundary, or in step mode of the target itself when
no edge came. -/
def State.ckptSeal (s : State) (epoch : Nat) : State :=
  match s.con.ckptAt with
  | none => s
  | some t => if (if s.stepMode then t ≤ epoch else t ≤ epoch + 1) then s.ckptStart epoch false else s

/-- A step-mode checkpoint at a SYNC_IN edge in its target epoch. -/
def State.ckptEdge (s : State) : State :=
  match s.con.ckptAt with
  | none => s
  | some t => if s.stepMode && t ≤ s.tim.epoch then s.ckptStart (s.tim.epoch - 1) true else s

/-- A line of the checkpoint has been written, or its write has failed. -/
def State.ckptWritten (s : State) (ok : Bool) : State :=
  match s.con.copy with
  | none => s
  | some c =>
    if !ok then s.abandon 6
    else (s.setCon { s.con with copy := some { c with acked := c.put } }).ckptNext

/-- CKPT_COPY_DONE: the trailer is written. -/
def State.ckptFinish (s : State) : State :=
  match s.con.copy with
  | none => s
  | some c =>
    if !(c.trailer && c.acked = c.data.length) then s
    else
      let s := (s.setCon { s.con with copy := none }).freeShadows c.shadow.length
      let s := if c.held then s.raiseTo F.CON_CKPT_STAT_HOLD_MAX_US ((s.nowNs - c.startNs + 999) / 1000) else s
      (((s.set F.CON_CKPT_STAT_STATE 3).inc F.CON_CKPT_STAT_CKPTS).conEvent 0 0 0).gateServe

/-- A write of CON_CTRL.CKPT (R445). -/
def State.ckptAsk (s : State) : State :=
  let t := s.fld F.CON_CKPT_EPOCH_LO + 2 ^ 32 * s.fld F.CON_CKPT_EPOCH_HI_EPOCH
  if s.con.ckptAt.isSome || s.con.copy.isSome || t ≤ s.tim.epoch then s.set F.CON_CKPT_STAT_LAST_CAUSE 1
  else (s.setCon { s.con with ckptAt := some t }).set F.CON_CKPT_STAT_STATE 1

/-- A write of CON_CTRL.ABORT. -/
def State.ckptAbort (s : State) : State := if s.con.ckptAt.isSome || s.con.copy.isSome then s.abandon 3 else s

/-! ### Restore (R450, R451) -/

/-- A write of CON_CTRL.RESTORE: in phase READY of BRING-UP, or in TEST or SERVICE, where RECOVERY follows. -/
def State.restoreAsk (s : State) : State :=
  let ready := s.svc = svcBringup && s.fld F.BRU_STATUS_PHASE = 5
  let up := s.svc = svcTest || s.svc = svcService
  if s.fld F.CON_RST_STAT_STATE = 1 || !(ready || up) then s
  else
    let s := s.set F.CON_RST_STAT_STATE 1
    let s := if up then s.enterRecovery 0x12 else s
    let addr := s.pair F.CON_CKPT_ADDR_LO F.CON_CKPT_ADDR_HI / 64 * 64
    s.setPorts { s.ports with jobs := s.ports.jobs ++ [⟨.restore, addr, 256, [], false⟩] }

/-- Lengths of the sections that a header gives, 0 for one not present. -/
def ckptLens (h : Bytes) : List Nat := (List.range 4).map (fun i => if bit (le h 22 2) i then le h (88 + 8 * i) 8 else 0)

/-- Code 1: MAGIC, FORMAT and section bounds. -/
def ckptFormatOk (b : Build) (h : Bytes) : Bool :=
  let lens := ckptLens h
  let part := match b with
    | .spoke => 2097152 + 1024
    | .hub => 33554432 + 1024
  le h 0 4 = ckptMagic && le h 4 4 = ckptFormat && le h 22 2 < 16
    && (lens.getD 0 0 = 0 || lens.getD 0 0 = part) && lens.getD 1 0 ≤ 2 * 1024 * storeKib b && (lens.getD 2 0 = 0 || lens.getD 2 0 = 4096)
    && (lens.getD 3 0 = 0 || lens.getD 3 0 = seqBytes b + 65536)

/-- Bytes of a whole checkpoint by its header. -/
def ckptTotal (h : Bytes) : Nat := 256 + ((ckptLens h).map (fun n => (n + 63) / 64 * 64)).foldl (fun x y => x + y) 0 + 640

/-- The code with which a checkpoint is rejected; 0 when it is accepted. Log entry 102 (DEDUCED). -/
def State.restoreCause (s : State) (b : Bytes) (err : Bool) : Nat :=
  let n := ckptTotal b - 640
  let t := slice b n 640
  let tail := slice t 144 440
  if err then 6
  else if !ckptFormatOk s.build b then 1
  else if !(slice t 0 48 = sha384 (b.take n) && tailDevPk tail = s.devPk && (s.keyless
      || (ecdsaVerify s.devPk (sha384 (slice b 8 8 ++ slice tail 0 145)) (tailDevSig tail)
          && ecdsaVerify (tailAlias tail) (sha384 (slice t 0 48 ++ slice b 16 6)) (slice t 48 96)))) then 2
  else if slice b 8 8 ≠ s.serial then 3
  else if !(le b 24 4 = (s.word 0x000008).toNat && le b 28 4 = (s.word 0x000018).toNat && le b 32 4 = (s.word 0x00001C).toNat) then 4
  else if !(le b 36 4 = s.fld F.BLK_IMG_ID && slice b 40 48 = slice s.sec.mImage 0 48) then 5 else 0

/-- An entry read back from its 32 bytes. -/
def entryOf (pos : Nat) (b : Bytes) : LEntry :=
  let code := le b 4 2
  ⟨le b 0 4, pos, bits code 5 0, bits code 11 6, bit code 15, le b 6 2, le b 8 8, le b 8 8 + 1000 * le b 16 4, le b 20 4, le b 24 4, le b 28 2,
    le b 30 2⟩

/-- A class line read back from its 64 bytes. -/
def lineOf (c : Nat) (b : Bytes) : LLine :=
  ⟨c, le b 0 8, le b 8 8, le b 16 8, le b 24 4, le b 28 4, le b 32 2, le b 34 2, (List.range 7).map (fun i => le b (36 + 4 * i) 4)⟩

/-- A checkpoint's class line with the live one's totals added. -/
def LLine.plus (x y : LLine) : LLine :=
  if x.total = 0 then y
  else if y.total = 0 then x
  else ⟨x.cls, (x.total + y.total) % 2 ^ 64, x.first, y.last, sat32 (x.entries + y.entries), sat32 (x.lost + y.lost), min x.vmin y.vmin, max x.vmax y.vmax,
    (x.gaps.zip y.gaps).map (fun p => sat32 (p.1 + p.2))⟩

/-- Section 1 is applied: the checkpoint's entries return, those written since power-up follow them with SEQ from its NEXT, and the class
totals add up. Log entry 102 (DEDUCED). -/
def State.restoreLedger (s : State) (b : Bytes) : State :=
  let live := s.led
  let n := ledPositions s.build
  let q := 4096 + 32 * n
  let ents := (List.range n).filterMap (fun p => let e := slice b (4096 + 32 * p) 32; if le e 20 4 = 0 then none else some (p, entryOf p e))
  let opens := (List.range (min 8 (le b (q + 587) 1))).map (fun i =>
    let x := slice b (q + 64 * i) 64
    let e := entryOf (le x 32 4) x
    let e := { e with last := le x 36 8, isOpen := false, flags := e.flags ||| flResetSeen }
    if le x 44 4 = 0 then e else e.fold (le x 44 4) (le x 48 8) (le x 56 2) (le x 58 2))
  let sram := opens.foldl (fun (m : List (Nat × LEntry)) e => (e.pos, e) :: m.filter (fun x => x.1 ≠ e.pos)) ents
  let dead := (List.range (le b (q + 586) 1)).map (fun i => le b (q + 588 + 4 * i) 4)
  let mir (o : Nat) : Option LEntry := let e := slice b o 32; if le e 20 4 = 0 then none else some (entryOf 0 e)
  let retired := dead ++ live.retired.filter (fun p => !dead.contains p)
  let l : LedSt := { live with
    sram := sram, retired := retired, seq := le b (q + 576) 4, wptr := le b (q + 580) 4, wrapped := le b (q + 585) 1 = 1
    lines := (List.range 64).filterMap (fun c => let x := (lineOf c (slice b (64 * c) 64)).plus (live.line c); if x.total = 0 && x.lost = 0 then none else some x)
    mirror0 := live.mirror0.orElse (fun _ => mir (q + 512)), mirror1 := live.mirror1.orElse (fun _ => mir (q + 544))
    state := if live.state = 2 || 64 ≤ retired.length then 2 else if retired.isEmpty then 0 else 1, slots := [], due := [], writing := none }
  let s := s.setLed l
  let s := (sortBy (fun e => e.seq) (live.sram.map (fun x => x.2))).foldl (fun (s : State) e =>
    if live.slots.any (fun x => x.ent.seq = e.seq) then s
    else
      let (p, s) := s.takePos
      s.setLed { (s.led.putSram p { e with pos := p, seq := s.led.seq }) with seq := (s.led.seq + 1) % 2 ^ 32 }) s
  live.slots.foldl (fun (s : State) x =>
    let (p, s) := s.takePos
    let q := s.led.seq
    let y : LSlot := { x with ent := { x.ent with pos := p, seq := q } }
    s.setLed { s.led with slots := s.led.slots ++ [y], due := s.led.due ++ [q], seq := (q + 1) % 2 ^ 32 }) s

/-- Section 2 is applied, slot by slot: ACTIVE at once in BRING-UP, staged for the next boundary in RECOVERY; an image that is not authentic
is rejected. -/
def State.restoreModels : Nat → State → Bytes → State
  | 0, s, _ => s
  | k + 1, s, b =>
    if b.length < 64 then s
    else
      let n := le b 0 2
      let len := le b 4 4
      let nd := le b 8 4
      let im := slice b 64 len
      let pad := (len + 63) / 64 * 64
      let words := slice b (64 + pad) (32 * nd)
      let s := if len = 0 || slotCount s.build ≤ n then s
        else if !s.authentic 2 im then s.authReject n 1
        else if s.svc = svcBringup then
          let s := s.modSlot n (fun x => { x with cur := some im, gen := x.gen + 1, since := 0, next := none, target := none })
          let s := s.detPlace n none
          let s := (List.range nd).foldl (fun (s : State) i => match (List.range (detectorCount s.build)).find? (fun d => s.fld (F.DRIFT_CFG_TYPE d) = 0) with
            | none => s
            | some d => (List.range 8).foldl (fun (s : State) j =>
                s.setWord (0x560000 + 32 * d + 4 * j) (BitVec.ofNat 32 (le words (32 * i + 4 * j) 4))) s) s
          s.set F.INF_DRIFT_ACTIVE (((List.range (detectorCount s.build)).filter (fun d => s.fld (F.DRIFT_CFG_TYPE d) ≠ 0)).length)
        else s.modSlot n (fun x => { x with next := some im, target := some (s.tim.epoch + 1) })
      State.restoreModels k s (b.drop (64 + pad + 32 * nd))

/-- Section 4 is applied: no value seen upstream repeats; the host tile words return. -/
def State.restoreSequences (s : State) (b : Bytes) : State :=
  let q := seqBytes s.build
  let s := s.setLnk { s.lnk with
    seqs := modNth s.lnk.seqs 3 (fun n => max n ((le b 0 4 + 1) % 2 ^ 32))
    pgen := (max s.lnk.pgen (le b 4 2) + 1) % 65536
    pgenSeen := (List.range (le b 8 4)).foldl (fun (l : List (Nat × Nat × Nat)) i =>
      let o := 272 + 12 * i
      let k := le b o 4
      match l.find? (fun p => p.1 = k) with
      | some p => if pgenNewer (le b (o + 4) 2) p.2.1 then (k, le b (o + 4) 2, le b (o + 6) 6) :: l.filter (fun p => p.1 ≠ k) else l
      | none => (k, le b (o + 4) 2, le b (o + 6) 6) :: l) s.lnk.pgenSeen }
  let s := match s.tko with
    | some t => s.setTko (some { t with pgen := (max t.pgen (le b 6 2) + 1) % 65536 })
    | none => s
  let s := (List.range (streams s.build)).foldl (fun (s : State) k =>
    s.set (F.TRC_PAN_BLOCK_SEQ k) (max (s.fld (F.TRC_PAN_BLOCK_SEQ k)) ((le b (16 + 4 * k) 4 + 1) % 2 ^ 32))) s
  (List.range (4 * s.hostTiles)).foldl (fun (s : State) i => s.setWord (0x590000 + 4 * i) (BitVec.ofNat 32 (le b (q + 4 * i) 4))) s

/-- RESTORE_APPLIED: the checkpoint read is checked, and rejected, or applied section by section. Log entries 60 (DEDUCED), 102 (DEDUCED). -/
def State.restoreApply (s : State) : State :=
  match s.con.fetched with
  | none => s
  | some (b, err) =>
    let s := s.setCon { s.con with fetched := none }
    let c := s.restoreCause b err
    let s := if c ≠ 0 then ((s.set F.CON_RST_STAT_STATE 3).set F.CON_RST_STAT_REJECT c).conEvent 3 0 c
      else
        let lens := ckptLens b
        let offs := sectOffs lens
        let sect (i : Nat) : Bytes := slice b (offs.getD i 0) (lens.getD i 0)
        let has (i : Nat) : Bool := bit (le b 22 2) i
        let do1 := has 0 && s.svc = svcBringup && s.fld F.BRU_RESET_LAST_CAUSE = 0 && s.fld F.BRU_RESET_COUNT = 0
        let do3 := has 2 && s.servo = svFree
        let s := if do1 then s.restoreLedger (sect 0) else s
        let s := if has 1 then State.restoreModels 256 s (sect 1) else s
        let s := if do3 then s.setRate (sext 29 (le (sect 2) 0 4)) else s
        let s := if has 3 then s.restoreSequences (sect 3) else s
        let skipped := b2n (!do1) + 2 * b2n (!has 1) + 4 * b2n (!do3) + 8 * b2n (!has 3)
        (((s.set F.CON_RST_STAT_STATE 2).set F.CON_RST_STAT_SKIPPED skipped).inc F.CON_RST_STAT_RESTORES).conEvent 2 0 0
    if s.svc = svcRecovery && s.fld F.BLK_STATE_ENTRY_CAUSE = 0x12 then s.recoveryDone else s

/-! ### Kiosk pairs (R453, R454) -/

/-- A write of CON_KSK_STAT: READY bits complete the handoff of their pairs. Log entry 103 (DEDUCED). -/
def State.kioskReady (s : State) (w : Word) : State :=
  let s := s.plainWrite 0x0C0028 w
  let rest := s.con.kiosk.waiting.filter (fun k => !bit (F.CON_KSK_STAT_READY.get w) k)
  let s := s.setCon { s.con with kiosk := { s.con.kiosk with waiting := rest } }
  if rest.isEmpty then s.setImg { s.img with prev := [] } else s

/-- Versions that took force with a switch that has failed go back to STAGED, and the old ones return (R240). Log entry 103 (DEDUCED). -/
def State.mdlRevert (s : State) : State :=
  s.inf.slots.foldl (fun (s : State) x => match x.cur with
    | some im =>
      if mCatId im ≠ s.fld F.SCL_CAT_ID then
        let s := s.modSlot x.num (fun x => { x with next := some im, cur := x.old, gen := x.gen + 1, old := none, oldGen := 0, since := s.tim.epoch })
        ((s.detPlace x.num (s.slot x.num).cur).inc F.INF_SWAP_STAT_CANCELLED).set F.INF_MDL_STAT_LOAD_STATE 3
      else s
    | none => s) s

/-- KIOSK_START_TIMEOUT: the pair goes back to the old half and the switch fails (R453, R407). Log entry 103 (DEDUCED). -/
def State.kioskTimeout (s : State) (pair : Nat) : State :=
  if !s.con.kiosk.waiting.contains pair then s
  else
    let s := s.reachNs (s.con.kiosk.startNs + 1000 * s.fld F.CON_KSK_STAT_START_US)
    let s := (s.setCon { s.con with kiosk := ⟨1 - s.con.kiosk.half, [], 0⟩ }).conEvent 6 pair 0
    let s := s.restoreImage.mdlRevert
    ((s.set F.BLK_IMG_STAT_FAILED 1).alertIf F.BLK_IMG_CTRL_ALERT_EN 0).enterRecovery 0x11

/-- A lockstep mismatch (R454): what the pair had started ends with cause 0xA. Log entry 103 (DEDUCED). -/
def State.lockstep (s : State) (pair : Nat) : State :=
  let s := (s.inc F.CON_KSK_STAT_MISMATCHES).conEvent 7 pair 0
  let load := s.con.kioskLoad && (s.fld F.INF_MDL_STAT_LOAD_STATE = 1 || s.fld F.INF_MDL_STAT_LOAD_STATE = 2)
  let stage := s.con.kioskStage && (s.imgState = imFetching || s.imgState = imChecking)
  let s := s.setPorts { s.ports with jobs := s.ports.jobs.filter (fun j => match j.kind with
    | .model _ => !load
    | .stageImage => !stage
    | _ => true) }
  let s := if load then
      let s := (s.setInf { s.inf with fetched := none }).set F.INF_MDL_STAT_LOAD_STATE 0
      s.mdlReject (s.fld F.INF_MDL_STAT_SLOT) 0xA
    else s
  let s := if stage then s.imgIdle.imgReject 0x0A else s
  s.setCon { s.con with kioskLoad := s.con.kioskLoad && !load, kioskStage := s.con.kioskStage && !stage }

/-! ### Rehearsal (R455 to R458, R462) -/

/-- EPOCH of a schedule entry. -/
def State.fiEpoch (s : State) (i : Nat) : Nat := s.fld (F.CON_FI_A i) + 2 ^ 32 * s.fld (F.CON_FI_B_EPOCH_HI i)

/-- Valid entries of the schedule. -/
def State.fiValid (s : State) : List Nat := (List.range 16).filter (fun i => s.on (F.CON_FI_B_VALID i))

/-- Order of entries in time. -/
def State.fiKey (s : State) (i : Nat) : Nat := 1024 * s.fiEpoch i + s.fld (F.CON_FI_C_OFFSET_US i)

/-- The next entry that falls due: the earliest that has not, of the epoch in progress or later. -/
def State.fiNext (s : State) : Option Nat :=
  (sortBy s.fiKey (s.fiValid.filter (fun i => !s.con.fiDone.contains i && s.tim.epoch ≤ s.fiEpoch i))).head?

/-- NEXT follows. -/
def State.fiShow (s : State) : State := match s.fiNext with
  | some i => s.set F.CON_FI_CTRL_NEXT i
  | none => s

/-- A write of CON_FI_CTRL with ARM (R456); `operator` tells a Control request with an honoured PRIV from an operator endpoint. Log entry 104 (DEDUCED). -/
def State.fiArm (s : State) (operator : Bool) : State :=
  let ok := s.svc = svcTest || (s.svc = svcService && operator && s.fiValid.all (fun i => decide (s.tim.epoch + 2 ≤ s.fiEpoch i)))
  if ok then ((s.setCon { s.con with fiDone := [] }).set F.CON_FI_CTRL_ARMED 1).fiShow else s.set F.CON_FI_CTRL_REFUSED 1

/-- Whether a register access comes from an operator endpoint: by the port of the Control request being served, and for an access row of its
own, which names no port, whether an operator's session is formed. Log entry 104 (DEDUCED). -/
def State.operatorAccess (s : State) (a : Access) : Bool :=
  a.src = .xlp && a.priv && (match s.lnk.served with
    | some p => s.fromOperator p
    | none => s.lnk.sess.any (fun x => x.formed && x.operator))

/-- A write of CON_FI_CTRL: ARM, DISARM, and REFUSED cleared. -/
def State.fiWrite (s : State) (a : Access) (w : Word) : State :=
  let s := s.plainWrite 0x0C0020 w
  let s := if F.CON_FI_CTRL_ARM.get w = 1 then s.fiArm (s.operatorAccess a) else s
  if F.CON_FI_CTRL_DISARM.get w = 1 then s.disarm else s

/-- An entry that falls due is skipped (R457). Log entry 104 (DEDUCED). -/
def State.fiSkips (s : State) : Bool :=
  s.svc = svcRecovery || s.on F.LNK_TKO_TAKEN || s.on F.LNK_TKO_RELAYING
    || s.portList.any (fun p => s.fld (F.LNK_PORT_FUNC p) ≠ 0 && s.lstate p = lsDown)
    || (match s.con.sevEpoch with
        | some e => s.tim.epoch ≤ e + 1
        | none => false)
    || s.con.inject.any (fun i => i.active)

/-- A fault of a CLASS is injected against TARGET for DURATION_US (R455, R458). Log entry 104 (DEDUCED). -/
def State.injectFault (s : State) (cls target us : Nat) : State :=
  let s := (s.inc F.CON_FI_STAT_INJECTED).conEvent 4 cls 0
  let s := s.setCon { s.con with inject := some ⟨cls, target, s.nowNs, s.nowNs + 1000 * us, true, false⟩ }
  match cls with
  | 2 =>
    let s := if target < s.build.ports then s.portDown target else s
    if !s.uplinks.contains target || s.upNow.isSome then s.recovered 2 else s
  | 3 => s.setCon { s.con with failRead := true }
  | 6 => (s.lockstep target).recovered 6
  | 7 => s.recovered 7
  | _ => s

/-- FI_ENTRY_DUE. Log entry 104 (DEDUCED). -/
def State.fiDue (s : State) : State :=
  match s.fiNext with
  | none => s
  | some i =>
    if !s.on F.CON_FI_CTRL_ARMED || s.fiEpoch i ≠ s.tim.epoch then s
    else
      let s := s.reachNs (s.tim.openNs + 1000 * s.fld (F.CON_FI_C_OFFSET_US i))
      let cls := s.fld (F.CON_FI_B_CLASS i)
      let skips := s.fiSkips
      let s := (s.setCon { s.con with fiDone := s.con.fiDone ++ [i] }).fiShow
      if skips then (s.inc F.CON_FI_STAT_SKIPPED).conEvent 5 cls 0
      else s.injectFault cls (s.fld (F.CON_FI_C_TARGET i)) (s.fld (F.CON_FI_D_DURATION_US i))

/-- FI_DURATION_END: merges that the fault held back go on. Log entry 104 (DEDUCED). -/
def State.fiEnd (s : State) : State :=
  match s.con.inject with
  | none => s
  | some i =>
    if !i.active then s
    else
      let s := s.reachNs i.untilNs
      let s := s.setCon { s.con with inject := some { i with active := false } }
      if i.cls = 4 then s.eachNode (fun s => (s.red.merges.map (fun m => m.epoch)).foldl State.tryStart s) else s

/-! ### Meanings -/

/-- A write of CON_CTRL with an operation. -/
def State.conWrite (s : State) (w : Word) (f : State → State) : State := f (s.plainWrite 0x0C0000 w)

/-- CKPT. -/
def execCkpt (a : Access) (w : Word) (s : State) : Host.Outcome State Fault Refusal :=
  done (s.guardWrite a 0x0C0000 (fun s => s.conWrite w State.ckptAsk))

/-- CKPT_COPY_DONE. -/
def execCkptCopyDone (s : State) : Host.Outcome State Fault Refusal := done s.ckptFinish

/-- CKPT_ABORT. -/
def execCkptAbort (a : Access) (w : Word) (s : State) : Host.Outcome State Fault Refusal :=
  done (s.guardWrite a 0x0C0000 (fun s => s.conWrite w State.ckptAbort))

/-- RESTORE. -/
def execRestore (a : Access) (w : Word) (s : State) : Host.Outcome State Fault Refusal :=
  done (s.guardWrite a 0x0C0000 (fun s => s.conWrite w State.restoreAsk))

/-- RESTORE_APPLIED. -/
def execRestoreApplied (s : State) : Host.Outcome State Fault Refusal := done s.restoreApply

/-- KIOSK_READY. -/
def execKioskReady (a : Access) (w : Word) (s : State) : Host.Outcome State Fault Refusal :=
  done (s.guardWrite a 0x0C0028 (fun s => s.kioskReady w))

/-- KIOSK_START_TIMEOUT. -/
def execKioskStartTimeout (pair : Nat) (s : State) : Host.Outcome State Fault Refusal := done (s.kioskTimeout pair)

/-- LOCKSTEP_MISMATCH. -/
def execLockstepMismatch (pair : Nat) (s : State) : Host.Outcome State Fault Refusal := done (s.lockstep pair)

/-- FI_ARM: a write of CON_FI_CTRL with ARM = 1. -/
def execFiArm (a : Access) (w : Word) (s : State) : Host.Outcome State Fault Refusal :=
  done (s.guardWrite a 0x0C0020 (fun s => (s.plainWrite 0x0C0020 w).fiArm (s.operatorAccess a)))

/-- FI_DISARM: a write of CON_FI_CTRL with DISARM = 1. -/
def execFiDisarm (a : Access) (w : Word) (s : State) : Host.Outcome State Fault Refusal :=
  done (s.guardWrite a 0x0C0020 (fun s => (s.plainWrite 0x0C0020 w).disarm))

/-- FI_ENTRY_DUE. -/
def execFiEntryDue (s : State) : Host.Outcome State Fault Refusal := done s.fiDue

/-- FI_DURATION_END. -/
def execFiDurationEnd (s : State) : Host.Outcome State Fault Refusal := done s.fiEnd

end Sys2Proof.Machine
end

