-- ==== Sys2Proof/Machine/Bringup.lean ====
section
/-! DEFINITION. Bring-up and reset (spec/13): the phases and their halts, fuse load, obtaining the image, known-answer runs, wave gates, host
firmware, market open, RESET_N, and the reset supervisor's records. -/

namespace Sys2Proof.Machine

/-! ### Phases and halts (R370) -/

def phFuse : Nat := 0
def phImage : Nat := 1
def phKat : Nat := 2
def phWaves : Nat := 3
def phHostfw : Nat := 4
def phReady : Nat := 5
def phOpen : Nat := 6
def phHalted : Nat := 7

/-- The phase in progress. -/
def State.phase (s : State) : Nat := s.fld F.BRU_STATUS_PHASE

/-- A phase begins. -/
def State.setPhase (s : State) (p : Nat) : State := (s.set F.BRU_STATUS_PHASE p).setBru { s.bru with phaseAt := s.nowNs }

/-- An event of class 0x38 to 0x3B; ALERT_N when BRU_CTRL.ALERT_EN is 1 (R388, R391). -/
def State.bruEvent (s : State) (cls detail subj val : Nat) : State := (s.log cls detail subj val).alertIf F.BRU_CTRL_ALERT_EN 10

/-- A phase fails: HALTED, its cause and an event. -/
def State.halt (s : State) (cause : Nat) : State :=
  let p := if s.phase = phHalted then s.bru.haltPhase else s.phase
  let s := s.setBru { s.bru with haltPhase := p }
  ((s.set F.BRU_STATUS_PHASE phHalted).set F.BRU_STATUS_HALT_CAUSE cause).bruEvent 0x38 cause p 0

/-! ### Hidden tiles (R16, R30, R220, R375) -/

/-- What is hidden with a tile: a lane's Scales tile takes its Tree and MAC tiles with it, and the two cores of a Kiosk pair go together. -/
def hiddenWith (b : Build) (t : Nat) : List Nat :=
  match tileOf b t with
  | some (k, i) =>
    if k = tkScales then [tileNum b tkScales i, tileNum b tkTree i, tileNum b tkMac i]
    else if k = tkKiosk then [tileNum b tkKiosk (i / 2 * 2), tileNum b tkKiosk (i / 2 * 2 + 1)]
    else [t]
  | none => []

/-- Usable tiles of a kind. -/
def State.usable (s : State) (kind : Nat) : Nat :=
  ((List.range ((tileCounts s.build).getD kind 0)).filter (fun i => !s.bru.hidden.contains (tileNum s.build kind i))).length

/-- BLK_TILES0, BLK_TILES1 and INF_CAPS show what is usable. -/
def State.showTiles (s : State) : State :=
  let s := (s.set F.BLK_TILES0_LANES (s.usable tkScales)).set F.BLK_TILES0_TREE_TILES (s.usable tkTree)
  let s := (s.set F.BLK_TILES0_MAC_TILES (s.usable tkMac)).set F.BLK_TILES0_LINK_TILES (s.usable tkLink)
  let s := (s.set F.BLK_TILES1_TALLY_TILES (s.usable tkTally)).set F.BLK_TILES1_CODEC_TILES (s.usable tkCodec)
  let s := s.set F.BLK_TILES1_KIOSK_PAIRS (s.usable tkKiosk / 2)
  (s.set F.INF_CAPS_WALKERS (16 * s.usable tkTree)).set F.INF_CAPS_MACS (64 * s.usable tkMac)

/-- Tiles are hidden. -/
def State.hide (s : State) (ts : List Nat) : State :=
  (s.setBru { s.bru with hidden := s.bru.hidden ++ ts.filter (fun t => !s.bru.hidden.contains t) }).showTiles

/-- A tile fails its known-answer run: it is hidden, counted and logged (R375). Log entry 93 (DEDUCED). -/
def State.katFail (s : State) (t : Nat) : State :=
  let s := s.hide (hiddenWith s.build t)
  ((s.inc F.BRU_KAT_FAILED).set F.BRU_KAT_LAST_TILE t).bruEvent 0x38 16 t 0

/-- The pipelines of a tile move to another; those of a Scales tile take their routes to its lane. Log entry 93 (DEDUCED). -/
def State.moveTile (s : State) (t u : Nat) : State :=
  let f (x : Nat) : Nat := if x = t then u else x
  let lane (l : Nat) : Nat :=
    match tileOf s.build t, tileOf s.build u with
    | some (k, i), some (_, j) => if k = tkScales && l = i then j else l
    | _, _ => l
  let tabs : ImgTables := { s.img.tabs with
    pipes := s.img.tabs.pipes.map (fun (p : Pipe) => { p with tiles := p.tiles.map f })
    routes := s.img.tabs.routes.map (fun (r : Route) => { r with src := f r.src, dst := f r.dst, lane := lane r.lane })
    spares := s.img.tabs.spares.filter (fun x => x.1 ≠ t) }
  s.setImg { s.img with tabs := tabs }

/-- The spare that the image names for a tile, if it is usable. -/
def State.spareOf (s : State) (t : Nat) : Option Nat := (s.img.tabs.spares.find? (fun x => x.1 = t && !s.tileDown x.2)).map (fun x => x.2)

/-- Every hidden tile that the image routes to gives way to its spare; `true` when each has one. -/
def State.reroute (s : State) : Bool × State :=
  (s.routed.filter (fun t => s.bru.hidden.contains t)).foldl (fun (p : Bool × State) t =>
    match p.2.spareOf t with
    | some u => (p.1, p.2.moveTile t u)
    | none => (false, p.2)) (true, s)

/-! ### Wave gates (R376 to R378) -/

/-- A gate as it stands. -/
def State.gate (s : State) (g : Nat) : Gate := (s.bru.gates.find? (fun x => x.gate = g)).getD ⟨g, false, false, false, false, false, 0⟩

/-- A gate replaced; GATES_ON counts the acks that are high. -/
def State.putGate (s : State) (x : Gate) : State :=
  let l := x :: s.bru.gates.filter (fun y => y.gate ≠ x.gate)
  (s.setBru { s.bru with gates := l }).set F.BRU_WAVE_STAT_GATES_ON (l.filter (fun y => y.acked)).length

/-- The charge outstanding. -/
def State.charge_ (s : State) : Nat := ((s.bru.gates.filter (fun x => x.charged)).map (fun x => s.fld (F.BRU_WAVE_INRUSH x.gate))).foldl (fun a b => a + b) 0

/-- Gates of the wave table that are sequenced. -/
def State.validGates (s : State) : List Nat := (List.range 64).filter (fun g => s.on (F.BRU_WAVE_VALID g))

/-- Sequencing waits for a gate no more: it has settled, or it is optional and has timed out. -/
def State.gateDone (s : State) (g : Nat) : Bool := (s.gate g).settled || (s.on (F.BRU_WAVE_OPTIONAL g) && (s.gate g).timedOut)

/-- The lowest wave with a gate still to settle. -/
def State.waveNow (s : State) : Option Nat :=
  (((s.validGates.filter (fun g => !s.gateDone g)).map (fun g => s.fld (F.BRU_WAVE g))).foldl (fun (m : Option Nat) w =>
    match m with
    | some v => some (min v w)
    | none => some w) none)

/-- req rises on a gate. -/
def State.raiseGate (s : State) (g : Nat) : State :=
  let s := s.putGate ⟨g, true, false, true, false, false, 0⟩
  s.raiseTo F.BRU_INRUSH_PEAK s.charge_

/-- Gates rise as the budget allows, wave by wave; what is left when every gate has settled is not a wave. Log entry 94 (DEDUCED). -/
def State.waveRun : Nat → State → State
  | 0, s => s
  | n + 1, s =>
    if !s.bru.wavesUp || s.power ≠ 0 || s.phase = phHalted then s
    else match s.waveNow with
      | none => s
      | some w =>
        let s := s.set F.BRU_WAVE_STAT_WAVE w
        match s.validGates.find? (fun g => s.fld (F.BRU_WAVE g) = w && !(s.gate g).req && !s.gateDone g) with
        | none => s
        | some g =>
          let i := s.fld (F.BRU_WAVE_INRUSH g)
          let budget := s.fld F.BRU_INRUSH_BUDGET
          if (s.gate g).acked then s
          else if s.charge_ + i ≤ budget then State.waveRun n (s.raiseGate g)
          else if budget < i && s.charge_ = 0 then
            State.waveRun n (((s.raiseGate g).inc F.BRU_WAVE_STAT_OVER).bruEvent 0x39 0 g i)
          else s

/-! ### Host firmware (R379) -/

/-- The whole object that the image names is at hand: authenticated, it goes to host memory. -/
def State.tryFirmware (s : State) : State :=
  match s.bru.fwObject with
  | none => s
  | some (obj, addr, len) =>
    if s.phase ≠ phHostfw || s.ports.hwrites.any (fun h => h.owner = .firmware) then s
    else match (s.lnk.bcast.find? (fun o => o.object = obj)).bind Bcast.whole with
      | none => s
      | some b =>
        if b.length = len && s.authentic 3 b then
          s.setPorts { s.ports with hwrites := s.ports.hwrites ++ hwriteLines (addr / 64 * 64) .firmware b }
        else
          let s := s.setLnk { s.lnk with bcast := s.lnk.bcast.filter (fun o => o.object ≠ obj) }
          s.authReject 0 2

/-- HOSTFW begins; a Hub reads the object through its own Boot Read Port. Log entry 95 (DEDUCED). -/
def State.startHostfw (s : State) : State :=
  let s := s.setPhase phHostfw
  match s.bru.fwObject with
  | none => s.setPhase phReady
  | some (_, _, len) =>
    let s := if s.hub then s.setPorts { s.ports with jobs := s.ports.jobs ++ [⟨.hostFirmware, Config.firmwareAddr / 16 * 16, len, [], true⟩] } else s
    s.tryFirmware

/-- A Hub has read the object: it is broadcast on its down-ports and held in staging. Log entry 95 (DEDUCED). -/
def State.firmwareRead (s : State) (b : Bytes) : State :=
  match s.bru.fwObject with
  | none => s
  | some (obj, _, _) =>
    let chunks := (List.range ((b.length + 4031) / 4032)).map (fun i => (4032 * i, slice b (4032 * i) (min 4032 (b.length - 4032 * i))))
    let s := s.setLnk { s.lnk with bcast := s.lnk.bcast.filter (fun o => o.object ≠ obj) ++ [⟨obj, b.length, chunks, 127⟩] }
    let s := chunks.foldl (fun (s : State) c =>
      let (r, s) := s.originateBare 0x2E 4 64 0 s.nowNs [(16, toLE 4 obj), (20, toLE 4 c.1), (24, toLE 4 b.length), (28, toLE 2 c.2.length), (64, c.2)]
      (s.bcastPorts 127).foldl (fun (s : State) p => s.send p 4 3 0 r) s) s
    s.tryFirmware

/-- A write of the object has completed or failed. Log entry 95 (DEDUCED). -/
def State.firmwareWritten (s : State) (ok last : Bool) : State :=
  if s.phase ≠ phHostfw then s
  else if !ok then
    (s.setPorts { s.ports with hwrites := s.ports.hwrites.map (fun (h : HWrite) => if h.owner = .firmware then { h with owner := .dropped } else h) }).halt 6
  else if last then (s.set F.BRU_STATUS_HOSTFW_DONE 1).setPhase phReady
  else s

/-! ### Waves as commands -/

/-- Wave sequencing goes on; with nothing left to settle it is over, and in WAVES the next phase begins. -/
def State.waveGo (s : State) : State :=
  let s := State.waveRun 65 s
  if s.bru.wavesUp && s.waveNow.isNone && s.power = 0 && s.phase ≠ phHalted then
    let s := s.setBru { s.bru with wavesUp := false }
    if s.phase = phWaves then s.startHostfw else s
  else s

/-- Wave sequencing starts. -/
def State.wavesOn (s : State) : State := (s.setBru { s.bru with wavesUp := true, wavesDown := false }).waveGo

/-- WAVES begins. -/
def State.startWaves (s : State) : State := (s.setPhase phWaves).wavesOn

/-- The highest wave with an ack high. -/
def State.topWave (s : State) : Option Nat :=
  ((s.bru.gates.filter (fun x => x.acked)).map (fun x => s.fld (F.BRU_WAVE x.gate))).foldl (fun (m : Option Nat) w =>
    match m with
    | some v => some (max v w)
    | none => some w) none

/-- Waves fall: the reqs of the highest wave with an ack high are lowered; a req without its ack stays (R40). Log entry 94 (DEDUCED). -/
def State.waveFall (s : State) : State :=
  if !s.bru.wavesDown then s
  else match s.topWave with
    | none => s.setBru { s.bru with wavesDown := false }
    | some w =>
      ((s.bru.gates.filter (fun x => x.acked && x.req && s.fld (F.BRU_WAVE x.gate) = w))).foldl (fun (s : State) (x : Gate) =>
        s.putGate { x with req := false, charged := false, settled := false, timedOut := false }) s

/-- WAVES_OFF. Log entry 94 (DEDUCED). -/
def State.wavesOff (s : State) : State := (s.setBru { s.bru with wavesUp := false, wavesDown := true }).waveFall

/-- The host raises ack on a gate. -/
def State.gateAck (s : State) (g : Nat) : State :=
  let x := s.gate g
  if !x.req || x.acked then s else ((s.unstall 7 g).putGate { x with acked := true, ackNs := s.nowNs }).waveFall

/-- SETTLE_US after the ack the gate has settled and its charge is released. Log entry 94 (DEDUCED). -/
def State.gateSettle (s : State) (g : Nat) : State :=
  let x := s.gate g
  if !x.acked || !x.req || x.settled then s
  else ((s.reachNs (x.ackNs + 1000 * s.fld (F.BRU_WAVE_SETTLE_US g))).putGate { x with settled := true, charged := false }).waveGo

/-- The host lowers ack on a gate whose req is low. -/
def State.gateFall (s : State) (g : Nat) : State :=
  let x := s.gate g
  if x.req || !x.acked then s else ((s.putGate { x with acked := false }).waveFall).waveGo

/-- A gate has stayed unacknowledged past the timeout (R377). Log entries 41 (DEDUCED), 94 (DEDUCED). -/
def State.gateTimeout (s : State) (g : Nat) : State :=
  let x := s.gate g
  let i := s.fld (F.BRU_WAVE_INRUSH g)
  if !x.req || x.acked || x.timedOut then s
  else if s.on (F.BRU_WAVE_OPTIONAL g) then
    (((s.putGate { x with timedOut := true, charged := false }).inc F.BRU_WAVE_STAT_TIMEOUTS).bruEvent 0x39 1 g i).waveGo
  else
    let s := (s.putGate { x with timedOut := true }).bruEvent 0x39 2 g i
    if s.phase = phWaves then s.halt 5 else s.setBru { s.bru with wavesUp := false }

/-! ### Known-answer runs (R375) -/

/-- What a known-answer phase tests: every usable tile, and each Kiosk pair as one. Log entry 93 (DEDUCED). -/
def State.katUnits (s : State) : List Nat :=
  (List.range ((tileCounts s.build).foldl (fun a b => a + b) 0)).filter (fun t =>
    !s.bru.hidden.contains t && !(match tileOf s.build t with
      | some (k, i) => decide (k = tkKiosk ∧ i % 2 = 1)
      | none => true))

/-- KAT ends: failing tiles are hidden, pipelines move to spares, and WAVES begins or the sequence halts. Log entries 40 (DEDUCED), 93 (DEDUCED). -/
def State.katDone (s : State) (failed : List Nat) : State :=
  if s.phase ≠ phKat then s
  else
    let units := s.katUnits
    let bad := units.filter (fun u => (u :: hiddenWith s.build u).any (fun t => tileKind s.build t = tileKind s.build u && failed.contains t))
    let s := s.add F.BRU_KAT_PASSED (units.length - bad.length)
    let s := bad.foldl State.katFail s
    let (ok, s) := s.reroute
    if ok then s.startWaves else s.halt 4

/-- A write of BRU_KAT_REQ: RUN in TEST runs the vectors on one tile. -/
def State.katAsk (s : State) (w : Word) : State :=
  let t := F.BRU_KAT_REQ_TILE.get w
  if F.BRU_KAT_REQ_RUN.get w = 0 || s.svc ≠ svcTest || s.on F.BRU_KAT_REQ_BUSY || (tileOf s.build t).isNone then s
  else (s.setBru { s.bru with katTile := some t }).set F.BRU_KAT_REQ_BUSY 1

/-- A known-answer run of one tile ends: asked for in TEST, or the recovery action of cause 0x10 (R19). Log entry 93 (DEDUCED). -/
def State.katOne (s : State) (pass : Bool) : State :=
  match s.bru.katTile with
  | none => s
  | some t =>
    let s := ((s.setBru { s.bru with katTile := none }).set F.BRU_KAT_REQ_BUSY 0).set F.BRU_KAT_REQ_PASS (b2n pass)
    let recovery := s.svc = svcRecovery
    if pass then
      let s := s.inc F.BRU_KAT_PASSED
      if recovery then
        let left := s.bru.hung.filter (fun x => x ≠ t)
        let s := s.setBru { s.bru with hung := left }
        (s.setBru { s.bru with katTile := s.katNext }).recoveryDone
      else s
    else if recovery then s.katFail t
    else (s.inc F.BRU_KAT_FAILED).set F.BRU_KAT_LAST_TILE t

/-! ### The image (R374) -/

/-- The image comes in broadcast chunks. Log entry 92 (DEDUCED). -/
def State.fromBcast (s : State) : Bool := s.ports.bootSel || s.on F.BRU_STATUS_FROM_BCAST

/-- No attempt is left at the Boot Read Port. -/
def State.attemptsOver (s : State) : State :=
  if s.on F.BRU_BOOT_CFG_FALLBACK then (s.set F.BRU_STATUS_FROM_BCAST 1).bruEvent 0x38 18 phImage 0 else s.halt 3

/-- An attempt starts with the image's header. -/
def State.startFetch (s : State) : State :=
  if s.ports.bootStalled then s.attemptsOver
  else s.setPorts { s.ports with jobs := s.ports.jobs ++ [⟨.bringupImage, s.pair F.BRU_BOOT_LO F.BRU_BOOT_HI / 16 * 16, 64, [], false⟩] }

/-- An attempt has failed. Log entry 92 (DEDUCED). -/
def State.failAttempt (s : State) (cause : Nat) : State :=
  let s := (s.set F.BRU_STATUS_IMG_CAUSE cause).setBru { s.bru with tries := s.bru.tries + 1 }
  if max 1 (s.fld F.BRU_BOOT_CFG_TRIES) ≤ s.bru.tries then s.attemptsOver else s.startFetch

/-- IMAGE begins; a RETIRED unit halts (R438). Log entry 92 (DEDUCED). -/
def State.startImage (s : State) : State :=
  let s := ((s.setPhase phImage).set F.BRU_STATUS_FROM_BCAST 0)
  let s := s.setBru { s.bru with tries := 0 }
  if s.lifecycle = 4 then s.halt 3 else if s.ports.bootSel then s else s.startFetch

/-- The checks of an image in bring-up are done. -/
def State.bringupChecked (s : State) (b : Bytes) (err : Bool) : State :=
  let c := s.imageCause b err
  let s := s.setImg { s.img with fetched := none, fetchErr := false }
  if c = 0 then (s.loadImage b).setPhase phKat
  else
    let s := if c = 2 then s.authReject 0 0 else s
    if s.fromBcast then
      (s.setLnk { s.lnk with bcast := s.lnk.bcast.filter (fun o => o.whole ≠ some b) }).set F.BRU_STATUS_IMG_CAUSE c
    else s.failAttempt c

/-- IMAGE_CHECKED, in bring-up or in service. Log entry 92 (DEDUCED). -/
def State.imageChecked (s : State) : State :=
  if s.phase = phImage then
    match if s.fromBcast then (s.stagedObject imgMagic).map (fun b => (b, false)) else s.img.fetched.map (fun b => (b, s.img.fetchErr)) with
    | some (b, err) => s.bringupChecked b err
    | none => s
  else if s.imgState = imChecking then
    match s.img.fetched with
    | some b => s.stageChecked b s.img.fetchErr
    | none => s
  else s

/-- A header of the image under way has come: the fetch goes on for the length it states; a length that no image has fails the attempt. -/
def State.imageHeader (s : State) (addr : Nat) (h : Bytes) : State :=
  let n := imgLength h
  if n < 192 || imgLimit s.build < n then s.failAttempt 0x05
  else s.setPorts { s.ports with jobs := s.ports.jobs ++ [⟨.bringupImage, addr + 64, n, h, true⟩] }

/-- BCAST_WAIT_MS has passed without an accepted object. Log entry 92 (DEDUCED). -/
def State.bcastWait (s : State) : State :=
  let at_ := s.bru.phaseAt + 1000000 * s.fld F.BRU_BOOT_CFG_BCAST_WAIT_MS
  if s.phase = phImage && s.fromBcast then (s.reachNs at_).halt 3
  else if s.phase = phHostfw && !s.ports.hwrites.any (fun h => h.owner = .firmware) then (s.reachNs at_).halt 6
  else s

/-! ### Fuse load (R371 to R373, R414, R415) -/

/-- Last word of a fuse section. -/
def fuseEnd (k : Nat) : Nat := [0x7, 0x4F, 0x13A, 0x182, 0x5FF].getD k 0

/-- First word of a fuse section. -/
def fuseBase (k : Nat) : Nat := [0x0, 0x10, 0x100, 0x180, 0x200].getD k 0

/-- The section that a word belongs to. -/
def fuseSect (a : Nat) : Nat := if a < 0x10 then 0 else if a < 0x100 then 1 else if a < 0x180 then 2 else if a < 0x200 then 3 else 4

/-- The word read after a word; none after the last. -/
def fuseAfter (a : Nat) : Option Nat :=
  let k := fuseSect a
  if a ≠ fuseEnd k then some (a + 1) else if k = 4 then none else some (fuseBase (k + 1))

/-- FUSE begins at word 0. Log entry 91 (DEDUCED). -/
def State.fuseStart (s : State) : State :=
  let s := s.setPhase phFuse
  s.setBru { s.bru with fuseNext := some 0, fuseGot := none }

/-- The check of a section: MAGIC and LAYOUT of the header, or the section's CRC-32C. -/
def State.fuseOk (s : State) (k : Nat) : Bool :=
  if k = 0 then (s.fuseWord 0).toNat = 0x46555358 && (s.fuseWord 1).toNat = 1
  else crc32c (s.fuseBytes (fuseBase k) (fuseEnd k + 1 - fuseBase k)) = (s.fuseWord (1 + k)).toNat

/-- Bits set in a 32-bit word. -/
def ones32 (w : Nat) : Nat := ((List.range 32).filter (fun i => bit w i)).length

/-- Lifecycle by the highest bit set (R415). -/
def lifecycleOf (w : Nat) : Nat := if bit w 3 then 4 else if bit w 2 then 3 else if bit w 1 then 2 else if bit w 0 then 1 else 0

/-- The identity section is applied: lifecycle, debug level, serial, floor and ENDORSED (R414, R415, R419, R420, R422). Log entry 90 (DEDUCED). -/
def State.fuseIdentity (s : State) : State :=
  let life := lifecycleOf (s.fuseWord 0x43).toNat
  let s := (s.set F.SEC_STATE_LIFECYCLE life).set F.SEC_STATE_DEBUG (if life = 0 || life = 3 then 2 else 0)
  let s := (s.set F.SEC_SERIAL_LO (s.fuseWord 0x41).toNat).set F.SEC_SERIAL_HI (s.fuseWord 0x42).toNat
  let gen := ones32 (s.fuseWord 0x44).toNat + ones32 (s.fuseWord 0x45).toNat + ones32 (s.fuseWord 0x46).toNat
  let s := (s.set F.SEC_FLOOR_FUSE_GEN gen).raiseTo F.SEC_FLOOR_GEN gen
  let ok := s.endorseOk
  let s := (s.set F.SEC_STATE_ENDORSED (b2n ok)).newAlias
  if life = 2 && !ok then s.secFail 0 8 else s

/-- A delay-line group that the build has (R53, R67). -/
def groupExists (b : Build) (g : Nat) : Bool := g < b.lanes || (128 ≤ g && g ≤ 136) || (137 ≤ g && g < 137 + b.ports)

/-- A trim word with its EFFECTIVE code (R52, R67). -/
def trimWord (fuse add : Nat) : Word := BitVec.ofNat 32 (fuse + 256 * add + 65536 * min 63 (fuse + add))

/-- Trims are loaded; `code` gives a group's code. -/
def State.loadTrims (s : State) (code : Nat → Nat) : State :=
  (List.range 233).foldl (fun (s : State) g =>
    s.setWord (0x0A0100 + 4 * g) (if groupExists s.build g then trimWord (code g) (s.fld (F.BRU_DLY_TRIM_ADD_CODE g)) else 0)) s

/-- A fused trim code. -/
def State.fuseTrim (s : State) (g : Nat) : Nat := (s.fuseWord (0x100 + g / 4)).toNat / 2 ^ (8 * (g % 4)) % 64

/-- The options section, or its defaults. -/
def State.fuseOptions (s : State) (ok : Bool) : State :=
  let s := (s.set F.BRU_BOOT_LO (if ok then (s.fuseWord 0x180).toNat else 0)).set F.BRU_BOOT_HI (if ok then (s.fuseWord 0x181).toNat else 0)
  s.setWord F.BRU_BOOT_CFG_TRIES.addr (BitVec.ofNat 32 (if ok then (s.fuseWord 0x182).toNat % 2 ^ 28 else 3 + 4 + 8 + 16 * 100 + 65536 * 1000))

/-- The defect entries, up to the first of TYPE 0, which ends the list (R371, R372). -/
def State.defects (s : State) : List Nat := ((List.range 1024).map (fun i => (s.fuseWord (0x200 + i)).toNat)).takeWhile (fun e => e / 2 ^ 28 ≠ 0)

/-- What a defect entry hides; an INDEX beyond the build hides nothing. -/
def defectTiles (b : Build) (e : Nat) : List Nat :=
  let i := e % 2 ^ 28
  let one (k : Nat) : List Nat := if i < (tileCounts b).getD k 0 then [tileNum b k i] else []
  match e / 2 ^ 28 with
  | 1 => if i < b.lanes then hiddenWith b (tileNum b tkScales i) else []
  | 2 => one tkTree
  | 3 => one tkMac
  | 4 => one tkTally
  | 5 => one tkCodec
  | 6 => one tkLink
  | 7 => if 2 * i + 1 < b.kioskCores then hiddenWith b (tileNum b tkKiosk (2 * i)) else []
  | _ => []

/-- Defective rows listed for a partition (R372). -/
def rowsOf (es : List Nat) (part : Nat) : Nat := (es.filter (fun e => e / 2 ^ 28 = 8 && e / 2 ^ 24 % 16 = part)).length

/-- An entry of a reserved type, ignored and counted. Log entry 91 (DEDUCED). -/
def defectIgnored (e : Nat) : Bool := 9 ≤ e / 2 ^ 28

/-- Spare rows of each partition (R373). -/
def spareRows : Build → Nat
  | .spoke => 32
  | .hub => 256

/-- The defect section is applied: what it lists is hidden; IMAGE begins unless a partition lacks spare rows. Log entry 91 (DEDUCED). -/
def State.fuseDefects (s : State) : State :=
  let es := s.defects
  let most := ((List.range 8).map (rowsOf es)).foldl max 0
  let isOver := spareRows s.build < most
  let s := (s.setBru { s.bru with hidden := [] }).hide (es.flatMap (defectTiles s.build))
  let ports := s.portList.filter (fun p => s.bru.hidden.contains (tileNum s.build tkLink p))
  let s := (s.set F.BRU_DEFECT_ENTRIES es.length).set F.BRU_DEFECT_ROW_MAX (min F.BRU_DEFECT_ROW_MAX.max most)
  let s := (s.set F.BRU_DEFECT_ROW_OVER (b2n isOver)).set F.BRU_DEFECT_LINKS_HIDDEN ports.length
  let s := s.set F.BRU_DEFECT_IGNORED (min 15 (es.filter defectIgnored).length)
  let s := ports.foldl State.portDown s
  if isOver then s.halt 2 else s.startImage

/-- Reading goes on after the last word of a section. -/
def State.fuseSkip (s : State) (k : Nat) : State := s.setBru { s.bru with fuseGot := some (fuseEnd k), fuseNext := fuseAfter (fuseEnd k) }

/-- A section fails its check. -/
def State.fuseFail (s : State) (k : Nat) : State :=
  if k = 2 then
    (((s.loadTrims (fun _ => 63)).set F.BRU_STATUS_TRIM_DEFAULT 1).bruEvent 0x38 17 phFuse 0).fuseSkip 2
  else if k = 3 then (s.fuseOptions false).fuseSkip 3
  else (s.setBru { s.bru with fuseNext := none }).halt 1

/-- A section has been read whole. -/
def State.fuseSection (s : State) (k : Nat) : State :=
  if !s.fuseOk k then s.fuseFail k
  else match k with
    | 0 => s.fuseSkip 0
    | 1 => s.fuseIdentity.fuseSkip 1
    | 2 => (s.loadTrims s.fuseTrim).fuseSkip 2
    | 3 => (s.fuseOptions true).fuseSkip 3
    | _ => (s.fuseSkip 4).fuseDefects

/-- A Fuse Port word arrives. Log entry 91 (DEDUCED). -/
def State.fuseRx (s : State) (data : Word) (resp : BitVec 2) : State :=
  match s.bru.fuseNext with
  | none => s
  | some a =>
    let s := s.unstall 6 0
    let due := match s.bru.fuseGot with
      | none => some 0
      | some x => fuseAfter x
    if s.phase ≠ phFuse then s.setBru { s.bru with fuseNext := none }
    else if due ≠ some a then s.setBru { s.bru with fuseNext := some 0, fuseGot := none }
    else if resp ≠ 0 then s.fuseFail (fuseSect a)
    else
      let s := s.setBru { s.bru with fuse := (a, data) :: s.bru.fuse.filter (fun x => x.1 ≠ a), fuseGot := some a, fuseNext := fuseAfter a }
      if a = fuseEnd (fuseSect a) then s.fuseSection (fuseSect a) else s

/-- RETRY: the phase that failed resumes. A fuse read still outstanding completes first (R371). Log entry 91 (DEDUCED). -/
def State.retry (s : State) : State :=
  if s.phase ≠ phHalted then s
  else
    let p := s.bru.haltPhase
    if p = phFuse then
      if s.bru.fuseNext.isNone then s.fuseStart else (s.setBru { s.bru with fuseGot := none }).set F.BRU_STATUS_PHASE phFuse
    else if p = phImage then s.startImage
    else if p = phWaves then (s.set F.BRU_STATUS_PHASE phWaves).waveGo
    else if p = phHostfw then s.startHostfw
    else s.set F.BRU_STATUS_PHASE p

/-! ### Market open (R380) -/

/-- A write of BRU_CTRL.MARKET_OPEN. -/
def State.marketAsk (s : State) : State :=
  if s.phase = phReady && (s.svc = svcBringup || s.svc = svcTest) then s.setBru { s.bru with marketWanted := true } else s.set F.BRU_STATUS_MO_REFUSED 1

/-- The conditions of market open hold. -/
def State.marketReady (s : State) : Bool :=
  s.bru.marketWanted && s.phase = phReady && s.servo = svLocked && (s.on F.TIM_STATUS_CADENCE_ADOPTED || s.on F.TIM_CTRL_CADENCE_SRC)

/-- Market open occurs. -/
def State.marketOpens (s : State) : State :=
  if s.marketReady then
    let s := s.setPhase phOpen
    s.setBru { s.bru with marketWanted := false, opened := true }
  else s

/-! ### Reset (R50, R381 to R387) -/

/-- A field keeps its value through a reset. -/
def keepField (old : Regs) (m : Regs) (f : Fld) : Regs := regWrite m f.addr (f.put (regRead m f.addr) (f.get (regRead old f.addr)))

/-- A field takes a value. -/
def putField (m : Regs) (f : Fld) (v : Nat) : Regs := regWrite m f.addr (f.put (regRead m f.addr) v)

/-- Fields outside the Reset entries "—" that rules keep: the time hierarchy (R83), KEEP (R303), and of each port what its link layer knows. Log entry 96 (DEDUCED). -/
def keptFields (b : Build) : List Fld :=
  [F.TIM_GM_RANK, F.TIM_UPSTREAM_PORT0, F.TIM_UPSTREAM_PORT1, F.TIM_UPSTREAM_PORT2, F.TIM_UPSTREAM_PORT3, F.TIM_CTRL_CADENCE_SRC, F.LED_CFG_KEEP]
    ++ (List.range b.ports).flatMap (fun p => [F.LNK_PORT_STATE_LSTATE p, F.LNK_PORT_STATE_PEER_PORT p, F.LNK_PORT_PEER_PEER_ID p])

/-- The registers after a reset: constants of the Reset column, what is kept, LAG_US 20 (R484) and power state RUN (R468). Log entry 48 (DEDUCED). -/
def State.afterReset (s : State) : Regs :=
  let m := buildRegs s.build (resetRegs s.build s.regs)
  let m := (keptFields s.build).foldl (keepField s.regs) m
  let m := (s.portList.filter (fun p => s.lstate p = lsRelay)).foldl (fun (m : Regs) p => putField m (F.LNK_PORT_STATE_LSTATE p) lsUp) m
  putField (putField (putField m F.TIM_SEAL_LAG_LAG_US 20) F.BLK_POWER_STATE 0) F.SEC_STATE_POWER 0

/-- The links after a reset: the link layer, sessions, SEQ and placement generations stand; frames and requests do not (R381, R382). Log entry 96 (DEDUCED). -/
def LnkSt.afterReset (b : Build) (l : LnkSt) : LnkSt :=
  { initLnk b with
    ports := l.ports.map (fun (x : LinkSt) => { x with txq := [] }), sess := l.sess, seqs := l.seqs, ctl := l.ctl, nextTxn := l.nextTxn,
    pgen := l.pgen, pgenSeen := l.pgenSeen, tkoPgen := l.tkoPgen }

/-- The root after a reset: keys and the record chain stand; what it was forming or verifying does not. Log entries 87 (DEDUCED), 96 (DEDUCED). -/
def SecSt.afterReset (x : SecSt) : SecSt :=
  { initSec with
    mImage := x.mImage, dkeys := x.dkeys, prevChain := x.prevChain, round := x.round, firstSeq := x.firstSeq, roundNo := x.roundNo,
    aliasCache := x.aliasCache, devCache := x.devCache }

/-- Bring-up after a reset asserts: every wave req is lowered (R378). Log entry 96 (DEDUCED). -/
def BruSt.afterReset (x : BruSt) (id : Nat) : BruSt :=
  { initBru true with
    fuse := x.fuse, lastId := id, hidden := x.hidden, inbandCount := x.inbandCount, inbandDue := x.inbandDue, notice := x.notice, noticePorts := x.noticePorts,
    gates := (x.gates.filter (fun g => g.acked)).map (fun (g : Gate) => { g with req := false, charged := false, settled := false, timedOut := false }) }

/-- A reset takes effect, for a cause: 1 RESET_N, 2 in-band. Handshakes are dropped, queued Control requests are answered, and what R381 lists
is lost. Log entry 96 (DEDUCED). -/
def State.assertReset (s : State) (cause : Nat) : State :=
  let s := if s.con.ckptAt.isSome || s.con.copy.isSome then s.abandon 7 else s
  let id := s.ident
  let n := s.tal.tickets.length
  let s : State := { s with
    regs := s.afterReset, inForce := [], img := initImg, crier := initCrier, tal := { initTal with lostTickets := s.tal.lostTickets + n },
    scl := initScl, red := initRed, tko := none, trc := initTrc s.build, inf := initInf, srv := initSrv,
    con := { initCon with sevEpoch := s.con.sevEpoch },
    bru := s.bru.afterReset id, sec := s.sec.afterReset, lnk := s.lnk.afterReset s.build,
    tim := { s.tim with closed := none, measured := [], pulses := List.replicate 8 idlePulse },
    ports := { initPorts true s.ports.bootSel with
      resetLow := s.ports.resetLow, bootSampled := s.ports.bootSampled, resetAt := s.stamp, alertN := s.ports.alertN,
      tdo := s.ports.tdo, tap := s.ports.tap, tapIr := s.ports.tapIr, tapDr := s.ports.tapDr, tapUpd := s.ports.tapUpd } }
  let s := (s.add F.TAL_RA_LOST_DISCARDED n).set F.BRU_WAVE_STAT_GATES_ON s.bru.gates.length
  let s := ((s.set F.BRU_RESET_LAST_CAUSE cause).inc F.BRU_RESET_COUNT).set F.BRU_RESET_HELD 0
  s.flushRequests

/-- HELD_MS; 0 acts as 1. -/
def State.heldMs (s : State) : Nat := max 1 (s.fld F.BRU_BOOT_CFG_HELD_MS)

/-- The block leaves reset: the Ledger closes its open entries and is writable again (R300), tickets lost are told (R127), RESET_NOTICE goes
out on every link that is up, and the phases start at FUSE. Log entry 52 (DEDUCED). -/
def State.leaveReset (s : State) : State :=
  let s := (s.setPorts { s.ports with inReset := false }).ledRelease.log 0x01 0 0 0
  let s := if s.tal.lostTickets = 0 then s else (s.log 0x12 0 0 s.tal.lostTickets).setTal { s.tal with lostTickets := 0 }
  let s := if s.on F.BRU_RESET_HELD then s.bruEvent 0x3A 0 0 s.heldMs else s
  let s := s.setBru { s.bru with notice := 1 + s.fld F.BRU_RESET_LAST_CAUSE, noticePorts := [] }
  let s := (s.portList.filter (fun p => s.lstate p ≠ lsDown)).foldl State.sendNotice s
  s.fuseStart

/-- RESET_N has been asserted for 50 ns. -/
def State.resetLow (s : State) : State :=
  if s.ports.resetLow then s
  else (s.setPorts { s.ports with resetLow := true }).assertReset 1

/-- RESET_N is released: BOOT_SEL is sampled. -/
def State.resetHigh (s : State) (bootSel : Bool) : State :=
  if !s.ports.resetLow then s
  else
    let s := s.setPorts { s.ports with resetLow := false, bootSel := bootSel, bootSampled := true }
    if s.bru.inbandDue then s else s.leaveReset

/-- HELD_RESET, once RESET_N has been held for HELD_MS and every 1 ms after (R383). Log entry 97 (DEDUCED). -/
def State.heldBeacon (s : State) : State :=
  if !s.ports.resetLow then s
  else
    let s := s.reachNs (s.ports.resetAt / 8 + 1000000 * s.heldMs)
    let s := s.mgmtEach s.upPorts 10 [(20, toLE 4 s.ident), (24, toLE 4 s.heldMs), (28, toLE 2 (s.fld F.BRU_RESET_COUNT))]
    s.set F.BRU_RESET_HELD 1

/-- A child counts as ABSENT from now on (R167). Log entry 57 (DEDUCED). -/
def State.markAbsent (s : State) (key : Nat) : State :=
  s.setRed { s.red with absentKeys := (key, s.tim.epoch) :: s.red.absentKeys.filter (fun k => k.1 ≠ key) }

/-- HELD_RESET received: the sender is ABSENT. Log entry 97 (DEDUCED). -/
def State.heldRx (s : State) (x : Rx) : State :=
  let s := (s.modLink x.port (fun (l : LinkSt) => { l with heldReset := true })).eachNode (fun s => s.markAbsent (peerKey x.bytes))
  s.bruEvent 0x3A 1 x.port (le x.bytes 24 4)

/-- RESET_NOTICE received: from a unit above, a path change, and after an in-band reset RECOVERY; from a unit below, its chain may start
anew (R387, R426) and it is no longer ABSENT for its held reset (R383). Log entries 57 (DEDUCED), 97 (DEDUCED). -/
def State.noticeRx (s : State) (x : Rx) : State :=
  let key := peerKey x.bytes
  let s := s.modLink x.port (fun (l : LinkSt) => { l with heldReset := false })
  let s := s.eachNode (fun s => s.setSec { s.sec with rounds := s.sec.rounds.map (fun (r : Round) => if r.key = key then { r with chain := none } else r) })
  let s := s.eachNode (fun s => s.setRed { s.red with absentKeys := s.red.absentKeys.filter (fun k => k.1 ≠ key) })
  if s.uplinks.contains x.port && !s.red.retained.isEmpty then
    let s := s.setBru { s.bru with resentTo := (s.red.retained.map (fun y => y.epoch)).foldl Nat.max 0 }
    let s := s.eachNode State.pathChange
    if le x.bytes 24 1 = 2 then s.enterRecovery 0x13 else s
  else s

/-! ### In-band reset (R385) -/

/-- The MAC of an INBAND_RESET over its bytes 16 to 31. -/
def State.inbandMac (s : State) (b : Bytes) : Bytes := (hmac384 s.rstKey (slice b 16 16)).take 16

/-- A write of BRU_INBAND: SEND forms the record and queues it. -/
def State.inbandSend (s : State) (w : Word) : State :=
  if F.BRU_INBAND_SEND.get w = 0 then s
  else
    let p := s.fld F.BRU_INBAND_TGT_PORT
    let n := (s.bru.inbandCount + 1) % 65536
    let head := (11#8 :: zeros 3) ++ toLE 4 (s.fld F.BRU_INBAND_TGT_TARGET) ++ toLE 8 (s.tim.epoch % 2 ^ 48 + 2 ^ 48 * n)
    let (r, s) := (s.setBru { s.bru with inbandCount := n }).linkMgmt 11 [(16, head), (32, (hmac384 s.rstKey head).take 16)]
    if s.carries p 2 0x52 then (s.sendPeer p 2 r).set F.BRU_INBAND_BUSY 1 else s

/-- The NONCE last accepted. -/
def State.nonce (s : State) : Nat := s.pair F.BRU_NONCE_LO F.BRU_NONCE_HI

/-- An INBAND_RESET received. Log entry 97 (DEDUCED). -/
def State.inbandRx (s : State) (x : Rx) : State :=
  let b := x.bytes
  let n := le b 24 8
  let e := n % 2 ^ 48
  if s.ports.inReset || !s.on F.BRU_BOOT_CFG_INBAND_EN || le b 20 4 % 2 ^ 20 ≠ s.ident then
    (s.inc F.BRU_INBAND_STAT_IGNORED).bruEvent 0x3B 3 x.port 0
  else if slice b 32 16 ≠ s.inbandMac b then (s.inc F.BRU_INBAND_STAT_BAD_MAC).bruEvent 0x3B 1 x.port 0
  else if n ≤ s.nonce || (s.on F.TIM_STATUS_CADENCE_ADOPTED && (s.tim.epoch + 16 < e || e + 16 < s.tim.epoch)) then
    (s.inc F.BRU_INBAND_STAT_STALE).bruEvent 0x3B 2 x.port 0
  else
    let s := ((s.inc F.BRU_INBAND_STAT_ACCEPTED).setPair F.BRU_NONCE_LO F.BRU_NONCE_HI n).bruEvent 0x3B 0 x.port 0
    let s := s.assertReset 2
    s.setBru { s.bru with inbandDue := true }

/-- The 1 µs that an accepted INBAND_RESET stands for is over. -/
def State.inbandOver (s : State) : State :=
  if !s.bru.inbandDue then s
  else
    let s := (s.reach (s.ports.resetAt + 8000)).setBru { s.bru with inbandDue := false }
    if s.ports.resetLow then s else s.leaveReset

/-! ### Meanings -/

/-- A write of BRU_CTRL: its fields, and every command whose bit is 1, in the order of the bits. -/
def State.bruWrite (s : State) (w : Word) : State :=
  let s := s.plainWrite 0x0A0004 w
  let s := if F.BRU_CTRL_MARKET_OPEN.get w = 1 then s.marketAsk else s
  let s := if F.BRU_CTRL_WAVES_OFF.get w = 1 then s.wavesOff else s
  let s := if F.BRU_CTRL_WAVES_ON.get w = 1 then s.wavesOn else s
  if F.BRU_CTRL_RETRY.get w = 1 then s.retry else s

/-- POWER_UP. -/
def execPowerUp (resetLow bootSel : Bool) (s : State) : Host.Outcome State Fault Refusal :=
  done (if s.ports.powered then s else { State.powerOn s.build resetLow bootSel with free := s.free, pending := s.pending })

/-- POWER_OFF: the supply is removed. -/
def execPowerOff (s : State) : Host.Outcome State Fault Refusal := done (s.setPorts { s.ports with powered := false })

/-- BOOT_SEL_SAMPLE. -/
def execBootSelSample (level : Bool) (s : State) : Host.Outcome State Fault Refusal :=
  done (if s.ports.bootSampled || s.ports.resetLow then s else s.setPorts { s.ports with bootSel := level, bootSampled := true })

/-- RESET_N_ASSERT. -/
def execResetNAssert (t : Nat) (s : State) : Host.Outcome State Fault Refusal := done (s.reach t).resetLow

/-- RESET_N_RELEASE. -/
def execResetNRelease (t : Nat) (bootSel : Bool) (s : State) : Host.Outcome State Fault Refusal := done ((s.reach t).resetHigh bootSel)

/-- RESET_HELD_BEACON. -/
def execResetHeldBeacon (s : State) : Host.Outcome State Fault Refusal := done s.heldBeacon

/-- FUSE_READ_RESPONSE. -/
def execFuseReadResponse (t : Nat) (data : Word) (resp : BitVec 2) (s : State) : Host.Outcome State Fault Refusal := done ((s.reach t).fuseRx data resp)

/-- IMAGE_CHECKED. -/
def execImageChecked (s : State) : Host.Outcome State Fault Refusal := done s.imageChecked

/-- BCAST_WAIT_EXPIRY. -/
def execBcastWaitExpiry (s : State) : Host.Outcome State Fault Refusal := done s.bcastWait

/-- BCAST_CHUNK. -/
def execBcastChunk (r : Rx) (s : State) : Host.Outcome State Fault Refusal := done ((((s.reach r.t).consume r).chunkRx r).tryFirmware)

/-- KAT_DONE. -/
def execKatDone (failed : List Nat) (s : State) : Host.Outcome State Fault Refusal := done (s.katDone failed)

/-- WAVE_GATE_ACK. -/
def execWaveGateAck (t gate : Nat) (s : State) : Host.Outcome State Fault Refusal := done ((s.reach t).gateAck gate)

/-- WAVE_SETTLE. -/
def execWaveSettle (gate : Nat) (s : State) : Host.Outcome State Fault Refusal := done (s.gateSettle gate)

/-- WAVE_GATE_ACK_FALL. -/
def execWaveGateAckFall (t gate : Nat) (s : State) : Host.Outcome State Fault Refusal := done ((s.reach t).gateFall gate)

/-- MARKET_OPEN_OCCURS. -/
def execMarketOpenOccurs (s : State) : Host.Outcome State Fault Refusal := done s.marketOpens

/-- MARKET_OPEN: a write of BRU_CTRL with MARKET_OPEN = 1. -/
def execMarketOpen (a : Access) (w : Word) (s : State) : Host.Outcome State Fault Refusal := done (s.guardWrite a 0x0A0004 (fun s => s.bruWrite w))

/-- WAVES_OFF: a write of BRU_CTRL with WAVES_OFF = 1. -/
def execWavesOff (a : Access) (w : Word) (s : State) : Host.Outcome State Fault Refusal := done (s.guardWrite a 0x0A0004 (fun s => s.bruWrite w))

/-- WAVES_ON: a write of BRU_CTRL with WAVES_ON = 1. -/
def execWavesOn (a : Access) (w : Word) (s : State) : Host.Outcome State Fault Refusal := done (s.guardWrite a 0x0A0004 (fun s => s.bruWrite w))

/-- RETRY: a write of BRU_CTRL with RETRY = 1. -/
def execRetry (a : Access) (w : Word) (s : State) : Host.Outcome State Fault Refusal := done (s.guardWrite a 0x0A0004 (fun s => s.bruWrite w))

/-- KAT_REQUEST: a write of BRU_KAT_REQ. -/
def execKatRequest (a : Access) (w : Word) (s : State) : Host.Outcome State Fault Refusal := done (s.guardWrite a 0x0A0048 (fun s => s.katAsk w))

/-- KAT_REQUEST_DONE. -/
def execKatRequestDone (pass : Bool) (s : State) : Host.Outcome State Fault Refusal := done (s.katOne pass)

/-- INBAND_SEND: a write of BRU_INBAND. -/
def execInbandSend (a : Access) (w : Word) (s : State) : Host.Outcome State Fault Refusal :=
  done (s.guardWrite a 0x0A0028 (fun s => (s.plainWrite 0x0A0028 w).inbandSend w))

/-- INBAND_RESET. -/
def execInbandReset (r : Rx) (s : State) : Host.Outcome State Fault Refusal := done (((s.reach r.t).consume r).inbandRx r)

/-- INBAND_RESET_RELEASE. -/
def execInbandResetRelease (s : State) : Host.Outcome State Fault Refusal := done s.inbandOver

/-- HELD_RESET. -/
def execHeldReset (r : Rx) (s : State) : Host.Outcome State Fault Refusal := done (((s.reach r.t).consume r).heldRx r)

/-- RESET_NOTICE. -/
def execResetNotice (r : Rx) (s : State) : Host.Outcome State Fault Refusal := done (((s.reach r.t).consume r).noticeRx r)

end Sys2Proof.Machine
end

