-- ==== Sys2Proof/Machine/Blocks.lean ====
section
/-! DEFINITION. The block's ports and crossbar (spec/01, spec/02) and its power states (spec/17): lane arbitration, hung tiles, stalls and
phase-order breaks, what the Boot Read Port and the Host Memory Port answer, the issue gate, the speed report, the test port, and power
requests. -/

namespace Sys2Proof.Machine

/-! ### Lanes (R9, R10, R34) -/

/-- Routes that request in the same instant are granted one at a time, alarm routes first and then the others in turn, from the one after the
last granted; each that waits for a grant adds 1. Routes are given by their index in the image's table. Log entry 38 (DEDUCED). -/
def State.laneGrants (s : State) (lane : Nat) (routes : List Nat) : State :=
  let isAlarm (i : Nat) : Bool := match s.img.tabs.routes[i]? with
    | some r => r.alarm
    | none => false
  let mine := (routes.eraseDups).filter (fun i => match s.img.tabs.routes[i]? with
    | some r => r.lane = lane && !s.tileDown r.src && !s.tileDown r.dst
    | none => false)
  let others := sortBy (fun i => i) (mine.filter (fun i => !isAlarm i))
  let last := (s.bru.grants.find? (fun g => g.1 = lane)).map (fun g => g.2)
  let turn := match last with
    | some l => others.filter (fun i => l < i) ++ others.filter (fun i => i ≤ l)
    | none => others
  let s := match turn.getLast? with
    | some l => s.setBru { s.bru with grants := (lane, l) :: s.bru.grants.filter (fun g => g.1 ≠ lane) }
    | none => s
  if s.build.lanes ≤ lane then s else s.add (F.BLK_LANE_WAIT lane) (mine.length - 1)

/-! ### Hung tiles (R17 to R19) -/

/-- The route watchdog in µs. -/
def State.watchdog (s : State) : Nat := min 100 (max 1 (s.fld F.BLK_WATCHDOG_WATCHDOG_US))

/-- A tile is declared hung: isolated, counted, logged; its pipelines move to the spare that the image names, or RECOVERY follows. In
BRING-UP, with an image, it is treated as one that fails its known-answer run. A hung Ledger goes on in its mirror (R296). Log entry 40 (DEDUCED). -/
def State.hangTile (s : State) (t : Nat) : State :=
  if (tileOf s.build t).isNone || s.tileDown t then s
  else
    let s := s.setBru { s.bru with hung := s.bru.hung ++ [t], faults := s.bru.faults ++ [t] }
    let s := (((s.inc F.BLK_TILE_FAULT_COUNT).set F.BLK_TILE_FAULT_LAST_TILE t).log 0x02 0 t s.watchdog).alert 0
    if tileKind s.build t = tkLedger then s.ledHung
    else if s.svc = svcBringup then
      if !s.loaded then s
      else
        let (ok, s) := (s.katFail t).reroute
        if ok then s else s.halt 4
    else if !s.routed.contains t then s
    else match s.spareOf t with
      | some u => s.setBru { s.bru with moves := s.bru.moves ++ [(t, u)] }
      | none => s.enterRecovery 0x10

/-! ### The Boot Read Port (R43, R374, R328, R402, R420, R450) -/

/-- A fetch has come to its end, or to an error response. -/
def State.jobDone (s : State) (j : Job) (err : Bool) : State :=
  let start := j.addr - j.got.length
  let b := j.got.take j.want
  match j.kind with
  | .bringupImage =>
    if s.phase ≠ phImage then s
    else if err then s.failAttempt 0x01
    else if j.sized then s.setImg { s.img with fetched := some b, fetchErr := false }
    else s.imageHeader start b
  | .stageImage => (s.setImg { s.img with fetched := some b, fetchErr := err }).set F.BLK_IMG_STAT_STATE imChecking
  | .model slot => (s.setInf { s.inf with fetched := some (slot, b, err) }).set F.INF_MDL_STAT_LOAD_STATE 2
  | .token => s.setSec { s.sec with token := some (if err then [] else b) }
  | .descriptor k => if err then s.panFault k (if j.sized then start else start - 16) else s.descFetched k start j.sized b
  | .dump => if err then s.dumpError else s
  | .restore =>
    if !err && !j.sized && ckptFormatOk s.build b then
      s.setPorts { s.ports with jobs := ⟨.restore, j.addr, ckptTotal b, b, true⟩ :: s.ports.jobs }
    else s.setCon { s.con with fetched := some (b, err) }
  | .hostFirmware => if err then (if s.phase = phHostfw then s.halt 6 else s) else s.firmwareRead b

/-- The data of a response joins the fetch that asked for it. A read that was given up when its port stalled is discarded. Log entry 41 (DEDUCED). -/
def State.bootRx (s : State) (data : Bytes) (err : Bool) : State :=
  if s.ports.bootStalled then (s.unstall 5 0).setPorts { (s.unstall 5 0).ports with bootStalled := false }
  else match s.ports.jobs with
    | [] => s
    | j :: rest =>
      let s := s.unstall 5 0
      if err then (s.setPorts { s.ports with jobs := rest }).jobDone j true
      else
        let isDump := j.kind = .dump
        let left := j.want - j.got.length
        let j' : Job := { j with addr := j.addr + 16, got := j.got ++ (if isDump then zeros (min 16 left) else data) }
        let final := j.want ≤ j'.got.length
        let s := s.setPorts { s.ports with jobs := if final then rest else j' :: rest }
        let s := if isDump then s.dumpData (data.take left) final else s
        if final then s.jobDone j' false else s

/-! ### The Host Memory Port (R37, R43) -/

/-- The write at the Host Memory Port has ended. -/
def State.hostWritten (s : State) (ok : Bool) : State :=
  match s.ports.hwrites with
  | [] => s
  | w :: rest =>
    let s := s.unstall 4 0
    let s := s.setPorts { s.ports with hwrites := rest }
    match w.owner with
    | .frame k => s.panWritten k true ok w.last
    | .writeback k => s.panWritten k false ok w.last
    | .plan => s.planWritten ok w.last
    | .firmware => s.firmwareWritten ok w.last
    | .checkpoint => s.ckptWritten ok
    | .dropped => s

/-! ### Stalls and phase-order breaks (R48, R49, R374, R377) -/

/-- BLK_PORT_TIMEOUT in µs. -/
def State.portTimeout (s : State) : Nat := min 1000 (max 1 (s.fld F.BLK_PORT_TIMEOUT_TIMEOUT_US))

/-- An initiator handshake of the block is open on a port: 1 Tally, 4 Host Memory, 5 Boot Read, 6 Fuse, 7 a wave gate. Log entry 41 (DEDUCED). -/
def State.outstanding (s : State) (port sub : Nat) : Bool :=
  match port with
  | 1 => s.tal.asked.isSome
  | 4 => !s.ports.hwrites.isEmpty
  | 5 => s.ports.bootStalled || !s.ports.jobs.isEmpty
  | 6 => s.bru.fuseNext.isSome
  | 7 => (s.gate sub).req && !(s.gate sub).acked
  | _ => false

/-- The channel of a port: only a wave gate has one. -/
def stallKey (port sub : Nat) : Nat × Nat := (port, if port = 7 then sub else 0)

/-- A handshake has stayed unacknowledged past the timeout; it stays open. A fuse word that never comes halts bring-up, the image's fetch
gives the attempts up, and a wave gate's timeout is sequencing's. Log entries 3 (DESIGN CHOICE), 41 (DEDUCED). -/
def State.portStall (s : State) (port sub : Nat) : State :=
  if !s.outstanding port sub || s.ports.stallSub.contains (stallKey port sub) then s
  else
    let s := s.setPorts { s.ports with stallSub := stallKey port sub :: s.ports.stallSub }
    let s := s.set F.BLK_PORT_FAULT_STALLED (s.fld F.BLK_PORT_FAULT_STALLED ||| 2 ^ port)
    let s := (s.log 0x03 0 (128 + port) s.portTimeout).alert 0
    match port with
    | 5 =>
      match s.ports.jobs with
      | j :: rest =>
        if j.kind = .bringupImage && s.phase = phImage then
          ((s.setPorts { s.ports with jobs := rest, bootStalled := true }).set F.BRU_STATUS_IMG_CAUSE 0x01).attemptsOver
        else s
      | [] => s
    | 6 => if s.phase = phFuse then s.halt 1 else s
    | 7 => s.gateTimeout sub
    | _ => s

/-- The transfer in progress on a channel is discarded, and the block's side of it is idle. A transfer that the block began ends as by an
error response. Log entry 42 (DEDUCED). -/
def State.discardTransfer (s : State) (port sub : Nat) : State :=
  match port with
  | 1 => (s.setTal { s.tal with asked := none }).askNext
  | 2 => s.modChan sub (fun c => { c with stalled := none })
  | 4 => s.hostWritten false
  | 5 => s.bootRx [] true
  | 6 => s.fuseRx 0 2
  | 7 => if (s.gate sub).req then ((s.putGate ⟨sub, false, false, false, false, false, 0⟩).waveFall).waveGo else s
  | 8 => (s.setPorts { s.ports with gateHeld := false }).gateServe
  | _ => s

/-- The host has broken the phase order on a channel of a host port. Log entry 42 (DEDUCED). -/
def State.phaseBreak (s : State) (port sub : Nat) : State :=
  if 9 ≤ port then s
  else
    let s := s.set F.BLK_PORT_FAULT_PROTO (s.fld F.BLK_PORT_FAULT_PROTO ||| 2 ^ port)
    let s := (s.log 0x04 0 (128 + port) 0).alert 0
    let s := s.unstall port (stallKey port sub).2
    s.discardTransfer port sub

/-! ### The speed report (R56) and the issue gate (R44) -/

/-- A window of 1 µs has been counted. Log entry 24 (DESIGN CHOICE). -/
def State.speedWindow (s : State) (rate : Nat) : State :=
  let s := s.set F.BLK_SPEED_RATE rate
  let s := s.set F.BLK_SPEED_MIN_RATE (min rate (s.fld F.BLK_SPEED_MIN_RATE))
  if s.fld F.BLK_SPEED_FLOOR ≠ 0 && rate < s.fld F.BLK_SPEED_FLOOR then s.set F.BLK_SPEED_BELOW 1 else s

/-- The host raises req on the issue gate. -/
def State.issueReq (s : State) : State :=
  if s.ports.inReset then s else (s.setPorts { s.ports with gateHeld := true }).gateServe

/-! ### The test port (R60, R476; log entry 31) -/

/-- The next state of the IEEE 1149.1 controller: 0 Test-Logic-Reset, 1 Run-Test/Idle, 2 to 8 the data column from Select to Update, 9 to 15
the instruction column. Log entry 31 (PRESUMED). -/
def tapNext (st : Nat) (tms : Bool) : Nat :=
  let t : List (Nat × Nat) := [(1, 0), (1, 2), (3, 9), (4, 5), (4, 5), (6, 8), (6, 7), (4, 8), (1, 2), (10, 0), (11, 12), (11, 12), (13, 15),
    (13, 14), (11, 15), (1, 2)]
  let p := t.getD st (1, 0)
  if tms then p.2 else p.1

/-- The identification register: version 0x3, part 0x7A51, manufacturer, and a 1. -/
def idcodeBits : List Bool :=
  let w := 1 + 2 * (Config.manufacturer % 2048) + 4096 * 0x7A51 + 2 ^ 28 * 3
  (List.range 32).map (fun i => bit w i)

/-- The instruction in force: 0 IDCODE, 1 SAMPLE/PRELOAD, 2 EXTEST, 3 BYPASS. Log entry 31 (PRESUMED). -/
def State.tapInstr (s : State) : Nat :=
  match s.ports.tapIr with
  | none => 0
  | some c => if c = Config.tapIdcode then 0 else if c = Config.tapSample then 1 else if c = Config.tapExtest then 2 else 3

/-- What Capture-DR loads. Log entry 31 (PRESUMED). -/
def State.tapCapture (s : State) : State :=
  match s.tapInstr with
  | 0 => s.setPorts { s.ports with tapDr := idcodeBits }
  | 3 => s.setPorts { s.ports with tapDr := [false] }
  | _ =>
    let (n, s) := s.fresh
    s.setPorts { s.ports with tapDr := (List.range Config.boundaryLength).map (Config.boundaryCell n) }

/-- Bits, lowest first, as a number. -/
def bitsNat (bs : List Bool) : Nat := bs.foldr (fun b n => b2n b + 2 * n) 0

/-- A rising edge: the controller captures or shifts, and moves. -/
def State.tckRise (s : State) (tms tdi : Bool) : State :=
  let st := s.ports.tap
  let s := match st with
    | 3 => s.tapCapture
    | 10 => s.setPorts { s.ports with tapDr := true :: List.replicate (max 2 Config.irLength - 1) false }
    | 4 | 11 => s.setPorts { s.ports with tapDr := s.ports.tapDr.drop 1 ++ [tdi] }
    | _ => s
  s.setPorts { s.ports with tap := tapNext st tms }

/-- A falling edge: registers update, and TDO shows the next bit while shifting. -/
def State.tckFall (s : State) : State :=
  let p := s.ports
  let p : PortSt := match p.tap with
    | 0 => { p with tapIr := none }
    | 8 => if s.tapInstr = 1 || s.tapInstr = 2 then { p with tapUpd := p.tapDr } else p
    | 15 => { p with tapIr := some (bitsNat p.tapDr) }
    | _ => p
  s.setPorts { p with tdo := (p.tap = 4 || p.tap = 11) && p.tapDr.headD false }

/-- An edge of TCK. Log entry 31 (PRESUMED). -/
def State.tck (s : State) (rising tms tdi : Bool) : State :=
  if !s.testPort then s.setPorts s.ports.tapReset
  else if rising then s.tckRise tms tdi else s.tckFall

/-! ### Power states (R467 to R470, R478) -/

/-- POWER_NOTICE on every port that is UP. -/
def State.powerNotice (s : State) : State :=
  s.mgmtEach s.upPorts 14 [(20, toLE 4 s.ident), (24, toLE 1 s.power), (32, toLE 6 s.tim.epoch)]

/-- The power state changes. -/
def State.setPower (s : State) (p : Nat) : State := (s.set F.BLK_POWER_STATE p).set F.SEC_STATE_POWER p

/-- QUIET is entered. -/
def State.enterQuiet (s : State) : State := ((s.setPower 1).inc F.BLK_POWER_QUIET_ENTRIES).powerNotice

/-- Words of a range go back to 0. -/
def State.dropWords (s : State) (lo hi : Nat) : State := { s with regs := s.regs.filter (fun x => decide (x.1 < lo ∨ hi < x.1)) }

/-- What HOLD does not keep: the model store, Scales accumulators, codec, reduction staging and Tally extension partitions, and session keys
(R467). Every slot is EMPTY and every Pannier stream OFF (R470). Log entry 105 (DEDUCED). -/
def State.loseInHold (s : State) : State :=
  let s := s.flushRequests
  let s := s.setPorts { s.ports with
    jobs := [], hwrites := (s.ports.hwrites.take 1).map (fun (w : HWrite) => { w with owner := .dropped }) }
  let s := (s.setInf initInf).dropWords 0x550000 0x551FFF
  let s := (s.set F.INF_MDL_STAT_LOAD_STATE 0).set F.INF_STORE_USED_KIB 0
  let s := s.set F.INF_STORE_FREE_KIB (storeKib s.build)
  let s := (s.setScl initScl).setRed { initRed with stats := s.red.stats, absentKeys := s.red.absentKeys, uplinkUsed := s.red.uplinkUsed }
  let s := ((s.setTal initTal).setTrc (initTrc s.build)).setTko none
  let s := (List.range (streams s.build)).foldl (fun (s : State) k => s.setPanState k paOff) s
  let s := (s.set F.TRC_FLUSH_BUSY 0).setSrv { initSrv with ftq := s.srv.ftq, ftAsked := s.srv.ftAsked, begun := s.srv.begun, broke := s.srv.broke }
  let s := (s.setImg { s.img with staged := [], fetched := none, fetchErr := false }).set F.BLK_IMG_STAT_STATE imIdle
  let s := s.setSec { s.sec with verify := [], forming := none, token := none, aliasCache := [], devCache := [] }
  let s := (s.set F.SEC_ATT_BUSY 0).set F.SEC_DBG_BUSY 0
  s.setLnk { s.lnk with sess := [], bcast := [] }

/-- HOLD is entered. Log entry 105 (DEDUCED). -/
def State.enterHold (s : State) : State := (((s.setPower 2).inc F.BLK_POWER_HOLD_ENTRIES).loseInHold).powerNotice

/-- RUN is entered at a boundary: the first epoch is INCOMPLETE, a counter's first accepted reading is its opening value, and wave
sequencing goes on. Log entry 105 (DEDUCED). -/
def State.enterRun (s : State) : State :=
  let s := (s.setPower 0).powerNotice
  let s := (s.setTim { s.tim with epochBad := true }).setScl { s.scl with bank := [] }
  let s := s.setTal { s.tal with
    asked := none, bracket := [], post := [], postDue := false, preDone := false, sweepAt := none, latchLeft := []
    ctrs := s.tal.ctrs.map (fun (c : Ctr) => if s.ctrMode c.id = 2 then c else
      { c with r1 := none, r2 := none, before1 := none, before2 := none, after := none, vOpen := none, openLater := false }) }
  s.waveGo

/-- A power request is refused (R469). Log entry 106 (DEDUCED). -/
def State.refusePower (s : State) : State := (s.set F.BLK_POWER_REFUSED 1).inc F.BLK_POWER_REFUSALS

/-- What forbids QUIET and HOLD (R469). Log entry 106 (DEDUCED). -/
def State.powerBarred (s : State) : Bool :=
  s.svc = svcBringup || s.svc = svcRecovery || s.imgState = imPending || s.inf.slots.any (fun x => x.target.isSome || x.unload.isSome)
    || s.red.drlTarget.isSome || s.con.ckptAt.isSome || s.con.copy.isSome || s.srv.dump.isSome || s.on F.CON_FI_CTRL_ARMED

/-- A write of BLK_POWER_REQ. Log entries 105 (DEDUCED), 106 (DEDUCED). -/
def State.powerAsk (s : State) (a : Access) (w : Word) : State :=
  let t := F.BLK_POWER_REQ_TARGET.get w
  let listed := match s.power, t with
    | 0, 1 => true
    | 1, 0 => true
    | 1, 2 => true
    | 2, 1 => a.src = .host
    | 2, 0 => a.src = .host
    | _, _ => false
  if t = 3 then s
  else if s.on F.BLK_POWER_PEND_VALID || !listed || (t ≠ 0 && s.powerBarred) then s.refusePower
  else
    let s := (s.set F.BLK_POWER_PEND_VALID 1).set F.BLK_POWER_PEND_TARGET t
    let s := s.setBru { s.bru with powEpoch := s.tim.epoch, powNs := s.nowNs, holdRun := false }
    if s.power ≠ 2 then s
    else (s.upPorts.filter (fun p => s.on (F.LNK_PORT_FUNC_ENC p))).foldl (fun (s : State) p =>
      s.startKeyx p (s.fld (F.LNK_PORT_PEER_PEER_ID p)) 1) s

/-- A pending power request has its condition. Log entry 105 (DEDUCED). -/
def State.powerMet (s : State) : Bool :=
  match s.power, s.fld F.BLK_POWER_PEND_TARGET with
  | 0, 1 => s.bru.powEpoch < s.tim.epoch && s.tim.closed.isNone && !s.red.ownWaits
      && s.red.merges.all (fun m => m.sent || m.epoch + 1 < s.tim.epoch)
  | 1, 2 => s.red.retained.isEmpty || s.bru.powEpoch + max 1 (s.fld F.RED_WAIT_RETAIN) ≤ s.tim.epoch
  | 2, _ => s.bru.powNs + 2000000 ≤ s.nowNs
      || s.upPorts.all (fun p => !s.on (F.LNK_PORT_FUNC_ENC p) || s.lnk.sess.any (fun x => x.port = p && x.formed))
  | _, _ => false

/-- POWER_TRANSITION_DONE. A request for RUN made in HOLD stays pending in QUIET until the following boundary. Log entry 105 (DEDUCED). -/
def State.powerDone (s : State) : State :=
  if !s.on F.BLK_POWER_PEND_VALID || !s.powerMet then s
  else match s.power, s.fld F.BLK_POWER_PEND_TARGET with
    | 1, _ => s.cancelPower.enterHold
    | 2, 0 => (s.setBru { s.bru with holdRun := true }).enterQuiet
    | _, _ => s.cancelPower.enterQuiet

/-- Power at a boundary: RUN, if it was asked for in QUIET or on the way out of HOLD; a notice in QUIET and HOLD. -/
def State.powerBoundary (s : State) : State :=
  if s.power = 1 && s.on F.BLK_POWER_PEND_VALID && s.fld F.BLK_POWER_PEND_TARGET = 0 then
    (s.setBru { s.bru with holdRun := false }).cancelPower.enterRun
  else if s.power = 0 then s else s.powerNotice

/-- A POWER_NOTICE received: the sender is ABSENT for the epoch that it names, and merges that waited for it may start. Log entry 105 (DEDUCED). -/
def State.powerRx (s : State) (x : Rx) : State :=
  let key := peerKey x.bytes
  let epoch := le x.bytes 32 6
  if le x.bytes 24 1 = 0 then s
  else s.eachNode (fun s =>
    let s := s.setRed { s.red with absentEpochs := (key, epoch) :: s.red.absentEpochs.filter (fun k => k ≠ (key, epoch)) }
    s.tryStart epoch)

/-! ### Meanings -/

/-- ROUTE_HANDSHAKE. -/
def execRouteHandshake (lane : Nat) (routes : List Nat) (s : State) : Host.Outcome State Fault Refusal := done (s.laneGrants lane routes)

/-- TILE_HUNG. -/
def execTileHung (t tile : Nat) (s : State) : Host.Outcome State Fault Refusal := done ((s.reach t).hangTile tile)

/-- PORT_STALL_TIMEOUT. Log entry 25 (DESIGN CHOICE). -/
def execPortStallTimeout (port sub : Nat) (s : State) : Host.Outcome State Fault Refusal := done (s.portStall port sub)

/-- PHASE_ORDER_BREAK. Log entry 25 (DESIGN CHOICE). -/
def execPhaseOrderBreak (t port sub : Nat) (s : State) : Host.Outcome State Fault Refusal := done ((s.reach t).phaseBreak port sub)

/-- SPEED_WINDOW. Log entry 24 (DESIGN CHOICE). -/
def execSpeedWindow (rate : BitVec 12) (s : State) : Host.Outcome State Fault Refusal := done (s.speedWindow rate.toNat)

/-- HOST_MEMORY_WRITE_DONE. -/
def execHostMemoryWriteDone (t : Nat) (resp : BitVec 2) (s : State) : Host.Outcome State Fault Refusal := done ((s.reach t).hostWritten (resp = 0))

/-- BOOT_READ_RESPONSE. -/
def execBootReadResponse (t : Nat) (data : BitVec 128) (resp : BitVec 2) (s : State) : Host.Outcome State Fault Refusal :=
  done ((s.reach t).bootRx (toLE 16 data.toNat) (resp ≠ 0))

/-- ISSUE_GATE_REQ. -/
def execIssueGateReq (t : Nat) (s : State) : Host.Outcome State Fault Refusal := done (s.reach t).issueReq

/-- POWER_REQUEST: a write of BLK_POWER_REQ. -/
def execPowerRequest (a : Access) (w : Word) (s : State) : Host.Outcome State Fault Refusal :=
  done (s.guardWrite a 0x000080 (fun s => s.powerAsk a w))

/-- POWER_TRANSITION_DONE. -/
def execPowerTransitionDone (s : State) : Host.Outcome State Fault Refusal := done s.powerDone

/-- POWER_NOTICE. -/
def execPowerNotice (r : Rx) (s : State) : Host.Outcome State Fault Refusal := done (((s.reach r.t).consume r).powerRx r)

/-- TCK_EDGE. -/
def execTckEdge (rising tms tdi : Bool) (s : State) : Host.Outcome State Fault Refusal := done (s.tck rising tms tdi)

end Sys2Proof.Machine
end

