-- ==== Sys2Proof/Machine/Epoch.lean ====
section
/-! DEFINITION. The life of an epoch (spec/01, spec/03): what a seal and a boundary do in every part of the block, and the commands that
move boundaries: Follow_Up with its step, Cadence announcements and SYNC_IN edges. -/

namespace Sys2Proof.Machine

/-! ### The seal (R146) -/

/-- Metrics of the closed epoch that pass through a tile declared hung in it, or through one that is still isolated or hidden, are INCOMPLETE
(R18, R19). -/
def State.sealFaults (s : State) (cl : Closed) : State :=
  let ts := cl.faults ++ s.stoppedTiles
  if ts.isEmpty then s
  else (s.metricsWhere true (fun d => d.kind ≠ 0)).foldl (fun (s : State) m =>
    if s.metricThrough ts true m then s.sectFlags true m mfIncomplete else s) s

/-- The closed epoch is sealed: boundary values, the sealed sums, the reduction, EPOCH rows and the own summary, and what waits for a seal
elsewhere. Log entry 45 (DEDUCED). -/
def State.sealNow (s : State) : State :=
  match s.tim.closed with
  | none => s
  | some cl =>
    let e := cl.epoch
    let (fig, s) := s.talSealOld cl
    let s := s.sealFaults cl
    let s := (s.setScl { s.scl with sums := s.scl.closing }).mdlSeal
    let s := s.setTim { s.tim with closed := none, sealedEpoch := some e, sealNs := s.nowNs }
    let s := s.eachNode (fun s => s.redSeal cl fig)
    let s := s.epochRows e
    let s := s.asTakeover (fun s => s.ownReady e)
    let s := if s.epochRowsWait e then s else s.ownReady e
    let s := ((((s.talHeld).suppressionAlarm e).svcSeal).lnkSeal e).ckptSeal e
    let s := if s.imgState = imPending then s else s.openWindows
    s.svcStateSeal

/-- The seal falls TIM_SEAL_LAG after the boundary. -/
def State.sealDue (s : State) : State :=
  match s.tim.closed with
  | none => s
  | some cl => if s.on F.TIM_STATUS_TBREF_LOST then s else (s.reachNs (cl.closeNs + 1000 * cl.lag)).sealNow

/-! ### The boundary (R88 to R92, R146) -/

/-- Words whose writes take force at a boundary: TAL_CTRL, SCL_CTRL and INF_CTRL. -/
def boundaryWords : List Nat := [0x020000, 0x030000, 0x050000]

/-- Pipelines of the tiles that failed move to their spares (R18). Log entry 40 (DEDUCED). -/
def State.takeSpares (s : State) : State :=
  let ms := s.bru.moves
  if ms.isEmpty then s
  else (ms.foldl (fun (s : State) m => s.moveTile m.1 m.2) (s.setBru { s.bru with moves := [] })).recovered 1

/-- In RECOVERY after a hung tile, its known-answer run starts at the first boundary (R19). Log entry 40 (DEDUCED). -/
def State.startRecoveryKat (s : State) : State :=
  if s.svc = svcRecovery && s.fld F.BLK_STATE_ENTRY_CAUSE = 0x10 && s.bru.katTile.isNone then s.setBru { s.bru with katTile := s.katNext } else s

/-- What the closed epoch is known by until its seal. Log entry 45 (DEDUCED). -/
def State.closeAt (s : State) (at_ : Nat) : Closed :=
  let t := s.tim
  { epoch := t.epoch, openNs := t.openNs, closeNs := at_, lag := clampN 5 500 (s.fld F.TIM_SEAL_LAG_LAG_US), late := t.epochLate,
    stepped := t.epochStep, localEpoch := t.epochLocal, worst := t.worst, svc := s.svc, incomplete := t.epochBad, quiet := s.power ≠ 0,
    faults := s.bru.faults }

/-- The schedule of the epoch that opens. Log entry 45 (DEDUCED). -/
def State.openAt (s : State) (at_ epoch next : Nat) (late stepped : Bool) : State :=
  let t := s.tim
  let dom := s.on F.TIM_STATUS_CADENCE_ADOPTED || s.cadenceSource
  let soon := match t.periodSoon with
    | some (k + 2, p) => some (k + 1, p)
    | _ => none
  s.setTim { t with
    epoch := epoch, openNs := at_, nextNs := next, period := t.nextPeriod, periodSoon := soon, adopt := none, epochLate := late,
    epochStep := stepped, epochLocal := !dom, epochBad := false, worst := s.servo, lag := clampN 5 500 (s.fld F.TIM_SEAL_LAG_LAG_US),
    closed := if s.ports.inReset then none else some (s.closeAt at_), usedOpen := t.usedNext, usedNext := false, pulled := none }

/-- The epoch in progress closes at `at_` and another opens there. An epoch not yet sealed is sealed first. Log entry 45 (DEDUCED). -/
def State.turnEpoch (s : State) (at_ epoch next : Nat) (late stepped : Bool) : State :=
  let s := s.cutPost.sealNow
  let opened := s.tim.openNs
  let pulled := s.tim.pulled.isSome
  let s := s.openAt at_ epoch next late stepped
  let s := s.setBru { s.bru with faults := [] }
  let s := if s.cadenceSource && !s.ports.inReset then s.announce epoch at_ next s.tim.period (b2n pulled) else s
  let s := s.takeForce boundaryWords
  let s := s.eachNode State.redBoundary
  let s := s.setScl { s.scl with closing := s.scl.bank, bank := [], closingOpen := opened, oldCat := none }
  let s := ((s.talBoundary).ledBoundary).crierBoundary.svcDue
  let s := (((s.imgBoundary epoch).takeForce boundaryWords).mdlBoundary epoch).takeSpares
  let s := (((s.svcBoundary epoch).secBoundary epoch).debugExpiry).startRecoveryKat
  let s := ((s.epochPackets epoch at_).seqAll 2 (8 * at_)).pulsesAtBoundary at_
  s.powerBoundary

/-- The scheduled boundary. With TB_REF lost the Cadence stands still (R81). Log entry 49 (DEDUCED). -/
def State.boundary (s : State) : State :=
  if s.on F.TIM_STATUS_TBREF_LOST || !s.ports.powered then s
  else
    let t := s.tim
    (s.reachNs t.nextNs).turnEpoch t.nextNs (t.adopt.getD (t.epoch + 1)) (t.pulled.getD (t.nextNs + t.nextPeriod)) false false

/-! ### Steps of the counter (R77, R82, R483) -/

/-- The epoch in progress after a step from `old` to the counter's value now. -/
def State.stepEpochs (s : State) (old : Nat) : State :=
  let now := s.nowNs
  if now = old then s
  else
    let s := if old < now then s.pulsesStepped now else s
    let s := s.setTim { s.tim with epochStep := true }
    let t := s.tim
    if now < old then s
    else if t.epochLocal && t.adopt.isNone then s.turnEpoch now (t.epoch + 1) (now + t.nextPeriod) false false
    else if now < t.nextNs then s
    else
      let first := t.adopt.getD (t.epoch + 1)
      let p := max 1 t.nextPeriod
      match t.pulled with
      | some q => if now < q then s.turnEpoch now first q false true
        else s.turnEpoch now (first + 1 + (now - q) / p) (q + ((now - q) / p + 1) * p) false true
      | none => s.turnEpoch now (first + (now - t.nextNs) / p) (t.nextNs + ((now - t.nextNs) / p + 1) * p) false (decide (now ≠ t.nextNs))

/-- A Follow_Up, and what its step does to the epochs. Log entry 49 (DEDUCED). -/
def State.followUpAll (s : State) (x : Rx) : State :=
  let old := s.nowNs
  let (s, stepped) := s.followUp x
  if stepped then s.stepEpochs old else s

/-! ### Announcements and SYNC_IN (R88 to R92, R449) -/

/-- A Cadence announcement; a late one may close the epoch in progress at once. -/
def State.announced (s : State) (x : Rx) : State :=
  let a := s.announcement x
  let t := a.st.tim
  if a.close then a.st.turnEpoch t.nextNs (t.adopt.getD (t.epoch + 1)) (t.pulled.getD (t.nextNs + t.nextPeriod)) true false else a.st

/-- A SYNC_IN edge. Log entry 49 (DEDUCED). -/
def State.syncEdge (s : State) (t : Nat) : State :=
  if s.fld F.TIM_CTRL_SYNC_MODE = 0 || s.ports.inReset then s else ((s.syncIn t).ckptEdge).seqAll 3 t

/-! ### Meanings -/

/-- FOLLOW_UP. -/
def execFollowUp (r : Rx) (s : State) : Host.Outcome State Fault Refusal := done (((s.reach r.t).consume r).followUpAll r)

/-- CADENCE_ANNOUNCEMENT. -/
def execCadenceAnnouncement (r : Rx) (s : State) : Host.Outcome State Fault Refusal := done (((s.reach r.t).consume r).announced r)

/-- SYNC_IN_EDGE. -/
def execSyncInEdge (t : Nat) (s : State) : Host.Outcome State Fault Refusal := done ((s.reach t).syncEdge t)

/-- EPOCH_BOUNDARY. -/
def execEpochBoundary (s : State) : Host.Outcome State Fault Refusal := done s.boundary

/-- SEAL. -/
def execSeal (s : State) : Host.Outcome State Fault Refusal := done s.sealDue

end Sys2Proof.Machine
end

