-- ==== Sys2Proof/Machine/Registers.lean ====
section
/-! DEFINITION. Register accesses whose effect is the register's own: the words a read shows and the groups it captures (R70, R100,
R129, R160, R291, R294, R305, R338), the clearing words of every region, the Kiosk mailbox (R481), and the plain read and write with the
action of each word that has one (R6). -/

namespace Sys2Proof.Machine

/-! ### What a read shows -/

/-- An element of an array that the build does not have: it reads 0 and takes no write (R34, R67, R103, R223, R282, R369). Log entry 37 (DEDUCED). -/
def State.absentAt (s : State) (addr : Nat) : Bool :=
  (0x000100 ≤ addr && addr < 0x000500 && s.build.lanes ≤ (addr - 0x000100) % 0x200 / 4)
    || (0x011000 ≤ addr && addr < 0x011600 && s.build.ports ≤ (addr - 0x011000) / 16)
    || (0x061000 ≤ addr && addr < 0x062000 && streams s.build ≤ (addr - 0x061000) / 64)
    || (0x091000 ≤ addr && addr < 0x092800 && s.build.ports ≤ (addr - 0x091000) / 64)
    || (0x0A0100 ≤ addr && addr < 0x0A04A4 && !groupExists s.build ((addr - 0x0A0100) / 4))
    || (0x560000 ≤ addr && addr < 0x564000 && detectorCount s.build ≤ (addr - 0x560000) / 32)

/-- The three words of TIM_NOW as a capture keeps them: LO, HI, FRAC (R70, R95). -/
def State.nowWords (s : State) : List Word :=
  words64 s.nowNs ++ [BitVec.ofNat 32 (s.stamp % 8 * 8192)]

/-- A word that is not part of a captured group, as it reads (R6, R303, R304, R435, R443). -/
def State.readWord (s : State) (addr : Nat) : Word :=
  if s.absentAt addr then 0
  else if addr = 0x070008 then BitVec.ofNat 32 s.led.seq
  else if addr = 0x07000C then BitVec.ofNat 32 s.led.wptr
  else if addr = 0x07001C then s.ledStateWord
  else if 0x5B0000 ≤ addr && addr ≤ 0x5B033F then BitVec.ofNat 32 (le s.sec.window (addr - 0x5B0000) 4)
  else if addr = 0x5C0000 then 0
  else s.word addr &&& ~~~(woMask addr)

/-- The group that an address belongs to: the address whose read captures it, and the word's place in the capture (R70, R100, R101, R129,
R160, R291, R294, R305, R338). -/
def groupOf (addr : Nat) : Option (Nat × Nat) :=
  if addr = 0x010000 then some (0x010004, 2)
  else if addr = 0x010004 || addr = 0x010008 then some (0x010004, (addr - 0x010004) / 4)
  else if addr = 0x010044 || addr = 0x010048 then some (0x010044, (addr - 0x010044) / 4)
  else if addr = 0x01004C || addr = 0x010050 then some (0x01004C, (addr - 0x01004C) / 4)
  else if addr = 0x010054 || addr = 0x010058 then some (0x010054, (addr - 0x010054) / 4)
  else if addr = 0x010064 || addr = 0x010068 then some (0x010064, (addr - 0x010064) / 4)
  else if 0x070040 ≤ addr && addr < 0x070080 then some (0x070040, (addr - 0x070040) / 4)
  else if 0x200000 ≤ addr && addr < 0x400000 then some (addr / 16 * 16, addr % 16 / 4)
  else if 0x510000 ≤ addr && addr < 0x520000 then some (addr / 64 * 64, addr % 64 / 4)
  else if 0x580000 ≤ addr && addr < 0x581000 then some (addr / 64 * 64, addr % 64 / 4)
  else if 0x5A0000 ≤ addr && addr < 0x5A0800 then some (addr / 8 * 8, addr % 8 / 4)
  else if 0x600000 ≤ addr && addr < 0x700000 then some (addr / 32 * 32, addr % 32 / 4)
  else none

/-- The words of the group whose first address is `base`, at this instant. -/
def State.groupWords (s : State) (base : Nat) : List Word :=
  if base = 0x010004 then s.nowWords
  else if base = 0x010044 then words64 s.tim.epoch
  else if base = 0x01004C then words64 s.tim.openNs
  else if base = 0x010054 then words64 s.tim.nextNs
  else if base = 0x010064 then [s.word 0x010064, s.word 0x010068]
  else if base = 0x070040 then wordsOf 16 s.led.mirror
  else if base < 0x400000 then s.ctrWords ((base - 0x200000) / 16)
  else if base < 0x520000 then s.sumWords ((base - 0x510000) / 64)
  else if base < 0x581000 then (s.led.line ((base - 0x580000) / 64)).words
  else if base < 0x5A0800 then [s.word base, s.word (base + 4)]
  else s.entryWords (s.ledWinPos ((base - 0x600000) / 32))

/-- A permitted read: the first word of a group captures it, a follower shows the source's last capture, any other word reads as it is. Log entry 32 (DEDUCED). -/
def State.readValue (s : State) (a : Access) (addr : Nat) : Word × State :=
  match groupOf addr with
  | none => (s.readWord addr, s)
  | some (base, i) =>
    if addr = base then
      let ws := s.groupWords base
      (ws.headD 0, s.capture a base ws)
    else (s.shadowWord a base i, s)

/-- A read at the register arbiter; the tray window's go out as Control requests (R355). -/
def State.registerRead (s : State) (a : Access) (addr : Nat) : State :=
  if trayAddr addr then s.trayAccess a addr false 0 else s.guardRead a addr (fun s => s.readValue a addr)

/-! ### Clearing words -/

def State.clrDeny (s : State) : State := s.clearWords [0x000020]
def State.clrLaneWait (s : State) : State := s.clearWords ((List.range 128).map (fun i => 0x000100 + 4 * i))
def State.clrState (s : State) : State := s.set F.BLK_STATE_REFUSALS 0
def State.clrTileFault (s : State) : State := s.set F.BLK_TILE_FAULT_COUNT 0
def State.clrRegerr (s : State) : State := s.clearWords [0x00002C]
def State.clrMinRate (s : State) : State := s.set F.BLK_SPEED_MIN_RATE 0xFFF
def State.clrJump (s : State) : State := s.clearWords [0x010020]
def State.clrSync (s : State) : State := s.clearWords [0x010060]
def State.clrExt (s : State) : State := s.clearWords [0x020024]
def State.clrGen (s : State) : State := s.clearWords [0x020028, 0x02002C]
def State.clrStn (s : State) : State := s.clearWords [0x020030]
def State.clrRa (s : State) : State := s.clearWords [0x020044, 0x020048, 0x02004C, 0x020050, 0x020054, 0x020058]
def State.clrSample (s : State) : State := s.set F.TAL_SAMPLE_STAT_DROPPED 0
def State.clrConv (s : State) : State := s.clearWords [0x030010]
def State.clrHist (s : State) : State := s.clearWords [0x030014]
def State.clrSclLate (s : State) : State := s.clearWords [0x030018]
def State.clrMerge (s : State) : State := s.clearWords [0x040020]
def State.clrRedLate (s : State) : State := s.clearWords [0x040024, 0x040028]
def State.clrIncomplete (s : State) : State := (s.clearWords [0x04002C]).set F.RED_LAT_MAX_US 0
def State.clrRetain (s : State) : State := s.clearWords [0x040030, 0x040034]
def State.clrStrag (s : State) : State := s.clearWords [0x040050]
def State.clrRow (s : State) : State := s.clearWords [0x05000C]
def State.clrMiss (s : State) : State := s.clearWords [0x050010]
def State.clrNum (s : State) : State := s.clearWords [0x050014]
def State.clrFault (s : State) : State := s.clearWords [0x050018, 0x05001C]
def State.clrWait (s : State) : State := s.clearWords [0x050020]
def State.clrDrift (s : State) : State := s.set F.INF_DRIFT_ALARMS 0
def State.clrBudget (s : State) : State := s.clearWords [0x050064]
def State.clrCrier (s : State) : State := s.clearWords [0x05006C]
def State.clrSwap (s : State) : State := (s.clearWords [0x050070]).set F.INF_MDL_STAT_REJECTS 0
def State.clrChan (s : State) : State := s.clearWords ((List.range 64).map (fun i => 0x060100 + 4 * i))
def State.clrPan (s : State) : State :=
  s.clearWords (F.TRC_UNROUTED.addr :: (List.range 64).flatMap (fun k => (List.range 7).map (fun i => 0x061020 + 64 * k + 4 * i)))
def State.clrSeq (s : State) : State := s.clearWords ((List.range 4).map (fun q => 0x060310 + 64 * q))
def State.clrFold (s : State) : State := s.clearWords [0x070010, 0x070024]
def State.clrLost (s : State) : State := s.clearWords [0x070014]
def State.clrCorr (s : State) : State := s.set F.LED_FAULT_CORRECTED 0
def State.clrStat (s : State) : State := s.clearWords [0x080004, 0x080008]
def State.clrDup (s : State) : State := s.clearWords [0x08001C, 0x080020]
def State.clrDig (s : State) : State := s.clearWords [0x080028]
def State.clrChk (s : State) : State := s.clearWords [0x080030]
def State.clrPcs (s : State) : State := ((s.set F.SVC_PCS_DROPPED 0).set F.SVC_STEP_SLIP 0).set F.SVC_FT_PEND_QFULL 0
def State.clrSvc (s : State) : State := s.clearWords [0x09000C, 0x090010, 0x090014]
def State.clrPort (s : State) : State :=
  s.clearWords ((List.range 96).flatMap (fun p => (List.range 7).map (fun i => 0x091014 + 64 * p + 4 * i)))
def State.clrMisc (s : State) : State :=
  ((s.clearWords [0x090018, 0x09002C]).set F.LNK_SPLIT_SPLITS 0).set F.LNK_TRAY_STAT_ERRORS 0
def State.clrKat (s : State) : State := (s.set F.BRU_KAT_PASSED 0).set F.BRU_KAT_FAILED 0
def State.clrWave (s : State) : State := ((s.set F.BRU_WAVE_STAT_OVER 0).set F.BRU_WAVE_STAT_TIMEOUTS 0).set F.BRU_INRUSH_PEAK 0
def State.clrInband (s : State) : State := s.clearWords [0x0A0030]
def State.clrAnswer (s : State) : State := s.clearWords [0x0A003C]
def State.clrChain (s : State) : State := s.clearWords [0x0B003C]
def State.clrLink (s : State) : State := s.clearWords [0x0B0040]
def State.clrAuth (s : State) : State := s.clearWords [0x0B0044]
def State.clrKey (s : State) : State := (s.set F.SEC_KEY_STAT_REKEYS 0).set F.SEC_KEY_STAT_OPEN_PEERS 0

/-- What each bit of a clearing word clears, bit 0 first (R32, R66, R102, R137, R159, R195, R222, R249, R278, R305, R336, R368, R395,
R444). -/
def clearsOf (addr : Nat) : List (State → State) :=
  if addr = 0x000024 then [State.clrDeny, State.clrLaneWait, State.clrState, State.clrTileFault]
  else if addr = 0x000040 then [State.clrRegerr, State.clrMinRate]
  else if addr = 0x01006C then [State.clrJump, State.clrSync]
  else if addr = 0x020070 then [State.clrExt, State.clrGen, State.clrStn, State.clrRa, State.clrSample]
  else if addr = 0x030020 then [State.clrConv, State.clrHist, State.clrSclLate]
  else if addr = 0x040060 then [State.clrMerge, State.clrRedLate, State.clrIncomplete, State.clrRetain, State.clrStrag]
  else if addr = 0x050028 then [State.clrRow, State.clrMiss, State.clrNum, State.clrFault, State.clrWait, State.clrDrift]
  else if addr = 0x050074 then [State.clrBudget, State.clrCrier, State.clrSwap]
  else if addr = 0x060010 then [State.clrChan, State.clrPan, State.clrSeq]
  else if addr = 0x070028 then [State.clrFold, State.clrLost, State.clrCorr]
  else if addr = 0x08005C then [State.clrStat, State.clrDup, State.clrDig, State.clrChk, State.clrPcs]
  else if addr = 0x090048 then [State.clrSvc, State.clrPort, State.clrMisc]
  else if addr = 0x0A0044 then [State.clrKat, State.clrWave, State.clrInband, State.clrAnswer]
  else if addr = 0x0B004C then [State.clrChain, State.clrLink, State.clrAuth, State.clrKey]
  else []

/-- A write of a clearing word: every bit written 1 clears what it names. Log entry 35 (DESIGN CHOICE). -/
def State.clearBits (s : State) (addr : Nat) (w : Word) : State :=
  let fs := clearsOf addr
  ((List.range fs.length).zip fs).foldl (fun s p => if bit w.toNat p.1 then p.2 s else s) s

/-! ### The Kiosk mailbox (R481) -/

/-- A host message is posted; a post while one still waits sets H2K_OVR. Log entry 36 (DEDUCED). -/
def State.h2kPost (s : State) : State :=
  if s.on F.KSK_MBOX_H2K_FULL then s.set F.KSK_MBOX_H2K_OVR 1 else s.set F.KSK_MBOX_H2K_FULL 1

/-- The Kiosk cores have taken the host message; machine mode alone. Log entry 36 (DEDUCED). -/
def State.h2kTaken (s : State) (a : Access) : State := if a.src = .kioskM then s.set F.KSK_MBOX_H2K_FULL 0 else s

/-- A Kiosk message is posted; machine mode alone. Log entry 36 (DEDUCED). -/
def State.k2hPost (s : State) (a : Access) : State := if a.src = .kioskM then s.set F.KSK_MBOX_K2H_FULL 1 else s

/-- A write of KSK_MBOX: flags written 1 clear, then each action named has its effect. Log entry 36 (DEDUCED). -/
def State.mboxWrite (s : State) (a : Access) (w : Word) : State :=
  let s := s.plainWrite 0x0D0040 w
  let s := if F.KSK_MBOX_H2K_TAKEN.get w = 1 then s.h2kTaken a else s
  let s := if F.KSK_MBOX_H2K_POST.get w = 1 then s.h2kPost else s
  if F.KSK_MBOX_K2H_POST.get w = 1 then s.k2hPost a else s

/-- A write of a KSK_H2K data word; while a message waits it is ignored and sets H2K_OVR. Log entry 36 (DEDUCED). -/
def State.h2kWrite (s : State) (addr : Nat) (w : Word) : State :=
  if s.on F.KSK_MBOX_H2K_FULL then s.set F.KSK_MBOX_H2K_OVR 1 else s.plainWrite addr w

/-! ### What a write does -/

/-- A write of a delay trim: ADD_CODE in TEST alone, with EFFECTIVE following (R52, R67). -/
def State.trimWrite (s : State) (addr : Nat) (w : Word) : State :=
  let g := (addr - 0x0A0100) / 4
  if s.svc = svcTest then s.setWord addr (trimWord (s.fld (F.BRU_DLY_TRIM_FUSE_CODE g)) ((F.BRU_DLY_TRIM_ADD_CODE g).get w)) else s

/-- A write of a sequencer's first word: EN = 0 holds it in state 0; RESTART, then FIRE (R257, R258, R281). Log entry 35 (DESIGN CHOICE). -/
def State.seqWrite (s : State) (q : Nat) (w : Word) : State :=
  let s := s.plainWrite (0x060300 + 64 * q) w
  let s := if (F.TRC_SEQ_RESTART q).get w = 1 || (F.TRC_SEQ_EN q).get w = 0 then s.seqRestart q else s
  if (F.TRC_SEQ_FIRE q).get w = 1 then s.seqFire q else s

/-- A write of a stream's CMD word (R270). -/
def State.panWrite (s : State) (k : Nat) (w : Word) : State :=
  s.panCmd k w (fun s =>
    let s := if (F.TRC_PAN_CMD_START k).get w = 1 then s.panStart k else s
    let s := if (F.TRC_PAN_CMD_APPEND k).get w = 1 then s.panAppend k else s
    if (F.TRC_PAN_CMD_STOP k).get w = 1 then s.panStop k else s)

/-- A write of BLK_IMG_CTRL: its OP (R411). -/
def State.imgCtrlWrite (s : State) (a : Access) (w : Word) : State :=
  match F.BLK_IMG_CTRL_OP.get w with
  | 1 => (s.imgWrite w State.imgStage).noteStage a
  | 2 => s.imgWrite w State.imgCommit
  | 3 => s.imgWrite w State.imgAbort
  | _ => s.plainWrite 0x000050 w

/-- A write of INF_MDL_CTRL: its OP (R246). -/
def State.mdlCtrlWrite (s : State) (a : Access) (w : Word) : State :=
  match F.INF_MDL_CTRL_OP.get w with
  | 1 => (s.mdlWrite w State.mdlLoad).noteLoad a
  | 2 => s.mdlWrite w State.mdlCommit
  | 3 => s.mdlWrite w State.mdlUnload
  | 4 => s.mdlWrite w State.mdlAbort
  | 5 => s.mdlWrite w State.mdlResume
  | _ => s.plainWrite 0x050040 w

/-- A write of TIM_CTRL (R97). -/
def State.timCtrlWrite (s : State) (w : Word) : State :=
  let s := s.plainWrite 0x010010 w
  let s := if F.TIM_CTRL_RELOCK.get w = 1 then s.relock else s
  if F.TIM_CTRL_GM_RESUME.get w = 1 then s.gmResume else s

/-- A write of a channel's CTRL word: ARM as written (R93, R104). -/
def State.pulseWrite (s : State) (k : Nat) (w : Word) : State :=
  let s := s.plainWrite (0x012014 + 32 * k) w
  if (F.TIM_PULSE_CTRL_ARM k).get w = 1 then s.pulseArm k else s.pulseDisarm k

/-- A write of LNK_TKO (R360, R367). -/
def State.tkoWrite (s : State) (w : Word) : State :=
  let s := s.plainWrite 0x090020 w
  let s := if F.LNK_TKO_TAKE.get w = 1 then s.takeOver else s
  if F.LNK_TKO_HANDBACK.get w = 1 then s.askHandback else s

/-- A write of LNK_SPARE (R361, R368). -/
def State.spareWrite (s : State) (w : Word) : State :=
  let s := s.plainWrite 0x090034 w
  let s := if F.LNK_SPARE_START.get w = 1 then s.spareBegin else s
  if F.LNK_SPARE_ADMIT.get w = 1 then s.spareAdmit else s

/-- A write of SVC_FT_REQ (R318, R336). -/
def State.ftReqWrite (s : State) (w : Word) : State :=
  let s := if F.SVC_FT_REQ_TEST.get w = 1 then s.ftReqTest w else s
  if F.SVC_FT_REQ_CLEAR.get w = 1 then s.ftReqClear w else s

/-- A write of CON_CTRL (R460). -/
def State.conCtrlWrite (s : State) (w : Word) : State :=
  let s := s.plainWrite 0x0C0000 w
  let s := if F.CON_CTRL_CKPT.get w = 1 then s.ckptAsk else s
  let s := if F.CON_CTRL_RESTORE.get w = 1 then s.restoreAsk else s
  if F.CON_CTRL_ABORT.get w = 1 then s.ckptAbort else s

/-- Words of the block's own region and of time, with an action. -/
def State.writeBlock (s : State) (a : Access) (addr : Nat) (w : Word) : State :=
  if addr = 0x000014 then s.stateRequest w
  else if addr = 0x000050 then s.imgCtrlWrite a w
  else if addr = 0x000080 then s.powerAsk a w
  else if addr = 0x010010 then s.timCtrlWrite w
  else if addr = 0x010034 then s.adjust w
  else if addr = 0x010040 then s.periodWrite w
  else if addr = 0x01005C then s.lagWrite w
  else if 0x011000 ≤ addr && addr < 0x011600 then (s.touch 3 (512 + (addr - 0x011000))).plainWrite addr w
  else if 0x012000 ≤ addr && addr < 0x012100 && addr % 32 = 0x14 then s.pulseWrite ((addr - 0x012000) / 32) w
  else s.plainWrite addr w

/-- Words of reduction, inference and trace with an action. -/
def State.writeData (s : State) (a : Access) (addr : Nat) (w : Word) : State :=
  if addr = 0x040040 then
    let s := s.plainWrite addr w
    if F.RED_DRL_CTRL_COMMIT.get w = 1 then s.drlCommit else s
  else if addr = 0x050040 then s.mdlCtrlWrite a w
  else if addr = 0x060004 then (s.plainWrite addr w).traceFlush w
  else if addr = 0x060008 then (s.plainWrite addr w).traceSync w
  else if 0x060300 ≤ addr && addr < 0x060400 && addr % 64 = 0 then s.seqWrite ((addr - 0x060300) / 64) w
  else if 0x061000 ≤ addr && addr < 0x062000 && addr % 64 = 0x0C then s.panWrite ((addr - 0x061000) / 64) w
  else s.plainWrite addr w

/-- Words of services, links, bring-up, root and continuity with an action. -/
def State.writeSystem (s : State) (a : Access) (addr : Nat) (w : Word) : State :=
  if addr = 0x080034 then s.stepWrite w
  else if addr = 0x08004C then s.dumpWrite w
  else if addr = 0x080054 then s.ftReqWrite w
  else if addr = 0x080058 then if F.SVC_FT_PEND_ACK.get w = 1 then s.ftAck else s
  else if addr = 0x090020 then s.tkoWrite w
  else if addr = 0x090034 then s.spareWrite w
  else if addr = 0x0A0004 then s.bruWrite w
  else if addr = 0x0A0028 then (s.plainWrite addr w).inbandSend w
  else if addr = 0x0A0048 then s.katAsk w
  else if 0x0A0100 ≤ addr && addr < 0x0A04A4 then s.trimWrite addr w
  else if addr = 0x0B0014 then s.floorSet w
  else if addr = 0x0B0018 then s.debugWrite w
  else if addr = 0x0B0024 then s.attestAsk w
  else if addr = 0x0C0000 then s.conCtrlWrite w
  else if addr = 0x0C0020 then s.fiWrite a w
  else if addr = 0x0C0028 then s.kioskReady w
  else if 0x0C0100 ≤ addr && addr < 0x0C0200 then if s.on F.CON_FI_CTRL_ARMED then s else s.plainWrite addr w
  else if addr < 0x0D0020 && 0x0D0000 ≤ addr then s.h2kWrite addr w
  else if addr = 0x0D0040 then s.mboxWrite a w
  else s.plainWrite addr w

/-- Words of the windows with an action (R109, R223, R435). -/
def State.writeWindow (s : State) (addr : Nat) (w : Word) : State :=
  if 0x400000 ≤ addr && addr < 0x500000 then if addr % 8 = 0 then s.mapWrite ((addr - 0x400000) / 8) w else s
  else if 0x560000 ≤ addr && addr < 0x564000 && addr % 32 = 0x10 then
    let d := (addr - 0x560000) / 32
    if (F.DRIFT_CTL_RESET d).get w = 1 then s.detReset d else s
  else if addr = 0x5C0000 then s
  else s.plainWrite addr w

/-- The effect of a permitted write: RW fields take the value, RW1C bits written 1 clear, and each WO field has its action (R6). Log entry 37 (DEDUCED). -/
def State.regEffect (s : State) (a : Access) (addr : Nat) (w : Word) : State :=
  if s.absentAt addr then s
  else if !(clearsOf addr).isEmpty then s.clearBits addr w
  else if addr < 0x040000 then s.writeBlock a addr w
  else if addr < 0x080000 then s.writeData a addr w
  else if addr < 0x100000 then s.writeSystem a addr w
  else s.writeWindow addr w

/-- A write at the register arbiter; the tray window's go out as Control requests (R355). -/
def State.registerWrite (s : State) (a : Access) (addr : Nat) (w : Word) : State :=
  if trayAddr addr then s.trayAccess a addr true w else s.guardWrite a addr (fun s => s.regEffect a addr w)

/-! ### Meanings -/

/-- REGISTER_READ. -/
def execRegisterRead (a : Access) (addr : Nat) (s : State) : Host.Outcome State Fault Refusal := done (s.registerRead a addr)

/-- REGISTER_WRITE. -/
def execRegisterWrite (a : Access) (addr : Nat) (w : Word) (s : State) : Host.Outcome State Fault Refusal := done (s.registerWrite a addr w)

/-- TIM_NOW_CAPTURE: a read of TIM_NOW_LO (R70). -/
def execTimNowCapture (a : Access) (s : State) : Host.Outcome State Fault Refusal :=
  done (s.guardRead a 0x010004 (fun s => (s.nowWords.headD 0, s.capture a 0x010004 s.nowWords)))

/-- PAIR_LO_CAPTURE: a read of the LO word of a time pair (R100, R101); at another address it is a read like any other. -/
def execPairLoCapture (a : Access) (addr : Nat) (s : State) : Host.Outcome State Fault Refusal := done (s.registerRead a addr)

/-- OPTABLE_CAPTURE: a read of a cell's first word (R338). -/
def execOptableCapture (a : Access) (cell : Nat) (s : State) : Host.Outcome State Fault Refusal :=
  done (if cell < 256 then s.guardRead a (0x5A0000 + 8 * cell) (fun s =>
    let ws := [s.word (0x5A0000 + 8 * cell), s.word (0x5A0004 + 8 * cell)]
    (ws.headD 0, s.capture a (0x5A0000 + 8 * cell) ws)) else s)

/-- H2K_POST: a write of KSK_MBOX with H2K_POST = 1. -/
def execH2kPost (a : Access) (w : Word) (s : State) : Host.Outcome State Fault Refusal :=
  done (s.guardWrite a 0x0D0040 (fun s => s.mboxWrite a (w ||| 1#32)))

/-- H2K_TAKEN: a write of KSK_MBOX with H2K_TAKEN = 1. -/
def execH2kTaken (a : Access) (w : Word) (s : State) : Host.Outcome State Fault Refusal :=
  done (s.guardWrite a 0x0D0040 (fun s => s.mboxWrite a (w ||| 4#32)))

/-- K2H_POST: a write of KSK_MBOX with K2H_POST = 1. -/
def execK2hPost (a : Access) (w : Word) (s : State) : Host.Outcome State Fault Refusal :=
  done (s.guardWrite a 0x0D0040 (fun s => s.mboxWrite a (w ||| 16#32)))

/-! ### Clearing rows: a write that names one bit of a clearing word -/

/-- BLK_CLR_DENY: a write of BLK_CTR_CLR.CLR_DENY (R32). -/
def execBlkClrDeny (a : Access) (s : State) : Host.Outcome State Fault Refusal := done (s.guardWrite a 0x000024 State.clrDeny)

/-- BLK_CLR_LANE_WAIT: a write of BLK_CTR_CLR.CLR_LANE_WAIT (R32). -/
def execBlkClrLaneWait (a : Access) (s : State) : Host.Outcome State Fault Refusal := done (s.guardWrite a 0x000024 State.clrLaneWait)

/-- BLK_CLR_STATE: a write of BLK_CTR_CLR.CLR_STATE (R32). -/
def execBlkClrState (a : Access) (s : State) : Host.Outcome State Fault Refusal := done (s.guardWrite a 0x000024 State.clrState)

/-- BLK_CLR_TILE_FAULT: a write of BLK_CTR_CLR.CLR_TILE_FAULT (R32). -/
def execBlkClrTileFault (a : Access) (s : State) : Host.Outcome State Fault Refusal := done (s.guardWrite a 0x000024 State.clrTileFault)

/-- CLR_REGERR: a write of BLK_PORT_CLR.CLR_REGERR (R66). -/
def execClrRegerr (a : Access) (s : State) : Host.Outcome State Fault Refusal := done (s.guardWrite a 0x000040 State.clrRegerr)

/-- CLR_MIN_RATE: a write of BLK_PORT_CLR.CLR_MIN_RATE (R66). -/
def execClrMinRate (a : Access) (s : State) : Host.Outcome State Fault Refusal := done (s.guardWrite a 0x000040 State.clrMinRate)

/-- TIM_CLR_JUMP: a write of TIM_CTR_CLR.CLR_JUMP (R102). -/
def execTimClrJump (a : Access) (s : State) : Host.Outcome State Fault Refusal := done (s.guardWrite a 0x01006C State.clrJump)

/-- TIM_CLR_SYNC: a write of TIM_CTR_CLR.CLR_SYNC (R102). -/
def execTimClrSync (a : Access) (s : State) : Host.Outcome State Fault Refusal := done (s.guardWrite a 0x01006C State.clrSync)

/-- TAL_CLR_EXT: a write of TAL_CTR_CLR.CLR_EXT (R137). -/
def execTalClrExt (a : Access) (s : State) : Host.Outcome State Fault Refusal := done (s.guardWrite a 0x020070 State.clrExt)

/-- TAL_CLR_GEN: a write of TAL_CTR_CLR.CLR_GEN (R137). -/
def execTalClrGen (a : Access) (s : State) : Host.Outcome State Fault Refusal := done (s.guardWrite a 0x020070 State.clrGen)

/-- TAL_CLR_STN: a write of TAL_CTR_CLR.CLR_STN (R137). -/
def execTalClrStn (a : Access) (s : State) : Host.Outcome State Fault Refusal := done (s.guardWrite a 0x020070 State.clrStn)

/-- TAL_CLR_RA: a write of TAL_CTR_CLR.CLR_RA (R137). -/
def execTalClrRa (a : Access) (s : State) : Host.Outcome State Fault Refusal := done (s.guardWrite a 0x020070 State.clrRa)

/-- TAL_CLR_SAMPLE: a write of TAL_CTR_CLR.CLR_SAMPLE (R137). -/
def execTalClrSample (a : Access) (s : State) : Host.Outcome State Fault Refusal := done (s.guardWrite a 0x020070 State.clrSample)

/-- SCL_CLR_CONV: a write of SCL_CTR_CLR.CLR_CONV (R159). -/
def execSclClrConv (a : Access) (s : State) : Host.Outcome State Fault Refusal := done (s.guardWrite a 0x030020 State.clrConv)

/-- SCL_CLR_HIST: a write of SCL_CTR_CLR.CLR_HIST (R159). -/
def execSclClrHist (a : Access) (s : State) : Host.Outcome State Fault Refusal := done (s.guardWrite a 0x030020 State.clrHist)

/-- SCL_CLR_LATE: a write of SCL_CTR_CLR.CLR_LATE (R159). -/
def execSclClrLate (a : Access) (s : State) : Host.Outcome State Fault Refusal := done (s.guardWrite a 0x030020 State.clrSclLate)

/-- RED_CLR_MERGE: a write of RED_CTR_CLR.CLR_MERGE (R195). -/
def execRedClrMerge (a : Access) (s : State) : Host.Outcome State Fault Refusal := done (s.guardWrite a 0x040060 State.clrMerge)

/-- RED_CLR_LATE: a write of RED_CTR_CLR.CLR_LATE (R195). -/
def execRedClrLate (a : Access) (s : State) : Host.Outcome State Fault Refusal := done (s.guardWrite a 0x040060 State.clrRedLate)

/-- RED_CLR_INCOMPLETE: a write of RED_CTR_CLR.CLR_INCOMPLETE (R195). -/
def execRedClrIncomplete (a : Access) (s : State) : Host.Outcome State Fault Refusal := done (s.guardWrite a 0x040060 State.clrIncomplete)

/-- RED_CLR_RETAIN: a write of RED_CTR_CLR.CLR_RETAIN (R195). -/
def execRedClrRetain (a : Access) (s : State) : Host.Outcome State Fault Refusal := done (s.guardWrite a 0x040060 State.clrRetain)

/-- RED_CLR_STRAG: a write of RED_CTR_CLR.CLR_STRAG (R195). -/
def execRedClrStrag (a : Access) (s : State) : Host.Outcome State Fault Refusal := done (s.guardWrite a 0x040060 State.clrStrag)

/-- INF_CLR_ROW: a write of INF_CTR_CLR.CLR_ROW (R222). -/
def execInfClrRow (a : Access) (s : State) : Host.Outcome State Fault Refusal := done (s.guardWrite a 0x050028 State.clrRow)

/-- INF_CLR_MISS: a write of INF_CTR_CLR.CLR_MISS (R222). -/
def execInfClrMiss (a : Access) (s : State) : Host.Outcome State Fault Refusal := done (s.guardWrite a 0x050028 State.clrMiss)

/-- INF_CLR_NUM: a write of INF_CTR_CLR.CLR_NUM (R222). -/
def execInfClrNum (a : Access) (s : State) : Host.Outcome State Fault Refusal := done (s.guardWrite a 0x050028 State.clrNum)

/-- INF_CLR_FAULT: a write of INF_CTR_CLR.CLR_FAULT (R222). -/
def execInfClrFault (a : Access) (s : State) : Host.Outcome State Fault Refusal := done (s.guardWrite a 0x050028 State.clrFault)

/-- INF_CLR_WAIT: a write of INF_CTR_CLR.CLR_WAIT (R222). -/
def execInfClrWait (a : Access) (s : State) : Host.Outcome State Fault Refusal := done (s.guardWrite a 0x050028 State.clrWait)

/-- INF_CLR_DRIFT: a write of INF_CTR_CLR.CLR_DRIFT (R222). -/
def execInfClrDrift (a : Access) (s : State) : Host.Outcome State Fault Refusal := done (s.guardWrite a 0x050028 State.clrDrift)

/-- MDL_CLR_BUDGET: a write of INF_MDL_CLR.CLR_BUDGET (R249). -/
def execMdlClrBudget (a : Access) (s : State) : Host.Outcome State Fault Refusal := done (s.guardWrite a 0x050074 State.clrBudget)

/-- MDL_CLR_CRIER: a write of INF_MDL_CLR.CLR_CRIER (R249). -/
def execMdlClrCrier (a : Access) (s : State) : Host.Outcome State Fault Refusal := done (s.guardWrite a 0x050074 State.clrCrier)

/-- MDL_CLR_SWAP: a write of INF_MDL_CLR.CLR_SWAP (R249). -/
def execMdlClrSwap (a : Access) (s : State) : Host.Outcome State Fault Refusal := done (s.guardWrite a 0x050074 State.clrSwap)

/-- TRC_CLR_CHAN: a write of TRC_CTR_CLR.CLR_CHAN (R278). -/
def execTrcClrChan (a : Access) (s : State) : Host.Outcome State Fault Refusal := done (s.guardWrite a 0x060010 State.clrChan)

/-- TRC_CLR_PAN: a write of TRC_CTR_CLR.CLR_PAN (R278). -/
def execTrcClrPan (a : Access) (s : State) : Host.Outcome State Fault Refusal := done (s.guardWrite a 0x060010 State.clrPan)

/-- TRC_CLR_SEQ: a write of TRC_CTR_CLR.CLR_SEQ (R278). -/
def execTrcClrSeq (a : Access) (s : State) : Host.Outcome State Fault Refusal := done (s.guardWrite a 0x060010 State.clrSeq)

/-- LED_CLR_FOLD: a write of LED_CTR_CLR.CLR_FOLD (R305). -/
def execLedClrFold (a : Access) (s : State) : Host.Outcome State Fault Refusal := done (s.guardWrite a 0x070028 State.clrFold)

/-- LED_CLR_LOST: a write of LED_CTR_CLR.CLR_LOST (R305). -/
def execLedClrLost (a : Access) (s : State) : Host.Outcome State Fault Refusal := done (s.guardWrite a 0x070028 State.clrLost)

/-- LED_CLR_CORR: a write of LED_CTR_CLR.CLR_CORR (R305). -/
def execLedClrCorr (a : Access) (s : State) : Host.Outcome State Fault Refusal := done (s.guardWrite a 0x070028 State.clrCorr)

/-- SVC_CLR_STAT: a write of SVC_CTR_CLR.CLR_STAT (R336). -/
def execSvcClrStat (a : Access) (s : State) : Host.Outcome State Fault Refusal := done (s.guardWrite a 0x08005C State.clrStat)

/-- SVC_CLR_DUP: a write of SVC_CTR_CLR.CLR_DUP (R336). -/
def execSvcClrDup (a : Access) (s : State) : Host.Outcome State Fault Refusal := done (s.guardWrite a 0x08005C State.clrDup)

/-- SVC_CLR_DIG: a write of SVC_CTR_CLR.CLR_DIG (R336). -/
def execSvcClrDig (a : Access) (s : State) : Host.Outcome State Fault Refusal := done (s.guardWrite a 0x08005C State.clrDig)

/-- SVC_CLR_CHK: a write of SVC_CTR_CLR.CLR_CHK (R336). -/
def execSvcClrChk (a : Access) (s : State) : Host.Outcome State Fault Refusal := done (s.guardWrite a 0x08005C State.clrChk)

/-- SVC_CLR_PCS: a write of SVC_CTR_CLR.CLR_PCS (R336). -/
def execSvcClrPcs (a : Access) (s : State) : Host.Outcome State Fault Refusal := done (s.guardWrite a 0x08005C State.clrPcs)

/-- LNK_CLR_SVC: a write of LNK_CTR_CLR.CLR_SVC (R368). -/
def execLnkClrSvc (a : Access) (s : State) : Host.Outcome State Fault Refusal := done (s.guardWrite a 0x090048 State.clrSvc)

/-- LNK_CLR_PORT: a write of LNK_CTR_CLR.CLR_PORT (R368). -/
def execLnkClrPort (a : Access) (s : State) : Host.Outcome State Fault Refusal := done (s.guardWrite a 0x090048 State.clrPort)

/-- LNK_CLR_MISC: a write of LNK_CTR_CLR.CLR_MISC (R368). -/
def execLnkClrMisc (a : Access) (s : State) : Host.Outcome State Fault Refusal := done (s.guardWrite a 0x090048 State.clrMisc)

/-- BRU_CLR_KAT: a write of BRU_CTR_CLR.CLR_KAT (R395). -/
def execBruClrKat (a : Access) (s : State) : Host.Outcome State Fault Refusal := done (s.guardWrite a 0x0A0044 State.clrKat)

/-- BRU_CLR_WAVE: a write of BRU_CTR_CLR.CLR_WAVE (R395). -/
def execBruClrWave (a : Access) (s : State) : Host.Outcome State Fault Refusal := done (s.guardWrite a 0x0A0044 State.clrWave)

/-- BRU_CLR_INBAND: a write of BRU_CTR_CLR.CLR_INBAND (R395). -/
def execBruClrInband (a : Access) (s : State) : Host.Outcome State Fault Refusal := done (s.guardWrite a 0x0A0044 State.clrInband)

/-- BRU_CLR_ANSWER: a write of BRU_CTR_CLR.CLR_ANSWER (R395). -/
def execBruClrAnswer (a : Access) (s : State) : Host.Outcome State Fault Refusal := done (s.guardWrite a 0x0A0044 State.clrAnswer)

/-- SEC_CLR_CHAIN: a write of SEC_CTR_CLR.CLR_CHAIN (R444). -/
def execSecClrChain (a : Access) (s : State) : Host.Outcome State Fault Refusal := done (s.guardWrite a 0x0B004C State.clrChain)

/-- SEC_CLR_LINK: a write of SEC_CTR_CLR.CLR_LINK (R444). -/
def execSecClrLink (a : Access) (s : State) : Host.Outcome State Fault Refusal := done (s.guardWrite a 0x0B004C State.clrLink)

/-- SEC_CLR_AUTH: a write of SEC_CTR_CLR.CLR_AUTH (R444). -/
def execSecClrAuth (a : Access) (s : State) : Host.Outcome State Fault Refusal := done (s.guardWrite a 0x0B004C State.clrAuth)

/-- SEC_CLR_KEY: a write of SEC_CTR_CLR.CLR_KEY (R444). -/
def execSecClrKey (a : Access) (s : State) : Host.Outcome State Fault Refusal := done (s.guardWrite a 0x0B004C State.clrKey)

end Sys2Proof.Machine
end

