-- ==== Sys2Proof/Machine/Control.lean ====
section
/-! DEFINITION. Serving the queued Control requests (R350, R386, R406, R435): one is taken at each edge of TB_REF on which no command
waits, judged when it is served, and answered. -/

namespace Sys2Proof.Machine

/-- The whole microseconds from now to the next boundary and its seal, rounded up: RETRY_US of UPDATING (R386). -/
def State.updatingUs (s : State) : Nat := (s.tim.nextNs + 1000 * s.tim.lag - s.nowNs + 999) / 1000

/-- How a queued request is judged: as any access over XLP, and with PRIV = 0 it needs the grant CONTROL too (R435). The tray window decodes
to nothing over XLP (R355). Log entries 33 (DEDUCED), 82 (DEDUCED). -/
def State.judgeRequest (s : State) (a : Access) (q : CtlReq) : Verdict :=
  if trayAddr q.addr then .decode 2
  else match s.judge a q.addr q.write with
    | .decode c => .decode c
    | .denied c => .denied c
    | v => if !privileged a && !bit (s.grant q.stall).toNat 2 then .denied 3 else v

/-- A request refused: counted as any access is, with no answer at a port of the unit. -/
def State.refuseRequest (s : State) (a : Access) (v : Verdict) : State :=
  let t := s.refuse a v
  t.setPorts { t.ports with answer := s.ports.answer }

/-- A request served: refused as judged, or its access done. Log entry 33 (DEDUCED). -/
def State.serveRequest (s : State) (q : CtlReq) : State :=
  let a : Access := ⟨.xlp, q.priv, BitVec.ofNat 12 q.stall, s.stamp⟩
  let was := s.ports.answer
  match s.judgeRequest a q with
  | .ok =>
    let late := 1000 * s.fld F.LNK_SVC_DELAY_US ≤ s.nowNs - q.at_
    let s := s.setLnk { s.lnk with served := some q.port }
    let s := if q.write then s.registerWrite a q.addr q.data else s.registerRead a q.addr
    let data := match s.ports.answer with
      | some r => r.data
      | none => 0
    let s := (s.setLnk { s.lnk with served := none }).setPorts { s.ports with answer := was }
    if late then (s.inc F.LNK_SVC_STAT0_LATE).respond q stLate data 0 else s.respond q stOk data 0
  | .decode c => (s.refuseRequest a (.decode c)).respond q stDecode 0 0
  | .denied c =>
    -- a refused write of BLK_STATE_REQ is a refused request too (R21, R24)
    let s := if q.write && q.addr = 0x000014 then (s.set F.BLK_STATE_REQ_REFUSED 1).inc F.BLK_STATE_REFUSALS else s
    (s.refuseRequest a (.denied c)).respond q stDenied 0 0
  | .retry =>
    if s.switching q.addr then s.respond q stUpdating 0 s.updatingUs
    else (s.refuseRequest a .retry).respond q stRetry 0 0

/-- The next queued request leaves the queue: shed once its DEADLINE_US has passed, else served (R350). Log entries 1 (DESIGN CHOICE), 82 (DEDUCED). -/
def State.serveControl (s : State) : State :=
  if !s.serves then s
  else match s.nextRequest with
    | none => s
    | some q =>
      let s := s.setLnk { s.lnk with ctl := s.lnk.ctl.erase q, ctlLast := if q.priv then s.lnk.ctlLast else q.stall }
      if q.at_ + 1000 * q.deadline ≤ s.nowNs then (s.inc F.LNK_SVC_STAT1_SHED).respond q stShed 0 0
      else s.serveRequest q

/-- What the block does on its own when no command waits: one edge of TB_REF (R68), and one queued request served. Log entry 1 (DESIGN CHOICE). -/
def State.idle (s : State) : State := s.tick.serveControl

end Sys2Proof.Machine
end

