-- ==== Sys2Proof/Machine/Dispatch.lean ====
section
/-! DEFINITION. The meaning of every command: one direct call of its definition. -/

namespace Sys2Proof.Machine

def exec (i : Instr) (s : State) : Host.Outcome State Fault Refusal :=
  match i with
  | .powerUp resetLow bootSel => Sys2Proof.Machine.execPowerUp resetLow bootSel s
  | .powerOff => Sys2Proof.Machine.execPowerOff s
  | .bootSelSample level => Sys2Proof.Machine.execBootSelSample level s
  | .resetNAssert t => Sys2Proof.Machine.execResetNAssert t s
  | .resetNRelease t bootSel => Sys2Proof.Machine.execResetNRelease t bootSel s
  | .resetHeldBeacon => Sys2Proof.Machine.execResetHeldBeacon s
  | .fuseReadResponse t data resp => Sys2Proof.Machine.execFuseReadResponse t data resp s
  | .bootReadResponse t data resp => Sys2Proof.Machine.execBootReadResponse t data resp s
  | .imageChecked => Sys2Proof.Machine.execImageChecked s
  | .bcastWaitExpiry => Sys2Proof.Machine.execBcastWaitExpiry s
  | .katDone failed => Sys2Proof.Machine.execKatDone failed s
  | .waveGateAck t gate => Sys2Proof.Machine.execWaveGateAck t gate s
  | .waveSettle gate => Sys2Proof.Machine.execWaveSettle gate s
  | .waveGateAckFall t gate => Sys2Proof.Machine.execWaveGateAckFall t gate s
  | .marketOpenOccurs => Sys2Proof.Machine.execMarketOpenOccurs s
  | .marketOpen a w => Sys2Proof.Machine.execMarketOpen a w s
  | .wavesOff a w => Sys2Proof.Machine.execWavesOff a w s
  | .wavesOn a w => Sys2Proof.Machine.execWavesOn a w s
  | .retry a w => Sys2Proof.Machine.execRetry a w s
  | .katRequest a w => Sys2Proof.Machine.execKatRequest a w s
  | .katRequestDone pass => Sys2Proof.Machine.execKatRequestDone pass s
  | .inbandSend a w => Sys2Proof.Machine.execInbandSend a w s
  | .inbandReset r => Sys2Proof.Machine.execInbandReset r s
  | .heldReset r => Sys2Proof.Machine.execHeldReset r s
  | .resetNotice r => Sys2Proof.Machine.execResetNotice r s
  | .powerRequest a w => Sys2Proof.Machine.execPowerRequest a w s
  | .powerTransitionDone => Sys2Proof.Machine.execPowerTransitionDone s
  | .powerNotice r => Sys2Proof.Machine.execPowerNotice r s
  | .stateRequest a w => Sys2Proof.Machine.execStateRequest a w s
  | .recoveryComplete => Sys2Proof.Machine.execRecoveryComplete s
  | .routeHandshake lane routes => Sys2Proof.Machine.execRouteHandshake lane routes s
  | .tileHung t tile => Sys2Proof.Machine.execTileHung t tile s
  | .portStallTimeout port sub => Sys2Proof.Machine.execPortStallTimeout port sub s
  | .phaseOrderBreak t port sub => Sys2Proof.Machine.execPhaseOrderBreak t port sub s
  | .speedWindow rate => Sys2Proof.Machine.execSpeedWindow rate s
  | .hostMemoryWriteDone t resp => Sys2Proof.Machine.execHostMemoryWriteDone t resp s
  | .issueGateReq t => Sys2Proof.Machine.execIssueGateReq t s
  | .tbrefLost => Sys2Proof.Machine.execTbrefLost s
  | .tbrefReturn => Sys2Proof.Machine.execTbrefReturn s
  | .syncInterval => Sys2Proof.Machine.execSyncInterval s
  | .pdelayInterval => Sys2Proof.Machine.execPdelayInterval s
  | .sync r => Sys2Proof.Machine.execSync r s
  | .followUp r => Sys2Proof.Machine.execFollowUp r s
  | .pdelayReq r => Sys2Proof.Machine.execPdelayReq r s
  | .pdelayResp r => Sys2Proof.Machine.execPdelayResp r s
  | .pdelayRespFollowUp r => Sys2Proof.Machine.execPdelayRespFollowUp r s
  | .syncPortLoss => Sys2Proof.Machine.execSyncPortLoss s
  | .gmLoss => Sys2Proof.Machine.execGmLoss s
  | .relock a w => Sys2Proof.Machine.execRelock a w s
  | .gmResume a w => Sys2Proof.Machine.execGmResume a w s
  | .timAdj a w => Sys2Proof.Machine.execTimAdj a w s
  | .periodWrite a w => Sys2Proof.Machine.execPeriodWrite a w s
  | .sealLagWrite a w => Sys2Proof.Machine.execSealLagWrite a w s
  | .cadenceAnnouncement r => Sys2Proof.Machine.execCadenceAnnouncement r s
  | .syncInEdge t => Sys2Proof.Machine.execSyncInEdge t s
  | .epochBoundary => Sys2Proof.Machine.execEpochBoundary s
  | .seal => Sys2Proof.Machine.execSeal s
  | .pulseArm a k w => Sys2Proof.Machine.execPulseArm a k w s
  | .pulseDisarm a k w => Sys2Proof.Machine.execPulseDisarm a k w s
  | .pulseEdge k => Sys2Proof.Machine.execPulseEdge k s
  | .pulseTrailingEdge k => Sys2Proof.Machine.execPulseTrailingEdge k s
  | .sweepPassStart => Sys2Proof.Machine.execSweepPassStart s
  | .bracketPrepass => Sys2Proof.Machine.execBracketPrepass s
  | .tallyReadResponse t value gen status => Sys2Proof.Machine.execTallyReadResponse t value gen status s
  | .genStuck ctr => Sys2Proof.Machine.execGenStuck ctr s
  | .mapEntryWrite a ctr w => Sys2Proof.Machine.execMapEntryWrite a ctr w s
  | .serviceReportArrival t typ body => Sys2Proof.Machine.execServiceReportArrival t typ body s
  | .raPost r => Sys2Proof.Machine.execRaPost r s
  | .raCommit r => Sys2Proof.Machine.execRaCommit r s
  | .raCancel r => Sys2Proof.Machine.execRaCancel r s
  | .raTicketExpiry ticket => Sys2Proof.Machine.execRaTicketExpiry ticket s
  | .sample r => Sys2Proof.Machine.execSample r s
  | .hostReport typ r => Sys2Proof.Machine.execHostReport typ r s
  | .scalesValue v => Sys2Proof.Machine.execScalesValue v s
  | .childSummary r parts => Sys2Proof.Machine.execChildSummary r parts s
  | .mergeDeadline => Sys2Proof.Machine.execMergeDeadline s
  | .mergeComplete => Sys2Proof.Machine.execMergeComplete s
  | .lateBundle r recs => Sys2Proof.Machine.execLateBundle r recs s
  | .contributorRecord r => Sys2Proof.Machine.execContributorRecord r s
  | .retractionRecord r => Sys2Proof.Machine.execRetractionRecord r s
  | .sourceValueRecord r => Sys2Proof.Machine.execSourceValueRecord r s
  | .stragglerRecord r => Sys2Proof.Machine.execStragglerRecord r s
  | .referenceRecord r => Sys2Proof.Machine.execReferenceRecord r s
  | .epochAck r => Sys2Proof.Machine.execEpochAck r s
  | .derailleurCommit a w => Sys2Proof.Machine.execDerailleurCommit a w s
  | .streamTrigger slot t value => Sys2Proof.Machine.execStreamTrigger slot t value s
  | .rowScored slot err => Sys2Proof.Machine.execRowScored slot err s
  | .driftReset a d w => Sys2Proof.Machine.execDriftReset a d w s
  | .modelLoad a w => Sys2Proof.Machine.execModelLoad a w s
  | .modelFetchComplete => Sys2Proof.Machine.execModelFetchComplete s
  | .modelCommit a w => Sys2Proof.Machine.execModelCommit a w s
  | .modelUnload a w => Sys2Proof.Machine.execModelUnload a w s
  | .modelAbort a w => Sys2Proof.Machine.execModelAbort a w s
  | .modelResume a w => Sys2Proof.Machine.execModelResume a w s
  | .epochBudgetExpiry => Sys2Proof.Machine.execEpochBudgetExpiry s
  | .childBudgetExpiry => Sys2Proof.Machine.execChildBudgetExpiry s
  | .alarmRecord r => Sys2Proof.Machine.execAlarmRecord r s
  | .tracePacket t chan head conts => Sys2Proof.Machine.execTracePacket t chan head conts s
  | .traceStallTimeout chan => Sys2Proof.Machine.execTraceStallTimeout chan s
  | .seqTimeEvent q => Sys2Proof.Machine.execSeqTimeEvent q s
  | .seqFire a q w => Sys2Proof.Machine.execSeqFire a q w s
  | .seqRestart a q w => Sys2Proof.Machine.execSeqRestart a q w s
  | .blockAgeExpiry stream => Sys2Proof.Machine.execBlockAgeExpiry stream s
  | .blockCoded stream => Sys2Proof.Machine.execBlockCoded stream s
  | .traceFlush a w => Sys2Proof.Machine.execTraceFlush a w s
  | .traceSync a w => Sys2Proof.Machine.execTraceSync a w s
  | .pannierStart a stream w => Sys2Proof.Machine.execPannierStart a stream w s
  | .pannierAppend a stream w => Sys2Proof.Machine.execPannierAppend a stream w s
  | .pannierStop a stream w => Sys2Proof.Machine.execPannierStop a stream w s
  | .pannierPoll stream => Sys2Proof.Machine.execPannierPoll stream s
  | .ledgerFold => Sys2Proof.Machine.execLedgerFold s
  | .ledgerQueueTake => Sys2Proof.Machine.execLedgerQueueTake s
  | .ledgerEntryWrite => Sys2Proof.Machine.execLedgerEntryWrite s
  | .ledgerReadback result => Sys2Proof.Machine.execLedgerReadback result s
  | .ledgerFoldTimeout seq => Sys2Proof.Machine.execLedgerFoldTimeout seq s
  | .cmdMark r => Sys2Proof.Machine.execCmdMark r s
  | .latchPassDone => Sys2Proof.Machine.execLatchPassDone s
  | .pcSample r => Sys2Proof.Machine.execPcSample r s
  | .opcount r => Sys2Proof.Machine.execOpcount r s
  | .tensorTag r => Sys2Proof.Machine.execTensorTag r s
  | .tensorLen r => Sys2Proof.Machine.execTensorLen r s
  | .dumpArm a w => Sys2Proof.Machine.execDumpArm a w s
  | .digOpen r => Sys2Proof.Machine.execDigOpen r s
  | .digTap r => Sys2Proof.Machine.execDigTap r s
  | .digClose r => Sys2Proof.Machine.execDigClose r s
  | .collTimeout coll => Sys2Proof.Machine.execCollTimeout coll s
  | .digestRecord r => Sys2Proof.Machine.execDigestRecord r s
  | .digestPairExpiry => Sys2Proof.Machine.execDigestPairExpiry s
  | .dupPlanWrite => Sys2Proof.Machine.execDupPlanWrite s
  | .dupResult r => Sys2Proof.Machine.execDupResult r s
  | .dupResultWindowClose => Sys2Proof.Machine.execDupResultWindowClose s
  | .poison r => Sys2Proof.Machine.execPoison r s
  | .check r => Sys2Proof.Machine.execCheck r s
  | .numeric r => Sys2Proof.Machine.execNumeric r s
  | .ftResult r => Sys2Proof.Machine.execFtResult r s
  | .ftTimeout tile => Sys2Proof.Machine.execFtTimeout tile s
  | .ftReqTest a w => Sys2Proof.Machine.execFtReqTest a w s
  | .ftReqClear a w => Sys2Proof.Machine.execFtReqClear a w s
  | .ftAck a w => Sys2Proof.Machine.execFtAck a w s
  | .stepGrant a w => Sys2Proof.Machine.execStepGrant a w s
  | .stepModeWrite a w => Sys2Proof.Machine.execStepModeWrite a w s
  | .groupSend port t => Sys2Proof.Machine.execGroupSend port t s
  | .groupReceived port t flits => Sys2Proof.Machine.execGroupReceived port t flits s
  | .linkSilenceTimeout port => Sys2Proof.Machine.execLinkSilenceTimeout port s
  | .linkUp port t => Sys2Proof.Machine.execLinkUp port t s
  | .frameAgeExpiry port => Sys2Proof.Machine.execFrameAgeExpiry port s
  | .controlRequest r => Sys2Proof.Machine.execControlRequest r s
  | .controlResponse r => Sys2Proof.Machine.execControlResponse r s
  | .controlTimeout txn => Sys2Proof.Machine.execControlTimeout txn s
  | .hello r => Sys2Proof.Machine.execHello r s
  | .discoveryPeriod => Sys2Proof.Machine.execDiscoveryPeriod s
  | .discover r => Sys2Proof.Machine.execDiscover r s
  | .discReply r => Sys2Proof.Machine.execDiscReply r s
  | .heartbeatInterval => Sys2Proof.Machine.execHeartbeatInterval s
  | .heartbeat r => Sys2Proof.Machine.execHeartbeat r s
  | .takeoverDetect => Sys2Proof.Machine.execTakeoverDetect s
  | .take r => Sys2Proof.Machine.execTake r s
  | .takeover r => Sys2Proof.Machine.execTakeover r s
  | .tkoTake a w => Sys2Proof.Machine.execTkoTake a w s
  | .tkoHandback a w => Sys2Proof.Machine.execTkoHandback a w s
  | .bcastChunk r => Sys2Proof.Machine.execBcastChunk r s
  | .bcastNack r => Sys2Proof.Machine.execBcastNack r s
  | .spareStart a w => Sys2Proof.Machine.execSpareStart a w s
  | .spareAdmit a w => Sys2Proof.Machine.execSpareAdmit a w s
  | .shadowFeed r => Sys2Proof.Machine.execShadowFeed r s
  | .shadowDig r => Sys2Proof.Machine.execShadowDig r s
  | .splitViewPersist child row => Sys2Proof.Machine.execSplitViewPersist child row s
  | .trayWindowAccess a addr write w => Sys2Proof.Machine.execTrayWindowAccess a addr write w s
  | .keyx r => Sys2Proof.Machine.execKeyx r s
  | .attestationRecord r => Sys2Proof.Machine.execAttestationRecord r s
  | .credentialRecord r => Sys2Proof.Machine.execCredentialRecord r s
  | .sessionRetry port => Sys2Proof.Machine.execSessionRetry port s
  | .rekey port => Sys2Proof.Machine.execRekey port s
  | .keyOverlapExpiry port => Sys2Proof.Machine.execKeyOverlapExpiry port s
  | .domainKeyRecord r => Sys2Proof.Machine.execDomainKeyRecord r s
  | .sealRecord r => Sys2Proof.Machine.execSealRecord r s
  | .sigVerifyDone => Sys2Proof.Machine.execSigVerifyDone s
  | .verifyLagExpiry => Sys2Proof.Machine.execVerifyLagExpiry s
  | .floorSet a w => Sys2Proof.Machine.execFloorSet a w s
  | .debugLevelRequest a w => Sys2Proof.Machine.execDebugLevelRequest a w s
  | .tokenChecked => Sys2Proof.Machine.execTokenChecked s
  | .debugTokenExpiry => Sys2Proof.Machine.execDebugTokenExpiry s
  | .attestationRequest a w => Sys2Proof.Machine.execAttestationRequest a w s
  | .imageStage a w => Sys2Proof.Machine.execImageStage a w s
  | .imageCommit a w => Sys2Proof.Machine.execImageCommit a w s
  | .imageAbort a w => Sys2Proof.Machine.execImageAbort a w s
  | .imageShadowBuild => Sys2Proof.Machine.execImageShadowBuild s
  | .ckpt a w => Sys2Proof.Machine.execCkpt a w s
  | .ckptCopyDone => Sys2Proof.Machine.execCkptCopyDone s
  | .ckptAbort a w => Sys2Proof.Machine.execCkptAbort a w s
  | .restore a w => Sys2Proof.Machine.execRestore a w s
  | .restoreApplied => Sys2Proof.Machine.execRestoreApplied s
  | .kioskReady a w => Sys2Proof.Machine.execKioskReady a w s
  | .kioskStartTimeout pair => Sys2Proof.Machine.execKioskStartTimeout pair s
  | .lockstepMismatch pair => Sys2Proof.Machine.execLockstepMismatch pair s
  | .fiArm a w => Sys2Proof.Machine.execFiArm a w s
  | .fiDisarm a w => Sys2Proof.Machine.execFiDisarm a w s
  | .fiEntryDue => Sys2Proof.Machine.execFiEntryDue s
  | .fiDurationEnd => Sys2Proof.Machine.execFiDurationEnd s
  | .h2kPost a w => Sys2Proof.Machine.execH2kPost a w s
  | .h2kTaken a w => Sys2Proof.Machine.execH2kTaken a w s
  | .k2hPost a w => Sys2Proof.Machine.execK2hPost a w s
  | .timNowCapture a => Sys2Proof.Machine.execTimNowCapture a s
  | .pairLoCapture a addr => Sys2Proof.Machine.execPairLoCapture a addr s
  | .counterWindowCapture a ctr => Sys2Proof.Machine.execCounterWindowCapture a ctr s
  | .sealedSumCapture a metric => Sys2Proof.Machine.execSealedSumCapture a metric s
  | .classLineCapture a cls => Sys2Proof.Machine.execClassLineCapture a cls s
  | .ledgerEntryCapture a index => Sys2Proof.Machine.execLedgerEntryCapture a index s
  | .mirrorCapture a => Sys2Proof.Machine.execMirrorCapture a s
  | .optableCapture a cell => Sys2Proof.Machine.execOptableCapture a cell s
  | .registerWrite a addr w => Sys2Proof.Machine.execRegisterWrite a addr w s
  | .blkClrDeny a => Sys2Proof.Machine.execBlkClrDeny a s
  | .blkClrLaneWait a => Sys2Proof.Machine.execBlkClrLaneWait a s
  | .blkClrState a => Sys2Proof.Machine.execBlkClrState a s
  | .blkClrTileFault a => Sys2Proof.Machine.execBlkClrTileFault a s
  | .clrRegerr a => Sys2Proof.Machine.execClrRegerr a s
  | .clrMinRate a => Sys2Proof.Machine.execClrMinRate a s
  | .timClrJump a => Sys2Proof.Machine.execTimClrJump a s
  | .timClrSync a => Sys2Proof.Machine.execTimClrSync a s
  | .talClrExt a => Sys2Proof.Machine.execTalClrExt a s
  | .talClrGen a => Sys2Proof.Machine.execTalClrGen a s
  | .talClrStn a => Sys2Proof.Machine.execTalClrStn a s
  | .talClrRa a => Sys2Proof.Machine.execTalClrRa a s
  | .talClrSample a => Sys2Proof.Machine.execTalClrSample a s
  | .sclClrConv a => Sys2Proof.Machine.execSclClrConv a s
  | .sclClrHist a => Sys2Proof.Machine.execSclClrHist a s
  | .sclClrLate a => Sys2Proof.Machine.execSclClrLate a s
  | .redClrMerge a => Sys2Proof.Machine.execRedClrMerge a s
  | .redClrLate a => Sys2Proof.Machine.execRedClrLate a s
  | .redClrIncomplete a => Sys2Proof.Machine.execRedClrIncomplete a s
  | .redClrRetain a => Sys2Proof.Machine.execRedClrRetain a s
  | .redClrStrag a => Sys2Proof.Machine.execRedClrStrag a s
  | .infClrRow a => Sys2Proof.Machine.execInfClrRow a s
  | .infClrMiss a => Sys2Proof.Machine.execInfClrMiss a s
  | .infClrNum a => Sys2Proof.Machine.execInfClrNum a s
  | .infClrFault a => Sys2Proof.Machine.execInfClrFault a s
  | .infClrWait a => Sys2Proof.Machine.execInfClrWait a s
  | .infClrDrift a => Sys2Proof.Machine.execInfClrDrift a s
  | .mdlClrBudget a => Sys2Proof.Machine.execMdlClrBudget a s
  | .mdlClrCrier a => Sys2Proof.Machine.execMdlClrCrier a s
  | .mdlClrSwap a => Sys2Proof.Machine.execMdlClrSwap a s
  | .trcClrChan a => Sys2Proof.Machine.execTrcClrChan a s
  | .trcClrPan a => Sys2Proof.Machine.execTrcClrPan a s
  | .trcClrSeq a => Sys2Proof.Machine.execTrcClrSeq a s
  | .ledClrFold a => Sys2Proof.Machine.execLedClrFold a s
  | .ledClrLost a => Sys2Proof.Machine.execLedClrLost a s
  | .ledClrCorr a => Sys2Proof.Machine.execLedClrCorr a s
  | .svcClrStat a => Sys2Proof.Machine.execSvcClrStat a s
  | .svcClrDup a => Sys2Proof.Machine.execSvcClrDup a s
  | .svcClrDig a => Sys2Proof.Machine.execSvcClrDig a s
  | .svcClrChk a => Sys2Proof.Machine.execSvcClrChk a s
  | .svcClrPcs a => Sys2Proof.Machine.execSvcClrPcs a s
  | .lnkClrSvc a => Sys2Proof.Machine.execLnkClrSvc a s
  | .lnkClrPort a => Sys2Proof.Machine.execLnkClrPort a s
  | .lnkClrMisc a => Sys2Proof.Machine.execLnkClrMisc a s
  | .bruClrKat a => Sys2Proof.Machine.execBruClrKat a s
  | .bruClrWave a => Sys2Proof.Machine.execBruClrWave a s
  | .bruClrInband a => Sys2Proof.Machine.execBruClrInband a s
  | .bruClrAnswer a => Sys2Proof.Machine.execBruClrAnswer a s
  | .secClrChain a => Sys2Proof.Machine.execSecClrChain a s
  | .secClrLink a => Sys2Proof.Machine.execSecClrLink a s
  | .secClrAuth a => Sys2Proof.Machine.execSecClrAuth a s
  | .secClrKey a => Sys2Proof.Machine.execSecClrKey a s
  | .inbandResetRelease => Sys2Proof.Machine.execInbandResetRelease s
  | .attestationFormed => Sys2Proof.Machine.execAttestationFormed s
  | .registerRead a addr => Sys2Proof.Machine.execRegisterRead a addr s
  | .tckEdge rising tms tdi => Sys2Proof.Machine.execTckEdge rising tms tdi s

end Sys2Proof.Machine
end

