-- ==== Sys2Proof/Machine/Step.lean ====
section
/-! DEFINITION. One step: the command at the front of the queue has its effect on everything but the queue; with none waiting, the time
counter takes one edge of TB_REF and a queued Control request is served. -/

namespace Sys2Proof.Machine

/-- The state with the front command taken from its queue. -/
def State.tail (s : State) (rest : List Instr) : State := { s with pending := rest }

/-- One step. On an empty queue one edge of TB_REF passes (R68), and the next queued Control request is served (R350). Log entries 1 (DESIGN CHOICE), 2 (DESIGN CHOICE). -/
def step (s : State) : Host.Outcome State Fault Refusal :=
  match s.pending with
  | [] => done s.idle
  | c :: rest => exec c (s.tail rest)

/-- The command that a word spells, at the front of the queue; the table gives no row any bits, so no word spells one. Log entry 8 (DESIGN CHOICE). -/
def State.withFetchWord (s : State) (nbits w : Nat) : State :=
  match Sys2Proof.decodeTableWord nbits w with
  | some c => { s with pending := c :: s.pending }
  | none => s

end Sys2Proof.Machine
end

