-- ==== Sys2Proof/Safety.lean ====
section
/-! DEFINITION. What claims about the block are stated in: when a register access is served in full, and what always holds of the pins and levels between two commands. -/

namespace Sys2Proof.Machine

/-- A privileged agent's register access that the block serves: powered, out of reset and not in HOLD (R20, R50, R469). -/
def State.servesPriv (s : State) (a : Access) : Bool := s.ports.powered && !s.ports.inReset && privileged a && s.power != 2

/-- Between two commands the pins and levels agree with the registers. Powered: ALERT_N is asserted exactly while an enabled bit is
pending, every level source holds its bit (R39), ASYM_MISSING tells whether a port used for time has VALID = 0 (R96), and a test port
that may not work has TDO low and its logic in reset (R60). Unpowered: nothing is kept but the build, the queue and the model's own
counter (R468). -/
def State.PinsAgree (s : State) : Prop :=
  (s.ports.powered = true →
    s.ports.alertN = (s.fld F.BLK_ALERT_PENDING &&& s.fld F.BLK_ALERT_EN != 0)
      ∧ s.fld F.BLK_ALERT_PENDING ||| s.levels = s.fld F.BLK_ALERT_PENDING
      ∧ s.fld F.TIM_STATUS_ASYM_MISSING = s.asymMissing
      ∧ (s.testPort = false → s.ports.tdo = false ∧ s.ports.tap = 0 ∧ s.ports.tapIr = none))
  ∧ (s.ports.powered = false → s = s.off)

/-- The clearing command `i`, from a privileged agent that the block serves, is answered OK and leaves 0 in every word of `ws` and in every field
of `fs`. Every field elsewhere (other words, and the other fields of the words that hold `fs`) keeps its value, but for BLK_ALERT and TIM_STATUS,
which show levels; of the block's other parts only the host side (its answer) and time (the arrival's stamp) move. -/
def Clears (i : Access → Instr) (ws : List Nat) (fs : List Fld) : Prop :=
  ∀ (s : State) (a : Access), s.servesPriv a = true →
    ∃ t, exec (i a) s = .next t ∧ (∀ w ∈ ws, t.word w = 0) ∧ (∀ f ∈ fs, t.fld f = 0)
      ∧ (∀ g : Fld, g.addr ∉ ws → g.addr ≠ 0x44 → g.addr ≠ 0x1000C → (∀ f ∈ fs, g.addr ≠ f.addr ∨ f.hi < g.lo ∨ g.hi < f.lo) → t.fld g = s.fld g)
      ∧ t.ports.answer = some ⟨a.src, .ok, 0⟩
      ∧ t = { s with regs := t.regs, ports := t.ports, tim := t.tim }

end Sys2Proof.Machine
end

