-- ==== Sys2Proof/Certificates/Slice0/Obligations.lean ====
section
/-! DEFINITION. The statements for the provers, one definition each: first the rules of the whole block (the step, the pins, reset, the register
file, the judgement of accesses, events, exact sums, digests, sessions), then for each family of commands what each of its commands does: it
completes, and the state it leaves is the one given, under hypotheses on the state and the operands alone. Where the state after a command is given
as an expression over the state before, everything that the expression does not change stays as it was. -/

open Sys2Proof Sys2Proof.Machine

/-- With command c at the front of the queue, one step is exec of c on the state with the rest of the queue; nothing else happens in that step. -/
def Obligations.StepRunsFront : Prop :=
  ∀ (s : State) (c : Instr) (rest : List Instr), s.pending = c :: rest → step s = exec c (s.tail rest)

/-- With no command waiting, one step is one edge of TB_REF (R68) and then one Control request served from the block's queue (R350): the model's choice of what a step on an empty queue is (log entry 1). While TB_REF is lost the counter stands, and with no Control request queued nothing but the counter and what shows moves. -/
def Obligations.IdleStep : Prop :=
  (∀ s : State, s.pending = [] → step s = done (s.tick.serveControl)) ∧
  (∀ s : State, s.pending = [] → s.on F.TIM_STATUS_TBREF_LOST = true → s.lnk.ctl = [] → step s = .next s.settle) ∧
  (∀ s : State, s.pending = [] → s.ports.powered = true → s.on F.TIM_STATUS_TBREF_LOST = false → s.lnk.ctl = [] →
    ∃ t, step s = .next t ∧ t = { s with regs := t.regs, ports := t.ports, tim := t.tim } ∧ s.tim.now ≠ t.tim.now)

/-- Whatever the state and whatever command is at the front of the queue, one step answers a next state: the model refuses no command and faults on none, since the spec gives each of them an effect in every state. -/
def Obligations.EveryCommandCompletes : Prop :=
  ∀ s : State, ∃ t, step s = .next t

/-- From every state whatever, whether a run reaches it or not, the state after one step has its pins and levels in agreement with its registers (State.PinsAgree): powered, ALERT_N is asserted exactly while an enabled PENDING bit is 1 and every level source holds its bit (R39), ASYM_MISSING tells whether a port used for time lacks VALID (R74, R96), and the test port of a unit that may not use it has TDO low and its logic in reset (R60); unpowered, nothing is kept (R468). -/
def Obligations.PinsAgreeKept : Prop :=
  ∀ s t : State, step s = .next t → t.PinsAgree

/-- At reset the invariant of PinsAgreeKept holds: ALERT_N is not asserted, no level is pending, and the test logic is in reset. -/
def Obligations.ResetPinsAgree : Prop :=
  State.reset.PinsAgree ∧ State.reset.ports.alertN = false ∧ State.reset.levels = 0

/-- At reset every register field below the windows whose Reset column gives a constant holds that constant, at every element of its array that the build has (R7); and the values that other rules state: KEEP 8,192, RANK 7, UP_PORT 0x7F, LAG_US 20. -/
def Obligations.ResetColumn : Prop :=
  (∀ r ∈ regTable, r.base < 0x100000 → ∀ f ∈ r.fields, ∀ v, f.rst = .val v → ∀ i, i < synthCount .spoke r →
    f.fld.get (State.reset.word (r.base + r.stride * i)) = v) ∧
  State.reset.fld F.LED_CFG_KEEP = 8192 ∧ State.reset.fld F.TIM_GM_RANK = 7 ∧ State.reset.fld F.TIM_STATUS_UP_PORT = 0x7F ∧
  State.reset.fld F.TIM_SEAL_LAG_LAG_US = 20

/-- At reset the time counter is 0 (R69), epoch 0 is open with the reset period (R89), the bring-up sequence is at FUSE with the service state BRING-UP (R22, R370), a class 0x00 event is on its way into an empty Ledger (R301), nothing is loaded, no pipeline, model, stream, session or checkpoint is held, and no command waits. -/
def Obligations.ResetParts : Prop :=
  State.reset.tim.now = 0 ∧ State.reset.tim.epoch = 0 ∧ State.reset.tim.openNs = 0 ∧ State.reset.tim.nextNs = State.reset.tim.period ∧
  State.reset.svc = svcBringup ∧ State.reset.fld F.BRU_STATUS_PHASE = 0 ∧ State.reset.loaded = false ∧
  State.reset.led.held = [⟨0, 0, 0, 0, 0⟩] ∧ State.reset.led.queue = [] ∧ State.reset.led.slots = [] ∧ State.reset.led.sram = [] ∧
  State.reset.inf.slots = [] ∧ State.reset.scl.bank = [] ∧ State.reset.red.merges = [] ∧ State.reset.lnk.sess = [] ∧
  State.reset.con.ckptAt = none ∧ State.reset.srv.fifo = [] ∧ State.reset.tal.ctrs = [] ∧ State.reset.pending = []

/-- The plain effect of a write on a word of the map, field by field (R6): an RW field takes the written value, an RW1C field keeps exactly the bits that were not written 1, an RO, ROS or WO field keeps what it held, and so does every bit that no field names; a WO field reads 0. -/
def Obligations.AccessCodes : Prop :=
  (∀ (s : State) (addr : Nat) (w : Word) (r : RegRow) (f : RegField), regRow addr = some r → f ∈ r.fields →
    (f.acc = .rw → f.fld.get ((s.plainWrite addr w).word addr) = f.fld.get w) ∧
    (f.acc = .rw1c → f.fld.get ((s.plainWrite addr w).word addr) = f.fld.get (s.word addr &&& ~~~w)) ∧
    ((f.acc = .ro ∨ f.acc = .ros ∨ f.acc = .wo) → f.fld.get ((s.plainWrite addr w).word addr) = f.fld.get (s.word addr))) ∧
  (∀ (s : State) (addr : Nat) (w : Word) (r : RegRow) (i : Nat), regRow addr = some r → i < 32 → (∀ f ∈ r.fields, i < f.fld.lo ∨ f.fld.hi < i) →
    ((s.plainWrite addr w).word addr).getLsbD i = (s.word addr).getLsbD i) ∧
  (∀ (s : State) (addr b : Nat) (w : Word), b ≠ addr → (s.plainWrite addr w).word b = s.word b)

/-- A write keeps the register file canonical (addresses strictly rising, no zero word listed), reads back, and leaves every other word; and two canonical files that read alike at every address are the same data. This is the model's own form of the register map, so equal states are equal data. -/
def Obligations.RegisterFileCanonical : Prop :=
  (∀ (m : Regs) (a : Nat) (v : Word), regCanon m = true → regCanon (regWrite m a v) = true) ∧
  (∀ (m n : Regs), regCanon m = true → regCanon n = true → (∀ a, regRead m a = regRead n a) → m = n) ∧
  regCanon State.reset.regs = true

/-- A register access is judged in the order ERR_DECODE, ERR_DENIED, ERR_RETRY (R46): unaligned is decode cause 1; else unmapped is cause 2; else a write to a read-only window is cause 4; else a write by an access that is not privileged, the tray window apart, is denied with cause 2 (R21), and in HOLD or while its window is switched a permitted privileged access is retried. -/
def Obligations.ErrorOrder : Prop :=
  (∀ (s : State) (a : Access) (addr : Nat) (wr : Bool), addr % 4 ≠ 0 → s.judge a addr wr = .decode 1) ∧
  (∀ (s : State) (a : Access) (addr : Nat) (wr : Bool), addr % 4 = 0 → s.mapped addr = false → s.judge a addr wr = .decode 2) ∧
  (∀ (s : State) (a : Access) (addr : Nat), addr % 4 = 0 → s.mapped addr = true → inRanges roWindows addr = true → s.judge a addr true = .decode 4) ∧
  (∀ (s : State) (a : Access) (addr : Nat), addr % 4 = 0 → s.mapped addr = true → inRanges roWindows addr = false → trayAddr addr = false →
    privileged a = false → s.judge a addr true = .denied 2) ∧
  (∀ (s : State) (a : Access) (addr : Nat), addr % 4 = 0 → s.mapped addr = true → privileged a = true → ledgerAddr addr = false →
    s.judge a addr false = if (s.power = 2 ∧ holdServes addr = false) ∨ s.switching addr = true then .retry else .ok)

/-- A register read or write that the judgement refuses, by a block that can answer, changes no state but its count, LAST_CAUSE (and LAST_STALL of a denial), and answers its code with RDATA 0 (R21, R31, R46, R61); a refused write of BLK_STATE_REQ is also a refused request (R24). A block that is unpowered or in reset answers nothing. -/
def Obligations.RefusedAccess : Prop :=
  (∀ (s : State) (a : Access) (addr c : Nat), trayAddr addr = false → s.serves = true → s.judge a addr false = .decode c →
    exec (.registerRead a addr) s = .next (State.settle ((((s.reach a.t).inc F.BLK_REGERR_COUNT).set F.BLK_REGERR_LAST_CAUSE c).answer a .decode 0))) ∧
  (∀ (s : State) (a : Access) (addr c : Nat) (w : Word), trayAddr addr = false → s.serves = true → s.judge a addr true = .decode c →
    exec (.registerWrite a addr w) s = .next (State.settle ((((s.reach a.t).inc F.BLK_REGERR_COUNT).set F.BLK_REGERR_LAST_CAUSE c).answer a .decode 0))) ∧
  (∀ (s : State) (a : Access) (addr c : Nat), trayAddr addr = false → s.serves = true → s.judge a addr false = .denied c →
    exec (.registerRead a addr) s = .next (State.settle (((((s.reach a.t).inc F.BLK_DENY_COUNT).set F.BLK_DENY_LAST_CAUSE c).set
      F.BLK_DENY_LAST_STALL a.stall.toNat).answer a .denied 0))) ∧
  (∀ (s : State) (a : Access) (addr c : Nat) (w : Word), trayAddr addr = false → addr ≠ 0x14 → s.serves = true → s.judge a addr true = .denied c →
    exec (.registerWrite a addr w) s = .next (State.settle (((((s.reach a.t).inc F.BLK_DENY_COUNT).set F.BLK_DENY_LAST_CAUSE c).set
      F.BLK_DENY_LAST_STALL a.stall.toNat).answer a .denied 0))) ∧
  (∀ (s : State) (a : Access) (c : Nat) (w : Word), s.serves = true → s.judge a 0x14 true = .denied c →
    exec (.registerWrite a 0x14 w) s = .next (State.settle (((((((s.reach a.t).set F.BLK_STATE_REQ_REFUSED 1).inc F.BLK_STATE_REFUSALS).inc
      F.BLK_DENY_COUNT).set F.BLK_DENY_LAST_CAUSE c).set F.BLK_DENY_LAST_STALL a.stall.toNat).answer a .denied 0))) ∧
  (∀ (s : State) (a : Access) (addr : Nat), trayAddr addr = false → s.serves = true → s.judge a addr false = .retry →
    exec (.registerRead a addr) s = .next (State.settle ((((s.reach a.t).inc F.BLK_REGERR_COUNT).set F.BLK_REGERR_LAST_CAUSE 3).answer a .retry 0))) ∧
  (∀ (s : State) (a : Access) (addr : Nat) (w : Word), trayAddr addr = false → s.serves = true → s.judge a addr true = .retry →
    exec (.registerWrite a addr w) s = .next (State.settle ((((s.reach a.t).inc F.BLK_REGERR_COUNT).set F.BLK_REGERR_LAST_CAUSE 3).answer a .retry 0))) ∧
  (∀ (s : State) (a : Access) (addr : Nat) (w : Word), trayAddr addr = false → s.serves = false →
    exec (.registerRead a addr) s = .next (State.settle (s.reach a.t)) ∧ exec (.registerWrite a addr w) s = .next (State.settle (s.reach a.t)))

/-- An aligned read of the counter window by an access that is not privileged is judged by the three conditions of R130 in their order: cause 1 outside SERVICE, else cause 3 without a grant for Tally reads, else cause 2 unless the counter is the Stall's or SHARED; the catalogue and the sealed sums are judged alike with Scales reads (R138). A permitted one is then retried only in HOLD or while its window is switched (R406, R469). -/
def Obligations.UserReads : Prop :=
  ∀ (s : State) (a : Access) (addr b : Nat), addr % 4 = 0 → privileged a = false →
    ((0x200000 ≤ addr ∧ addr ≤ 0x4FFFFF ∧ b = 0) ∨ (0x500000 ≤ addr ∧ addr ≤ 0x503FFF ∧ b = 1) ∨ (0x510000 ≤ addr ∧ addr ≤ 0x51FFFF ∧ b = 1)) →
    s.judge a addr false =
      if s.svc ≠ svcService then .denied 1
      else if bit (s.grant a.stall.toNat).toNat b = false then .denied 3
      else if (s.ownerAt addr).1 ≠ a.stall.toNat ∧ (s.ownerAt addr).2 = false then .denied 2
      else if s.power = 2 ∨ s.switching addr = true then .retry else .ok

/-- A write of BLK_STATE_REQ is refused when its transition is not one that R23 lets a request make from the present state, when a request is already pending, or when the writer is not privileged; then REQ_REFUSED is set and REFUSALS counts one, and the pending request and the current state stay as they are. (The writer that is not privileged is denied as well, R21.) -/
def Obligations.StateRequestRefused : Prop :=
  (∀ (s : State) (a : Access) (w : Word), s.servesPriv a = true →
    (s.on F.BLK_STATE_PEND_VALID = true ∨
      (let t := F.BLK_STATE_REQ_TARGET.get w
      ¬ (s.svc = svcBringup ∧ t = svcTest ∧ s.loaded = true ∧ s.fld F.BRU_STATUS_PHASE ≠ 6 ∧ s.bru.opened = false) ∧
      ¬ (s.svc = svcService ∧ t = svcTest) ∧ ¬ (s.svc = svcTest ∧ t = svcService ∧ s.fld F.BRU_STATUS_PHASE = 6 ∧ s.bru.opened = false) ∧
      ¬ ((s.svc = svcService ∨ s.svc = svcTest) ∧ t = svcRecovery) ∧
      ¬ (s.svc = svcRecovery ∧ t = svcService ∧ s.recoveryStuck = true))) →
    ∃ t, exec (.stateRequest a w) s = .next t ∧ t.on F.BLK_STATE_REQ_REFUSED = true
      ∧ t.fld F.BLK_STATE_REFUSALS = min (s.fld F.BLK_STATE_REFUSALS + 1) F.BLK_STATE_REFUSALS.max
      ∧ t.svc = s.svc ∧ t.fld F.BLK_STATE_PEND_VALID = s.fld F.BLK_STATE_PEND_VALID ∧ t.fld F.BLK_STATE_PEND_TARGET = s.fld F.BLK_STATE_PEND_TARGET) ∧
  (∀ (s : State) (a : Access) (w : Word), s.serves = true → privileged a = false →
    ∃ t, exec (.stateRequest a w) s = .next t ∧ t.on F.BLK_STATE_REQ_REFUSED = true
      ∧ t.fld F.BLK_STATE_REFUSALS = min (s.fld F.BLK_STATE_REFUSALS + 1) F.BLK_STATE_REFUSALS.max
      ∧ t.svc = s.svc ∧ t.fld F.BLK_STATE_PEND_VALID = s.fld F.BLK_STATE_PEND_VALID ∧ t.fld F.BLK_STATE_PEND_TARGET = s.fld F.BLK_STATE_PEND_TARGET)

/-- At the Cadence source a privileged write of PERIOD_US from 100 to 1,000,000 sets the period of the epoch that opens at the second boundary after the write; a value outside the range is ignored and sets PERIOD_BAD; at every other unit a privileged write is ignored; a write by an access that is not privileged is refused under R21. -/
def Obligations.PeriodWrites : Prop :=
  (∀ (s : State) (a : Access) (w : Word), s.servesPriv a = true → s.cadenceSource = true →
    100 ≤ F.TIM_EPOCH_PERIOD_PERIOD_US.get w → F.TIM_EPOCH_PERIOD_PERIOD_US.get w ≤ 1000000 →
    exec (.periodWrite a w) s = .next (State.settle
      (let u := (s.reach a.t).set F.TIM_EPOCH_PERIOD_PERIOD_US (F.TIM_EPOCH_PERIOD_PERIOD_US.get w)
      ((u.setTim { u.tim with periodSoon := some (2, 1000 * F.TIM_EPOCH_PERIOD_PERIOD_US.get w) }).markExpert 0x010040).answer a .ok 0))) ∧
  (∀ (s : State) (a : Access) (w : Word), s.servesPriv a = true → s.cadenceSource = true →
    (F.TIM_EPOCH_PERIOD_PERIOD_US.get w < 100 ∨ 1000000 < F.TIM_EPOCH_PERIOD_PERIOD_US.get w) →
    exec (.periodWrite a w) s = .next (State.settle ((((s.reach a.t).set F.TIM_STATUS_PERIOD_BAD 1).markExpert 0x010040).answer a .ok 0))) ∧
  (∀ (s : State) (a : Access) (w : Word), s.servesPriv a = true → s.cadenceSource = false →
    exec (.periodWrite a w) s = .next (State.settle (((s.reach a.t).markExpert 0x010040).answer a .ok 0))) ∧
  (∀ (s : State) (a : Access) (w : Word), s.serves = true → privileged a = false →
    exec (.periodWrite a w) s = .next (State.settle ((s.reach a.t).refuse a (.denied 2))))

/-- A reset of either cause (R381), with no checkpoint under way and no Control request waiting, leaves the time counter, the epoch and the servo's state in time as they are (R69, R382), the Ledger's entries and queue (R300), the build and the commands waiting; the image, the role's tables, models, banks, reduction staging, streams, digests and Kiosk handoffs are as at power-up. -/
def Obligations.ResetKeepsTime : Prop :=
  ∀ (s : State) (c : Nat), s.con.ckptAt = none → s.con.copy = none → s.lnk.ctl = [] →
    (s.assertReset c).tim.now = s.tim.now ∧ (s.assertReset c).tim.epoch = s.tim.epoch ∧ (s.assertReset c).tim.openNs = s.tim.openNs ∧
    (s.assertReset c).tim.nextNs = s.tim.nextNs ∧ (s.assertReset c).tim.slew = s.tim.slew ∧ (s.assertReset c).tim.samples = s.tim.samples ∧
    (s.assertReset c).led = s.led ∧ (s.assertReset c).build = s.build ∧ (s.assertReset c).pending = s.pending ∧
    (s.assertReset c).img = initImg ∧ (s.assertReset c).scl = initScl ∧ (s.assertReset c).red = initRed ∧ (s.assertReset c).tko = none ∧
    (s.assertReset c).inf = initInf ∧ (s.assertReset c).srv = initSrv ∧ (s.assertReset c).trc = initTrc s.build

/-- While the Ledger is NORMAL or DEGRADED, an event that is raised adds exactly 1 to its class's TOTAL (modulo 2⁶⁴), whether it goes on to the fold stage or is lost there because an earlier event of its class still waits; and every other class's line keeps its TOTAL, but for class 0x28, which also counts the losses that become events (R289). In MIRROR_ONLY the class table stands and LED_LOST.EVENTS counts the event (R297). -/
def Obligations.EventsCounted : Prop :=
  (∀ (s : State) (e : LEvt), s.led.state ≠ 2 → e.cls ≠ 0x28 → ((s.raiseEvent e).led.line e.cls).total = ((s.led.line e.cls).total + 1) % 2 ^ 64) ∧
  (∀ (s : State) (e : LEvt) (k : Nat), s.led.state ≠ 2 → k ≠ e.cls → k ≠ 0x28 → ((s.raiseEvent e).led.line k).total = (s.led.line k).total) ∧
  (∀ (s : State) (e : LEvt), s.led.state = 2 → (s.raiseEvent e).led.lines = s.led.lines
    ∧ (s.raiseEvent e).fld F.LED_LOST_EVENTS = min (s.fld F.LED_LOST_EVENTS + 1) F.LED_LOST_EVENTS.max)

/-- Counting one in a register field that saturates adds 1 below the field's largest value and leaves it there at that value, and touches no other field; this is the one operation behind every saturating status counter of the map (R31, R34, R61 and the like). -/
def Obligations.CountersSaturate : Prop :=
  ∀ (s : State) (f g : Fld), f.hi < 32 → f.lo ≤ f.hi →
    (s.inc f).fld f = min (s.fld f + 1) (2 ^ (f.hi + 1 - f.lo) - 1) ∧
    ((g.addr ≠ f.addr ∨ f.hi < g.lo ∨ g.hi < f.lo) → (s.inc f).fld g = s.fld g) ∧
    s.inc f = { s with regs := (s.inc f).regs }

/-- The LB12 code of 0 is 0x000, of a negative value 0x001, and of q ≥ 1 it is (p + 1) × 64 + m for p = ⌊log₂ q⌋ and m the six bits below the leading one; so no code from 0x002 to 0x03F is ever emitted, and the representative value of the code lies within 2^(p−7) of q, with q ≥ 2^p. -/
def Obligations.Lb12Codes : Prop :=
  lb12 0 = 0 ∧ (∀ q : Int, q < 0 → lb12 q = 1) ∧
  (∀ q : Nat, 1 ≤ q →
    let p := q.log2
    lb12 q = (p + 1) * 64 + (if 6 ≤ p then q / 2 ^ (p - 6) % 64 else q * 2 ^ (6 - p) % 64) ∧ 0x40 ≤ lb12 q ∧ (q < 2 ^ 63 → lb12 q < 0x1000) ∧ 2 ^ p ≤ q ∧
    (let lo : Nat := if 6 ≤ p then 2 ^ p + (lb12 q % 64) * 2 ^ (p - 6) else q
    codeValue (lb12 q) = (lo : Int) + (if 7 ≤ p then 2 ^ (p - 7) else 0) ∧ lo ≤ q ∧ (6 ≤ p → q < lo + 2 ^ (p - 6))) ∧
    128 * (codeValue (lb12 q) - q) ≤ 2 ^ p ∧ 128 * (q - codeValue (lb12 q)) ≤ 2 ^ p)

/-- Merging two sections of one metric and STALL with no overflow adds COUNT, SUM and SUMSQ exactly and takes the larger SKEW; it gives the same COUNT, SUM, SUMSQ, METHOD and SKEW in either order, and the same COUNT, METHOD and SKEW in either grouping of three (R144, R162). With COUNT at its limit COUNT stays 2⁴⁸ − 1 and COUNT_OVF is set. -/
def Obligations.ExactMerge : Prop :=
  (∀ (d : MetricDef) (o n : Nat) (a b : Sect), a.count + b.count < 2 ^ 48 → bit a.flags 11 = false → bit b.flags 11 = false →
    (mergeSect d o n a b).1.count = a.count + b.count ∧ (mergeSect d o n a b).1.sum = a.sum + b.sum ∧
    (mergeSect d o n a b).1.sumsq = a.sumsq + b.sumsq ∧ (mergeSect d o n a b).1.skew = max a.skew b.skew) ∧
  (∀ (d : MetricDef) (o n : Nat) (a b : Sect), a.metric = b.metric →
    let x := (mergeSect d o n a b).1
    let y := (mergeSect d o n b a).1
    x.count = y.count ∧ x.sum = y.sum ∧ x.sumsq = y.sumsq ∧ x.method = y.method ∧ x.skew = y.skew) ∧
  (∀ (d : MetricDef) (o n : Nat) (a b c : Sect), a.count + b.count + c.count < 2 ^ 48 →
    let x := (mergeSect d o n (mergeSect d o n a b).1 c).1
    let y := (mergeSect d o n a (mergeSect d o n b c).1).1
    x.count = y.count ∧ x.method = y.method ∧ x.skew = y.skew) ∧
  (∀ (d : MetricDef) (o n : Nat) (a b : Sect), 2 ^ 48 ≤ a.count + b.count →
    (mergeSect d o n a b).1.count = 2 ^ 48 - 1 ∧ bit (mergeSect d o n a b).1.flags 11 = true)

/-- Two entries put into a ranked set of at most eight, one after the other, leave the same set in either order, and the set stays ranked with at most eight entries (R145). Entries carry 32-bit TS_NS. -/
def Obligations.ExtremesOrderFree : Prop :=
  ∀ (largest : Bool) (o : Nat) (xs : List XEnt) (x y : XEnt), x.ts < 2 ^ 32 → y.ts < 2 ^ 32 → (∀ z ∈ xs, z.ts < 2 ^ 32) → xs.length ≤ 8 →
    xs.Pairwise (fun a b => ranksBefore largest o a b = true) →
    addExtreme largest o (addExtreme largest o xs x) y = addExtreme largest o (addExtreme largest o xs y) x ∧
    (addExtreme largest o xs x).length ≤ 8 ∧ (addExtreme largest o xs x).Pairwise (fun a b => ranksBefore largest o a b = true)

/-- Two DIG_TAP reports taken one after the other leave the same state in either order, whatever collectives, INDEXes and words they name; and a tap of an open collective adds to its digest, as XOR, the word times the key to the power INDEX + 1 (R310). -/
def Obligations.DigestOrderFree : Prop :=
  (∀ (s : State) (x y : Report), (s.digTap x).digTap y = (s.digTap y).digTap x) ∧
  (∀ (s : State) (x : Report) (c : Coll), s.srv.colls.find? (fun k => k.coll = rf x 0x26 0) = some c →
    (s.digTap x).srv.colls.find? (fun k => k.coll = rf x 0x26 0) = some { c with
      digest := c.digest ^^^ gf64Mul (BitVec.ofNat 64 (rf x 0x26 2)) (gf64Pow c.key (rf x 0x26 1 + 1)), taps := c.taps + 1 })

/-- Of each child key a merge point keeps the highest PGEN that it has accepted and the epoch in which that PGEN first appeared; PGENs compare modulo 2¹⁶ within a half-range of 2¹⁵. A higher PGEN replaces what is kept; the same one is merged; a lower one is merged for an epoch earlier than that first appearance, and is otherwise discarded and counted in STALE. -/
def Obligations.PgenRule : Prop :=
  (∀ a b : Nat, a < 65536 → b < 65536 → (pgenNewer a b = true ↔ 0 < (a + 65536 - b) % 65536 ∧ (a + 65536 - b) % 65536 < 32768)) ∧
  (∀ (s : State) (key g epoch : Nat), s.lnk.pgenSeen.find? (fun p => p.1 = key) = none →
    s.pgenTake key g epoch = some (s.setLnk { s.lnk with pgenSeen := (key, g, epoch) :: s.lnk.pgenSeen })) ∧
  (∀ (s : State) (key g epoch g0 e0 : Nat), s.lnk.pgenSeen.find? (fun p => p.1 = key) = some (key, g0, e0) →
    s.pgenTake key g epoch =
      if pgenNewer g g0 = true then some (s.setLnk { s.lnk with pgenSeen := (key, g, epoch) :: s.lnk.pgenSeen.filter (fun p => p.1 ≠ key) })
      else if g = g0 then some s else if epoch < e0 then some s else none) ∧
  (∀ (s u : State) (x : Summary) (port : Nat) (c : Child) (key : Nat),
    u = s.setRed { s.red with absentKeys := s.red.absentKeys.filter (fun k => k.1 ≠ key && k.1 ≠ c.key) } →
    c.excl = false → (readHead x.head).catId = u.catIdAt (readHead x.head).epoch → (readHead x.head).epoch ≤ u.tim.epoch →
    u.mergeStarted (readHead x.head).epoch = false → u.level ≠ 5 →
    u.pgenTake key (readHead x.head).pgen (readHead x.head).epoch = none →
    s.takeSummary x port c key none = u.inc F.LNK_PGEN_STAT_STALE)

/-- A privileged write of SEC_FLOOR_SET at or below the floor is ignored; one above it becomes the floor, with its event; so the floor after any such write is the larger of the two (R419). -/
def Obligations.FloorWrites : Prop :=
  ∀ (s : State) (a : Access) (w : Word), s.servesPriv a = true →
    (w.toNat % 65536 ≤ s.fld F.SEC_FLOOR_GEN → exec (.floorSet a w) s = .next (State.settle ((s.reach a.t).answer a .ok 0))) ∧
    ∃ t, exec (.floorSet a w) s = .next t ∧ t.fld F.SEC_FLOOR_GEN = max (s.fld F.SEC_FLOOR_GEN) (w.toNat % 65536)

/-- The counter-mode transform of a session's frames undoes itself: with a 32-byte key and a 12-byte IV, deciphering what was enciphered gives the payload back (R431). The transform's constants are the standard's (log entry 20). -/
def Obligations.SealedFrames : Prop :=
  ∀ (key iv txt : Bytes), key.length = 32 → iv.length = 12 → gcmCrypt key iv (gcmCrypt key iv txt) = txt ∧ (gcmCrypt key iv txt).length = txt.length

/-- A frame that a session's present key opens is accepted only when the count of its class is above every count accepted before for that class and key, and accepting it raises what the next must exceed; any other is discarded and counted in REPLAY (R430). -/
def Obligations.ReplayRefused : Prop :=
  ∀ (s : State) (p : Nat) (env body : Bytes) (x : Sess), (s.lnk.sess.filter (fun x => x.port = p && x.formed)) = [x] → x.keyId = le env 8 4 →
    x.rxKey ≠ [] → slice (slice env 12 12) 0 4 = slice x.rxKey 32 4 → gcmTag (x.rxKey.take 32) (slice env 12 12) (env.take 24) body = slice env 24 16 →
    let ctr := le env 16 8
    (ctr % 2 ^ 61 < x.rxNext.getD (ctr / 2 ^ 61) 0 → s.decrypt p env body = some (none, s.inc F.SEC_LINK_STAT_REPLAY)) ∧
    (x.rxNext.getD (ctr / 2 ^ 61) 0 ≤ ctr % 2 ^ 61 → s.decrypt p env body = some (some (gcmCrypt (x.rxKey.take 32) (slice env 12 12) body),
      s.putSess { x with rxNext := modNth x.rxNext (ctr / 2 ^ 61) (fun _ => ctr % 2 ^ 61 + 1), overlap := x.overlap || x.oldRxKey ≠ [] }))

/-- A number written as n little-endian bytes into a record reads back modulo 256ⁿ from where it was put, and the bytes in front of it stay (R5). -/
def Obligations.LittleEndian : Prop :=
  (∀ (n v : Nat), (toLE n v).length = n ∧ le (toLE n v) 0 n = v % 256 ^ n) ∧
  (∀ (pre post : Bytes) (n v : Nat), le (pre ++ toLE n v ++ post) pre.length n = v % 256 ^ n)

/-- The IEEE 1149.1 port works only in lifecycle BLANK, or RETURNED at level OPEN, in the power states RUN and QUIET (R438); in every other state of the unit an edge of TCK, whatever TMS and TDI, changes nothing, and after any step the test logic is in reset with TDO low. -/
def Obligations.TestPortClosed : Prop :=
  (∀ s : State, s.testPort = true ↔ s.fld F.BLK_POWER_STATE < 2 ∧ (s.lifecycle = 0 ∨ (s.lifecycle = 3 ∧ s.debug = 2))) ∧
  (∀ (s : State) (rising tms tdi : Bool), s.testPort = false → exec (.tckEdge rising tms tdi) s = .next s.settle) ∧
  (∀ s t : State, step s = .next t → t.ports.powered = true → t.testPort = false → t.ports.tdo = false ∧ t.ports.tap = 0 ∧ t.ports.tapIr = none)

/-- A privileged write of BLK_CTR_CLR clears BLK_DENY for bit 0, every BLK_LANE_WAIT for bit 1, BLK_STATE.REFUSALS for bit 2 and BLK_TILE_FAULT.COUNT for bit 3, each by itself and in any combination, and a write of BLK_PORT_CLR clears BLK_REGERR for bit 0 and sets BLK_SPEED.MIN_RATE to 0xFFF for bit 1; the write is answered OK, what its bits do not name stays, and every other word (BLK_ALERT and TIM_STATUS apart, which show levels) stays. -/
def Obligations.ClearingWords : Prop :=
  (∀ (s : State) (a : Access) (w : Word), s.servesPriv a = true → ∃ t, exec (.registerWrite a 0x24 w) s = .next t ∧
    t.word 0x20 = (if w.getLsbD 0 then 0 else s.word 0x20) ∧ (∀ i, i < 128 → t.word (0x100 + 4 * i) = if w.getLsbD 1 then 0 else s.word (0x100 + 4 * i)) ∧
    t.fld F.BLK_STATE_REFUSALS = (if w.getLsbD 2 then 0 else s.fld F.BLK_STATE_REFUSALS) ∧
    t.fld F.BLK_TILE_FAULT_COUNT = (if w.getLsbD 3 then 0 else s.fld F.BLK_TILE_FAULT_COUNT) ∧
    t.fld F.BLK_TILE_FAULT_LAST_TILE = s.fld F.BLK_TILE_FAULT_LAST_TILE ∧ t.svc = s.svc ∧ t.fld F.BLK_STATE_PEND_VALID = s.fld F.BLK_STATE_PEND_VALID ∧
    t.ports.answer = some ⟨a.src, .ok, 0⟩ ∧
    (∀ b, b ≠ 0x20 → (∀ i, i < 128 → b ≠ 0x100 + 4 * i) → b ≠ F.BLK_STATE_REFUSALS.addr → b ≠ 0x28 → b ≠ 0x44 → b ≠ 0x1000C → t.word b = s.word b)) ∧
  (∀ (s : State) (a : Access) (w : Word), s.servesPriv a = true → ∃ t, exec (.registerWrite a 0x40 w) s = .next t ∧
    t.word 0x2C = (if w.getLsbD 0 then 0 else s.word 0x2C) ∧
    t.fld F.BLK_SPEED_MIN_RATE = (if w.getLsbD 1 then 0xFFF else s.fld F.BLK_SPEED_MIN_RATE) ∧ t.fld F.BLK_SPEED_RATE = s.fld F.BLK_SPEED_RATE ∧
    t.fld F.BLK_SPEED_BELOW = s.fld F.BLK_SPEED_BELOW ∧ t.ports.answer = some ⟨a.src, .ok, 0⟩ ∧
    (∀ b, b ≠ 0x2C → b ≠ 0x30 → b ≠ 0x44 → b ≠ 0x1000C → t.word b = s.word b))

/-- Each command of the bring-up sequence (power, fuse load, image, known-answer runs, wave gates, market open) answers the next state in which exactly its own effect has happened. -/
def Obligations.BringUpCommands : Prop :=
  (∀ (s : State) (low sel : Bool),
    s.ports.powered = false →
    exec (.powerUp low sel) s = .next (State.settle ({ State.powerOn s.build low sel with free := s.free, pending := s.pending }))) ∧
  (∀ (s : State),
    exec .powerOff s = .next s.off) ∧
  (∀ (s : State) (level : Bool),
    s.ports.bootSampled = false →
    s.ports.resetLow = false →
    exec (.bootSelSample level) s = .next (State.settle (s.setPorts { s.ports with bootSel := level, bootSampled := true }))) ∧
  (∀ (s : State) (t a x : Nat) (d : Word),
    s.phase = phFuse →
    s.bru.fuseGot = some x →
    fuseAfter x = some a →
    s.bru.fuseNext = some a →
    a ≠ fuseEnd (fuseSect a) →
    exec (.fuseReadResponse t d 0) s = .next (State.settle (((s.reach t).unstall 6 0).setBru { s.bru with
        fuse := (a, d) :: s.bru.fuse.filter (fun x => x.1 ≠ a), fuseGot := some a, fuseNext := fuseAfter a }))) ∧
  (∀ (s v : State) (b : Bytes),
    s.phase = phImage →
    s.fromBcast = false →
    s.img.fetched = some b →
    v = s.setImg { s.img with fetched := none, fetchErr := false } →
    exec .imageChecked s = .next (State.settle (if s.imageCause b s.img.fetchErr = 0 then (v.loadImage b).setPhase phKat
      else (if s.imageCause b s.img.fetchErr = 2 then v.authReject 0 0 else v).failAttempt (s.imageCause b s.img.fetchErr)))) ∧
  (∀ (s : State),
    s.phase = phImage →
    s.fromBcast = true →
    exec .bcastWaitExpiry s = .next (State.settle ((s.reachNs (s.bru.phaseAt + 1000000 * s.fld F.BRU_BOOT_CFG_BCAST_WAIT_MS)).halt 3))) ∧
  (∀ (s : State),
    s.phase = phKat →
    s.routed.filter (fun t => s.bru.hidden.contains t) = [] →
    exec (.katDone []) s = .next (State.settle ((s.add F.BRU_KAT_PASSED s.katUnits.length).startWaves))) ∧
  (∀ (s : State) (t g : Nat),
    (s.gate g).req = true →
    (s.gate g).acked = false →
    s.bru.wavesDown = false →
    exec (.waveGateAck t g) s = .next (State.settle (((s.reach t).unstall 7 g).putGate { s.gate g with acked := true, ackNs := (s.reach t).nowNs }))) ∧
  (∀ (s : State) (g : Nat),
    (s.gate g).acked = true →
    (s.gate g).req = true →
    (s.gate g).settled = false →
    exec (.waveSettle g) s = .next (State.settle (((s.reachNs ((s.gate g).ackNs + 1000 * s.fld (F.BRU_WAVE_SETTLE_US g))).putGate
        { s.gate g with settled := true, charged := false }).waveGo))) ∧
  (∀ (s : State) (t g : Nat),
    (s.gate g).req = false →
    (s.gate g).acked = true →
    exec (.waveGateAckFall t g) s = .next (State.settle ((((s.reach t).putGate { s.gate g with acked := false }).waveFall).waveGo))) ∧
  (∀ (s : State),
    s.marketReady = true →
    exec .marketOpenOccurs s = .next (State.settle ((s.setPhase phOpen).setBru { (s.setPhase phOpen).bru with marketWanted := false, opened := true }))) ∧
  (∀ (s : State) (a : Access) (w : Word),
    s.servesPriv a = true →
    F.BRU_CTRL_MARKET_OPEN.get w = 1 →
    F.BRU_CTRL_WAVES_OFF.get w = 0 →
    F.BRU_CTRL_WAVES_ON.get w = 0 →
    F.BRU_CTRL_RETRY.get w = 0 →
    s.phase = phReady →
    s.svc = svcBringup →
    exec (.marketOpen a w) s = .next (State.settle ((((s.reach a.t).plainWrite 0x0A0004 w).setBru { s.bru with marketWanted := true }).answer a .ok 0))) ∧
  (∀ (s : State) (a : Access) (w : Word),
    s.servesPriv a = true →
    F.BRU_CTRL_MARKET_OPEN.get w = 0 →
    F.BRU_CTRL_WAVES_OFF.get w = 1 →
    F.BRU_CTRL_WAVES_ON.get w = 0 →
    F.BRU_CTRL_RETRY.get w = 0 →
    exec (.wavesOff a w) s = .next (State.settle ((((s.reach a.t).plainWrite 0x0A0004 w).setBru { s.bru with wavesUp := false, wavesDown := true }).waveFall.answer a .ok 0))) ∧
  (∀ (s : State) (a : Access) (w : Word),
    s.servesPriv a = true →
    F.BRU_CTRL_MARKET_OPEN.get w = 0 →
    F.BRU_CTRL_WAVES_OFF.get w = 0 →
    F.BRU_CTRL_WAVES_ON.get w = 1 →
    F.BRU_CTRL_RETRY.get w = 0 →
    exec (.wavesOn a w) s = .next (State.settle ((((s.reach a.t).plainWrite 0x0A0004 w).setBru { s.bru with wavesUp := true, wavesDown := false }).waveGo.answer a .ok 0))) ∧
  (∀ (s : State) (a : Access) (w : Word),
    s.servesPriv a = true →
    F.BRU_CTRL_MARKET_OPEN.get w = 0 →
    F.BRU_CTRL_WAVES_OFF.get w = 0 →
    F.BRU_CTRL_WAVES_ON.get w = 0 →
    F.BRU_CTRL_RETRY.get w = 1 →
    s.phase = phHalted →
    s.bru.haltPhase = phKat →
    exec (.retry a w) s = .next (State.settle ((((s.reach a.t).plainWrite 0x0A0004 w).set F.BRU_STATUS_PHASE phKat).answer a .ok 0))) ∧
  (∀ (s : State) (a : Access) (w : Word),
    s.servesPriv a = true →
    F.BRU_KAT_REQ_RUN.get w = 1 →
    s.svc = svcTest →
    s.on F.BRU_KAT_REQ_BUSY = false →
    (tileOf s.build (F.BRU_KAT_REQ_TILE.get w)).isSome = true →
    exec (.katRequest a w) s = .next (State.settle ((((s.reach a.t).setBru { s.bru with katTile := some (F.BRU_KAT_REQ_TILE.get w) }).set F.BRU_KAT_REQ_BUSY 1).answer a .ok 0))) ∧
  (∀ (s : State) (x : Nat),
    s.bru.katTile = some x →
    s.svc ≠ svcRecovery →
    exec (.katRequestDone true) s = .next (State.settle ((((s.setBru { s.bru with katTile := none }).set F.BRU_KAT_REQ_BUSY 0).set F.BRU_KAT_REQ_PASS 1).inc F.BRU_KAT_PASSED)))

/-- Asserting and releasing RESET_N, the held beacon, an accepted in-band reset and the reset records of neighbours answer the next state with exactly their own effect. -/
def Obligations.ResetCommands : Prop :=
  (∀ (s : State) (t : Nat),
    s.ports.powered = true →
    s.ports.resetLow = false →
    s.con.ckptAt = none →
    s.con.copy = none →
    s.lnk.ctl = [] →
    ∃ n, exec (.resetNAssert t) s = .next n ∧ n.ports.resetLow = true ∧ n.ports.inReset = true ∧ n.ports.jobs = [] ∧ n.ports.hwrites = []
        ∧ n.ports.gateHeld = false ∧ n.img = initImg ∧ n.scl = initScl ∧ n.red = initRed ∧ n.inf = initInf ∧ n.srv = initSrv ∧ n.tko = none
        ∧ (∀ g ∈ n.bru.gates, g.req = false) ∧ n.led = s.led ∧ n.sec.prevChain = s.sec.prevChain ∧ n.tim.epoch = s.tim.epoch
        ∧ n.build = s.build ∧ n.pending = s.pending) ∧
  (∀ (s : State) (t : Nat) (sel : Bool),
    s.ports.resetLow = true →
    s.bru.inbandDue = false →
    exec (.resetNRelease t sel) s = .next (State.settle (((s.reach t).setPorts { s.ports with resetLow := false, bootSel := sel, bootSampled := true }).leaveReset))) ∧
  (∀ (s : State),
    s.ports.resetLow = true →
    exec .resetHeldBeacon s = .next (State.settle (((s.reachNs (s.ports.resetAt / 8 + 1000000 * s.heldMs)).mgmtEach (s.reachNs (s.ports.resetAt / 8 + 1000000 * s.heldMs)).upPorts 10
        [(20, toLE 4 (s.reachNs (s.ports.resetAt / 8 + 1000000 * s.heldMs)).ident), (24, toLE 4 (s.reachNs (s.ports.resetAt / 8 + 1000000 * s.heldMs)).heldMs),
         (28, toLE 2 (s.fld F.BRU_RESET_COUNT))]).set F.BRU_RESET_HELD 1))) ∧
  (∀ (s : State) (r : Rx),
    s.ports.inReset = false →
    s.on F.BRU_BOOT_CFG_INBAND_EN = true →
    le r.bytes 20 4 % 2 ^ 20 = ((s.reach r.t).consume r).ident →
    slice r.bytes 32 16 = s.inbandMac r.bytes →
    s.nonce < le r.bytes 24 8 →
    s.on F.TIM_STATUS_CADENCE_ADOPTED = false →
    exec (.inbandReset r) s = .next (State.settle ((((((((s.reach r.t).consume r).inc F.BRU_INBAND_STAT_ACCEPTED).setPair F.BRU_NONCE_LO F.BRU_NONCE_HI (le r.bytes 24 8)).bruEvent 0x3B 0 r.port 0).assertReset 2).setBru
        { ((((((s.reach r.t).consume r).inc F.BRU_INBAND_STAT_ACCEPTED).setPair F.BRU_NONCE_LO F.BRU_NONCE_HI (le r.bytes 24 8)).bruEvent 0x3B 0 r.port 0).assertReset 2).bru with inbandDue := true })))) ∧
  (∀ (s : State),
    s.bru.inbandDue = true →
    s.ports.resetLow = false →
    exec .inbandResetRelease s = .next (State.settle (((s.reach (s.ports.resetAt + 8000)).setBru { s.bru with inbandDue := false }).leaveReset))) ∧
  (∀ (s : State) (r : Rx),
    s.tko = none →
    exec (.heldReset r) s = .next (State.settle (((((s.reach r.t).consume r).modLink r.port (fun l => { l with heldReset := true })).markAbsent (peerKey r.bytes)).bruEvent 0x3A 1 r.port (le r.bytes 24 4)))) ∧
  (∀ (s : State) (r : Rx),
    s.tko = none →
    s.uplinks.contains r.port = false →
    exec (.resetNotice r) s = .next (State.settle (((((s.reach r.t).consume r).modLink r.port (fun l => { l with heldReset := false })).setSec
        { s.sec with rounds := s.sec.rounds.map (fun x => if x.key = peerKey r.bytes then { x with chain := none } else x) }).setRed
        { s.red with absentKeys := s.red.absentKeys.filter (fun k => k.1 ≠ peerKey r.bytes) }))) ∧
  (∀ (s : State) (a : Access) (w : Word),
    s.servesPriv a = true →
    F.BRU_INBAND_SEND.get w = 1 →
    s.loaded = true →
    s.lstate (s.fld F.BRU_INBAND_TGT_PORT) = lsUp →
    ∃ n, exec (.inbandSend a w) s = .next n ∧ n.fld F.BRU_INBAND_BUSY = 1 ∧ n.bru.inbandCount = (s.bru.inbandCount + 1) % 65536
        ∧ n.ports.answer = some ⟨a.src, .ok, 0⟩ ∧ n.led = s.led ∧ n.build = s.build ∧ n.pending = s.pending)

/-- Commands of the service state, the crossbar, the host ports, the speed report and the test port answer the next state with exactly their own effect. -/
def Obligations.BlockCommands : Prop :=
  (∀ (s : State) (a : Access) (w : Word),
    s.servesPriv a = true →
    s.on F.BLK_STATE_PEND_VALID = false →
    s.svc = svcService →
    F.BLK_STATE_REQ_TARGET.get w = svcTest →
    exec (.stateRequest a w) s = .next (State.settle ((((s.reach a.t).set F.BLK_STATE_PEND_TARGET svcTest).set F.BLK_STATE_PEND_VALID 1).answer a .ok 0))) ∧
  (∀ (s : State),
    s.svc = svcRecovery →
    s.recoveryMet = true →
    exec .recoveryComplete s = .next (State.settle (s.setBru { s.bru with recDone := true }))) ∧
  (∀ (s : State) (lane i : Nat) (x : Route),
    lane < s.build.lanes →
    s.img.tabs.routes[i]? = some x →
    x.lane = lane →
    x.alarm = false →
    s.tileDown x.src = false →
    s.tileDown x.dst = false →
    s.bru.grants = [] →
    exec (.routeHandshake lane [i]) s = .next (State.settle ((s.setBru { s.bru with grants := [(lane, i)] }).add (F.BLK_LANE_WAIT lane) 0))) ∧
  (∀ (s : State) (t x : Nat),
    (tileOf s.build x).isSome = true →
    s.tileDown x = false →
    tileKind s.build x ≠ tkLedger →
    s.svc ≠ svcBringup →
    s.routed.contains x = false →
    exec (.tileHung t x) s = .next (State.settle ((((((s.reach t).setBru { s.bru with hung := s.bru.hung ++ [x], faults := s.bru.faults ++ [x] }).inc F.BLK_TILE_FAULT_COUNT).set
        F.BLK_TILE_FAULT_LAST_TILE x).log 0x02 0 x s.watchdog).alert 0))) ∧
  (∀ (s : State),
    s.tal.asked.isSome = true →
    s.ports.stallSub = [] →
    exec (.portStallTimeout 1 0) s = .next (State.settle ((((s.setPorts { s.ports with stallSub := [(1, 0)] }).set F.BLK_PORT_FAULT_STALLED (s.fld F.BLK_PORT_FAULT_STALLED ||| 2)).log
        0x03 0 129 s.portTimeout).alert 0))) ∧
  (∀ (s : State) (t : Nat),
    s.ports.stallSub = [] →
    exec (.phaseOrderBreak t 0 0) s = .next (State.settle (((((s.reach t).set F.BLK_PORT_FAULT_PROTO (s.fld F.BLK_PORT_FAULT_PROTO ||| 1)).log 0x04 0 128 0).alert 0).unstall 0 0))) ∧
  (∀ (s : State) (rate : BitVec 12),
    s.fld F.BLK_SPEED_FLOOR = 0 →
    exec (.speedWindow rate) s = .next (State.settle ((s.set F.BLK_SPEED_RATE rate.toNat).set F.BLK_SPEED_MIN_RATE (min rate.toNat (s.fld F.BLK_SPEED_MIN_RATE))))) ∧
  (∀ (s : State) (t : Nat) (x : HWrite) (rest : List HWrite),
    s.ports.hwrites = x :: rest →
    x.owner = .plan →
    exec (.hostMemoryWriteDone t 0) s = .next (State.settle ((((s.reach t).unstall 4 0).setPorts { ((s.reach t).unstall 4 0).ports with hwrites := rest }).planWritten true x.last))) ∧
  (∀ (s : State) (t : Nat) (d : BitVec 128) (j : Job) (rest : List Job),
    s.ports.bootStalled = false →
    s.ports.jobs = j :: rest →
    j.kind ≠ .dump →
    j.got.length + 16 < j.want →
    exec (.bootReadResponse t d 0) s = .next (State.settle (((s.reach t).unstall 5 0).setPorts { ((s.reach t).unstall 5 0).ports with
        jobs := { j with addr := j.addr + 16, got := j.got ++ toLE 16 d.toNat } :: rest }))) ∧
  (∀ (s : State) (t : Nat),
    s.ports.inReset = false →
    exec (.issueGateReq t) s = .next (State.settle (((s.reach t).setPorts { s.ports with gateHeld := true }).gateServe))) ∧
  (∀ (s : State) (tms tdi : Bool),
    s.testPort = true →
    s.ports.tap = 1 →
    exec (.tckEdge true tms tdi) s = .next (State.settle (s.setPorts { s.ports with tap := if tms then 2 else 1 })))

/-- A request for a power state, its completion and a neighbour's power notice answer the next state with exactly their own effect. -/
def Obligations.PowerCommands : Prop :=
  (∀ (s : State) (a : Access) (w : Word),
    s.servesPriv a = true →
    F.BLK_POWER_REQ_TARGET.get w = 1 →
    s.power = 0 →
    s.on F.BLK_POWER_PEND_VALID = false →
    (s.reach a.t).powerBarred = false →
    exec (.powerRequest a w) s = .next (State.settle (((((s.reach a.t).set F.BLK_POWER_PEND_VALID 1).set F.BLK_POWER_PEND_TARGET 1).setBru
        { s.bru with powEpoch := s.tim.epoch, powNs := (s.reach a.t).nowNs, holdRun := false }).answer a .ok 0))) ∧
  (∀ (s : State),
    s.on F.BLK_POWER_PEND_VALID = true →
    s.power = 1 →
    s.fld F.BLK_POWER_PEND_TARGET = 2 →
    s.red.retained = [] →
    exec .powerTransitionDone s = .next (State.settle ((((s.cancelPower.setPower 2).inc F.BLK_POWER_HOLD_ENTRIES).loseInHold).powerNotice))) ∧
  (∀ (s : State) (r : Rx),
    s.tko = none →
    le r.bytes 24 1 ≠ 0 →
    s.mergeFor (le r.bytes 32 6) = none →
    exec (.powerNotice r) s = .next (State.settle (((s.reach r.t).consume r).setRed { s.red with
        absentEpochs := (peerKey r.bytes, le r.bytes 32 6) :: s.red.absentEpochs.filter (fun k => k ≠ (peerKey r.bytes, le r.bytes 32 6)) })))

/-- Every register access that the block serves and allows answers the next state: a read answers the word or captures its group, a write has the register's effect, and both are answered OK. -/
def Obligations.AccessCommands : Prop :=
  (∀ (s : State) (a : Access) (addr : Nat),
    s.serves = true →
    s.judge a addr false = .ok →
    trayAddr addr = false →
    groupOf addr = none →
    exec (.registerRead a addr) s = .next (State.settle ((s.reach a.t).answer a .ok ((s.reach a.t).readWord addr)))) ∧
  (∀ (s : State) (a : Access),
    s.serves = true →
    s.judge a 0x010004 false = .ok →
    exec (.timNowCapture a) s = .next (State.settle (((s.reach a.t).capture a 0x010004 (s.reach a.t).nowWords).answer a .ok ((s.reach a.t).nowWords.headD 0)))) ∧
  (∀ (s : State) (a : Access) (addr : Nat),
    s.serves = true →
    s.judge a addr false = .ok →
    addr = 0x010044 ∨ addr = 0x01004C ∨ addr = 0x010054 ∨ addr = 0x010064 →
    exec (.pairLoCapture a addr) s = .next (State.settle (((s.reach a.t).capture a addr ((s.reach a.t).groupWords addr)).answer a .ok (((s.reach a.t).groupWords addr).headD 0)))) ∧
  (∀ (s : State) (a : Access) (ctr : Nat),
    s.serves = true →
    s.judge a (0x200000 + 16 * ctr) false = .ok →
    ctr < 131072 →
    exec (.counterWindowCapture a ctr) s = .next (State.settle (((s.reach a.t).capture a (0x200000 + 16 * ctr) ((s.reach a.t).ctrWords ctr)).answer a .ok (((s.reach a.t).ctrWords ctr).headD 0)))) ∧
  (∀ (s : State) (a : Access) (metric : Nat),
    s.serves = true →
    s.judge a (0x510000 + 64 * metric) false = .ok →
    metric < 1024 →
    exec (.sealedSumCapture a metric) s = .next (State.settle (((s.reach a.t).capture a (0x510000 + 64 * metric) ((s.reach a.t).sumWords metric)).answer a .ok (((s.reach a.t).sumWords metric).headD 0)))) ∧
  (∀ (s : State) (a : Access) (cls : Nat),
    s.serves = true →
    s.judge a (0x580000 + 64 * cls) false = .ok →
    cls < 64 →
    exec (.classLineCapture a cls) s = .next (State.settle (((s.reach a.t).capture a (0x580000 + 64 * cls) ((s.reach a.t).led.line cls).words).answer a .ok (((s.reach a.t).led.line cls).words.headD 0)))) ∧
  (∀ (s : State) (a : Access) (i : Nat),
    s.serves = true →
    s.judge a (0x600000 + 32 * i) false = .ok →
    i < 32768 →
    exec (.ledgerEntryCapture a i) s = .next (State.settle (((s.reach a.t).capture a (0x600000 + 32 * i) ((s.reach a.t).entryWords ((s.reach a.t).ledWinPos i))).answer a .ok (((s.reach a.t).entryWords ((s.reach a.t).ledWinPos i)).headD 0)))) ∧
  (∀ (s : State) (a : Access),
    s.serves = true →
    s.judge a 0x070040 false = .ok →
    exec (.mirrorCapture a) s = .next (State.settle (((s.reach a.t).capture a 0x070040 (wordsOf 16 (s.reach a.t).led.mirror)).answer a .ok ((wordsOf 16 (s.reach a.t).led.mirror).headD 0)))) ∧
  (∀ (s : State) (a : Access) (cell : Nat),
    s.serves = true →
    s.judge a (0x5A0000 + 8 * cell) false = .ok →
    cell < 256 →
    exec (.optableCapture a cell) s = .next (State.settle (((s.reach a.t).capture a (0x5A0000 + 8 * cell) [s.word (0x5A0000 + 8 * cell), s.word (0x5A0004 + 8 * cell)]).answer a .ok (s.word (0x5A0000 + 8 * cell))))) ∧
  (∀ (s : State) (a : Access) (addr : Nat) (w : Word),
    s.serves = true →
    s.judge a addr true = .ok →
    trayAddr addr = false →
    exec (.registerWrite a addr w) s = .next (State.settle ((((s.reach a.t).regEffect a addr w).markExpert addr).answer a .ok 0))) ∧
  (∀ (s : State) (a : Access) (w : Word),
    s.servesPriv a = true →
    ∃ t, exec (.h2kPost a w) s = .next t ∧ t = State.settle (((s.reach a.t).mboxWrite a (w ||| 1#32)).answer a .ok 0) ∧ t.fld F.KSK_MBOX_H2K_FULL = 1) ∧
  (∀ (s : State) (a : Access) (w : Word),
    s.servesPriv a = true →
    a.src = .kioskM →
    F.KSK_MBOX_H2K_POST.get w = 0 →
    ∃ t, exec (.h2kTaken a w) s = .next t ∧ t = State.settle (((s.reach a.t).mboxWrite a (w ||| 4#32)).answer a .ok 0) ∧ t.fld F.KSK_MBOX_H2K_FULL = 0) ∧
  (∀ (s : State) (a : Access) (w : Word),
    s.servesPriv a = true →
    a.src = .kioskM →
    ∃ t, exec (.k2hPost a w) s = .next t ∧ t = State.settle (((s.reach a.t).mboxWrite a (w ||| 16#32)).answer a .ok 0) ∧ t.fld F.KSK_MBOX_K2H_FULL = 1) ∧
  (∀ (s : State) (a : Access),
    s.servesPriv a = true →
    exec (.clrMinRate a) s = .next (State.settle (((s.reach a.t).set F.BLK_SPEED_MIN_RATE 0xFFF).answer a .ok 0)))

/-- Each of the 51 commands that clear counters leaves 0 in the words and fields it names, is answered OK, and leaves every other field as it was. -/
def Obligations.ClearingCommands : Prop :=
  Clears .blkClrDeny [0x000020] [] ∧
  Clears .blkClrLaneWait ((List.range 128).map (fun i => 0x000100 + 4 * i)) [] ∧
  Clears .blkClrState [] [F.BLK_STATE_REFUSALS] ∧
  Clears .blkClrTileFault [] [F.BLK_TILE_FAULT_COUNT] ∧
  Clears .clrRegerr [0x00002C] [] ∧
  Clears .timClrJump [0x010020] [] ∧
  Clears .timClrSync [0x010060] [] ∧
  Clears .talClrExt [0x020024] [] ∧
  Clears .talClrGen [0x020028, 0x02002C] [] ∧
  Clears .talClrStn [0x020030] [] ∧
  Clears .talClrRa [0x020044, 0x020048, 0x02004C, 0x020050, 0x020054, 0x020058] [] ∧
  Clears .talClrSample [] [F.TAL_SAMPLE_STAT_DROPPED] ∧
  Clears .sclClrConv [0x030010] [] ∧
  Clears .sclClrHist [0x030014] [] ∧
  Clears .sclClrLate [0x030018] [] ∧
  Clears .redClrMerge [0x040020] [] ∧
  Clears .redClrLate [0x040024, 0x040028] [] ∧
  Clears .redClrIncomplete [0x04002C] [F.RED_LAT_MAX_US] ∧
  Clears .redClrRetain [0x040030, 0x040034] [] ∧
  Clears .redClrStrag [0x040050] [] ∧
  Clears .infClrRow [0x05000C] [] ∧
  Clears .infClrMiss [0x050010] [] ∧
  Clears .infClrNum [0x050014] [] ∧
  Clears .infClrFault [0x050018, 0x05001C] [] ∧
  Clears .infClrWait [0x050020] [] ∧
  Clears .infClrDrift [] [F.INF_DRIFT_ALARMS] ∧
  Clears .mdlClrBudget [0x050064] [] ∧
  Clears .mdlClrCrier [0x05006C] [] ∧
  Clears .mdlClrSwap [0x050070] [F.INF_MDL_STAT_REJECTS] ∧
  Clears .trcClrChan ((List.range 64).map (fun i => 0x060100 + 4 * i)) [] ∧
  Clears .trcClrPan (F.TRC_UNROUTED.addr :: (List.range 64).flatMap (fun k => (List.range 7).map (fun i => 0x061020 + 64 * k + 4 * i))) [] ∧
  Clears .trcClrSeq ((List.range 4).map (fun q => 0x060310 + 64 * q)) [] ∧
  Clears .ledClrFold [0x070010, 0x070024] [] ∧
  Clears .ledClrLost [0x070014] [] ∧
  Clears .ledClrCorr [] [F.LED_FAULT_CORRECTED] ∧
  Clears .svcClrStat [0x080004, 0x080008] [] ∧
  Clears .svcClrDup [0x08001C, 0x080020] [] ∧
  Clears .svcClrDig [0x080028] [] ∧
  Clears .svcClrChk [0x080030] [] ∧
  Clears .svcClrPcs [] [F.SVC_PCS_DROPPED, F.SVC_STEP_SLIP, F.SVC_FT_PEND_QFULL] ∧
  Clears .lnkClrSvc [0x09000C, 0x090010, 0x090014] [] ∧
  Clears .lnkClrPort ((List.range 96).flatMap (fun p => (List.range 7).map (fun i => 0x091014 + 64 * p + 4 * i))) [] ∧
  Clears .lnkClrMisc [0x090018, 0x09002C] [F.LNK_SPLIT_SPLITS, F.LNK_TRAY_STAT_ERRORS] ∧
  Clears .bruClrKat [] [F.BRU_KAT_PASSED, F.BRU_KAT_FAILED] ∧
  Clears .bruClrWave [] [F.BRU_WAVE_STAT_OVER, F.BRU_WAVE_STAT_TIMEOUTS, F.BRU_INRUSH_PEAK] ∧
  Clears .bruClrInband [0x0A0030] [] ∧
  Clears .bruClrAnswer [0x0A003C] [] ∧
  Clears .secClrChain [0x0B003C] [] ∧
  Clears .secClrLink [0x0B0040] [] ∧
  Clears .secClrAuth [0x0B0044] [] ∧
  Clears .secClrKey [] [F.SEC_KEY_STAT_REKEYS, F.SEC_KEY_STAT_OPEN_PEERS]

/-- Each command of the counter, the servo, time over XLP and masters and backups answers the next state with exactly its own effect. -/
def Obligations.TimeCommands : Prop :=
  (∀ (s : State),
    s.on F.TIM_STATUS_TBREF_LOST = false →
    exec .tbrefLost s = .next (State.settle (((s.set F.TIM_STATUS_TBREF_LOST 1).log 0x0A 0 0 0).alert 1))) ∧
  (∀ (s : State),
    exec .tbrefReturn s = .next (State.settle (s.set F.TIM_STATUS_TBREF_LOST 0))) ∧
  (∀ (s u : State),
    s.injecting 7 = false →
    u = (s.reachNs (s.tim.lastSyncTx + 1000 * 2 ^ clampN 3 10 (s.fld F.TIM_SYNC_CFG_LOG_SYNC))) →
    s.servo = svLocked →
    exec .syncInterval s = .next (State.settle (let v := (u.setTim { u.tim with lastSyncTx := u.nowNs })
      let z := v.timeDown.foldl (fun s p => s.sendSync p) v
      z.setTim { z.tim with ptpSeq := (z.tim.ptpSeq + 1) % 2 ^ 16 }))) ∧
  -- with no link that carries time
  (∀ (s u : State),
    u = s.reachNs (s.tim.lastPdTx + 1000 * 2 ^ clampN 6 14 (s.fld F.TIM_SYNC_CFG_LOG_PDELAY)) →
    s.timePorts = [] →
    exec .pdelayInterval s = .next (State.settle (u.setTim { u.tim with lastPdTx := u.nowNs, pdSeq := (u.tim.pdSeq + 1) % 2 ^ 16 }))) ∧
  -- with one
  (∀ (s : State) (p : Nat),
    s.ports.powered = true →
    s.timePorts = [p] →
    s.tim.used.contains p = true →
    s.on (F.TIM_ASYM_EXT_VALID p) = true →
    ∃ t, exec .pdelayInterval s = .next t ∧ t.tim.pdSeq = (s.tim.pdSeq + 1) % 2 ^ 16 ∧ ∃ x ∈ t.tim.pdelay, x.port = p ∧ x.seq = s.tim.pdSeq ∧ x.t2 = none) ∧
  (∀ (s : State) (r : Rx),
    s.ports.powered = true →
    s.upstreams = [r.port] →
    s.on F.TIM_STATUS_ACTING_GM = false →
    s.tim.heard = [] →
    s.servo = svLocked →
    r.port < 96 →
    ∃ t, exec (.sync r) s = .next t ∧ t.fld F.TIM_STATUS_UP_PORT = r.port ∧ t.fld F.TIM_STATUS_GM_RANK = gmRankOf r.bytes
        ∧ t.tim.gmSource = gmSourceOf r.bytes ∧ t.tim.everSync = true ∧ t.servo = svLocked
        ∧ t.tim.syncRx = (r.port, ptpSeqId r.bytes, s.ingress r.port r.t, rxCorr r) :: s.tim.syncRx.filter (fun y => y.1 ≠ r.port)) ∧
  (∀ (s : State) (r : Rx) (tr cor off : Int),
    s.tim.syncRx = [(r.port, ptpSeqId r.bytes, tr, cor)] →
    s.on F.TIM_STATUS_ACTING_GM = false →
    s.tim.measured.contains r.port = true →
    s.servo = svAcquire →
    s.tim.samples.length < 15 →
    s.ports.powered = true →
    off = tr - (ptpNs r.bytes : Int) * 65536 - ((s.fld (F.TIM_ASYM_DELAY_MEAN_DELAY r.port) : Int) * 8192 + s.asym r.port) - (cor + rxCorr r) →
    ∃ t, exec (.followUp r) s = .next t ∧ t.fld F.TIM_OFFSET = twos 32 (off / 8192) ∧ t.servo = svAcquire
        ∧ t.tim.samples = s.tim.samples ++ [((s.reach r.t).nowNs, off)] ∧ t.tim.syncRx = []) ∧
  (∀ (s : State) (r : Rx),
    exec (.pdelayReq r) s = .next (State.settle (let u := ((s.reach r.t).consume r).useTimePort r.port
      let t2 := s.ingress r.port r.t
      let x := u.timeRec (u.ptpMsg 3 (ptpSeqId r.bytes) r.port (t2 % 65536) (t2 / 65536).toNat (slice r.bytes 36 10)) 7 0
      let v := x.2.sendPeer r.port 1 x.1
      let t3 := v.egress r.port v.stamp
      let y := v.timeRec (v.ptpMsg 10 (ptpSeqId r.bytes) r.port (t3 % 65536) (t3 / 65536).toNat (slice r.bytes 36 10)) 7 0
      y.2.sendPeer r.port 1 y.1))) ∧
  (∀ (s : State) (r : Rx) (d : Pdelay),
    s.tim.pdelay = [d] →
    d.port = r.port →
    d.seq = ptpSeqId r.bytes →
    exec (.pdelayResp r) s = .next (State.settle (((s.reach r.t).consume r).setTim { ((s.reach r.t).consume r).tim with pdelay := [{ d with t2 := some (ptpStamp r), t4 := s.ingress r.port r.t }] }))) ∧
  (∀ (s : State) (r : Rx) (t1 t2 t4 : Int),
    s.tim.pdelay = [⟨r.port, ptpSeqId r.bytes, t1, some t2, t4⟩] →
    s.ports.powered = true →
    r.port < 96 →
    ∃ t, exec (.pdelayRespFollowUp r) s = .next t
        ∧ t.fld (F.TIM_ASYM_DELAY_MEAN_DELAY r.port) = (clampI 0 (2 ^ 24 - 1) (((t4 - t1) - (ptpStamp r - t2)) / 2 / 8192)).toNat
        ∧ t.tim.measured.contains r.port = true ∧ t.tim.pdelay = []) ∧
  (∀ (s : State) (h : Heard),
    s.ports.powered = true →
    s.on F.TIM_STATUS_TBREF_LOST = false →
    s.tim.heard = [h] →
    h.port = s.fld F.TIM_STATUS_UP_PORT →
    s.on F.TIM_STATUS_ACTING_GM = false →
    s.servo = svLocked →
    ∃ t, exec .syncPortLoss s = .next t ∧ t.servo = svHoldover ∧ t.fld F.TIM_STATUS_UP_PORT = 0x7F ∧ t.tim.heard = []) ∧
  (∀ (s : State),
    s.on F.TIM_STATUS_ACTING_GM = false →
    s.fld F.TIM_GM_RANK = 0 ∧ s.tim.everSync = false ∨ 0 < s.fld F.TIM_GM_RANK ∧ s.fld F.TIM_GM_RANK < 7 ∧ (s.servo = svLocked ∨ s.servo = svHoldover) →
    exec .gmLoss s = .next (State.settle ((s.reachNs (s.tim.gmQuiet + 1000 * s.fld F.TIM_SYNC_CFG_GM_LOSS_US)).actGm))) ∧
  (∀ (s : State) (a : Access) (w : Word),
    s.servesPriv a = true →
    s.svc = svcTest ∨ s.svc = svcRecovery →
    s.on F.TIM_STATUS_ACTING_GM = false →
    ∃ t, exec (.relock a w) s = .next t ∧ t.servo = svFree ∧ t.fld F.TIM_RATE_RATE_PPT = 0 ∧ t.fld F.TIM_STATUS_UP_PORT = 0x7F
        ∧ t.tim.samples = [] ∧ t.tim.syncRx = [] ∧ t.tim.heard = [] ∧ t.tim.refusedRun = 0 ∧ t.ports.answer = some ⟨a.src, .ok, 0⟩) ∧
  (∀ (s : State) (a : Access) (w : Word),
    s.servesPriv a = true →
    s.fld F.TIM_GM_RANK = 0 →
    exec (.gmResume a w) s = .next (State.settle ((((s.reach a.t).plainWrite 0x010010 w).actGm.markExpert 0x010010).answer a .ok 0))) ∧
  (∀ (s : State) (a : Access) (w : Word),
    s.servesPriv a = true →
    s.on F.TIM_STATUS_ACTING_GM = true →
    (w.toInt.natAbs : Int) * 65536 ≤ s.jumpLimit →
    exec (.timAdj a w) s = .next (State.settle (((s.reach a.t).setTim { (s.reach a.t).tim with slew := s.tim.slew + w.toInt * 2 ^ 48 }).answer a .ok 0))) ∧
  (∀ (s : State) (a : Access) (w : Word),
    s.servesPriv a = true →
    s.on F.TIM_STATUS_ACTING_GM = false ∨ s.jumpLimit < (w.toInt.natAbs : Int) * 65536 →
    exec (.timAdj a w) s = .next (State.settle (((s.reach a.t).refuseJump w.toInt.natAbs 0x7F 1).answer a .ok 0)))

/-- Each command of the Cadence (period, seal lag, announcement, SYNC_IN, boundary, seal) and of PULSE_OUT answers the next state with exactly its own effect. -/
def Obligations.CadenceCommands : Prop :=
  (∀ (s : State) (a : Access) (w : Word),
    s.servesPriv a = true →
    s.cadenceSource = true →
    100 ≤ F.TIM_EPOCH_PERIOD_PERIOD_US.get w →
    F.TIM_EPOCH_PERIOD_PERIOD_US.get w ≤ 1000000 →
    exec (.periodWrite a w) s = .next (State.settle ((let u := (s.reach a.t).set F.TIM_EPOCH_PERIOD_PERIOD_US (F.TIM_EPOCH_PERIOD_PERIOD_US.get w)
        u.setTim { u.tim with periodSoon := some (2, 1000 * F.TIM_EPOCH_PERIOD_PERIOD_US.get w) }).answer a .ok 0))) ∧
  (∀ (s : State) (a : Access) (w : Word),
    s.servesPriv a = true →
    s.cadenceSource = true →
    F.TIM_EPOCH_PERIOD_PERIOD_US.get w < 100 ∨ 1000000 < F.TIM_EPOCH_PERIOD_PERIOD_US.get w →
    exec (.periodWrite a w) s = .next (State.settle (((s.reach a.t).set F.TIM_STATUS_PERIOD_BAD 1).answer a .ok 0))) ∧
  (∀ (s : State) (a : Access) (w : Word),
    s.servesPriv a = true →
    exec (.sealLagWrite a w) s = .next (State.settle ((((s.reach a.t).set F.TIM_SEAL_LAG_LAG_US (clampN 5 500 (F.TIM_SEAL_LAG_LAG_US.get w))).markExpert 0x01005C).answer a .ok 0))) ∧
  (∀ (s : State) (r : Rx),
    s.fld F.TIM_STATUS_UP_PORT = r.port →
    r.port ≠ 0x7F →
    s.cadenceSource = false →
    s.on F.TIM_STATUS_CADENCE_ADOPTED = false →
    s.servo = svLocked →
    s.ports.powered = true →
    (s.reach r.t).nowNs < le r.bytes 32 8 →
    le r.bytes 40 4 < 2 ^ 20 →
    ∃ t, exec (.cadenceAnnouncement r) s = .next t ∧ t.fld F.TIM_STATUS_CADENCE_ADOPTED = 1
        ∧ t.fld F.TIM_EPOCH_PERIOD_PERIOD_US = le r.bytes 40 4 ∧ t.tim.nextNs = le r.bytes 32 8 ∧ t.tim.adopt = some (le r.bytes 16 6 + 1)
        ∧ t.tim.period = 1000 * le r.bytes 40 4 ∧ t.tim.epoch = s.tim.epoch) ∧
  (∀ (s : State) (n : Nat),
    s.fld F.TIM_CTRL_SYNC_MODE = 1 →
    s.ports.inReset = false →
    exec (.syncInEdge n) s = .next (State.settle ((((s.reach n).setPair F.TIM_SYNC_LAST_LO F.TIM_SYNC_LAST_HI (n / 8)).ckptEdge).seqAll 3 n))) ∧
  (∀ (s : State),
    s.on F.TIM_STATUS_TBREF_LOST = false →
    s.ports.powered = true →
    exec .epochBoundary s = .next (State.settle ((s.reachNs s.tim.nextNs).turnEpoch s.tim.nextNs (s.tim.adopt.getD (s.tim.epoch + 1)) (s.tim.pulled.getD (s.tim.nextNs + s.tim.nextPeriod)) false false))) ∧
  (∀ (s : State) (cl : Closed),
    s.tim.closed = some cl →
    s.on F.TIM_STATUS_TBREF_LOST = false →
    exec .seal s = .next (State.settle ((s.reachNs (cl.closeNs + 1000 * cl.lag)).sealNow))) ∧
  (∀ (s : State) (a : Access) (k : Nat) (w : Word),
    s.servesPriv a = true →
    k < 8 →
    2 ≤ s.fld (F.TIM_PULSE_WIDTH k) →
    s.fld (F.TIM_PULSE_PERIOD k) = 0 ∨ 8 ≤ s.fld (F.TIM_PULSE_PERIOD k) ∧ s.fld (F.TIM_PULSE_WIDTH k) + 2 ≤ s.fld (F.TIM_PULSE_PERIOD k) →
    (s.pulse k).trailing = none →
    exec (.pulseArm a k w) s = .next (State.settle ((((s.reach a.t).plainWrite (0x012014 + 32 * k) (w ||| 1#32)).startPulse k).answer a .ok 0))) ∧
  (∀ (s : State) (a : Access) (k : Nat) (w : Word),
    s.servesPriv a = true →
    k < 8 →
    s.fld (F.TIM_PULSE_WIDTH k) < 2 →
    ∃ t, exec (.pulseArm a k w) s = .next t ∧ t.fld (F.TIM_PULSE_CTRL_BADCFG k) = 1 ∧ t.fld (F.TIM_PULSE_CTRL_ARM k) = 0 ∧ t.tim.pulses = s.tim.pulses) ∧
  (∀ (s : State) (a : Access) (k : Nat) (w : Word),
    s.servesPriv a = true →
    k < 8 →
    (s.pulse k).trailing = none →
    exec (.pulseDisarm a k w) s = .next (State.settle ((((s.reach a.t).plainWrite (0x012014 + 32 * k) (w &&& ~~~(1#32))).setPulse k { s.pulse k with armed := false, next := none }).answer a .ok 0))) ∧
  (∀ (s : State) (k n : Nat),
    (s.pulse k).next = some n →
    s.on F.TIM_STATUS_TBREF_LOST = false →
    exec (.pulseEdge k) s = .next (State.settle ((s.reachNs n).pulseFire k n))) ∧
  (∀ (s : State) (k n : Nat),
    (s.pulse k).trailing = some n →
    (s.pulse k).rearm = false →
    exec (.pulseTrailingEdge k) s = .next (State.settle ((s.reachNs n).setPulse k { s.pulse k with
        trailing := none, pin := s.pulseLevel k false, armed := (s.pulse k).armed && !(s.pulse k).stopping, stopping := false, rearm := false })))

/-- Each command of the Tally, of run-ahead tickets, of samples, of host reports and of Scales answers the next state with exactly its own effect; a report first feeds the metrics and triggers that name it. -/
def Obligations.TallyCommands : Prop :=
  (∀ (s : State),
    s.tallyRuns = true →
    s.act F.TAL_CTRL_SWEEP_EN = 1 →
    s.tal.sweepAt = none →
    exec .sweepPassStart s = .next (State.settle ((s.setTal { s.tal with sweepAt := some 0, passStart := s.nowNs }).askNext))) ∧
  (∀ (s u : State),
    u = s.reachNs (s.tim.nextNs - s.prepassNs) →
    u.tallyRuns = true →
    u.act F.TAL_CTRL_BRACKET_EN = 1 →
    u.tal.preDone = false →
    exec .bracketPrepass s = .next (State.settle ((u.setTal { u.tal with bracket := u.tal.bracket ++ u.bracketList, preDone := true }).askNext))) ∧
  (∀ (s u : State) (t id : Nat) (value : BitVec 48) (gen status : BitVec 4) (c : Ctr),
    s.tal.asked = some (0, id) →
    s.tallyRuns = true →
    u = (((s.reach t).unstall 1 0).setTal { s.tal with asked := none }) →
    bit status.toNat stFault = false →
    bit status.toNat stNotCounting = false →
    gen.toNat = s.fld (F.MAP_A_GEN id) →
    s.ctrMode id = 0 →
    id < 131072 →
    c = { s.ctr id with status := status.toNat, gen := gen.toNat } →
    exec (.tallyReadResponse t value gen status) s = .next (State.settle (((u.putCtr { s.ctr id with status := status.toNat }).extendCtr c t value.toNat status.toNat).askNext))) ∧
  (∀ (s : State) (t id : Nat) (value : BitVec 48) (gen status : BitVec 4),
    s.tal.asked = some (0, id) →
    s.tallyRuns = true →
    bit status.toNat stFault = true →
    exec (.tallyReadResponse t value gen status) s = .next (State.settle ((((((s.reach t).unstall 1 0).setTal { s.tal with asked := none }).putCtr { s.ctr id with status := status.toNat }).inc F.TAL_STN_STAT_FAULT).askNext))) ∧
  (∀ (s : State) (id : Nat),
    4 ≤ (s.ctr id).mmEpochs →
    (s.ctr id).mmTold = false →
    exec (.genStuck id) s = .next (State.settle ((((s.putCtr { s.ctr id with mmTold := true }).inc F.TAL_GEN_STAT_STUCK).log 0x10 0 id 0).alertIf F.TAL_CTRL_ALERT_EN 2))) ∧
  (∀ (s : State) (a : Access) (id : Nat) (w : Word),
    s.serves = true →
    s.judge a (0x400000 + 8 * id) true = .ok →
    id < 131072 →
    s.tim.closed = none →
    exec (.mapEntryWrite a id w) s = .next (State.settle ((((s.reach a.t).mapApply id w).markExpert (0x400000 + 8 * id)).answer a .ok 0))) ∧
  (∀ (s : State) (a : Access) (id : Nat) (w : Word),
    s.serves = true →
    s.judge a (0x400000 + 8 * id) true = .ok →
    id < 131072 →
    s.tim.closed.isSome = true →
    exec (.mapEntryWrite a id w) s = .next (State.settle ((((s.reach a.t).setTal { s.tal with held := s.tal.held ++ [(id, w)] }).markExpert (0x400000 + 8 * id)).answer a .ok 0))) ∧
  (∀ (s : State) (t : Nat) (typ : Byte) (body : BitVec 120),
    s.ports.powered = true →
    s.ports.inReset = false →
    s.srv.fifo.length < 256 →
    s.typeKnown typ.toNat = true →
    exec (.serviceReportArrival t typ body) s = .next (State.settle ((s.reach t).setSrv { s.srv with fifo := s.srv.fifo ++ [(typ, ⟨t, body⟩)] }))) ∧
  (∀ (s : State) (t : Nat) (typ : Byte) (body : BitVec 120),
    s.ports.powered = true →
    s.ports.inReset = false →
    256 ≤ s.srv.fifo.length →
    digestType typ.toNat = false →
    typ ≠ 0x21 →
    typ ≠ 0x13 →
    exec (.serviceReportArrival t typ body) s = .next (State.settle ((s.reach t).inc F.SVC_DROP_OTHER))) ∧
  (∀ (s u : State) (r : Report) (id : Nat) (k : EvtInfo),
    u = (s.takeReport 0x10 r).feedReport 0x10 r →
    id = repCtr r 0x10 1 2 →
    u.on (F.MAP_A_PRESENT id) = true →
    u.ctrMode id = 2 →
    u.evtInfo (u.fld (F.MAP_A_EVENT id)) = some k →
    k.postOk = true →
    u.act F.TAL_CTRL_RA_EN = 1 →
    u.tal.tickets = [] →
    u.tal.entryCount = 0 →
    u.tim.closed = none →
    exec (.raPost r) s = .next (State.settle (let c := u.ctr id
      let v := u.putCtr { c with ext := (c.ext + rf r 0x10 3) % 2 ^ 64, ts := some r.t, vOpen := some (c.vOpen.getD 0) }
      ((v.setTal { v.tal with tickets := [⟨rf r 0x10 0, [⟨id, rf r 0x10 3, u.tim.epoch, false, false⟩], 0⟩] }).inc F.TAL_RA_POSTED).raCount))) ∧
  (∀ (s u : State) (r : Report),
    u = (s.takeReport 0x11 r).feedReport 0x11 r →
    u.tal.tickets.any (fun k => k.num = rf r 0x11 0) = true →
    exec (.raCommit r) s = .next (State.settle (((u.setTal { u.tal with tickets := u.tal.tickets.filter (fun k => k.num ≠ rf r 0x11 0) }).inc F.TAL_RA_COMMITTED).raCount))) ∧
  (∀ (s u : State) (r : Report),
    u = (s.takeReport 0x12 r).feedReport 0x12 r →
    u.tal.tickets.any (fun k => k.num = rf r 0x12 0) = true →
    exec (.raCancel r) s = .next (State.settle (((u.cancelTicket (rf r 0x12 0) 1).2.inc F.TAL_RA_CANCELLED).retractOwn (u.cancelTicket (rf r 0x12 0) 1).1))) ∧
  (∀ (s : State) (k : Ticket),
    s.tal.tickets.find? (fun x => x.num = k.num) = some k →
    s.raTimeout ≤ k.age →
    exec (.raTicketExpiry k.num) s = .next (State.settle ((((s.cancelTicket k.num 2).2.inc F.TAL_RA_EXPIRED).log 0x11 0 k.num k.entries.length).retractOwn (s.cancelTicket k.num 2).1))) ∧
  (∀ (s u : State) (r : Report) (id : Nat) (c : Ctr),
    u = (s.takeReport 0x13 r).feedReport 0x13 r →
    id = repCtr r 0x13 0 1 →
    u.on (F.MAP_A_PRESENT id) = true →
    u.ctrMode id = 1 →
    u.act F.TAL_CTRL_SAMPLE_EN ≠ 0 →
    u.bankAt r.t = some false →
    u.tal.sampled < u.fld F.TAL_SAMPLE_CFG_MAX_PER_EPOCH →
    u.evtInfo (u.fld (F.MAP_A_EVENT id)) = none →
    c = u.ctr id →
    exec (.sample r) s = .next (State.settle (let v := u.putCtr { c with samples := c.samples + 1 }
      let z := v.setTal { v.tal with sampled := u.tal.sampled + 1 }
      let x := z.originateBare 0x32 4 1 (z.fld (F.MAP_B_OWNER id)) (r.t / 8) [(16, toLE 8 (rf r 0x13 3)), (24, toLE 2 (rf r 0x13 2)),
        (26, toLE 2 (z.fld (F.MAP_A_EVENT id))), (28, toLE 4 (rf r 0x13 0 + 4096 * rf r 0x13 1)), (32, toLE 2 0), (34, toLE 2 0), (36, toLE 1 0)]
      (x.2.toRoute F.TRC_ROUTE_SAMPLE x.1).release))) ∧
  (∀ (s : State) (typ : Byte) (r : Report),
    ((s.takeReport typ.toNat r).hostFields typ.toNat).isEmpty = false →
    exec (.hostReport typ r) s = .next (State.settle ((s.takeReport typ.toNat r).feedReport typ.toNat r))) ∧
  (∀ (s : State) (v : MetricValue) (closing : Bool),
    s.collects = true →
    v.metric < 1024 →
    s.act F.SCL_CTRL_ACC_EN ≠ 0 →
    s.bankAt v.t = some closing →
    exec (.scalesValue v) s = .next (State.settle (s.putRaw closing v.metric v.raw.toNat (tsNs (v.t / 8)) v.tag.toNat v.flags 0 0))) ∧
  (∀ (s : State) (v : MetricValue),
    s.collects = true →
    v.metric < 1024 →
    s.act F.SCL_CTRL_ACC_EN ≠ 0 →
    s.bankAt v.t = none →
    s.act F.SCL_CTRL_LATE_MODE ≠ 1 →
    exec (.scalesValue v) s = .next (State.settle ((s.inc F.SCL_LATE_STAT_FOLDED).putRaw false v.metric v.raw.toNat (tsNs (v.t / 8)) v.tag.toNat (v.flags ||| mfLateIn) 0 0)))

/-- Each command of the reduction tree answers the next state with exactly its own effect: a record received at a merge point is hashed into its sender's round and taken, and elsewhere it goes on upward. -/
def Obligations.ReductionCommands : Prop :=
  -- at a merge point
  (∀ (s u : State) (r : Rx) (parts : List Bytes) (k : Child),
    u = (s.reach r.t).consume r →
    u.tko = none →
    u.loaded = true →
    u.merging = true →
    childFor (u.kidsAt (le r.bytes 16 6)) (recKey r.bytes) r.port = some k →
    exec (.childSummary r parts) s = .next (State.settle (((r.bytes :: parts).foldl State.hashRec (u.openRound (recKey r.bytes))).takeSummary ⟨r.bytes, parts⟩ r.port k (recKey r.bytes) none))) ∧
  -- and elsewhere
  (∀ (s u : State) (r : Rx) (parts : List Bytes),
    u = (s.reach r.t).consume r →
    u.tko = none →
    u.loaded = true →
    u.merging = false →
    exec (.childSummary r parts) s = .next (State.settle ((r.bytes :: parts).foldl (fun s b => s.sendUp 3 b) u))) ∧
  -- the own node merges; the node taken over, when there is one, then does the same
  (∀ (s : State) (m : MergeSt),
    s.oldestMerge (fun m => !m.started) = some m →
    s.merging = true →
    s.injecting 4 = false →
    exec .mergeDeadline s = .next (State.settle (((s.reachNs (m.sealNs + 1000 * max 1 (s.fld F.RED_WAIT_WAIT_US))).startMerge m.epoch).asTakeover State.mergeDeadline))) ∧
  (∀ (s : State) (m : MergeSt),
    s.injecting 4 = false →
    s.oldestMerge (fun m => m.started && !m.complete) = some m →
    exec .mergeComplete s = .next (State.settle (((s.modMerge m.epoch (fun m => { m with complete := true })).forwardIfDone m.epoch).asTakeover State.mergeComplete))) ∧
  (∀ (s u : State) (r : Rx) (recs : List Bytes),
    u = (s.reach r.t).consume r →
    u.tko = none →
    u.loaded = true →
    u.merging = false →
    exec (.lateBundle r recs) s = .next (State.settle ((r.bytes :: recs).foldl (fun s b => s.sendUp 3 b) u))) ∧
  (∀ (s u : State) (r : Rx) (recs : List Bytes) (k : Child) (head : Bytes),
    u = (s.reach r.t).consume r →
    u.tko = none →
    u.loaded = true →
    u.merging = true →
    bundleChild u.children (recKey r.bytes) r.port = some k →
    k.excl = false →
    childFor u.children (recKey r.bytes) r.port = none →
    recs.find? (fun b => recKind b = 0x20) = some head →
    u.mergeStarted (le r.bytes 16 6) = true →
    u.isRoot = false →
    exec (.lateBundle r recs) s = .next (State.settle (
        let late := recs.filter (fun b => recKind b = 0x25)
        let v := u.setRed { u.red with vals := late.map (fun b => ⟨recSource b, le b 16 6, readValues b, recKey head, true⟩) ++ u.red.vals }
        if u.bundleFault recs = 0 then
          if v.lateWindow = 0 || v.lateWindow < v.tim.epoch - le r.bytes 16 6 then v.inc F.RED_LATE_STAT_EXPIRED
          else
            let z := v.setRed { v.red with lateKeys := ((le r.bytes 16 6, recKey head) :: v.red.lateKeys).take 8192 }
            let o := z.retainUp (le r.bytes 16 6) (recSeq r.bytes) (le head 46 2) (r.bytes :: recs) (r.bytes :: recs) [(k.key, r.port, recSeq r.bytes)] z.uplinks
            if o.level ≠ 2 then o
            else (o.red.vals.filter (fun y => y.epoch = le r.bytes 16 6 && y.late && y.fromKey = recKey head)).foldl (fun (s : State) y =>
              (if s.act F.RED_CTRL_STRAG_EN = 1 then s.scoreLate (le r.bytes 16 6) y.src y.entries else s).childRows (le r.bytes 16 6) y.src y.entries
                (((o.inf.past.find? (fun p => p.1 = le r.bytes 16 6)).map (fun p => p.2)).getD []) true) o
        else if u.bundleFault recs = 1 then u.chainFail F.SEC_CHAIN_STAT_GAP (le r.bytes 24 4) 5
        else if u.bundleFault recs = 2 then u.chainFail F.SEC_CHAIN_STAT_HASH_FAIL (le r.bytes 24 4) 5
        else u.chainFail F.SEC_CHAIN_STAT_SIG_FAIL (le r.bytes 24 4) 6))) ∧
  (∀ (s u : State) (r : Rx),
    u = (s.reach r.t).consume r →
    u.tko = none →
    u.loaded = true →
    u.merging = true →
    exec (.contributorRecord r) s = .next (State.settle (let v := u.hashRec r.bytes
      v.setRed { v.red with maps := (le r.bytes 16 6, recKey r.bytes, mapSlots r.bytes) :: v.red.maps.filter (fun m =>
        !(m.1 = le r.bytes 16 6 && m.2.1 = recKey r.bytes) && v.tim.epoch ≤ m.1 + v.lateWindow + 1) }))) ∧
  (∀ (s u : State) (r : Rx),
    u = (s.reach r.t).consume r →
    u.tko = none →
    u.loaded = true →
    u.merging = true →
    (u.hashRec r.bytes).tim.epoch - le r.bytes 16 6 ≤ (u.hashRec r.bytes).lateWindow →
    (u.hashRec r.bytes).mergeStarted (le r.bytes 16 6) = false →
    exec (.retractionRecord r) s = .next (State.settle (let v := u.hashRec r.bytes
      (v.setRed { v.red with retr := v.red.retr ++ [(le r.bytes 16 6, r.bytes)] }).inc F.RED_CORR_STAT_APPLIED))) ∧
  (∀ (s u : State) (r : Rx),
    u = (s.reach r.t).consume r →
    u.tko = none →
    u.loaded = true →
    u.merging = false →
    exec (.sourceValueRecord r) s = .next (State.settle (u.sendUp 3 r.bytes))) ∧
  (∀ (s u : State) (r : Rx),
    u = (s.reach r.t).consume r →
    u.tko = none →
    u.loaded = true →
    u.merging = true →
    u.level ≠ 1 →
    childFor u.children (recKey r.bytes) r.port = none →
    exec (.sourceValueRecord r) s = .next (State.settle (let v := u.hashRec r.bytes
      let x : SrcVals := ⟨recSource r.bytes, le r.bytes 16 6, readValues r.bytes, recKey r.bytes, v.mergeStarted (le r.bytes 16 6)⟩
      v.setRed { v.red with vals := x :: v.red.vals.filter (fun y => !(y.src = recSource r.bytes && y.epoch = le r.bytes 16 6)
        && v.tim.epoch ≤ y.epoch + v.lateWindow + 1) }))) ∧
  (∀ (s u : State) (r : Rx),
    u = (s.reach r.t).consume r →
    u.tko = none →
    u.loaded = true →
    u.merging = true →
    exec (.stragglerRecord r) s = .next (State.settle (let v := u.hashRec r.bytes
      v.setRed { v.red with lists := (le r.bytes 16 6, readRanks r.bytes) :: v.red.lists.filter (fun l => v.tim.epoch ≤ l.1 + v.lateWindow + 1) }))) ∧
  (∀ (s u : State) (r : Rx),
    u = (s.reach r.t).consume r →
    u.tko = none →
    u.level < 3 →
    exec (.referenceRecord r) s = .next (State.settle (let b := r.bytes
      let es : List (Nat × Int × Int) := (List.range (le b 22 2)).map (fun i =>
        (le b (32 + 24 * i) 2 % 1024, sext 64 (le b (40 + 24 * i) 8), sext 64 (le b (48 + 24 * i) 8)))
      u.setRed { u.red with refs := es.map (fun e => (le b 16 6, e)) ++ u.red.refs.filter (fun r => r.1 ≠ le b 16 6 && le b 16 6 < r.1 + 16) }))) ∧
  (∀ (s u : State) (r : Rx) (x : Retained),
    u = (s.reach r.t).consume r →
    u.tko = none →
    u.red.retained = [x] →
    x.epoch = le r.bytes 24 6 →
    x.seq = le r.bytes 32 4 →
    x.kids = [] →
    exec (.epochAck r) s = .next (State.settle (u.setRed { u.red with retained := [] }))) ∧
  (∀ (s : State) (a : Access) (w : Word),
    s.servesPriv a = true →
    s.tim.epoch < s.fld F.RED_DRL_EPOCH_LO + 2 ^ 32 * s.fld F.RED_DRL_EPOCH_HI →
    exec (.derailleurCommit a w) s = .next (State.settle (let u := (s.reach a.t).plainWrite 0x040040 w
      ((u.setRed { s.red with drlTarget := some (s.fld F.RED_DRL_EPOCH_LO + 2 ^ 32 * s.fld F.RED_DRL_EPOCH_HI) }).set F.RED_DRL_CTRL_PENDING 1).answer a .ok 0))) ∧
  (∀ (s : State) (a : Access) (w : Word),
    s.servesPriv a = true →
    s.fld F.RED_DRL_EPOCH_LO + 2 ^ 32 * s.fld F.RED_DRL_EPOCH_HI ≤ s.tim.epoch →
    exec (.derailleurCommit a w) s = .next (State.settle ((((s.reach a.t).plainWrite 0x040040 w).set F.RED_DRL_CTRL_LATE 1).answer a .ok 0)))

/-- Each command of the inference engine, of the model slots and of the Crier answers the next state with exactly its own effect. -/
def Obligations.ModelCommands : Prop :=
  (∀ (s : State) (n : Nat) (err : StoreErr) (x : Row) (rest : List Row),
    (s.slot n).rows = x :: rest →
    s.con.inject = none →
    x.kind = 0 →
    x.late = false →
    exec (.rowScored n err) s = .next (State.settle (s.rowDone n err))) ∧
  -- a row of a version no longer held is dropped
  (∀ (s : State) (n : Nat) (x : Row) (rest : List Row),
    s.ports.powered = true →
    (s.slot n).rows = x :: rest →
    s.con.inject = none →
    s.inf.slots.any (fun y => y.num = n) = true →
    x.kind = 0 →
    x.gen ≠ (s.slot n).gen →
    x.gen ≠ (s.slot n).oldGen →
    ∃ t, exec (.rowScored n .none) s = .next t ∧ (t.slot n).rows = rest) ∧
  (∀ (s : State) (m : MergeSt),
    s.oldestMerge (fun m => !m.ready) = some m →
    exec .epochBudgetExpiry s = .next (State.settle (((s.reachNs (m.sealNs + 1000 * s.fld F.INF_BUDGET_EPOCH_US)).overrun 1 m.epoch).ownReady m.epoch))) ∧
  (∀ (s : State) (m : MergeSt),
    s.tko = none →
    s.oldestMerge (fun m => m.started && !m.sent) = some m →
    exec .childBudgetExpiry s = .next (State.settle ((((s.reachNs (m.startNs + 1000 * s.fld F.INF_BUDGET_CHILD_US)).overrun 2 m.epoch).modMerge m.epoch (fun m => { m with childOver := true })).forwardIfDone m.epoch))) ∧
  (∀ (s : State) (n t : Nat) (v : MetricValue) (im : Bytes) (q : Int) (g : Nat),
    s.infers = true →
    s.act F.INF_CTRL_STREAM_EN ≠ 0 →
    (s.slot n).suspended = false →
    (toFixed (rawVal (s.metricDef false v.metric).fmt v.raw.toNat) (s.metricDef false v.metric).frac).1 = some q →
    (s.slot n).version (s.epochOf t) = (g, some im) →
    mKind im = 0 →
    ((s.slot n).rows.filter (fun r => r.kind = 0)).length < 64 →
    exec (.streamTrigger n t v) s = .next (State.settle ((s.reach t).queueRow n im ⟨0, s.epochOf t, t, (s.reach t).nowNs,
        rowInputs im ⟨s.scl.bank, s.inf.last, (List.range 16).map (fun f => (f, v.metric, q)), []⟩, s.ident, g, false⟩))) ∧
  (∀ (s : State) (a : Access) (d : Nat) (w : Word),
    s.serves = true →
    s.judge a (0x560010 + 32 * d) true = .ok →
    d < 512 →
    exec (.driftReset a d w) s = .next (State.settle (((((((s.reach a.t).plainWrite (0x560010 + 32 * d) w).set (F.DRIFT_S d) 0).set (F.DRIFT_M d) 0).set (F.DRIFT_CTL_DRIFTING d) 0).markExpert (0x560010 + 32 * d)).answer a .ok 0))) ∧
  (∀ (s u : State) (a : Access) (w : Word),
    s.servesPriv a = true →
    u = ((s.reach a.t).plainWrite 0x050040 w) →
    u.fld F.INF_MDL_STAT_LOAD_STATE = 0 →
    u.on F.INF_MDL_CTRL_SRC = false →
    exec (.modelLoad a w) s = .next (State.settle (let v := u.set F.INF_MDL_STAT_SLOT u.mdlSlot
      let j : Job := ⟨.model u.mdlSlot, v.pair F.INF_MDL_SRC_LO F.INF_MDL_SRC_HI / 16 * 16, v.fld F.INF_MDL_LEN_LENGTH, [], true⟩
      (((v.setPorts { v.ports with jobs := v.ports.jobs ++ [j] }).set F.INF_MDL_STAT_LOAD_STATE 1).noteLoad a).answer a .ok 0))) ∧
  (∀ (s u : State) (n : Nat) (b : Bytes) (err : Bool),
    s.inf.fetched = some (n, b, err) →
    u = s.setInf { s.inf with fetched := none } →
    exec .modelFetchComplete s = .next (State.settle (
        if u.modelCause n b err = 0 then
          let v := if storeKib u.build < u.usedKib + u.shadowKib + mKib b then u.abandon 2 else u
          ((v.modSlot n (fun x => { x with next := some b, target := none })).set F.INF_MDL_STAT_LOAD_STATE 3).set F.INF_MDL_STAT_DONE 1
        else
          ((if u.modelCause n b err = 1 then u.authReject n 1 else u).mdlReject n (u.modelCause n b err)).set F.INF_MDL_STAT_LOAD_STATE 0))) ∧
  (∀ (s u : State) (a : Access) (w : Word),
    s.servesPriv a = true →
    u = ((s.reach a.t).plainWrite 0x050040 w) →
    (u.slot u.mdlSlot).next.isSome = true →
    u.tim.epoch < u.mdlTarget →
    ((u.slot u.mdlSlot).next.map mCatId) = some (u.fld F.SCL_CAT_ID) →
    exec (.modelCommit a w) s = .next (State.settle (((u.modSlot u.mdlSlot (fun x => { x with target := some u.mdlTarget, suspended := false, suspendNext := false })).set F.INF_MDL_STAT_LOAD_STATE 4).answer a .ok 0))) ∧
  (∀ (s u : State) (a : Access) (w : Word),
    s.servesPriv a = true →
    u = ((s.reach a.t).plainWrite 0x050040 w) →
    (u.slot u.mdlSlot).next.isSome = true →
    u.mdlTarget ≤ u.tim.epoch →
    exec (.modelCommit a w) s = .next (State.settle ((u.mdlReject u.mdlSlot 9).answer a .ok 0))) ∧
  (∀ (s u : State) (a : Access) (w : Word),
    s.servesPriv a = true →
    u = ((s.reach a.t).plainWrite 0x050040 w) →
    (u.slot u.mdlSlot).cur.isSome = true →
    u.tim.epoch < u.mdlTarget →
    exec (.modelUnload a w) s = .next (State.settle ((u.modSlot u.mdlSlot (fun x => { x with unload := some u.mdlTarget })).answer a .ok 0))) ∧
  (∀ (s u : State) (a : Access) (w : Word),
    s.servesPriv a = true →
    u = ((s.reach a.t).plainWrite 0x050040 w) →
    (u.slot u.mdlSlot).next.isSome = true →
    exec (.modelAbort a w) s = .next (State.settle (((u.set F.INF_MDL_STAT_LOAD_STATE 0).modSlot u.mdlSlot (fun x => { x with next := none, target := none, unload := none })).answer a .ok 0))) ∧
  (∀ (s u : State) (a : Access) (w : Word),
    s.servesPriv a = true →
    u = ((s.reach a.t).plainWrite 0x050040 w) →
    (u.slot u.mdlSlot).suspended = true →
    exec (.modelResume a w) s = .next (State.settle ((u.modSlot u.mdlSlot (fun x => { x with resume := true })).answer a .ok 0))) ∧
  (∀ (s u : State) (r : Rx),
    u = (s.reach r.t).consume r →
    u.crier.seen.any (fun p => p.1 = recIdent r.bytes && u.tim.epoch ≤ p.2 + 1) = true →
    exec (.alarmRecord r) s = .next (State.settle (u.inc F.INF_CRIER_STAT_DUP))) ∧
  (∀ (s u : State) (r : Rx) (p : Nat),
    u = (s.reach r.t).consume r →
    u.crier.seen.any (fun p => p.1 = recIdent r.bytes && u.tim.epoch ≤ p.2 + 1) = false →
    u.upNow = some p →
    exec (.alarmRecord r) s = .next (State.settle (let v := u.setCrier { u.crier with seen := (recIdent r.bytes, u.tim.epoch) :: u.crier.seen }
      (v.sendPeer p 0 r.bytes).sendEach (v.sendPeer p 0 r.bytes).alarmCopies 0 r.bytes)))

/-- Each command of the trace port, the sequencers, the codec and the Pannier streams answers the next state with exactly its own effect. -/
def Obligations.TraceCommands : Prop :=
  (∀ (s u : State) (n c : Nat) (head : BitVec 64) (conts : List (BitVec 64)) (p : Pkt),
    c < 16 →
    conts.length = bits head.toNat 63 60 →
    u = s.reach n →
    p = ⟨c, n, head.toNat :: conts.map (fun w => w.toNat), false⟩ →
    u.serves = true →
    u.collects = true →
    u.on F.TRC_CTRL_EN = true →
    u.on (F.TRC_CHAN_EN c) = true →
    badType p.typ = false →
    (u.chan c).stalled = none →
    u.pktFits p = true →
    exec (.tracePacket n c head conts) s = .next (State.settle ((u.acceptPkt p).release))) ∧
  (∀ (s u : State) (n c : Nat) (head : BitVec 64) (conts : List (BitVec 64)) (p : Pkt),
    c < 16 →
    conts.length = bits head.toNat 63 60 →
    u = s.reach n →
    p = ⟨c, n, head.toNat :: conts.map (fun w => w.toNat), false⟩ →
    u.serves = true →
    u.collects = false ∨ u.on F.TRC_CTRL_EN = false ∨ u.on (F.TRC_CHAN_EN c) = false →
    exec (.tracePacket n c head conts) s = .next (State.settle ((u.inc (F.TRC_CHAN_STAT_FILT c)).release))) ∧
  (∀ (s u : State) (n c : Nat) (head : BitVec 64) (conts : List (BitVec 64)) (p : Pkt),
    c < 16 →
    conts.length = bits head.toNat 63 60 →
    u = s.reach n →
    p = ⟨c, n, head.toNat :: conts.map (fun w => w.toNat), false⟩ →
    u.serves = true →
    u.collects = true →
    u.on F.TRC_CTRL_EN = true →
    u.on (F.TRC_CHAN_EN c) = true →
    badType p.typ = false →
    (u.chan c).stalled = none →
    u.pktFits p = false →
    u.on (F.TRC_CHAN_STALL_EN c) = true →
    (u.chan c).discarding = false →
    exec (.tracePacket n c head conts) s = .next (State.settle (((u.inc (F.TRC_CHAN_STAT_STALL_STALLS c)).modChan c (fun ch => { ch with stalled := some p, stalledNs := u.nowNs })).release))) ∧
  (∀ (s u : State) (n c : Nat) (head : BitVec 64) (conts : List (BitVec 64)) (p : Pkt),
    c < 16 →
    conts.length = bits head.toNat 63 60 →
    u = s.reach n →
    p = ⟨c, n, head.toNat :: conts.map (fun w => w.toNat), false⟩ →
    u.serves = true →
    u.collects = true →
    u.on F.TRC_CTRL_EN = true →
    u.on (F.TRC_CHAN_EN c) = true →
    badType p.typ = false →
    (u.chan c).stalled = none →
    u.pktFits p = false →
    u.on (F.TRC_CHAN_STALL_EN c) = false →
    exec (.tracePacket n c head conts) s = .next (State.settle ((u.dropPkt p).release))) ∧
  (∀ (s : State) (c : Nat) (p : Pkt),
    (s.chan c).stalled = some p →
    s.fld F.TRC_LIMITS_STALL_LIMIT_US ≠ 0 →
    exec (.traceStallTimeout c) s = .next (State.settle (let u := (s.reachNs ((s.chan c).stalledNs + 1000 * s.fld F.TRC_LIMITS_STALL_LIMIT_US)).inc (F.TRC_CHAN_STAT_STALL_STALL_TIMEOUTS c)
      (u.modChan c (fun ch => { ch with stalled := none, discarding := true })).dropPkt p))) ∧
  (∀ (s : State) (q n : Nat),
    q < 4 →
    n = s.pair (F.TRC_SEQ_TIME_LO q) (F.TRC_SEQ_TIME_HI q) →
    exec (.seqTimeEvent q) s = .next (State.settle (((s.reachNs n).seqEvent q 7 (8 * n)).release))) ∧
  (∀ (s : State) (a : Access) (q : Nat) (w : Word),
    s.serves = true →
    s.judge a (0x060300 + 64 * q) true = .ok →
    q < 4 →
    exec (.seqFire a q w) s = .next (State.settle (let u := (s.reach a.t).plainWrite (0x060300 + 64 * q) w
      ((u.seqEvent q 5 u.stamp).release.markExpert (0x060300 + 64 * q)).answer a .ok 0))) ∧
  (∀ (s : State) (a : Access) (q : Nat) (w : Word),
    s.serves = true →
    s.judge a (0x060300 + 64 * q) true = .ok →
    q < 4 →
    exec (.seqRestart a q w) s = .next (State.settle (let u := (s.reach a.t).plainWrite (0x060300 + 64 * q) w
      (((u.set (F.TRC_SEQ_STATE q) 0).setTrc { s.trc with
        seqBytes := modNth s.trc.seqBytes q (fun _ => 0), seqPost := modNth s.trc.seqPost q (fun _ => false) }).markExpert (0x060300 + 64 * q)).answer a .ok 0))) ∧
  (∀ (s : State) (k : Nat) (b : Block),
    (s.pan k).block = some b →
    s.fld F.TRC_LIMITS_FLUSH_US ≠ 0 →
    exec (.blockAgeExpiry k) s = .next (State.settle ((((s.reachNs (b.openedNs + 1000 * s.fld F.TRC_LIMITS_FLUSH_US)).closeEarly k false).drain k).release))) ∧
  (∀ (s : State) (k : Nat) (b : Block),
    (s.pan k).closed = some b →
    (s.pan k).frame = none →
    exec (.blockCoded k) s = .next (State.settle (let u := (s.wrapInc (F.TRC_PAN_BLOCK_SEQ k)).modPan k (fun p => { p with
        frame := some (b.toFrame k (s.fld (F.TRC_PAN_BLOCK_SEQ k))), origBytes := p.origBytes + b.size })
      ((u.set (F.TRC_PAN_ORIG_KIB k) ((u.pan k).origBytes / 1024)).push k).release))) ∧
  (∀ (s : State) (a : Access) (w : Word),
    s.servesPriv a = true →
    exec (.traceFlush a w) s = .next (State.settle (let u := (s.reach a.t).plainWrite 0x060004 w
      (u.flushStreams (u.namedStreams w) (bit w.toNat 7)).release.answer a .ok 0))) ∧
  (∀ (s : State) (a : Access) (w : Word),
    s.servesPriv a = true →
    exec (.traceSync a w) s = .next (State.settle (let u := (s.reach a.t).plainWrite 0x060008 w
      (((u.namedStreams w).filter (fun k => u.isTraceStream k && u.takesItems k)).foldl (fun s k =>
        (s.modPan k (fun p => { p with syncWanted := true })).drain k) u).answer a .ok 0))) ∧
  (∀ (s u : State) (a : Access) (k : Nat) (w : Word),
    s.serves = true →
    s.judge a (0x06100C + 64 * k) true = .ok →
    k < streams s.build →
    u = (s.reach a.t).plainWrite (0x06100C + 64 * k) w →
    u.panState k ≠ paRun →
    u.panState k ≠ paWait →
    u.panState k ≠ paExhausted →
    exec (.pannierStart a k w) s = .next (State.settle (((((u.modPan k (fun p => { p with ringed := false })).atHead k).drain k).release.markExpert (0x06100C + 64 * k)).answer a .ok 0))) ∧
  (∀ (s u : State) (a : Access) (k : Nat) (w : Word),
    s.serves = true →
    s.judge a (0x06100C + 64 * k) true = .ok →
    k < streams s.build →
    u = (s.reach a.t).plainWrite (0x06100C + 64 * k) w →
    u.panState k = paRun ∨ u.panState k = paWait ∨ u.panState k = paExhausted →
    exec (.pannierStart a k w) s = .next (State.settle (((u.badCmd k).release.markExpert (0x06100C + 64 * k)).answer a .ok 0))) ∧
  (∀ (s u : State) (a : Access) (k : Nat) (w : Word),
    s.serves = true →
    s.judge a (0x06100C + 64 * k) true = .ok →
    k < streams s.build →
    u = (s.reach a.t).plainWrite (0x06100C + 64 * k) w →
    u.panState k = paExhausted →
    exec (.pannierAppend a k w) s = .next (State.settle (((u.atHead k).release.markExpert (0x06100C + 64 * k)).answer a .ok 0))) ∧
  (∀ (s u : State) (a : Access) (k : Nat) (w : Word),
    s.serves = true →
    s.judge a (0x06100C + 64 * k) true = .ok →
    k < streams s.build →
    u = (s.reach a.t).plainWrite (0x06100C + 64 * k) w →
    u.panState k ≠ paExhausted →
    exec (.pannierAppend a k w) s = .next (State.settle (((u.badCmd k).release.markExpert (0x06100C + 64 * k)).answer a .ok 0))) ∧
  (∀ (s u : State) (a : Access) (k : Nat) (w : Word),
    s.serves = true →
    s.judge a (0x06100C + 64 * k) true = .ok →
    k < streams s.build →
    u = (s.reach a.t).plainWrite (0x06100C + 64 * k) w →
    u.on (F.TRC_PAN_STAT_STOP_PENDING k) = false →
    u.panState k = paRun ∨ u.panState k = paWait ∨ u.panState k = paExhausted →
    (u.pan k).block.isSome = true ∨ (u.pan k).frame.isSome = true →
    exec (.pannierStop a k w) s = .next (State.settle (((((u.set (F.TRC_PAN_STAT_STOP_PENDING k) 1).closeEarly k true).stopCheck k).release.markExpert (0x06100C + 64 * k)).answer a .ok 0))) ∧
  (∀ (s : State) (k addr : Nat),
    k < streams s.build →
    s.panState k = paWait →
    (s.pan k).nextAddr = some addr →
    exec (.pannierPoll k) s = .next (State.settle ((s.reachNs ((s.pan k).pollNs + 1000 * max 1 (s.fld F.TRC_LIMITS_POLL_US))).fetchDesc k addr)))

/-- Each command of the Ledger (fold stage, queue, entry write, read-back, fold time) answers the next state with exactly its own effect. -/
def Obligations.LedgerCommands : Prop :=
  (∀ (s u : State) (e : LEvt),
    oldestEvt s.led.held = some e →
    s.ports.inReset = false →
    u = (s.setLed { s.led with held := eraseFirst (fun h => h == e) s.led.held }).touch 1 (64 * e.cls) →
    exec .ledgerFold s = .next (State.settle (match u.led.match_ e with
        | some x => u.foldInto x e
        | none =>
          if u.led.state = 2 then u.mirrorEvent e
          else if u.led.queue.length < 16 then (u.setLed { u.led with queue := u.led.queue ++ [e] }).noteLoss
          else u.loseEvent e))) ∧
  -- a new entry is opened
  (∀ (s : State) (e : LEvt) (rest : List LEvt),
    s.ports.inReset = false →
    s.led.writing = none →
    s.led.due = [] →
    s.led.queue = e :: rest →
    s.led.match_ e = none →
    s.led.state ≠ 2 →
    s.led.slots.length < 8 →
    exec .ledgerQueueTake s = .next (State.settle (((s.setLed { s.led with queue := rest }).openEntry e).noteLoss))) ∧
  -- a repeat folds
  (∀ (s : State) (e : LEvt) (rest : List LEvt) (x : LSlot),
    s.ports.inReset = false →
    s.led.writing = none →
    s.led.due = [] →
    s.led.queue = e :: rest →
    s.led.match_ e = some x →
    exec .ledgerQueueTake s = .next (State.settle (((s.setLed { s.led with queue := rest }).foldInto x e).noteLoss))) ∧
  -- with eight entries open the oldest is closed first
  (∀ (s : State) (e : LEvt) (rest : List LEvt) (x : LSlot),
    s.ports.inReset = false →
    s.led.writing = none →
    s.led.due = [] →
    s.led.queue = e :: rest →
    s.led.match_ e = none →
    s.led.state ≠ 2 →
    8 ≤ s.led.slots.length →
    oldestSlot s.led.slots = some x →
    exec .ledgerQueueTake s = .next (State.settle ((s.setLed (s.led.close x.ent.seq flEvicted)).inc F.LED_FOLD_EVICTIONS))) ∧
  (∀ (s u : State) (q : Nat) (rest : List Nat) (x : LSlot),
    s.ports.inReset = false →
    s.led.writing = none →
    s.led.state ≠ 2 →
    s.led.due = q :: rest →
    s.led.slots.find? (fun y => y.ent.seq = q) = some x →
    u = s.touch 1 (4096 + 32 * x.ent.pos) →
    exec .ledgerEntryWrite s = .next (State.settle (u.setLed { u.led.putSram x.ent.pos x.ent with due := rest, writing := some x.ent }))) ∧
  (∀ (s u : State) (e : LEntry),
    s.led.writing = some e →
    s.con.failRead = false →
    u = (s.setLed { s.led with writing := none }).setCon { s.con with failRead := false } →
    exec (.ledgerReadback .ok) s = .next (State.settle (u.ledMerge e))) ∧
  (∀ (s u : State) (e : LEntry),
    s.led.writing = some e →
    s.con.failRead = false →
    u = (s.setLed { s.led with writing := none }).setCon { s.con with failRead := false } →
    exec (.ledgerReadback .single) s = .next (State.settle ((u.inc F.LED_FAULT_CORRECTED).ledMerge e))) ∧
  (∀ (s u : State) (e : LEntry),
    s.led.writing = some e →
    s.con.failRead = false →
    u = (s.setLed { s.led with writing := none }).setCon { s.con with failRead := false } →
    exec (.ledgerReadback .double) s = .next (State.settle ((u.ledMerge { e with isOpen := true }).ledRetire e 1))) ∧
  (∀ (s u : State) (e : LEntry),
    s.led.writing = some e →
    s.con.failRead = false →
    u = (s.setLed { s.led with writing := none }).setCon { s.con with failRead := false } →
    exec (.ledgerReadback .verify) s = .next (State.settle ((u.ledMerge { e with isOpen := true }).ledRetire e 2))) ∧
  (∀ (s : State) (q : Nat) (x : LSlot),
    s.led.slots.find? (fun y => y.ent.seq = q) = some x →
    x.closing = false →
    exec (.ledgerFoldTimeout q) s = .next (State.settle (let u := s.reachNs (max x.ent.last x.shadow.last + s.foldNs)
      u.setLed (u.led.close q 0))))

/-- Each command of the host services (digests, duplicate sampling, checks and field tests, stepping, latches, samples and operation counts, dumps) answers the next state with exactly its own effect. -/
def Obligations.ServiceCommands : Prop :=
  (∀ (s u v : State) (r : Report),
    u = s.takeReport 0x25 r →
    u.svcOn F.SVC_CTRL_DIG_EN = true →
    v = u.feedReport 0x25 r →
    (v.digestKey (rf r 0x25 3)).isSome = true →
    v.srv.colls.length < collLimit v.build →
    v.srv.colls.any (fun x => x.coll = rf r 0x25 0) = false →
    rf r 0x25 3 ≤ v.epochOf r.t →
    v.epochOf r.t ≤ rf r 0x25 3 + 3 →
    v.hub = true ∨ rf r 0x25 2 / 2 ^ 17 = v.ident / 2 ^ 17 →
    exec (.digOpen r) s = .next (State.settle (v.setSrv { v.srv with
        colls := v.srv.colls ++ [⟨rf r 0x25 0, rf r 0x25 1, rf r 0x25 2, rf r 0x25 3, BitVec.ofNat 64 ((v.digestKey (rf r 0x25 3)).getD 0), 0, 0, false, 0⟩] }))) ∧
  (∀ (s u v : State) (r : Report),
    u = s.takeReport 0x26 r →
    u.svcOn F.SVC_CTRL_DIG_EN = true →
    v = u.feedReport 0x26 r →
    v.srv.colls.any (fun x => x.coll = rf r 0x26 0) = true →
    exec (.digTap r) s = .next (State.settle (v.setSrv { v.srv with colls := v.srv.colls.map (fun (x : Coll) => if x.coll = rf r 0x26 0 then
        { x with digest := x.digest ^^^ gf64Mul (BitVec.ofNat 64 (rf r 0x26 2)) (gf64Pow x.key (rf r 0x26 1 + 1)), taps := x.taps + 1 } else x) }))) ∧
  (∀ (s u v : State) (r : Report) (k : Coll),
    u = s.takeReport 0x27 r →
    u.svcOn F.SVC_CTRL_DIG_EN = true →
    v = u.feedReport 0x27 r →
    v.srv.colls.find? (fun x => x.coll = rf r 0x27 0) = some k →
    exec (.digClose r) s = .next (State.settle (v.closeColl k (v.epochOf r.t) (r.t / 8) (rf r 0x27 1) false))) ∧
  (∀ (s : State) (n : Nat) (k : Coll),
    s.srv.colls.find? (fun x => x.coll = n) = some k →
    max 1 (s.fld F.SVC_DIG_CFG_COLL_TIMEOUT) ≤ k.age →
    exec (.collTimeout n) s = .next (State.settle (s.closeColl k s.tim.epoch s.nowNs 0 true))) ∧
  (∀ (s u : State) (r : Rx),
    u = (s.reach r.t).consume r →
    u.tko = none →
    u.loaded = true →
    u.merging = true →
    2 ≤ (u.hashRec r.bytes).level →
    exec (.digestRecord r) s = .next (State.settle ((u.hashRec r.bytes).digestTake r.bytes))) ∧
  (∀ (s u : State) (r : Rx),
    u = (s.reach r.t).consume r →
    u.tko = none →
    u.loaded = true →
    u.merging = false →
    exec (.digestRecord r) s = .next (State.settle (u.sendUp 3 r.bytes))) ∧
  (∀ (s : State),
    s.isRoot = true →
    exec .digestPairExpiry s = .next (State.settle (let due := s.srv.held.filter (fun h => h.2 + s.fld F.SVC_DIG_CFG_PAIR_WINDOW ≤ s.tim.epoch)
      let rest := s.srv.held.filter (fun h => !(h.2 + s.fld F.SVC_DIG_CFG_PAIR_WINDOW ≤ s.tim.epoch))
      (due.map (fun h => h.1)).foldl (fun (s : State) b => s.unpaired b) (s.setSrv { s.srv with held := rest })))) ∧
  (∀ (s : State),
    s.svcOn F.SVC_CTRL_DUP_EN = true →
    s.srv.plans.any (fun p => p.epoch = s.tim.epoch + 1) = false →
    exec .dupPlanWrite s = .next (State.settle (let e := s.tim.epoch + 1
      let p : DupPlan := ⟨e, s.logRate, s.hostTiles, s.sampleKey, s.srv.snap.1, s.srv.snap.2, false, []⟩
      let at_ := s.pair F.SVC_PLAN_LO F.SVC_PLAN_HI / 64 * 64 + (e % 2) * 0x8040
      let masks := padTo 64 ((List.range p.tiles).flatMap (fun t => toLE 8 (p.mask t)))
      let u := s.setSrv { s.srv with plans := s.srv.plans ++ [p] }
      u.setPorts { u.ports with hwrites := u.ports.hwrites ++ (hwriteLines (at_ + 64) .plan masks ++
        [⟨at_, layout 64 [(0, 6, e), (8, 2, p.tiles), (10, 1, p.logRate)], .plan, true⟩]) }))) ∧
  -- equal results
  (∀ (s u v : State) (r : Report) (p : DupPlan),
    u = s.takeReport 0x28 r →
    u.svcOn F.SVC_CTRL_DUP_EN = true →
    v = u.feedReport 0x28 r →
    rf r 0x28 0 < v.hostTiles →
    rf r 0x28 2 < v.hostTiles →
    v.srv.plans.find? (fun p => p.epoch % 256 = rf r 0x28 3 && p.epoch ≤ v.tim.epoch && v.tim.epoch < p.epoch + v.resultWindow) = some p →
    p.selects (rf r 0x28 0) (rf r 0x28 1) = true →
    p.reported.contains (rf r 0x28 0, rf r 0x28 1) = false →
    rf r 0x28 4 = rf r 0x28 5 →
    exec (.dupResult r) s = .next (State.settle ((v.setSrv { v.srv with plans := v.srv.plans.map (fun (q : DupPlan) => if q.epoch = p.epoch then { q with reported := (rf r 0x28 0, rf r 0x28 1) :: q.reported } else q) }).wrapInc F.SVC_DUP_MATCH))) ∧
  -- results that differ
  (∀ (s u v : State) (r : Report) (p : DupPlan),
    u = s.takeReport 0x28 r →
    u.svcOn F.SVC_CTRL_DUP_EN = true →
    v = u.feedReport 0x28 r →
    rf r 0x28 0 < v.hostTiles →
    rf r 0x28 2 < v.hostTiles →
    v.srv.plans.find? (fun p => p.epoch % 256 = rf r 0x28 3 && p.epoch ≤ v.tim.epoch && v.tim.epoch < p.epoch + v.resultWindow) = some p →
    p.selects (rf r 0x28 0) (rf r 0x28 1) = true →
    p.reported.contains (rf r 0x28 0, rf r 0x28 1) = false →
    rf r 0x28 4 ≠ rf r 0x28 5 →
    rf r 0x28 2 = rf r 0x28 0 →
    exec (.dupResult r) s = .next (State.settle (let t := rf r 0x28 0
      let x := v.setSrv { v.srv with plans := v.srv.plans.map (fun (q : DupPlan) => if q.epoch = p.epoch then { q with reported := (t, rf r 0x28 1) :: q.reported } else q) }
      let y := ((x.touchTile t).inc F.SVC_DUP_STAT_MISMATCH).inc (F.HTILE_DUP_DUP_MISMATCH t)
      (y.finding (r.t / 8) (x.epochOf r.t) 3 t t (rf r 0x28 1) (rf r 0x28 4) (rf r 0x28 5)).charge t (r.t / 8) (x.epochOf r.t)))) ∧
  (∀ (s : State) (p : DupPlan),
    s.srv.plans.find? (fun p => p.epoch + s.resultWindow ≤ s.tim.epoch) = some p →
    exec .dupResultWindowClose s = .next (State.settle (let u := s.setSrv { s.srv with plans := s.srv.plans.filter (fun q => q.epoch ≠ p.epoch) }
      (List.range p.tiles).foldl (fun (s : State) t =>
        let n := ((List.range 64).filter (fun i => p.selects t i && !p.reported.contains (t, i))).length
        if n = 0 then s else ((s.touchTile t).add F.SVC_DUP_STAT_MISSED n).add (F.HTILE_DUP_MISSED t) n) u))) ∧
  (∀ (s u v : State) (r : Report) (k : Nat),
    u = s.takeReport 0x29 r →
    u.svcOn F.SVC_CTRL_CHK_EN = true →
    v = u.feedReport 0x29 r →
    rf r 0x29 0 < v.hostTiles →
    k = (if rf r 0x29 1 = 0xFFF then rf r 0x29 0 else rf r 0x29 1) →
    k < v.hostTiles →
    exec (.poison r) s = .next (State.settle (let x := ((v.touchTile k).inc F.SVC_CHK_STAT_POISON).inc (F.HTILE_POISON k)
      (x.finding (r.t / 8) (x.epochOf r.t) 4 k (rf r 0x29 0) (rf r 0x29 2) (64 * rf r 0x29 3) 0).charge k (r.t / 8) (x.epochOf r.t)))) ∧
  -- equal values
  (∀ (s u v : State) (r : Report),
    u = s.takeReport 0x2A r →
    u.svcOn F.SVC_CTRL_CHK_EN = true →
    v = u.feedReport 0x2A r →
    rf r 0x2A 0 < v.hostTiles →
    rf r 0x2A 1 < v.hostTiles →
    rf r 0x2A 4 = rf r 0x2A 5 →
    exec (.check r) s = .next (State.settle (v.inc F.SVC_CHK_STAT_EQUAL))) ∧
  -- values that differ
  (∀ (s u v : State) (r : Report),
    u = s.takeReport 0x2A r →
    u.svcOn F.SVC_CTRL_CHK_EN = true →
    v = u.feedReport 0x2A r →
    rf r 0x2A 0 < v.hostTiles →
    rf r 0x2A 1 < v.hostTiles →
    rf r 0x2A 4 ≠ rf r 0x2A 5 →
    exec (.check r) s = .next (State.settle (let k := rf r 0x2A 1
      let x := ((v.touchTile k).inc F.SVC_CHK_STAT_CHECK_FAIL).inc (F.HTILE_POISON_CHECK_FAIL k)
      (x.finding (r.t / 8) (x.epochOf r.t) 5 k (rf r 0x2A 0) (rf r 0x2A 2 + 2 ^ 24 * rf r 0x2A 3) (rf r 0x2A 4) (rf r 0x2A 5)).charge k (r.t / 8) (x.epochOf r.t)))) ∧
  (∀ (s u v : State) (r : Report),
    u = s.takeReport 0x2B r →
    u.svcOn F.SVC_CTRL_CHK_EN = true →
    v = u.feedReport 0x2B r →
    rf r 0x2B 0 < v.hostTiles →
    rf r 0x2B 1 ≠ 0 →
    v.act F.SVC_CTRL_CHARGE_NAN = 0 →
    exec (.numeric r) s = .next (State.settle (((v.touchTile (rf r 0x2B 0)).inc F.SVC_CHK_STAT_NAN_REPORTS).inc (F.HTILE_NAN_NAN_REPORTS (rf r 0x2B 0))))) ∧
  (∀ (s u v : State) (r : Report),
    u = s.takeReport 0x2B r →
    u.svcOn F.SVC_CTRL_CHK_EN = true →
    v = u.feedReport 0x2B r →
    rf r 0x2B 0 < v.hostTiles →
    rf r 0x2B 1 = 0 →
    exec (.numeric r) s = .next (State.settle (v))) ∧
  -- a pass
  (∀ (s u v : State) (r : Report) (k : Nat),
    u = s.takeReport 0x2C r →
    (u.testsRun && u.act F.SVC_CTRL_FT_EN = 1) = true →
    v = u.feedReport 0x2C r →
    k = rf r 0x2C 0 →
    k < v.hostTiles →
    v.tileState k = 1 ∨ v.tileState k = 2 →
    rf r 0x2C 1 = 1 →
    exec (.ftResult r) s = .next (State.settle ((((v.touchTile k).set (F.HTILE_STATE k) 0).set (F.HTILE_STATE_SCORE k) 0).inc (F.HTILE_NAN_FT_PASS k)))) ∧
  -- a failure
  (∀ (s u v : State) (r : Report) (k : Nat),
    u = s.takeReport 0x2C r →
    (u.testsRun && u.act F.SVC_CTRL_FT_EN = 1) = true →
    v = u.feedReport 0x2C r →
    k = rf r 0x2C 0 →
    k < v.hostTiles →
    v.tileState k = 1 ∨ v.tileState k = 2 →
    rf r 0x2C 1 = 0 →
    exec (.ftResult r) s = .next (State.settle ((((v.touchTile k).set (F.HTILE_STATE k) 3).inc (F.HTILE_NAN_FT_FAIL k)).finding (r.t / 8) ((((v.touchTile k).set (F.HTILE_STATE k) 3).inc (F.HTILE_NAN_FT_FAIL k)).epochOf r.t) 8 k 0 (rf r 0x2C 2) (rf r 0x2C 3) 0))) ∧
  (∀ (s : State) (k e : Nat),
    s.act F.SVC_CTRL_FT_EN = 1 →
    s.tileState k = 1 ∨ s.tileState k = 2 →
    s.srv.ftAsked.find? (fun x => x.1 = k) = some (k, e) →
    e + max 1 (s.fld F.SVC_FT_TIMEOUT) ≤ s.tim.epoch →
    exec (.ftTimeout k) s = .next (State.settle (s.ftRequest k))) ∧
  (∀ (s : State) (a : Access) (w : Word) (k : Nat),
    s.servesPriv a = true →
    k = F.SVC_FT_REQ_TILE.get w →
    s.act F.SVC_CTRL_FT_EN = 1 →
    s.testsRun = true →
    k < s.hostTiles →
    s.tileState k = 0 →
    exec (.ftReqTest a w) s = .next (State.settle (((((s.reach a.t).touchTile k).set (F.HTILE_STATE k) 2).ftRequest k).answer a .ok 0))) ∧
  (∀ (s : State) (a : Access) (w : Word) (k : Nat),
    s.servesPriv a = true →
    k = F.SVC_FT_REQ_TILE.get w →
    k < s.hostTiles →
    s.tileState k = 3 →
    exec (.ftReqClear a w) s = .next (State.settle ((((s.reach a.t).touchTile k).set (F.HTILE_STATE k) 0).answer a .ok 0))) ∧
  (∀ (s : State) (a : Access) (w : Word),
    s.servesPriv a = true →
    exec (.ftAck a w) s = .next (State.settle ((((s.reach a.t).plainWrite 0x080058 w).setSrv { s.srv with ftq := s.srv.ftq.tail }).showQueue.answer a .ok 0))) ∧
  (∀ (s : State) (a : Access) (w : Word) (u : State),
    s.servesPriv a = true →
    u = (if s.svc = svcTest then ((s.reach a.t).set F.SVC_STEP_MODE (F.SVC_STEP_MODE.get w)).setSrv { s.srv with broke := s.srv.broke && s.fld F.SVC_STEP_MODE = F.SVC_STEP_MODE.get w } else s.reach a.t) →
    exec (.stepGrant a w) s = .next (State.settle ((u.add F.SVC_STEP_CREDIT (F.SVC_STEP_GRANT.get w)).gateServe.answer a .ok 0))) ∧
  (∀ (s : State) (a : Access) (w : Word) (u : State),
    s.servesPriv a = true →
    u = (if s.svc = svcTest then ((s.reach a.t).set F.SVC_STEP_MODE (F.SVC_STEP_MODE.get w)).setSrv { s.srv with broke := s.srv.broke && s.fld F.SVC_STEP_MODE = F.SVC_STEP_MODE.get w } else s.reach a.t) →
    exec (.stepModeWrite a w) s = .next (State.settle ((u.add F.SVC_STEP_CREDIT (F.SVC_STEP_GRANT.get w)).gateServe.answer a .ok 0))) ∧
  (∀ (s u v : State) (r : Report) (m : Mark),
    u = (s.takeReport 0x20 r).breakMark r →
    u.svcOn F.SVC_CTRL_LATCH_EN = true →
    v = u.feedReport 0x20 r →
    v.srv.running = none →
    m = ⟨r.t, v.epochOf r.t, rf r 0x20 0, rf r 0x20 1 = 1, rf r 0x20 2, v.bracketing⟩ →
    exec (.cmdMark r) s = .next (State.settle (let z := v.setSrv { v.srv with running := some m }
      (z.setTal { z.tal with latchLeft := z.latchSet, latched := [] }).askNext))) ∧
  (∀ (s u : State) (m : Mark),
    s.srv.running = some m →
    s.tal.latchLeft = [] →
    s.tal.asked = none →
    u = s.latchRecord m →
    u.srv.marks = [] →
    exec .latchPassDone s = .next (State.settle (((u.setTal { u.tal with latched := [] }).setSrv { u.srv with running := none }).release))) ∧
  (∀ (s u v : State) (r : Report),
    u = s.takeReport 0x21 r →
    u.svcOn F.SVC_CTRL_PCS_EN = true →
    v = u.feedReport 0x21 r →
    v.srv.pcs < v.fld F.SVC_PCS_MAX_PER_EPOCH →
    exec (.pcSample r) s = .next (State.settle (let z := v.setSrv { v.srv with pcs := v.srv.pcs + 1 }
      let x := z.originateBare 0x33 4 1 0 (r.t / 8) [(16, toLE 8 (rf r 0x21 1)), (24, toLE 2 (rf r 0x21 0)), (26, toLE 1 (rf r 0x21 2))]
      (x.2.toRoute F.TRC_ROUTE_SERVICE x.1).release))) ∧
  -- a cell not yet counted
  (∀ (s u v : State) (r : Report) (k : Nat),
    u = s.takeReport 0x22 r →
    u.svcOn F.SVC_CTRL_OPS_EN = true →
    v = u.feedReport 0x22 r →
    k = 16 * rf r 0x22 0 + rf r 0x22 1 →
    v.srv.ops.find? (fun x => x.1 = k) = none →
    exec (.opcount r) s = .next (State.settle (v.setSrv { v.srv with ops := (k, min (2 ^ 64 - 1) (rf r 0x22 2)) :: v.srv.ops.filter (fun x => x.1 ≠ k) }))) ∧
  -- a cell that holds a count; it saturates
  (∀ (s u v : State) (r : Report) (k n : Nat),
    u = s.takeReport 0x22 r →
    u.svcOn F.SVC_CTRL_OPS_EN = true →
    v = u.feedReport 0x22 r →
    k = 16 * rf r 0x22 0 + rf r 0x22 1 →
    v.srv.ops.find? (fun x => x.1 = k) = some (k, n) →
    exec (.opcount r) s = .next (State.settle (v.setSrv { v.srv with ops := (k, min (2 ^ 64 - 1) (n + rf r 0x22 2)) :: v.srv.ops.filter (fun x => x.1 ≠ k) }))) ∧
  (∀ (s u v : State) (r : Report),
    u = s.takeReport 0x23 r →
    u.dumpsRun = true →
    v = u.feedReport 0x23 r →
    v.on F.SVC_DUMP_CTRL_ARM = true →
    rf r 0x23 0 = v.fld F.SVC_DUMP_ID_TENSOR_ID →
    rf r 0x23 1 = v.fld F.SVC_DUMP_STEP →
    exec (.tensorTag r) s = .next (State.settle (v.setSrv { v.srv with tag := some (rf r 0x23 0, rf r 0x23 1, 64 * rf r 0x23 2) }))) ∧
  (∀ (s u v : State) (r : Report) (step addr : Nat),
    u = s.takeReport 0x24 r →
    u.dumpsRun = true →
    v = u.feedReport 0x24 r →
    v.srv.tag = some (rf r 0x24 0, step, addr) →
    v.on F.SVC_DUMP_CTRL_ARM = true →
    v.srv.dump = none →
    rf r 0x24 1 ≠ 0 →
    exec (.tensorLen r) s = .next (State.settle (let d : Dump := { tensor := rf r 0x24 0, step := step, addr := addr, total := 64 * rf r 0x24 1, hostCrc := rf r 0x24 2, crcValid := rf r 0x24 3 = 1, held := v.on F.SVC_DUMP_CTRL_HOLD, epoch := v.epochOf r.t, offset := 0, chunk := [], chunkNs := v.nowNs, crc := 0xFFFFFFFF#32 }
      let z := ((v.set F.SVC_DUMP_CTRL_ARM 0).set F.SVC_DUMP_CTRL_BUSY 1).setSrv { v.srv with tag := none, dump := some d }
      z.setPorts { z.ports with jobs := z.ports.jobs ++ [⟨.dump, addr, 64 * rf r 0x24 1, [], true⟩] }))) ∧
  (∀ (s : State) (a : Access) (w : Word),
    s.servesPriv a = true →
    s.svc = svcTest →
    exec (.dumpArm a w) s = .next (State.settle ((((s.reach a.t).plainWrite 0x08004C w).setSrv { s.srv with tag := none }).answer a .ok 0))) ∧
  (∀ (s : State) (a : Access) (w : Word),
    s.servesPriv a = true →
    s.svc ≠ svcTest →
    exec (.dumpArm a w) s = .next (State.settle ((((s.reach a.t).plainWrite 0x08004C (F.SVC_DUMP_CTRL_HOLD.put w (s.fld F.SVC_DUMP_CTRL_HOLD))).setSrv { s.srv with tag := none }).answer a .ok 0)))

/-- Each command of the link layer (groups out and in, silence, link up, ageing) and of Control requests answers the next state with exactly its own effect. -/
def Obligations.LinkCommands : Prop :=
  -- a group to resend
  (∀ (s u : State) (p t : Nat) (l : LinkSt) (g : List Bytes) (rest : List (List Bytes)),
    u = s.reach t →
    u.link p = some l →
    u.lstate p ≠ lsDown →
    u.ports.powered = true →
    l.resend = g :: rest →
    exec (.groupSend p t) s = .next (State.settle ((u.modLink p (fun (l : LinkSt) => { l with resend := rest, prev := g.tail, wire := g })).inc (F.LNK_PORT_REPLAY_REPLAYS p)))) ∧
  -- a new group
  (∀ (s u v : State) (p t : Nat) (l : LinkSt),
    u = s.reach t →
    u.link p = some l →
    u.lstate p ≠ lsDown →
    u.ports.powered = true →
    l.resend = [] →
    l.sentGroups.length < 64 →
    v = (u.fillSlots p t 15).2.inbandLeft p →
    exec (.groupSend p t) s = .next (State.settle (v.modLink p (fun (l : LinkSt) =>
        let xs := (u.fillSlots p t 15).1
        let g := v.controlFlit l l.gseq (xs.map (fun x => x.1)) :: xs.map (fun x => x.2)
        { l with gseq := (l.gseq + 1) % 2 ^ 32, prev := g.tail, wire := g, sentGroups := l.sentGroups ++ [g], askRetry := false })))) ∧
  -- an intact group in order, none held before it
  (∀ (s u : State) (p t : Nat) (g : List Bytes) (l : LinkSt) (ctl : Bytes),
    u = s.reach t →
    u.link p = some l →
    u.lstate p ≠ lsDown →
    u.ports.powered = true →
    ctl = slice (g.headD []) 0 64 →
    le ctl 60 4 = crc32c (ctl.take 60) →
    l.rxHeld = none →
    le ctl 0 4 = l.rxNext →
    exec (.groupReceived p t g) s = .next (State.settle ((u.controlRx p ctl).modLink p (fun (l : LinkSt) => { l with rxHeld := some (ctl :: (List.range 15).map (fun i => slice (g.tail.getD i []) 0 64)), rxHeldT := t, rxNext := (le ctl 0 4 + 1) % 2 ^ 32, waiting := false })))) ∧
  -- an intact group in order: the one held before it is delivered
  (∀ (s u : State) (p t : Nat) (g h : List Bytes) (l : LinkSt) (ctl : Bytes),
    u = s.reach t →
    u.link p = some l →
    u.lstate p ≠ lsDown →
    u.ports.powered = true →
    ctl = slice (g.headD []) 0 64 →
    le ctl 60 4 = crc32c (ctl.take 60) →
    l.rxHeld = some h →
    le ctl 28 4 = crc32c h.tail.flatten →
    le ctl 0 4 = l.rxNext →
    exec (.groupReceived p t g) s = .next (State.settle (((u.deliverGroup p l.rxHeldT h).controlRx p ctl).modLink p (fun (l : LinkSt) => { l with rxHeld := some (ctl :: (List.range 15).map (fun i => slice (g.tail.getD i []) 0 64)), rxHeldT := t, rxNext := (le ctl 0 4 + 1) % 2 ^ 32, waiting := false })))) ∧
  -- a bad group
  (∀ (s u : State) (p t : Nat) (g : List Bytes) (l : LinkSt) (ctl : Bytes),
    u = s.reach t →
    u.link p = some l →
    u.lstate p ≠ lsDown →
    u.ports.powered = true →
    ctl = slice (g.headD []) 0 64 →
    le ctl 60 4 ≠ crc32c (ctl.take 60) →
    l.rxHeld = none →
    exec (.groupReceived p t g) s = .next (State.settle ((u.modLink p (fun (x : LinkSt) => { x with rxHeld := none, rxNext := l.rxNext, askRetry := true, waiting := true })).inc (F.LNK_PORT_REPLAY_GROUP_ERR p)))) ∧
  (∀ (s : State) (p : Nat),
    s.lstate p ≠ lsDown →
    exec (.linkSilenceTimeout p) s = .next (State.settle (let a := s.modLink p (fun _ => { newLink p with heldReset := (s.link p).any (fun l => l.heldReset) })
      let b := a.setLnk { a.lnk with sess := a.lnk.sess.filter (fun x => x.port ≠ p) }
      let c := b.setTim { b.tim with used := b.tim.used.filter (fun x => x ≠ p) }
      let d := (c.setLstate p lsDown).inc (F.LNK_PORT_MISC_DOWN_COUNT p)
      (if d.fld F.BRU_INBAND_TGT_PORT = p then d.set F.BRU_INBAND_BUSY 0 else d).eachNode State.upCheck))) ∧
  (∀ (s u v : State) (p t : Nat),
    u = s.reach t →
    p < u.build.ports →
    u.lstate p = lsDown →
    u.ports.powered = true →
    u.portBarred p = false →
    v = (u.modLink p (fun _ => newLink p)).setLstate p lsHello →
    exec (.linkUp p t) s = .next (State.settle ((v.sendHello p).sendNotice p))) ∧
  -- one aged frame of class 0 or 4 is dropped
  (∀ (s : State) (p n : Nat) (l : LinkSt) (f : Frame),
    s.link p = some l →
    l.txq = [f] →
    s.ageLimit f = some n →
    f.since + n ≤ s.nowNs →
    f.cls ≠ 1 →
    f.cls ≠ 2 →
    exec (.frameAgeExpiry p) s = .next (State.settle ((s.modLink p (fun (l : LinkSt) => { l with txq := l.txq.filter (fun x =>
        !((s.ageLimit x).any (fun n => x.since + n ≤ s.nowNs) && (x.cls ≠ 1 || newerOf [f] x))) })).inc (F.LNK_PORT_MISC_AGED p)))) ∧
  -- a request is queued
  (∀ (s u : State) (r : Rx),
    u = (s.reach r.t).consume r →
    u.ports.inReset = false →
    u.power ≠ 2 →
    1 < u.fld F.BRU_STATUS_PHASE →
    u.loaded = true →
    (bit (crAddr r.bytes) 47 && u.hub) = false →
    crPriv r.bytes = false →
    u.preOpen = false →
    u.lnk.ctl.length < 64 →
    (u.lnk.ctl.filter (fun y => !y.priv && y.stall = recStall r.bytes)).length < max 1 (u.fld F.LNK_SVC_STALL_OUT) →
    exec (.controlRequest r) s = .next (State.settle (let q := ctlOf r.port u.nowNs r.enc false r.bytes
      u.setLnk { u.lnk with ctl := u.lnk.ctl ++ [{ q with addr := if bit q.addr 47 then q.addr % 2 ^ 24 else q.addr }] }))) ∧
  -- a unit held in reset answers ABSENT
  (∀ (s u : State) (r : Rx),
    u = (s.reach r.t).consume r →
    u.ports.inReset = true →
    exec (.controlRequest r) s = .next (State.settle (u.respondAbsent (ctlOf r.port u.nowNs r.enc (crPriv r.bytes) r.bytes)))) ∧
  -- the tray access that waited is answered OK
  (∀ (s u : State) (r : Rx) (o : CtlOut),
    u = (s.reach r.t).consume r →
    le r.bytes 20 1 = stOk ∨ le r.bytes 20 1 = stLate →
    u.lnk.out.find? (fun o => o.txn = crTxn r.bytes) = some o →
    o.tray = true →
    exec (.controlResponse r) s = .next (State.settle (let v := u.setLnk { u.lnk with out := u.lnk.out.filter (fun y => y.txn ≠ crTxn r.bytes) }
      v.setPorts { v.ports with answer := some ⟨o.src, .ok, BitVec.ofNat 32 (le r.bytes 24 4)⟩ }))) ∧
  (∀ (s : State) (txn : Nat) (o : CtlOut),
    s.lnk.out.find? (fun o => o.txn = txn) = some o →
    o.tray = true →
    exec (.controlTimeout txn) s = .next (State.settle (let u := s.inc F.LNK_SVC_STAT2_TIMEOUT
      let v := ((u.setLnk { u.lnk with out := u.lnk.out.filter (fun y => y.txn ≠ txn) }).inc F.LNK_TRAY_STAT_ERRORS).set F.LNK_TRAY_STAT_LAST_STATUS stTimeout
      v.setPorts { v.ports with answer := some ⟨o.src, .retry, 0⟩ }))) ∧
  (∀ (s u : State) (a : Access) (addr src p : Nat) (write : Bool) (w : Word),
    u = s.reach a.t →
    u.serves = true →
    trayAddr addr = true →
    a.src ≠ .xlp →
    u.judge a addr write = .ok →
    u.slotTarget (u.fld F.LNK_TRAY_SEL_SLOT) = some (src, p) →
    u.lstate p = lsUp →
    exec (.trayWindowAccess a addr write w) s = .next (State.settle (let txn := u.lnk.nextTxn
      let off := 2 ^ 47 + u.fld F.LNK_TRAY_SEL_SLOT * 2 ^ 24 + u.fld F.LNK_TRAY_SEL_PAGE * 2 ^ 20 + addr % 2 ^ 20
      let x := u.originate 0x50 2 1 a.stall.toNat u.nowNs
        [(16, toLE 4 txn), (20, toLE 1 (b2n write)), (21, toLE 1 (b2n (privileged a))), (22, toLE 2 (u.fld F.LNK_SVC_TIMEOUT_US)), (24, toLE 8 off), (32, toLE 4 (if write then w.toNat else 0))]
      let v := x.2.setLnk { x.2.lnk with nextTxn := (txn + 1) % 2 ^ 32, out := x.2.lnk.out ++ [⟨txn, a.src, true, x.2.nowNs⟩] }
      (v.setPorts { v.ports with answer := none }).send p 2 1 src x.1))) ∧
  -- a slot that no child holds
  (∀ (s u : State) (a : Access) (addr : Nat) (write : Bool) (w : Word),
    u = s.reach a.t →
    u.serves = true →
    trayAddr addr = true →
    a.src ≠ .xlp →
    u.judge a addr write = .ok →
    u.slotTarget (u.fld F.LNK_TRAY_SEL_SLOT) = none →
    exec (.trayWindowAccess a addr write w) s = .next (State.settle ((((u.inc F.LNK_SVC_STAT2_NO_ROUTE).inc F.LNK_TRAY_STAT_ERRORS).set F.LNK_TRAY_STAT_LAST_STATUS stNoRoute).answer a .retry 0)))

/-- Each command of link management (HELLO, discovery, heartbeat, takeover, broadcast, spare admission, split views) answers the next state with exactly its own effect. -/
def Obligations.TopologyCommands : Prop :=
  (∀ (s u : State) (r : Rx) (v : State),
    u = (s.reach r.t).consume r →
    u.lstate r.port ≠ lsDown →
    u.lstate r.port ≠ lsRelay →
    v = ((u.set (F.LNK_PORT_PEER_PEER_ID r.port) (le r.bytes 20 4 % 2 ^ 20)).set (F.LNK_PORT_STATE_PEER_PORT r.port) (le r.bytes 24 1)).modLink r.port (fun (l : LinkSt) => { l with heard := true }) →
    exec (.hello r) s = .next (State.settle (if v.loaded then v.planCheck r.port else v))) ∧
  -- a peer that differs from the plan
  (∀ (s u : State) (r : Rx) (v : State),
    u = (s.reach r.t).consume r →
    u.lstate r.port ≠ lsDown →
    u.lstate r.port ≠ lsRelay →
    v = ((u.set (F.LNK_PORT_PEER_PEER_ID r.port) (le r.bytes 20 4 % 2 ^ 20)).set (F.LNK_PORT_STATE_PEER_PORT r.port) (le r.bytes 24 1)).modLink r.port (fun (l : LinkSt) => { l with heard := true }) →
    v.loaded = true →
    v.planMet r.port (v.fld (F.LNK_PORT_PEER_PEER_ID r.port)) (v.fld (F.LNK_PORT_STATE_PEER_PORT r.port)) = false →
    v.swapMate r.port = none →
    v.lstate r.port ≠ lsMiscabled →
    exec (.hello r) s = .next (State.settle ((v.setLstate r.port lsMiscabled).log 0x33 0 r.port (v.fld (F.LNK_PORT_STATE_PEER_PORT r.port))))) ∧
  (∀ (s v : State),
    v = s.chainReview →
    v.fld F.LNK_DISC_PERIOD ≠ 0 →
    exec .discoveryPeriod s = .next (State.settle (v.chainEnds.foldl State.discoverOn v))) ∧
  (∀ (s u : State) (r : Rx),
    u = (s.reach r.t).consume r →
    u.hub = false →
    u.loaded = true →
    u.on F.LNK_CTRL_DISC_EN = true →
    u.fld (F.LNK_PORT_FUNC r.port) = 1 →
    le r.bytes 17 1 = 0 →
    u.lnk.turned = false →
    exec (.discover r) s = .next (State.settle (let p := r.port
      let hops := le r.bytes 18 1
      let hubPort := le r.bytes 19 1
      let a := u.setLnk { u.lnk with endA := some (p, hops), aFresh := true }
      let b := (a.funcPorts 1).foldl (fun (s : State) q => s.set (F.LNK_PORT_STATE_HEAD_SIDE q) (b2n (q = p))) a
      let c := b.set (F.LNK_PORT_STATE_CHAIN_POS p) (min hops 15)
      let d := c.mgmtEach [p] 3 [(17, toLE 1 0), (18, toLE 1 hops), (19, toLE 1 hubPort), (20, toLE 4 c.ident)]
      d.mgmtEach ((d.funcPorts 1).filter (fun q => q ≠ p && d.lstate q = lsUp)) 2 [(17, toLE 1 0), (18, toLE 1 (hops + 1)), (19, toLE 1 hubPort)]))) ∧
  -- a member passes a reply on toward the end it answers
  (∀ (s u : State) (r : Rx) (e : Nat × Nat),
    u = (s.reach r.t).consume r →
    u.hub = false →
    le r.bytes 17 1 = 0 →
    u.lnk.endA = some e →
    e.1 ≠ r.port →
    exec (.discReply r) s = .next (State.settle (u.sendPeer e.1 2 r.bytes))) ∧
  -- a Hub keeps it
  (∀ (s u : State) (r : Rx) (k : Nat × Nat × Nat × Nat),
    u = (s.reach r.t).consume r →
    u.hub = true →
    k = (le r.bytes 19 1, le r.bytes 17 1, le r.bytes 18 1, le r.bytes 20 4 % 2 ^ 20) →
    u.children = [] →
    exec (.discReply r) s = .next (State.settle (u.setLnk { u.lnk with
        replies := u.lnk.replies.filter (fun r => !(r.2.1 = k.2.1 && (r.2.2.2 = k.2.2.2 || (r.1 = k.1 && r.2.2.1 = k.2.2.1)))) ++ [k], answers := u.lnk.answers ++ [k] }))) ∧
  (∀ (s : State) (p : Nat),
    s.sibPort = some p →
    s.hub = true →
    s.injecting 4 = false →
    exec .heartbeatInterval s = .next (State.settle (s.mgmtEach [p] 4 [(20, toLE 4 s.ident), (24, toLE 6 s.lastMerged)]))) ∧
  (∀ (s u : State) (r : Rx),
    u = (s.reach r.t).consume r →
    u.sibPort = some r.port →
    exec (.heartbeat r) s = .next (State.settle (u.setLnk { u.lnk with heartbeat := some (le r.bytes 20 4 % 2 ^ 20, le r.bytes 24 6) }))) ∧
  (∀ (s v : State) (e last id : Nat),
    v = s.reachNs (s.tim.sealNs + 1000 * s.fld F.LNK_TKO_DETECT_US) →
    v.tim.sealedEpoch = some e →
    v.lnk.heartbeat = some (id, last) →
    last < e →
    v.hub = true →
    v.sibUp = true →
    v.on F.LNK_CTRL_TKO_EN = true →
    v.tko = none →
    exec .takeoverDetect s = .next (State.settle (let p := v.fld F.LNK_TKO_SIB_PORT
      let node := (v.lnk.heartbeat.map (fun h => h.1)).getD (v.fld (F.LNK_PORT_PEER_PEER_ID p))
      let g := (v.lnk.tkoPgen + 1) % 65536
      let x := v.mgmtEach [p] 5 [(20, toLE 4 node), (24, toLE 2 g)]
      let y := (x.setLnk { x.lnk with tkoPgen := g }).setTko (some ⟨node, g, 0, { initRed with tbl := 256 }, zeros 48, [], 0, zeros 48, [], []⟩)
      let z := (y.set F.LNK_TKO_TAKEN 1).inc F.LNK_TKO_STAT_TAKEOVERS
      let k := (z.log 0x36 0 (z.fld F.LNK_TKO_SIB_PORT) 0).alertIf F.LNK_CTRL_ALERT_EN 9
      k))) ∧
  -- the sibling is taken
  (∀ (s v : State) (a : Access) (w : Word),
    s.servesPriv a = true →
    v = (s.reach a.t).plainWrite 0x090020 w →
    v.hub = true →
    v.sibUp = true →
    v.on F.LNK_CTRL_TKO_EN = true →
    v.tko = none →
    exec (.tkoTake a w) s = .next (State.settle (let p := v.fld F.LNK_TKO_SIB_PORT
      let node := (v.lnk.heartbeat.map (fun h => h.1)).getD (v.fld (F.LNK_PORT_PEER_PEER_ID p))
      let g := (v.lnk.tkoPgen + 1) % 65536
      let x := v.mgmtEach [p] 5 [(20, toLE 4 node), (24, toLE 2 g)]
      let y := (x.setLnk { x.lnk with tkoPgen := g }).setTko (some ⟨node, g, 0, { initRed with tbl := 256 }, zeros 48, [], 0, zeros 48, [], []⟩)
      let z := (y.set F.LNK_TKO_TAKEN 1).inc F.LNK_TKO_STAT_TAKEOVERS
      let k := (z.log 0x36 0 (z.fld F.LNK_TKO_SIB_PORT) 0).alertIf F.LNK_CTRL_ALERT_EN 9
      k.answer a .ok 0))) ∧
  -- the other side is not able to act
  (∀ (s v : State) (a : Access) (w : Word),
    s.servesPriv a = true →
    v = (s.reach a.t).plainWrite 0x090020 w →
    v.sibUp = false →
    exec (.tkoTake a w) s = .next (State.settle (let y := v.set F.LNK_TKO_REFUSED 1
      ((y.log 0x36 3 (y.fld F.LNK_TKO_SIB_PORT) 0).alertIf F.LNK_CTRL_ALERT_EN 9).answer a .ok 0))) ∧
  (∀ (s v : State) (a : Access) (w : Word),
    s.servesPriv a = true →
    v = (s.reach a.t).plainWrite 0x090020 w →
    v.tko.isSome = true →
    v.sibUp = true →
    v.tim.epoch < v.tkoTarget →
    exec (.tkoHandback a w) s = .next (State.settle ((v.setLnk { v.lnk with handback := some v.tkoTarget }).answer a .ok 0))) ∧
  (∀ (s u : State) (r : Rx),
    u = (s.reach r.t).consume r →
    u.sibPort = some r.port →
    le r.bytes 20 4 % 2 ^ 20 = u.ident →
    u.on F.LNK_TKO_RELAYING = false →
    u.hub = true →
    u.on F.LNK_CTRL_TKO_EN = true →
    exec (.take r) s = .next (State.settle (let g := le r.bytes 24 2
      let down := u.downPorts.filter (fun p => u.lstate p = lsUp)
      let a := down.foldl (fun (s : State) p => s.setLstate p lsRelay) ((u.setLnk { u.lnk with pgen := g }).set F.LNK_TKO_RELAYING 1)
      let b := a.mgmtEach down 6 [(20, toLE 4 a.ident), (24, toLE 2 g)]
      ((b.log 0x36 1 (b.fld F.LNK_TKO_SIB_PORT) 0).alertIf F.LNK_CTRL_ALERT_EN 9).recovered 4))) ∧
  -- a relaying Hub hands the Chains back
  (∀ (s u : State) (r : Rx),
    u = (s.reach r.t).consume r →
    u.on F.LNK_TKO_RELAYING = true →
    u.sibPort = some r.port →
    le r.bytes 20 4 % 2 ^ 20 = u.ident →
    exec (.takeover r) s = .next (State.settle (let g := le r.bytes 24 2
      let down := u.portList.filter (fun p => u.lstate p = lsRelay)
      let a := down.foldl (fun (s : State) p => s.setLstate p lsUp) ((u.setLnk { u.lnk with pgen := g }).set F.LNK_TKO_RELAYING 0)
      a.mgmtEach down 6 [(20, toLE 4 a.ident), (24, toLE 2 g)]))) ∧
  -- elsewhere it is a path change
  (∀ (s u : State) (r : Rx),
    u = (s.reach r.t).consume r →
    u.on F.LNK_TKO_RELAYING = false →
    exec (.takeover r) s = .next (State.settle (u.pathChange))) ∧
  (∀ (s u : State) (r : Rx) (y : Bcast) (fresh room : Bool),
    u = (s.reach r.t).consume r →
    y = (u.lnk.bcast.find? (fun y => y.object = bcObject r.bytes)).getD ⟨bcObject r.bytes, bcTotal r.bytes, [], r.port⟩ →
    fresh = y.chunks.all (fun c => c.1 ≠ bcOffset r.bytes) →
    room = decide (u.stagedBytes + (slice r.bytes 64 (bcBytes r.bytes)).length ≤ 1024 * u.fld F.INF_STORE_FREE_KIB) →
    exec (.bcastChunk r) s = .next (State.settle (let now : Bcast := if fresh && room then { y with chunks := y.chunks ++ [(bcOffset r.bytes, slice r.bytes 64 (bcBytes r.bytes))] } else y
      let v := u.setLnk { u.lnk with bcast := u.lnk.bcast.filter (fun y => y.object ≠ bcObject r.bytes) ++ [now] }
      let z := (v.bcastPorts r.port).foldl (fun (s : State) p => s.send p 4 3 0 r.bytes) v
      (if bcOffset r.bytes + bcBytes r.bytes = now.total then
          now.lacking.foldl (fun (s : State) k => s.mgmtEach [r.port] 8 [(20, toLE 4 (bcObject r.bytes)), (24, toLE 4 k)]) z
        else z).tryFirmware))) ∧
  (∀ (s u : State) (r : Rx) (y : Bcast) (k : Nat × Bytes),
    u = (s.reach r.t).consume r →
    u.lnk.bcast.find? (fun y => y.object = le r.bytes 20 4) = some y →
    y.chunks.find? (fun c => c.1 = le r.bytes 24 4) = some k →
    exec (.bcastNack r) s = .next (State.settle (let x := u.originateBare 0x2E 4 64 0 u.nowNs [(16, toLE 4 (le r.bytes 20 4)), (20, toLE 4 (le r.bytes 24 4)), (24, toLE 4 y.total), (28, toLE 2 k.2.length), (64, k.2)];
      x.2.sendPeer r.port 4 x.1))) ∧
  (∀ (s v : State) (a : Access) (w : Word),
    s.servesPriv a = true →
    v = (s.reach a.t).plainWrite 0x090034 w →
    exec (.spareStart a w) s = .next (State.settle (let x := ((v.set F.LNK_SPARE_STATE 1).set F.LNK_SPARE_MATCHED 0).set F.LNK_SPARE_MISMATCHES 0
      let y := x.setLnk { x.lnk with spareDig := [], spareEpoch := none }
      (y.log 0x37 0 (y.fld F.LNK_SPARE_CAND_SOURCE) (y.fld F.LNK_SPARE_MATCHED)).answer a .ok 0))) ∧
  (∀ (s v : State) (a : Access) (w : Word),
    s.servesPriv a = true →
    v = (s.reach a.t).plainWrite 0x090034 w →
    v.fld F.LNK_SPARE_STATE = 2 →
    v.tim.epoch < v.tkoTarget →
    exec (.spareAdmit a w) s = .next (State.settle ((v.setLnk { v.lnk with spareEpoch := some v.tkoTarget }).answer a .ok 0))) ∧
  (∀ (s u : State) (r : Rx),
    u = (s.reach r.t).consume r →
    u.loaded = true →
    u.hub = false →
    exec (.shadowFeed r) s = .next (State.settle (let b := r.bytes
      let rows := u.lnk.candRows.filter (fun y => le y 16 6 = le b 16 6 && le y 23 1 ≠ le b 23 1) ++ [b]
      if rows.length < max 1 (le b 24 1) then u.setLnk { u.lnk with candRows := rows }
      else
        let v := u.setLnk { u.lnk with candRows := [] }
        let scores := (sortBy (fun y => le y 23 1) rows).flatMap (fun y => match (v.slot (le y 22 1)).cur with
          | some im => if le b 24 1 = 0 then [] else scoreBytes im (readInputs y (le y 26 2))
          | none => [])
        v.sendShadowDig (le b 16 6) v.ident scores))) ∧
  -- below the tray node it goes up
  (∀ (s u : State) (r : Rx),
    u = (s.reach r.t).consume r →
    u.level ≠ 2 →
    exec (.shadowDig r) s = .next (State.settle (u.sendUp 2 r.bytes))) ∧
  -- at the tray node, digests that agree
  (∀ (s u : State) (r : Rx) (d : Nat × Nat × Nat),
    u = (s.reach r.t).consume r →
    u.level = 2 →
    u.fld F.LNK_SPARE_CAND_SOURCE = le r.bytes 32 4 % 2 ^ 20 →
    u.fld F.LNK_SPARE_STATE = 1 ∨ u.fld F.LNK_SPARE_STATE = 2 →
    u.lnk.spareDig.find? (fun d => d.1 = le r.bytes 24 6 && d.2.1 ≠ recSource r.bytes) = some d →
    d.2.2 = le r.bytes 36 8 →
    exec (.shadowDig r) s = .next (State.settle (let v := (u.setLnk { u.lnk with spareDig := u.lnk.spareDig.filter (fun y => y.1 ≠ le r.bytes 24 6) }).inc F.LNK_SPARE_MATCHED
      if v.fld F.LNK_SPARE_STATE = 1 && max 1 (v.fld F.LNK_SPARE_SHADOW_EPOCHS) ≤ v.fld F.LNK_SPARE_MATCHED then (v.set F.LNK_SPARE_STATE 2).spareEvent 1 else v))) ∧
  (∀ (s v : State) (child row n : Nat),
    s.lnk.splits.find? (fun x => x.1 = child && x.2.1 = row) = some (child, row, n, false) →
    max 1 (s.fld F.LNK_SPLIT_EPOCHS) ≤ n →
    v = s.setLnk { s.lnk with splits := s.lnk.splits.map (fun x => if x.1 = child && x.2.1 = row then (child, row, n, true) else x) } →
    exec (.splitViewPersist child row) s = .next (State.settle (let x := ((v.inc F.LNK_SPLIT_SPLITS).set F.LNK_SPLIT_LAST_CHILD child).showSplit
      (x.log 0x35 row (x.fld (F.CHILD_B_CHILD_ID child)) n).alertIf F.LNK_CTRL_ALERT_EN 9)))

/-- Each command of sessions, domain keys, seals, the version floor, debug levels and attestation answers the next state with exactly its own effect: checks that pass and checks that fail each have theirs. -/
def Obligations.SecurityCommands : Prop :=
  (∀ (s u : State) (r : Rx) (v : State) (y z : Sess),
    u = (s.reach r.t).consume r →
    u.keyxRuns r.port = true →
    v = (match u.sessAt r.port (le r.bytes 20 4 % 2 ^ 20) with | none => u.startKeyx r.port (le r.bytes 20 4 % 2 ^ 20) 1 | some y => if !y.formed || y.nextId ≠ y.keyId then u else u.startKeyx r.port (le r.bytes 20 4 % 2 ^ 20) (if r.enc then y.keyId + 1 else 1)) →
    v.sessAt r.port (le r.bytes 20 4 % 2 ^ 20) = some y →
    z = { y with peerNonce := slice r.bytes 24 16, peerEph := slice r.bytes 40 96 } →
    exec (.keyx r) s = .next (State.settle ((v.putSess z).sendAttest z))) ∧
  (∀ (s u : State) (r : Rx) (y : Sess),
    u = (s.reach r.t).consume r →
    u.keyxRuns r.port = true →
    u.sessAt r.port (recSource r.bytes) = some y →
    exec (.attestationRecord r) s = .next (State.settle (if !u.attestOk y r.bytes || !u.helloNames r.port r.bytes then (u.inc F.SEC_LINK_STAT_ATT_FAIL).secFail r.port 4
      else
        let v := if bits (le r.bytes 480 1) 4 3 = 2 then u.inc F.SEC_KEY_STAT_OPEN_PEERS else u
        if y.formed && y.nextId = y.keyId then v else v.formSession y false))) ∧
  (∀ (s u : State) (r : Rx) (y : Sess),
    u = (s.reach r.t).consume r →
    u.keyxRuns r.port = true →
    u.sessAt r.port (recSource r.bytes) = some y →
    exec (.credentialRecord r) s = .next (State.settle (let b := r.bytes
      if !u.authentic 5 (slice b 32 224) then ((u.authReject r.port 3).inc F.SEC_LINK_STAT_ATT_FAIL).secFail r.port 4
      else if y.peerEph = [] || slice b 16 16 ≠ bindNonce y.myNonce y.peerEph || !ecdsaVerify (slice b 32 96) (sha384 (slice b 0 256)) (slice b 256 96)
          || !u.mayOperate || !u.helloNames r.port b then (u.inc F.SEC_LINK_STAT_ATT_FAIL).secFail r.port 4
      else if y.formed && y.nextId = y.keyId then u else u.formSession y true))) ∧
  (∀ (s : State) (p : Nat) (x : Sess),
    s.lstate p = lsHello →
    s.lnk.sess = [x] →
    x.port = p →
    x.formed = false →
    exec (.sessionRetry p) s = .next (State.settle (s.startKeyx p x.peer 1))) ∧
  (∀ (s : State) (p : Nat) (x : Sess),
    s.lnk.sess = [x] →
    x.port = p →
    x.formed = true →
    x.nextId = x.keyId →
    x.txCtr.any (fun n => 2 ^ 32 ≤ n) = true →
    exec (.rekey p) s = .next (State.settle (s.startKeyx p x.peer (x.keyId + 1)))) ∧
  (∀ (s : State) (p : Nat),
    exec (.keyOverlapExpiry p) s = .next (State.settle (s.setLnk { s.lnk with sess := s.lnk.sess.map (fun (x : Sess) => if x.port = p && x.overlap then { x with oldRxKey := [], overlap := false } else x) }))) ∧
  (∀ (s u : State) (r : Rx) (v z : State),
    u = (s.reach r.t).consume r →
    r.enc = true →
    u.admits 3 r.port r.bytes = true →
    v = u.setSec { u.sec with dkeys := u.sec.dkeys.filter (fun k => k.1 ≠ le r.bytes 16 4) ++ [(le r.bytes 16 4, le r.bytes 24 6, slice r.bytes 32 32)] } →
    z = (if le r.bytes 24 6 ≤ v.tim.epoch && v.domainKeyAt v.tim.epoch = some (slice r.bytes 32 32) then v.dkeyInForce (le r.bytes 16 4) else v) →
    exec (.domainKeyRecord r) s = .next (State.settle ((z.lnk.sess.filter (fun y => y.formed && y.port ≠ r.port && z.downPorts.contains y.port)).foldl (fun (s : State) y =>
        s.send y.port 2 (if s.on (F.LNK_PORT_FUNC_SWITCHED y.port) then 1 else 0) y.peer r.bytes) z))) ∧
  -- elsewhere than at a merge point
  (∀ (s u : State) (r : Rx),
    u = (s.reach r.t).consume r →
    u.tko = none →
    u.loaded = true →
    u.merging = false →
    exec (.sealRecord r) s = .next (State.settle (u.sendUp 3 r.bytes))) ∧
  -- at a merge point
  (∀ (s u : State) (r : Rx) (x y : Round),
    u = (s.reach r.t).consume r →
    u.tko = none →
    u.loaded = true →
    u.merging = true →
    x = u.roundOf (recKey r.bytes) →
    (u.sec.rounds.all (fun y => y.key ≠ recKey r.bytes) && (childFor u.children (recKey r.bytes) r.port).isNone) = false →
    seqOld x.nextSeq (recSeq r.bytes) = false →
    y = { x with recs := [r.bytes], nextSeq := some ((recSeq r.bytes + 1) % 2 ^ 32) } →
    exec (.sealRecord r) s = .next (State.settle (let b := r.bytes
      let key := recKey b
      if !roundGapless x.recs b then ((u.putRound y).dropArrival key).chainFail F.SEC_CHAIN_STAT_GAP key 5
      else if x.chain.any (fun c => c ≠ slice b 48 48) || !roundHash x.recs b then ((u.putRound y).dropArrival key).chainFail F.SEC_CHAIN_STAT_HASH_FAIL key 5
      else
        let v := u.putRound { y with chain := some (slice b 96 48), epoch := some (le b 16 6) }
        let z := v.setSec { v.sec with verify := if x.chain.isNone then ⟨key, b, u.sec.roundNo⟩ :: v.sec.verify else v.sec.verify ++ [⟨key, b, u.sec.roundNo⟩] }
        if x.unverified then z.dropArrival key else z.roundChecked key (le b 16 6) (x.recs ++ [b]) (slice b 96 48)))) ∧
  (∀ (s v : State) (j : VerJob) (rest : List VerJob),
    s.sec.verify = j :: rest →
    v = s.setSec { s.sec with verify := rest } →
    exec .sigVerifyDone s = .next (State.settle (let x := v.verifySeal j.record
      if x.1 then (x.2.markChild j.key false).showUnverified else ((x.2.markChild j.key true).chainFail F.SEC_CHAIN_STAT_SIG_FAIL j.key 6).showUnverified))) ∧
  (∀ (s : State) (j : VerJob),
    s.sec.verify = [j] →
    j.round + max 1 (s.fld F.SEC_CTRL_LAG) ≤ s.sec.roundNo →
    exec .verifyLagExpiry s = .next (State.settle (((s.setSec { s.sec with verify := [] }).inc F.SEC_CHAIN_STAT_LAG_EXCEEDED).secChange 0 0 5))) ∧
  (∀ (s : State) (a : Access) (w : Word),
    s.servesPriv a = true →
    s.fld F.SEC_FLOOR_GEN < w.toNat % 65536 →
    exec (.floorSet a w) s = .next (State.settle ((((s.reach a.t).set F.SEC_FLOOR_GEN (w.toNat % 65536)).secChange 0 (w.toNat % 65536) 4).answer a .ok 0))) ∧
  -- a lower value is ignored
  (∀ (s : State) (a : Access) (w : Word),
    s.servesPriv a = true →
    w.toNat % 65536 ≤ s.fld F.SEC_FLOOR_GEN →
    exec (.floorSet a w) s = .next (State.settle ((s.reach a.t).answer a .ok 0))) ∧
  -- a lower level takes effect at once
  (∀ (s v : State) (a : Access) (w : Word),
    s.servesPriv a = true →
    v = (s.reach a.t).plainWrite 0x0B0018 w →
    v.lifecycle ≠ 4 →
    bits w.toNat 1 0 < v.debug →
    exec (.debugLevelRequest a w) s = .next (State.settle ((v.setDebug (bits w.toNat 1 0)).answer a .ok 0))) ∧
  -- a raise fetches its token
  (∀ (s v : State) (a : Access) (w : Word),
    s.servesPriv a = true →
    v = (s.reach a.t).plainWrite 0x0B0018 w →
    v.lifecycle = 1 ∨ v.lifecycle = 2 →
    v.debug < bits w.toNat 1 0 →
    bits w.toNat 1 0 < 3 →
    bit w.toNat 2 = true →
    v.on F.SEC_DBG_BUSY = false →
    v.on F.SEC_DBG_SRC = false →
    exec (.debugLevelRequest a w) s = .next (State.settle (let x := (v.setSec { v.sec with tokenLevel := bits w.toNat 1 0, token := none }).set F.SEC_DBG_BUSY 1
      (x.setPorts { x.ports with jobs := x.ports.jobs ++ [⟨.token, x.pair F.SEC_TOKEN_LO F.SEC_TOKEN_HI / 16 * 16, 144, [], true⟩] }).answer a .ok 0))) ∧
  (∀ (s v : State) (t : Bytes),
    s.sec.token = some t →
    v = (s.setSec { s.sec with token := none }).set F.SEC_DBG_BUSY 0 →
    exec .tokenChecked s = .next (State.settle (let until_ := le t 8 8
      if t.length < 144 then v.set F.SEC_DBG_REFUSED 1
      else if le t 0 4 ≠ tokenMagic || !v.authentic 4 (t.take 144) || (v.lifecycle = 2 && slice t 116 8 = List.replicate 8 0) then (v.authReject 0 3).set F.SEC_DBG_REFUSED 1
      else if le t 4 1 < v.sec.tokenLevel || (until_ ≠ 0 && until_ ≤ v.tim.epoch) || v.lifecycle = 4 then v.set F.SEC_DBG_REFUSED 1
      else
        let z := if v.debug < v.sec.tokenLevel then v.setDebug v.sec.tokenLevel else v
        z.setSec { z.sec with notAfter := if until_ = 0 then none else some until_ }))) ∧
  (∀ (s : State) (e : Nat),
    s.sec.notAfter = some e →
    e ≤ s.tim.epoch →
    exec .debugTokenExpiry s = .next (State.settle ((s.setSec { s.sec with notAfter := none }).setDebug 0))) ∧
  (∀ (s v : State) (a : Access) (w : Word),
    s.servesPriv a = true →
    v = (s.reach a.t).plainWrite 0x0B0024 w →
    bit w.toNat 0 = true →
    v.on F.SEC_ATT_BUSY = false →
    exec (.attestationRequest a w) s = .next (State.settle (((v.setSec { v.sec with forming := some ((List.range 4).flatMap (fun i => toLE 4 (v.fld (F.SEC_ATT_NONCE i)))) }).set F.SEC_ATT_BUSY 1).answer a .ok 0))) ∧
  (∀ (s : State) (n : Bytes),
    s.sec.forming = some n →
    exec .attestationFormed s = .next (State.settle (let x := s.attest n
      ((x.2.setSec { x.2.sec with forming := none, window := x.1 }).set F.SEC_ATT_BUSY 0).set F.SEC_ATT_DONE 1)))

/-- Each command on configuration images (stage, commit, abort, shadow build) answers the next state with exactly its own effect. -/
def Obligations.ImageCommands : Prop :=
  (∀ (s v : State) (a : Access) (w : Word),
    s.servesPriv a = true →
    v = (s.reach a.t).plainWrite 0x000050 w →
    v.mayStage = true →
    v.imgState = imIdle →
    v.on F.BLK_IMG_CTRL_SRC = false →
    exec (.imageStage a w) s = .next (State.settle (let x := v.setPorts { v.ports with jobs := v.ports.jobs ++ [⟨.stageImage, v.pair F.BLK_IMG_SRC_LO F.BLK_IMG_SRC_HI / 16 * 16, v.fld F.BLK_IMG_LEN_LENGTH, [], true⟩] }
      ((x.set F.BLK_IMG_STAT_STATE imFetching).noteStage a).answer a .ok 0))) ∧
  -- outside TEST and SERVICE
  (∀ (s v : State) (a : Access) (w : Word),
    s.servesPriv a = true →
    v = (s.reach a.t).plainWrite 0x000050 w →
    v.mayStage = false →
    exec (.imageStage a w) s = .next (State.settle ((((((v.set F.BLK_IMG_STAT_LAST_REJECT 0x15).inc F.BLK_IMG_STAT_REJECTS).set F.BLK_IMG_STAT_REJECTED 1).alertIf F.BLK_IMG_CTRL_ALERT_EN 0).noteStage a).answer a .ok 0))) ∧
  (∀ (s v : State) (a : Access) (w : Word),
    s.servesPriv a = true →
    v = (s.reach a.t).plainWrite 0x000050 w →
    v.mayStage = true →
    v.imgState = imStaged →
    v.tim.epoch + 1 < v.imgTarget →
    exec (.imageCommit a w) s = .next (State.settle ((((v.openWindows).setImg { v.openWindows.img with target := v.imgTarget }).set F.BLK_IMG_STAT_STATE imPending).answer a .ok 0))) ∧
  (∀ (s v : State) (a : Access) (w : Word),
    s.servesPriv a = true →
    v = (s.reach a.t).plainWrite 0x000050 w →
    v.imgState = imStaged →
    exec (.imageAbort a w) s = .next (State.settle (let x := v.setImg { v.img with staged := [], fetched := none, fetchErr := false }
      ((x.set F.BLK_IMG_STAT_STATE imIdle).openWindows).answer a .ok 0))) ∧
  (∀ (s u : State),
    s.imgState = imPending →
    s.img.target = s.tim.epoch + 1 →
    u = s.reachNs (s.tim.nextNs - 50000) →
    exec .imageShadowBuild s = .next (State.settle (u.setImg { u.img with built := true, winClosed := true, childClosed := u.childDiffers u.img.staged })))

/-- Each command of checkpoints, restore, Kiosk handoff and injected faults answers the next state with exactly its own effect. -/
def Obligations.ContinuityCommands : Prop :=
  (∀ (s v : State) (a : Access) (w : Word),
    s.servesPriv a = true →
    v = (s.reach a.t).plainWrite 0x0C0000 w →
    v.con.ckptAt = none →
    v.con.copy = none →
    v.tim.epoch < v.fld F.CON_CKPT_EPOCH_LO + 2 ^ 32 * v.fld F.CON_CKPT_EPOCH_HI_EPOCH →
    exec (.ckpt a w) s = .next (State.settle (((v.setCon { v.con with ckptAt := some (v.fld F.CON_CKPT_EPOCH_LO + 2 ^ 32 * v.fld F.CON_CKPT_EPOCH_HI_EPOCH) }).set F.CON_CKPT_STAT_STATE 1).answer a .ok 0))) ∧
  -- an epoch that is not ahead
  (∀ (s v : State) (a : Access) (w : Word),
    s.servesPriv a = true →
    v = (s.reach a.t).plainWrite 0x0C0000 w →
    v.fld F.CON_CKPT_EPOCH_LO + 2 ^ 32 * v.fld F.CON_CKPT_EPOCH_HI_EPOCH ≤ v.tim.epoch →
    exec (.ckpt a w) s = .next (State.settle ((v.set F.CON_CKPT_STAT_LAST_CAUSE 1).answer a .ok 0))) ∧
  (∀ (s : State) (k : Copy),
    s.con.copy = some k →
    k.trailer = true →
    k.acked = k.data.length →
    k.held = false →
    exec .ckptCopyDone s = .next (State.settle ((((((s.setCon { s.con with copy := none }).freeShadows k.shadow.length).set F.CON_CKPT_STAT_STATE 3).inc F.CON_CKPT_STAT_CKPTS).conEvent 0 0 0).gateServe))) ∧
  (∀ (s v : State) (a : Access) (w : Word),
    s.servesPriv a = true →
    v = (s.reach a.t).plainWrite 0x0C0000 w →
    v.con.ckptAt.isSome = true ∨ v.con.copy.isSome = true →
    exec (.ckptAbort a w) s = .next (State.settle ((v.abandon 3).answer a .ok 0))) ∧
  -- in phase READY
  (∀ (s v : State) (a : Access) (w : Word),
    s.servesPriv a = true →
    v = (s.reach a.t).plainWrite 0x0C0000 w →
    v.fld F.CON_RST_STAT_STATE ≠ 1 →
    v.svc = svcBringup →
    v.fld F.BRU_STATUS_PHASE = 5 →
    exec (.restore a w) s = .next (State.settle (let x := v.set F.CON_RST_STAT_STATE 1
      (x.setPorts { x.ports with jobs := x.ports.jobs ++ [⟨.restore, x.pair F.CON_CKPT_ADDR_LO F.CON_CKPT_ADDR_HI / 64 * 64, 256, [], false⟩] }).answer a .ok 0))) ∧
  -- in TEST or SERVICE
  (∀ (s v : State) (a : Access) (w : Word),
    s.servesPriv a = true →
    v = (s.reach a.t).plainWrite 0x0C0000 w →
    v.fld F.CON_RST_STAT_STATE ≠ 1 →
    v.svc = svcTest ∨ v.svc = svcService →
    exec (.restore a w) s = .next (State.settle (let x := (v.set F.CON_RST_STAT_STATE 1).enterRecovery 0x12
      (x.setPorts { x.ports with jobs := x.ports.jobs ++ [⟨.restore, x.pair F.CON_CKPT_ADDR_LO F.CON_CKPT_ADDR_HI / 64 * 64, 256, [], false⟩] }).answer a .ok 0))) ∧
  (∀ (s v : State) (b : Bytes) (err : Bool),
    s.con.fetched = some (b, err) →
    v = s.setCon { s.con with fetched := none } →
    exec .restoreApplied s = .next (State.settle (let sect (i : Nat) : Bytes := slice b ((sectOffs (ckptLens b)).getD i 0) ((ckptLens b).getD i 0)
      let has (i : Nat) : Bool := bit (le b 22 2) i
      let k := v.restoreCause b err
      let z := if k ≠ 0 then ((v.set F.CON_RST_STAT_STATE 3).set F.CON_RST_STAT_REJECT k).conEvent 3 0 k
        else
          let do1 := has 0 && v.svc = svcBringup && v.fld F.BRU_RESET_LAST_CAUSE = 0 && v.fld F.BRU_RESET_COUNT = 0
          let do3 := has 2 && v.servo = svFree
          let a := if do1 then v.restoreLedger (sect 0) else v
          let c := if has 1 then State.restoreModels 256 a (sect 1) else a
          let d := if do3 then c.setRate (sext 29 (le (sect 2) 0 4)) else c
          let e := if has 3 then d.restoreSequences (sect 3) else d
          (((e.set F.CON_RST_STAT_STATE 2).set F.CON_RST_STAT_SKIPPED (b2n (!do1) + 2 * b2n (!has 1) + 4 * b2n (!do3) + 8 * b2n (!has 3))).inc F.CON_RST_STAT_RESTORES).conEvent 2 0 0
      if z.svc = svcRecovery && z.fld F.BLK_STATE_ENTRY_CAUSE = 0x12 then z.recoveryDone else z))) ∧
  (∀ (s v : State) (a : Access) (w : Word),
    s.servesPriv a = true →
    v = (s.reach a.t).plainWrite 0x0C0028 w →
    exec (.kioskReady a w) s = .next (State.settle (let x := v.setCon { v.con with kiosk := { v.con.kiosk with waiting := v.con.kiosk.waiting.filter (fun k => !bit (F.CON_KSK_STAT_READY.get w) k) } }
      (if x.con.kiosk.waiting.isEmpty then x.setImg { x.img with prev := [] } else x).answer a .ok 0))) ∧
  (∀ (s u : State) (p : Nat),
    s.con.kiosk.waiting.contains p = true →
    u = s.reachNs (s.con.kiosk.startNs + 1000 * s.fld F.CON_KSK_STAT_START_US) →
    exec (.kioskStartTimeout p) s = .next (State.settle (let v := (((u.setCon { u.con with kiosk := ⟨1 - u.con.kiosk.half, [], 0⟩ }).conEvent 6 p 0).restoreImage).mdlRevert
      ((v.set F.BLK_IMG_STAT_FAILED 1).alertIf F.BLK_IMG_CTRL_ALERT_EN 0).enterRecovery 0x11))) ∧
  -- no load or stage of theirs in progress
  (∀ (s : State) (p : Nat),
    s.con.kioskLoad = false →
    s.con.kioskStage = false →
    exec (.lockstepMismatch p) s = .next (State.settle ((s.inc F.CON_KSK_STAT_MISMATCHES).conEvent 7 p 0))) ∧
  (∀ (s v : State) (a : Access) (w : Word),
    s.servesPriv a = true →
    v = (s.reach a.t).plainWrite 0x0C0020 w →
    v.svc = svcTest →
    exec (.fiArm a w) s = .next (State.settle ((((v.setCon { v.con with fiDone := [] }).set F.CON_FI_CTRL_ARMED 1).fiShow).answer a .ok 0))) ∧
  -- in SERVICE without an operator
  (∀ (s v : State) (a : Access) (w : Word),
    s.servesPriv a = true →
    v = (s.reach a.t).plainWrite 0x0C0020 w →
    v.svc = svcService →
    (s.reach a.t).operatorAccess a = false →
    exec (.fiArm a w) s = .next (State.settle ((v.set F.CON_FI_CTRL_REFUSED 1).answer a .ok 0))) ∧
  (∀ (s v : State) (a : Access) (w : Word),
    s.servesPriv a = true →
    v = (s.reach a.t).plainWrite 0x0C0020 w →
    exec (.fiDisarm a w) s = .next (State.settle ((v.set F.CON_FI_CTRL_ARMED 0).answer a .ok 0))) ∧
  (∀ (s u v : State) (i : Nat),
    s.fiNext = some i →
    s.on F.CON_FI_CTRL_ARMED = true →
    s.fiEpoch i = s.tim.epoch →
    u = s.reachNs (s.tim.openNs + 1000 * s.fld (F.CON_FI_C_OFFSET_US i)) →
    v = (u.setCon { u.con with fiDone := u.con.fiDone ++ [i] }).fiShow →
    exec .fiEntryDue s = .next (State.settle (if u.fiSkips then (v.inc F.CON_FI_STAT_SKIPPED).conEvent 5 (u.fld (F.CON_FI_B_CLASS i)) 0
      else v.injectFault (u.fld (F.CON_FI_B_CLASS i)) (v.fld (F.CON_FI_C_TARGET i)) (v.fld (F.CON_FI_D_DURATION_US i))))) ∧
  (∀ (s u : State) (i : Inject),
    s.con.inject = some i →
    i.active = true →
    u = s.reachNs i.untilNs →
    i.cls ≠ 4 →
    exec .fiDurationEnd s = .next (State.settle (u.setCon { u.con with inject := some { i with active := false } })))
end

