-- ==== Sys2Proof/Laws/State.lean ====
section
/-! SUPPORT. One lemma per field of State per update: what each replacement of a part leaves and sets. -/

set_option Elab.async false

namespace Sys2Proof.Machine

@[simp] theorem setPorts_build (s : State) (x : PortSt) : (s.setPorts x).build = s.build := rfl
@[simp] theorem setPorts_regs (s : State) (x : PortSt) : (s.setPorts x).regs = s.regs := rfl
@[simp] theorem setPorts_inForce (s : State) (x : PortSt) : (s.setPorts x).inForce = s.inForce := rfl
@[simp] theorem setPorts_ports (s : State) (x : PortSt) : (s.setPorts x).ports = x := rfl
@[simp] theorem setPorts_led (s : State) (x : PortSt) : (s.setPorts x).led = s.led := rfl
@[simp] theorem setPorts_lnk (s : State) (x : PortSt) : (s.setPorts x).lnk = s.lnk := rfl
@[simp] theorem setPorts_sec (s : State) (x : PortSt) : (s.setPorts x).sec = s.sec := rfl
@[simp] theorem setPorts_bru (s : State) (x : PortSt) : (s.setPorts x).bru = s.bru := rfl
@[simp] theorem setPorts_tim (s : State) (x : PortSt) : (s.setPorts x).tim = s.tim := rfl
@[simp] theorem setPorts_img (s : State) (x : PortSt) : (s.setPorts x).img = s.img := rfl
@[simp] theorem setPorts_crier (s : State) (x : PortSt) : (s.setPorts x).crier = s.crier := rfl
@[simp] theorem setPorts_tal (s : State) (x : PortSt) : (s.setPorts x).tal = s.tal := rfl
@[simp] theorem setPorts_scl (s : State) (x : PortSt) : (s.setPorts x).scl = s.scl := rfl
@[simp] theorem setPorts_red (s : State) (x : PortSt) : (s.setPorts x).red = s.red := rfl
@[simp] theorem setPorts_tko (s : State) (x : PortSt) : (s.setPorts x).tko = s.tko := rfl
@[simp] theorem setPorts_trc (s : State) (x : PortSt) : (s.setPorts x).trc = s.trc := rfl
@[simp] theorem setPorts_inf (s : State) (x : PortSt) : (s.setPorts x).inf = s.inf := rfl
@[simp] theorem setPorts_srv (s : State) (x : PortSt) : (s.setPorts x).srv = s.srv := rfl
@[simp] theorem setPorts_con (s : State) (x : PortSt) : (s.setPorts x).con = s.con := rfl
@[simp] theorem setPorts_free (s : State) (x : PortSt) : (s.setPorts x).free = s.free := rfl
@[simp] theorem setPorts_pending (s : State) (x : PortSt) : (s.setPorts x).pending = s.pending := rfl

@[simp] theorem setLed_build (s : State) (x : LedSt) : (s.setLed x).build = s.build := rfl
@[simp] theorem setLed_regs (s : State) (x : LedSt) : (s.setLed x).regs = s.regs := rfl
@[simp] theorem setLed_inForce (s : State) (x : LedSt) : (s.setLed x).inForce = s.inForce := rfl
@[simp] theorem setLed_ports (s : State) (x : LedSt) : (s.setLed x).ports = s.ports := rfl
@[simp] theorem setLed_led (s : State) (x : LedSt) : (s.setLed x).led = x := rfl
@[simp] theorem setLed_lnk (s : State) (x : LedSt) : (s.setLed x).lnk = s.lnk := rfl
@[simp] theorem setLed_sec (s : State) (x : LedSt) : (s.setLed x).sec = s.sec := rfl
@[simp] theorem setLed_bru (s : State) (x : LedSt) : (s.setLed x).bru = s.bru := rfl
@[simp] theorem setLed_tim (s : State) (x : LedSt) : (s.setLed x).tim = s.tim := rfl
@[simp] theorem setLed_img (s : State) (x : LedSt) : (s.setLed x).img = s.img := rfl
@[simp] theorem setLed_crier (s : State) (x : LedSt) : (s.setLed x).crier = s.crier := rfl
@[simp] theorem setLed_tal (s : State) (x : LedSt) : (s.setLed x).tal = s.tal := rfl
@[simp] theorem setLed_scl (s : State) (x : LedSt) : (s.setLed x).scl = s.scl := rfl
@[simp] theorem setLed_red (s : State) (x : LedSt) : (s.setLed x).red = s.red := rfl
@[simp] theorem setLed_tko (s : State) (x : LedSt) : (s.setLed x).tko = s.tko := rfl
@[simp] theorem setLed_trc (s : State) (x : LedSt) : (s.setLed x).trc = s.trc := rfl
@[simp] theorem setLed_inf (s : State) (x : LedSt) : (s.setLed x).inf = s.inf := rfl
@[simp] theorem setLed_srv (s : State) (x : LedSt) : (s.setLed x).srv = s.srv := rfl
@[simp] theorem setLed_con (s : State) (x : LedSt) : (s.setLed x).con = s.con := rfl
@[simp] theorem setLed_free (s : State) (x : LedSt) : (s.setLed x).free = s.free := rfl
@[simp] theorem setLed_pending (s : State) (x : LedSt) : (s.setLed x).pending = s.pending := rfl

@[simp] theorem setLnk_build (s : State) (x : LnkSt) : (s.setLnk x).build = s.build := rfl
@[simp] theorem setLnk_regs (s : State) (x : LnkSt) : (s.setLnk x).regs = s.regs := rfl
@[simp] theorem setLnk_inForce (s : State) (x : LnkSt) : (s.setLnk x).inForce = s.inForce := rfl
@[simp] theorem setLnk_ports (s : State) (x : LnkSt) : (s.setLnk x).ports = s.ports := rfl
@[simp] theorem setLnk_led (s : State) (x : LnkSt) : (s.setLnk x).led = s.led := rfl
@[simp] theorem setLnk_lnk (s : State) (x : LnkSt) : (s.setLnk x).lnk = x := rfl
@[simp] theorem setLnk_sec (s : State) (x : LnkSt) : (s.setLnk x).sec = s.sec := rfl
@[simp] theorem setLnk_bru (s : State) (x : LnkSt) : (s.setLnk x).bru = s.bru := rfl
@[simp] theorem setLnk_tim (s : State) (x : LnkSt) : (s.setLnk x).tim = s.tim := rfl
@[simp] theorem setLnk_img (s : State) (x : LnkSt) : (s.setLnk x).img = s.img := rfl
@[simp] theorem setLnk_crier (s : State) (x : LnkSt) : (s.setLnk x).crier = s.crier := rfl
@[simp] theorem setLnk_tal (s : State) (x : LnkSt) : (s.setLnk x).tal = s.tal := rfl
@[simp] theorem setLnk_scl (s : State) (x : LnkSt) : (s.setLnk x).scl = s.scl := rfl
@[simp] theorem setLnk_red (s : State) (x : LnkSt) : (s.setLnk x).red = s.red := rfl
@[simp] theorem setLnk_tko (s : State) (x : LnkSt) : (s.setLnk x).tko = s.tko := rfl
@[simp] theorem setLnk_trc (s : State) (x : LnkSt) : (s.setLnk x).trc = s.trc := rfl
@[simp] theorem setLnk_inf (s : State) (x : LnkSt) : (s.setLnk x).inf = s.inf := rfl
@[simp] theorem setLnk_srv (s : State) (x : LnkSt) : (s.setLnk x).srv = s.srv := rfl
@[simp] theorem setLnk_con (s : State) (x : LnkSt) : (s.setLnk x).con = s.con := rfl
@[simp] theorem setLnk_free (s : State) (x : LnkSt) : (s.setLnk x).free = s.free := rfl
@[simp] theorem setLnk_pending (s : State) (x : LnkSt) : (s.setLnk x).pending = s.pending := rfl

@[simp] theorem setSec_build (s : State) (x : SecSt) : (s.setSec x).build = s.build := rfl
@[simp] theorem setSec_regs (s : State) (x : SecSt) : (s.setSec x).regs = s.regs := rfl
@[simp] theorem setSec_inForce (s : State) (x : SecSt) : (s.setSec x).inForce = s.inForce := rfl
@[simp] theorem setSec_ports (s : State) (x : SecSt) : (s.setSec x).ports = s.ports := rfl
@[simp] theorem setSec_led (s : State) (x : SecSt) : (s.setSec x).led = s.led := rfl
@[simp] theorem setSec_lnk (s : State) (x : SecSt) : (s.setSec x).lnk = s.lnk := rfl
@[simp] theorem setSec_sec (s : State) (x : SecSt) : (s.setSec x).sec = x := rfl
@[simp] theorem setSec_bru (s : State) (x : SecSt) : (s.setSec x).bru = s.bru := rfl
@[simp] theorem setSec_tim (s : State) (x : SecSt) : (s.setSec x).tim = s.tim := rfl
@[simp] theorem setSec_img (s : State) (x : SecSt) : (s.setSec x).img = s.img := rfl
@[simp] theorem setSec_crier (s : State) (x : SecSt) : (s.setSec x).crier = s.crier := rfl
@[simp] theorem setSec_tal (s : State) (x : SecSt) : (s.setSec x).tal = s.tal := rfl
@[simp] theorem setSec_scl (s : State) (x : SecSt) : (s.setSec x).scl = s.scl := rfl
@[simp] theorem setSec_red (s : State) (x : SecSt) : (s.setSec x).red = s.red := rfl
@[simp] theorem setSec_tko (s : State) (x : SecSt) : (s.setSec x).tko = s.tko := rfl
@[simp] theorem setSec_trc (s : State) (x : SecSt) : (s.setSec x).trc = s.trc := rfl
@[simp] theorem setSec_inf (s : State) (x : SecSt) : (s.setSec x).inf = s.inf := rfl
@[simp] theorem setSec_srv (s : State) (x : SecSt) : (s.setSec x).srv = s.srv := rfl
@[simp] theorem setSec_con (s : State) (x : SecSt) : (s.setSec x).con = s.con := rfl
@[simp] theorem setSec_free (s : State) (x : SecSt) : (s.setSec x).free = s.free := rfl
@[simp] theorem setSec_pending (s : State) (x : SecSt) : (s.setSec x).pending = s.pending := rfl

@[simp] theorem setBru_build (s : State) (x : BruSt) : (s.setBru x).build = s.build := rfl
@[simp] theorem setBru_regs (s : State) (x : BruSt) : (s.setBru x).regs = s.regs := rfl
@[simp] theorem setBru_inForce (s : State) (x : BruSt) : (s.setBru x).inForce = s.inForce := rfl
@[simp] theorem setBru_ports (s : State) (x : BruSt) : (s.setBru x).ports = s.ports := rfl
@[simp] theorem setBru_led (s : State) (x : BruSt) : (s.setBru x).led = s.led := rfl
@[simp] theorem setBru_lnk (s : State) (x : BruSt) : (s.setBru x).lnk = s.lnk := rfl
@[simp] theorem setBru_sec (s : State) (x : BruSt) : (s.setBru x).sec = s.sec := rfl
@[simp] theorem setBru_bru (s : State) (x : BruSt) : (s.setBru x).bru = x := rfl
@[simp] theorem setBru_tim (s : State) (x : BruSt) : (s.setBru x).tim = s.tim := rfl
@[simp] theorem setBru_img (s : State) (x : BruSt) : (s.setBru x).img = s.img := rfl
@[simp] theorem setBru_crier (s : State) (x : BruSt) : (s.setBru x).crier = s.crier := rfl
@[simp] theorem setBru_tal (s : State) (x : BruSt) : (s.setBru x).tal = s.tal := rfl
@[simp] theorem setBru_scl (s : State) (x : BruSt) : (s.setBru x).scl = s.scl := rfl
@[simp] theorem setBru_red (s : State) (x : BruSt) : (s.setBru x).red = s.red := rfl
@[simp] theorem setBru_tko (s : State) (x : BruSt) : (s.setBru x).tko = s.tko := rfl
@[simp] theorem setBru_trc (s : State) (x : BruSt) : (s.setBru x).trc = s.trc := rfl
@[simp] theorem setBru_inf (s : State) (x : BruSt) : (s.setBru x).inf = s.inf := rfl
@[simp] theorem setBru_srv (s : State) (x : BruSt) : (s.setBru x).srv = s.srv := rfl
@[simp] theorem setBru_con (s : State) (x : BruSt) : (s.setBru x).con = s.con := rfl
@[simp] theorem setBru_free (s : State) (x : BruSt) : (s.setBru x).free = s.free := rfl
@[simp] theorem setBru_pending (s : State) (x : BruSt) : (s.setBru x).pending = s.pending := rfl

@[simp] theorem setTim_build (s : State) (x : TimSt) : (s.setTim x).build = s.build := rfl
@[simp] theorem setTim_regs (s : State) (x : TimSt) : (s.setTim x).regs = s.regs := rfl
@[simp] theorem setTim_inForce (s : State) (x : TimSt) : (s.setTim x).inForce = s.inForce := rfl
@[simp] theorem setTim_ports (s : State) (x : TimSt) : (s.setTim x).ports = s.ports := rfl
@[simp] theorem setTim_led (s : State) (x : TimSt) : (s.setTim x).led = s.led := rfl
@[simp] theorem setTim_lnk (s : State) (x : TimSt) : (s.setTim x).lnk = s.lnk := rfl
@[simp] theorem setTim_sec (s : State) (x : TimSt) : (s.setTim x).sec = s.sec := rfl
@[simp] theorem setTim_bru (s : State) (x : TimSt) : (s.setTim x).bru = s.bru := rfl
@[simp] theorem setTim_tim (s : State) (x : TimSt) : (s.setTim x).tim = x := rfl
@[simp] theorem setTim_img (s : State) (x : TimSt) : (s.setTim x).img = s.img := rfl
@[simp] theorem setTim_crier (s : State) (x : TimSt) : (s.setTim x).crier = s.crier := rfl
@[simp] theorem setTim_tal (s : State) (x : TimSt) : (s.setTim x).tal = s.tal := rfl
@[simp] theorem setTim_scl (s : State) (x : TimSt) : (s.setTim x).scl = s.scl := rfl
@[simp] theorem setTim_red (s : State) (x : TimSt) : (s.setTim x).red = s.red := rfl
@[simp] theorem setTim_tko (s : State) (x : TimSt) : (s.setTim x).tko = s.tko := rfl
@[simp] theorem setTim_trc (s : State) (x : TimSt) : (s.setTim x).trc = s.trc := rfl
@[simp] theorem setTim_inf (s : State) (x : TimSt) : (s.setTim x).inf = s.inf := rfl
@[simp] theorem setTim_srv (s : State) (x : TimSt) : (s.setTim x).srv = s.srv := rfl
@[simp] theorem setTim_con (s : State) (x : TimSt) : (s.setTim x).con = s.con := rfl
@[simp] theorem setTim_free (s : State) (x : TimSt) : (s.setTim x).free = s.free := rfl
@[simp] theorem setTim_pending (s : State) (x : TimSt) : (s.setTim x).pending = s.pending := rfl

@[simp] theorem setImg_build (s : State) (x : ImgSt) : (s.setImg x).build = s.build := rfl
@[simp] theorem setImg_regs (s : State) (x : ImgSt) : (s.setImg x).regs = s.regs := rfl
@[simp] theorem setImg_inForce (s : State) (x : ImgSt) : (s.setImg x).inForce = s.inForce := rfl
@[simp] theorem setImg_ports (s : State) (x : ImgSt) : (s.setImg x).ports = s.ports := rfl
@[simp] theorem setImg_led (s : State) (x : ImgSt) : (s.setImg x).led = s.led := rfl
@[simp] theorem setImg_lnk (s : State) (x : ImgSt) : (s.setImg x).lnk = s.lnk := rfl
@[simp] theorem setImg_sec (s : State) (x : ImgSt) : (s.setImg x).sec = s.sec := rfl
@[simp] theorem setImg_bru (s : State) (x : ImgSt) : (s.setImg x).bru = s.bru := rfl
@[simp] theorem setImg_tim (s : State) (x : ImgSt) : (s.setImg x).tim = s.tim := rfl
@[simp] theorem setImg_img (s : State) (x : ImgSt) : (s.setImg x).img = x := rfl
@[simp] theorem setImg_crier (s : State) (x : ImgSt) : (s.setImg x).crier = s.crier := rfl
@[simp] theorem setImg_tal (s : State) (x : ImgSt) : (s.setImg x).tal = s.tal := rfl
@[simp] theorem setImg_scl (s : State) (x : ImgSt) : (s.setImg x).scl = s.scl := rfl
@[simp] theorem setImg_red (s : State) (x : ImgSt) : (s.setImg x).red = s.red := rfl
@[simp] theorem setImg_tko (s : State) (x : ImgSt) : (s.setImg x).tko = s.tko := rfl
@[simp] theorem setImg_trc (s : State) (x : ImgSt) : (s.setImg x).trc = s.trc := rfl
@[simp] theorem setImg_inf (s : State) (x : ImgSt) : (s.setImg x).inf = s.inf := rfl
@[simp] theorem setImg_srv (s : State) (x : ImgSt) : (s.setImg x).srv = s.srv := rfl
@[simp] theorem setImg_con (s : State) (x : ImgSt) : (s.setImg x).con = s.con := rfl
@[simp] theorem setImg_free (s : State) (x : ImgSt) : (s.setImg x).free = s.free := rfl
@[simp] theorem setImg_pending (s : State) (x : ImgSt) : (s.setImg x).pending = s.pending := rfl

@[simp] theorem setCrier_build (s : State) (x : CrierSt) : (s.setCrier x).build = s.build := rfl
@[simp] theorem setCrier_regs (s : State) (x : CrierSt) : (s.setCrier x).regs = s.regs := rfl
@[simp] theorem setCrier_inForce (s : State) (x : CrierSt) : (s.setCrier x).inForce = s.inForce := rfl
@[simp] theorem setCrier_ports (s : State) (x : CrierSt) : (s.setCrier x).ports = s.ports := rfl
@[simp] theorem setCrier_led (s : State) (x : CrierSt) : (s.setCrier x).led = s.led := rfl
@[simp] theorem setCrier_lnk (s : State) (x : CrierSt) : (s.setCrier x).lnk = s.lnk := rfl
@[simp] theorem setCrier_sec (s : State) (x : CrierSt) : (s.setCrier x).sec = s.sec := rfl
@[simp] theorem setCrier_bru (s : State) (x : CrierSt) : (s.setCrier x).bru = s.bru := rfl
@[simp] theorem setCrier_tim (s : State) (x : CrierSt) : (s.setCrier x).tim = s.tim := rfl
@[simp] theorem setCrier_img (s : State) (x : CrierSt) : (s.setCrier x).img = s.img := rfl
@[simp] theorem setCrier_crier (s : State) (x : CrierSt) : (s.setCrier x).crier = x := rfl
@[simp] theorem setCrier_tal (s : State) (x : CrierSt) : (s.setCrier x).tal = s.tal := rfl
@[simp] theorem setCrier_scl (s : State) (x : CrierSt) : (s.setCrier x).scl = s.scl := rfl
@[simp] theorem setCrier_red (s : State) (x : CrierSt) : (s.setCrier x).red = s.red := rfl
@[simp] theorem setCrier_tko (s : State) (x : CrierSt) : (s.setCrier x).tko = s.tko := rfl
@[simp] theorem setCrier_trc (s : State) (x : CrierSt) : (s.setCrier x).trc = s.trc := rfl
@[simp] theorem setCrier_inf (s : State) (x : CrierSt) : (s.setCrier x).inf = s.inf := rfl
@[simp] theorem setCrier_srv (s : State) (x : CrierSt) : (s.setCrier x).srv = s.srv := rfl
@[simp] theorem setCrier_con (s : State) (x : CrierSt) : (s.setCrier x).con = s.con := rfl
@[simp] theorem setCrier_free (s : State) (x : CrierSt) : (s.setCrier x).free = s.free := rfl
@[simp] theorem setCrier_pending (s : State) (x : CrierSt) : (s.setCrier x).pending = s.pending := rfl

@[simp] theorem setTal_build (s : State) (x : TalSt) : (s.setTal x).build = s.build := rfl
@[simp] theorem setTal_regs (s : State) (x : TalSt) : (s.setTal x).regs = s.regs := rfl
@[simp] theorem setTal_inForce (s : State) (x : TalSt) : (s.setTal x).inForce = s.inForce := rfl
@[simp] theorem setTal_ports (s : State) (x : TalSt) : (s.setTal x).ports = s.ports := rfl
@[simp] theorem setTal_led (s : State) (x : TalSt) : (s.setTal x).led = s.led := rfl
@[simp] theorem setTal_lnk (s : State) (x : TalSt) : (s.setTal x).lnk = s.lnk := rfl
@[simp] theorem setTal_sec (s : State) (x : TalSt) : (s.setTal x).sec = s.sec := rfl
@[simp] theorem setTal_bru (s : State) (x : TalSt) : (s.setTal x).bru = s.bru := rfl
@[simp] theorem setTal_tim (s : State) (x : TalSt) : (s.setTal x).tim = s.tim := rfl
@[simp] theorem setTal_img (s : State) (x : TalSt) : (s.setTal x).img = s.img := rfl
@[simp] theorem setTal_crier (s : State) (x : TalSt) : (s.setTal x).crier = s.crier := rfl
@[simp] theorem setTal_tal (s : State) (x : TalSt) : (s.setTal x).tal = x := rfl
@[simp] theorem setTal_scl (s : State) (x : TalSt) : (s.setTal x).scl = s.scl := rfl
@[simp] theorem setTal_red (s : State) (x : TalSt) : (s.setTal x).red = s.red := rfl
@[simp] theorem setTal_tko (s : State) (x : TalSt) : (s.setTal x).tko = s.tko := rfl
@[simp] theorem setTal_trc (s : State) (x : TalSt) : (s.setTal x).trc = s.trc := rfl
@[simp] theorem setTal_inf (s : State) (x : TalSt) : (s.setTal x).inf = s.inf := rfl
@[simp] theorem setTal_srv (s : State) (x : TalSt) : (s.setTal x).srv = s.srv := rfl
@[simp] theorem setTal_con (s : State) (x : TalSt) : (s.setTal x).con = s.con := rfl
@[simp] theorem setTal_free (s : State) (x : TalSt) : (s.setTal x).free = s.free := rfl
@[simp] theorem setTal_pending (s : State) (x : TalSt) : (s.setTal x).pending = s.pending := rfl

@[simp] theorem setScl_build (s : State) (x : SclSt) : (s.setScl x).build = s.build := rfl
@[simp] theorem setScl_regs (s : State) (x : SclSt) : (s.setScl x).regs = s.regs := rfl
@[simp] theorem setScl_inForce (s : State) (x : SclSt) : (s.setScl x).inForce = s.inForce := rfl
@[simp] theorem setScl_ports (s : State) (x : SclSt) : (s.setScl x).ports = s.ports := rfl
@[simp] theorem setScl_led (s : State) (x : SclSt) : (s.setScl x).led = s.led := rfl
@[simp] theorem setScl_lnk (s : State) (x : SclSt) : (s.setScl x).lnk = s.lnk := rfl
@[simp] theorem setScl_sec (s : State) (x : SclSt) : (s.setScl x).sec = s.sec := rfl
@[simp] theorem setScl_bru (s : State) (x : SclSt) : (s.setScl x).bru = s.bru := rfl
@[simp] theorem setScl_tim (s : State) (x : SclSt) : (s.setScl x).tim = s.tim := rfl
@[simp] theorem setScl_img (s : State) (x : SclSt) : (s.setScl x).img = s.img := rfl
@[simp] theorem setScl_crier (s : State) (x : SclSt) : (s.setScl x).crier = s.crier := rfl
@[simp] theorem setScl_tal (s : State) (x : SclSt) : (s.setScl x).tal = s.tal := rfl
@[simp] theorem setScl_scl (s : State) (x : SclSt) : (s.setScl x).scl = x := rfl
@[simp] theorem setScl_red (s : State) (x : SclSt) : (s.setScl x).red = s.red := rfl
@[simp] theorem setScl_tko (s : State) (x : SclSt) : (s.setScl x).tko = s.tko := rfl
@[simp] theorem setScl_trc (s : State) (x : SclSt) : (s.setScl x).trc = s.trc := rfl
@[simp] theorem setScl_inf (s : State) (x : SclSt) : (s.setScl x).inf = s.inf := rfl
@[simp] theorem setScl_srv (s : State) (x : SclSt) : (s.setScl x).srv = s.srv := rfl
@[simp] theorem setScl_con (s : State) (x : SclSt) : (s.setScl x).con = s.con := rfl
@[simp] theorem setScl_free (s : State) (x : SclSt) : (s.setScl x).free = s.free := rfl
@[simp] theorem setScl_pending (s : State) (x : SclSt) : (s.setScl x).pending = s.pending := rfl

@[simp] theorem setRed_build (s : State) (x : RedSt) : (s.setRed x).build = s.build := rfl
@[simp] theorem setRed_regs (s : State) (x : RedSt) : (s.setRed x).regs = s.regs := rfl
@[simp] theorem setRed_inForce (s : State) (x : RedSt) : (s.setRed x).inForce = s.inForce := rfl
@[simp] theorem setRed_ports (s : State) (x : RedSt) : (s.setRed x).ports = s.ports := rfl
@[simp] theorem setRed_led (s : State) (x : RedSt) : (s.setRed x).led = s.led := rfl
@[simp] theorem setRed_lnk (s : State) (x : RedSt) : (s.setRed x).lnk = s.lnk := rfl
@[simp] theorem setRed_sec (s : State) (x : RedSt) : (s.setRed x).sec = s.sec := rfl
@[simp] theorem setRed_bru (s : State) (x : RedSt) : (s.setRed x).bru = s.bru := rfl
@[simp] theorem setRed_tim (s : State) (x : RedSt) : (s.setRed x).tim = s.tim := rfl
@[simp] theorem setRed_img (s : State) (x : RedSt) : (s.setRed x).img = s.img := rfl
@[simp] theorem setRed_crier (s : State) (x : RedSt) : (s.setRed x).crier = s.crier := rfl
@[simp] theorem setRed_tal (s : State) (x : RedSt) : (s.setRed x).tal = s.tal := rfl
@[simp] theorem setRed_scl (s : State) (x : RedSt) : (s.setRed x).scl = s.scl := rfl
@[simp] theorem setRed_red (s : State) (x : RedSt) : (s.setRed x).red = x := rfl
@[simp] theorem setRed_tko (s : State) (x : RedSt) : (s.setRed x).tko = s.tko := rfl
@[simp] theorem setRed_trc (s : State) (x : RedSt) : (s.setRed x).trc = s.trc := rfl
@[simp] theorem setRed_inf (s : State) (x : RedSt) : (s.setRed x).inf = s.inf := rfl
@[simp] theorem setRed_srv (s : State) (x : RedSt) : (s.setRed x).srv = s.srv := rfl
@[simp] theorem setRed_con (s : State) (x : RedSt) : (s.setRed x).con = s.con := rfl
@[simp] theorem setRed_free (s : State) (x : RedSt) : (s.setRed x).free = s.free := rfl
@[simp] theorem setRed_pending (s : State) (x : RedSt) : (s.setRed x).pending = s.pending := rfl

@[simp] theorem setTrc_build (s : State) (x : TrcSt) : (s.setTrc x).build = s.build := rfl
@[simp] theorem setTrc_regs (s : State) (x : TrcSt) : (s.setTrc x).regs = s.regs := rfl
@[simp] theorem setTrc_inForce (s : State) (x : TrcSt) : (s.setTrc x).inForce = s.inForce := rfl
@[simp] theorem setTrc_ports (s : State) (x : TrcSt) : (s.setTrc x).ports = s.ports := rfl
@[simp] theorem setTrc_led (s : State) (x : TrcSt) : (s.setTrc x).led = s.led := rfl
@[simp] theorem setTrc_lnk (s : State) (x : TrcSt) : (s.setTrc x).lnk = s.lnk := rfl
@[simp] theorem setTrc_sec (s : State) (x : TrcSt) : (s.setTrc x).sec = s.sec := rfl
@[simp] theorem setTrc_bru (s : State) (x : TrcSt) : (s.setTrc x).bru = s.bru := rfl
@[simp] theorem setTrc_tim (s : State) (x : TrcSt) : (s.setTrc x).tim = s.tim := rfl
@[simp] theorem setTrc_img (s : State) (x : TrcSt) : (s.setTrc x).img = s.img := rfl
@[simp] theorem setTrc_crier (s : State) (x : TrcSt) : (s.setTrc x).crier = s.crier := rfl
@[simp] theorem setTrc_tal (s : State) (x : TrcSt) : (s.setTrc x).tal = s.tal := rfl
@[simp] theorem setTrc_scl (s : State) (x : TrcSt) : (s.setTrc x).scl = s.scl := rfl
@[simp] theorem setTrc_red (s : State) (x : TrcSt) : (s.setTrc x).red = s.red := rfl
@[simp] theorem setTrc_tko (s : State) (x : TrcSt) : (s.setTrc x).tko = s.tko := rfl
@[simp] theorem setTrc_trc (s : State) (x : TrcSt) : (s.setTrc x).trc = x := rfl
@[simp] theorem setTrc_inf (s : State) (x : TrcSt) : (s.setTrc x).inf = s.inf := rfl
@[simp] theorem setTrc_srv (s : State) (x : TrcSt) : (s.setTrc x).srv = s.srv := rfl
@[simp] theorem setTrc_con (s : State) (x : TrcSt) : (s.setTrc x).con = s.con := rfl
@[simp] theorem setTrc_free (s : State) (x : TrcSt) : (s.setTrc x).free = s.free := rfl
@[simp] theorem setTrc_pending (s : State) (x : TrcSt) : (s.setTrc x).pending = s.pending := rfl

@[simp] theorem setInf_build (s : State) (x : InfSt) : (s.setInf x).build = s.build := rfl
@[simp] theorem setInf_regs (s : State) (x : InfSt) : (s.setInf x).regs = s.regs := rfl
@[simp] theorem setInf_inForce (s : State) (x : InfSt) : (s.setInf x).inForce = s.inForce := rfl
@[simp] theorem setInf_ports (s : State) (x : InfSt) : (s.setInf x).ports = s.ports := rfl
@[simp] theorem setInf_led (s : State) (x : InfSt) : (s.setInf x).led = s.led := rfl
@[simp] theorem setInf_lnk (s : State) (x : InfSt) : (s.setInf x).lnk = s.lnk := rfl
@[simp] theorem setInf_sec (s : State) (x : InfSt) : (s.setInf x).sec = s.sec := rfl
@[simp] theorem setInf_bru (s : State) (x : InfSt) : (s.setInf x).bru = s.bru := rfl
@[simp] theorem setInf_tim (s : State) (x : InfSt) : (s.setInf x).tim = s.tim := rfl
@[simp] theorem setInf_img (s : State) (x : InfSt) : (s.setInf x).img = s.img := rfl
@[simp] theorem setInf_crier (s : State) (x : InfSt) : (s.setInf x).crier = s.crier := rfl
@[simp] theorem setInf_tal (s : State) (x : InfSt) : (s.setInf x).tal = s.tal := rfl
@[simp] theorem setInf_scl (s : State) (x : InfSt) : (s.setInf x).scl = s.scl := rfl
@[simp] theorem setInf_red (s : State) (x : InfSt) : (s.setInf x).red = s.red := rfl
@[simp] theorem setInf_tko (s : State) (x : InfSt) : (s.setInf x).tko = s.tko := rfl
@[simp] theorem setInf_trc (s : State) (x : InfSt) : (s.setInf x).trc = s.trc := rfl
@[simp] theorem setInf_inf (s : State) (x : InfSt) : (s.setInf x).inf = x := rfl
@[simp] theorem setInf_srv (s : State) (x : InfSt) : (s.setInf x).srv = s.srv := rfl
@[simp] theorem setInf_con (s : State) (x : InfSt) : (s.setInf x).con = s.con := rfl
@[simp] theorem setInf_free (s : State) (x : InfSt) : (s.setInf x).free = s.free := rfl
@[simp] theorem setInf_pending (s : State) (x : InfSt) : (s.setInf x).pending = s.pending := rfl

@[simp] theorem setSrv_build (s : State) (x : SvcSt) : (s.setSrv x).build = s.build := rfl
@[simp] theorem setSrv_regs (s : State) (x : SvcSt) : (s.setSrv x).regs = s.regs := rfl
@[simp] theorem setSrv_inForce (s : State) (x : SvcSt) : (s.setSrv x).inForce = s.inForce := rfl
@[simp] theorem setSrv_ports (s : State) (x : SvcSt) : (s.setSrv x).ports = s.ports := rfl
@[simp] theorem setSrv_led (s : State) (x : SvcSt) : (s.setSrv x).led = s.led := rfl
@[simp] theorem setSrv_lnk (s : State) (x : SvcSt) : (s.setSrv x).lnk = s.lnk := rfl
@[simp] theorem setSrv_sec (s : State) (x : SvcSt) : (s.setSrv x).sec = s.sec := rfl
@[simp] theorem setSrv_bru (s : State) (x : SvcSt) : (s.setSrv x).bru = s.bru := rfl
@[simp] theorem setSrv_tim (s : State) (x : SvcSt) : (s.setSrv x).tim = s.tim := rfl
@[simp] theorem setSrv_img (s : State) (x : SvcSt) : (s.setSrv x).img = s.img := rfl
@[simp] theorem setSrv_crier (s : State) (x : SvcSt) : (s.setSrv x).crier = s.crier := rfl
@[simp] theorem setSrv_tal (s : State) (x : SvcSt) : (s.setSrv x).tal = s.tal := rfl
@[simp] theorem setSrv_scl (s : State) (x : SvcSt) : (s.setSrv x).scl = s.scl := rfl
@[simp] theorem setSrv_red (s : State) (x : SvcSt) : (s.setSrv x).red = s.red := rfl
@[simp] theorem setSrv_tko (s : State) (x : SvcSt) : (s.setSrv x).tko = s.tko := rfl
@[simp] theorem setSrv_trc (s : State) (x : SvcSt) : (s.setSrv x).trc = s.trc := rfl
@[simp] theorem setSrv_inf (s : State) (x : SvcSt) : (s.setSrv x).inf = s.inf := rfl
@[simp] theorem setSrv_srv (s : State) (x : SvcSt) : (s.setSrv x).srv = x := rfl
@[simp] theorem setSrv_con (s : State) (x : SvcSt) : (s.setSrv x).con = s.con := rfl
@[simp] theorem setSrv_free (s : State) (x : SvcSt) : (s.setSrv x).free = s.free := rfl
@[simp] theorem setSrv_pending (s : State) (x : SvcSt) : (s.setSrv x).pending = s.pending := rfl

@[simp] theorem setCon_build (s : State) (x : ConSt) : (s.setCon x).build = s.build := rfl
@[simp] theorem setCon_regs (s : State) (x : ConSt) : (s.setCon x).regs = s.regs := rfl
@[simp] theorem setCon_inForce (s : State) (x : ConSt) : (s.setCon x).inForce = s.inForce := rfl
@[simp] theorem setCon_ports (s : State) (x : ConSt) : (s.setCon x).ports = s.ports := rfl
@[simp] theorem setCon_led (s : State) (x : ConSt) : (s.setCon x).led = s.led := rfl
@[simp] theorem setCon_lnk (s : State) (x : ConSt) : (s.setCon x).lnk = s.lnk := rfl
@[simp] theorem setCon_sec (s : State) (x : ConSt) : (s.setCon x).sec = s.sec := rfl
@[simp] theorem setCon_bru (s : State) (x : ConSt) : (s.setCon x).bru = s.bru := rfl
@[simp] theorem setCon_tim (s : State) (x : ConSt) : (s.setCon x).tim = s.tim := rfl
@[simp] theorem setCon_img (s : State) (x : ConSt) : (s.setCon x).img = s.img := rfl
@[simp] theorem setCon_crier (s : State) (x : ConSt) : (s.setCon x).crier = s.crier := rfl
@[simp] theorem setCon_tal (s : State) (x : ConSt) : (s.setCon x).tal = s.tal := rfl
@[simp] theorem setCon_scl (s : State) (x : ConSt) : (s.setCon x).scl = s.scl := rfl
@[simp] theorem setCon_red (s : State) (x : ConSt) : (s.setCon x).red = s.red := rfl
@[simp] theorem setCon_tko (s : State) (x : ConSt) : (s.setCon x).tko = s.tko := rfl
@[simp] theorem setCon_trc (s : State) (x : ConSt) : (s.setCon x).trc = s.trc := rfl
@[simp] theorem setCon_inf (s : State) (x : ConSt) : (s.setCon x).inf = s.inf := rfl
@[simp] theorem setCon_srv (s : State) (x : ConSt) : (s.setCon x).srv = s.srv := rfl
@[simp] theorem setCon_con (s : State) (x : ConSt) : (s.setCon x).con = x := rfl
@[simp] theorem setCon_free (s : State) (x : ConSt) : (s.setCon x).free = s.free := rfl
@[simp] theorem setCon_pending (s : State) (x : ConSt) : (s.setCon x).pending = s.pending := rfl

@[simp] theorem setTko_build (s : State) (x : Option TkoSt) : (s.setTko x).build = s.build := rfl
@[simp] theorem setTko_regs (s : State) (x : Option TkoSt) : (s.setTko x).regs = s.regs := rfl
@[simp] theorem setTko_inForce (s : State) (x : Option TkoSt) : (s.setTko x).inForce = s.inForce := rfl
@[simp] theorem setTko_ports (s : State) (x : Option TkoSt) : (s.setTko x).ports = s.ports := rfl
@[simp] theorem setTko_led (s : State) (x : Option TkoSt) : (s.setTko x).led = s.led := rfl
@[simp] theorem setTko_lnk (s : State) (x : Option TkoSt) : (s.setTko x).lnk = s.lnk := rfl
@[simp] theorem setTko_sec (s : State) (x : Option TkoSt) : (s.setTko x).sec = s.sec := rfl
@[simp] theorem setTko_bru (s : State) (x : Option TkoSt) : (s.setTko x).bru = s.bru := rfl
@[simp] theorem setTko_tim (s : State) (x : Option TkoSt) : (s.setTko x).tim = s.tim := rfl
@[simp] theorem setTko_img (s : State) (x : Option TkoSt) : (s.setTko x).img = s.img := rfl
@[simp] theorem setTko_crier (s : State) (x : Option TkoSt) : (s.setTko x).crier = s.crier := rfl
@[simp] theorem setTko_tal (s : State) (x : Option TkoSt) : (s.setTko x).tal = s.tal := rfl
@[simp] theorem setTko_scl (s : State) (x : Option TkoSt) : (s.setTko x).scl = s.scl := rfl
@[simp] theorem setTko_red (s : State) (x : Option TkoSt) : (s.setTko x).red = s.red := rfl
@[simp] theorem setTko_tko (s : State) (x : Option TkoSt) : (s.setTko x).tko = x := rfl
@[simp] theorem setTko_trc (s : State) (x : Option TkoSt) : (s.setTko x).trc = s.trc := rfl
@[simp] theorem setTko_inf (s : State) (x : Option TkoSt) : (s.setTko x).inf = s.inf := rfl
@[simp] theorem setTko_srv (s : State) (x : Option TkoSt) : (s.setTko x).srv = s.srv := rfl
@[simp] theorem setTko_con (s : State) (x : Option TkoSt) : (s.setTko x).con = s.con := rfl
@[simp] theorem setTko_free (s : State) (x : Option TkoSt) : (s.setTko x).free = s.free := rfl
@[simp] theorem setTko_pending (s : State) (x : Option TkoSt) : (s.setTko x).pending = s.pending := rfl

@[simp] theorem set_build (s : State) (f : Fld) (v : Nat) : (s.set f v).build = s.build := rfl
@[simp] theorem set_inForce (s : State) (f : Fld) (v : Nat) : (s.set f v).inForce = s.inForce := rfl
@[simp] theorem set_ports (s : State) (f : Fld) (v : Nat) : (s.set f v).ports = s.ports := rfl
@[simp] theorem set_led (s : State) (f : Fld) (v : Nat) : (s.set f v).led = s.led := rfl
@[simp] theorem set_lnk (s : State) (f : Fld) (v : Nat) : (s.set f v).lnk = s.lnk := rfl
@[simp] theorem set_sec (s : State) (f : Fld) (v : Nat) : (s.set f v).sec = s.sec := rfl
@[simp] theorem set_bru (s : State) (f : Fld) (v : Nat) : (s.set f v).bru = s.bru := rfl
@[simp] theorem set_tim (s : State) (f : Fld) (v : Nat) : (s.set f v).tim = s.tim := rfl
@[simp] theorem set_img (s : State) (f : Fld) (v : Nat) : (s.set f v).img = s.img := rfl
@[simp] theorem set_crier (s : State) (f : Fld) (v : Nat) : (s.set f v).crier = s.crier := rfl
@[simp] theorem set_tal (s : State) (f : Fld) (v : Nat) : (s.set f v).tal = s.tal := rfl
@[simp] theorem set_scl (s : State) (f : Fld) (v : Nat) : (s.set f v).scl = s.scl := rfl
@[simp] theorem set_red (s : State) (f : Fld) (v : Nat) : (s.set f v).red = s.red := rfl
@[simp] theorem set_tko (s : State) (f : Fld) (v : Nat) : (s.set f v).tko = s.tko := rfl
@[simp] theorem set_trc (s : State) (f : Fld) (v : Nat) : (s.set f v).trc = s.trc := rfl
@[simp] theorem set_inf (s : State) (f : Fld) (v : Nat) : (s.set f v).inf = s.inf := rfl
@[simp] theorem set_srv (s : State) (f : Fld) (v : Nat) : (s.set f v).srv = s.srv := rfl
@[simp] theorem set_con (s : State) (f : Fld) (v : Nat) : (s.set f v).con = s.con := rfl
@[simp] theorem set_free (s : State) (f : Fld) (v : Nat) : (s.set f v).free = s.free := rfl
@[simp] theorem set_pending (s : State) (f : Fld) (v : Nat) : (s.set f v).pending = s.pending := rfl

@[simp] theorem setWord_build (s : State) (a : Nat) (w : Word) : (s.setWord a w).build = s.build := rfl
@[simp] theorem setWord_inForce (s : State) (a : Nat) (w : Word) : (s.setWord a w).inForce = s.inForce := rfl
@[simp] theorem setWord_ports (s : State) (a : Nat) (w : Word) : (s.setWord a w).ports = s.ports := rfl
@[simp] theorem setWord_led (s : State) (a : Nat) (w : Word) : (s.setWord a w).led = s.led := rfl
@[simp] theorem setWord_lnk (s : State) (a : Nat) (w : Word) : (s.setWord a w).lnk = s.lnk := rfl
@[simp] theorem setWord_sec (s : State) (a : Nat) (w : Word) : (s.setWord a w).sec = s.sec := rfl
@[simp] theorem setWord_bru (s : State) (a : Nat) (w : Word) : (s.setWord a w).bru = s.bru := rfl
@[simp] theorem setWord_tim (s : State) (a : Nat) (w : Word) : (s.setWord a w).tim = s.tim := rfl
@[simp] theorem setWord_img (s : State) (a : Nat) (w : Word) : (s.setWord a w).img = s.img := rfl
@[simp] theorem setWord_crier (s : State) (a : Nat) (w : Word) : (s.setWord a w).crier = s.crier := rfl
@[simp] theorem setWord_tal (s : State) (a : Nat) (w : Word) : (s.setWord a w).tal = s.tal := rfl
@[simp] theorem setWord_scl (s : State) (a : Nat) (w : Word) : (s.setWord a w).scl = s.scl := rfl
@[simp] theorem setWord_red (s : State) (a : Nat) (w : Word) : (s.setWord a w).red = s.red := rfl
@[simp] theorem setWord_tko (s : State) (a : Nat) (w : Word) : (s.setWord a w).tko = s.tko := rfl
@[simp] theorem setWord_trc (s : State) (a : Nat) (w : Word) : (s.setWord a w).trc = s.trc := rfl
@[simp] theorem setWord_inf (s : State) (a : Nat) (w : Word) : (s.setWord a w).inf = s.inf := rfl
@[simp] theorem setWord_srv (s : State) (a : Nat) (w : Word) : (s.setWord a w).srv = s.srv := rfl
@[simp] theorem setWord_con (s : State) (a : Nat) (w : Word) : (s.setWord a w).con = s.con := rfl
@[simp] theorem setWord_free (s : State) (a : Nat) (w : Word) : (s.setWord a w).free = s.free := rfl
@[simp] theorem setWord_pending (s : State) (a : Nat) (w : Word) : (s.setWord a w).pending = s.pending := rfl

@[simp] theorem add_build (s : State) (f : Fld) (n : Nat) : (s.add f n).build = s.build := rfl
@[simp] theorem add_inForce (s : State) (f : Fld) (n : Nat) : (s.add f n).inForce = s.inForce := rfl
@[simp] theorem add_ports (s : State) (f : Fld) (n : Nat) : (s.add f n).ports = s.ports := rfl
@[simp] theorem add_led (s : State) (f : Fld) (n : Nat) : (s.add f n).led = s.led := rfl
@[simp] theorem add_lnk (s : State) (f : Fld) (n : Nat) : (s.add f n).lnk = s.lnk := rfl
@[simp] theorem add_sec (s : State) (f : Fld) (n : Nat) : (s.add f n).sec = s.sec := rfl
@[simp] theorem add_bru (s : State) (f : Fld) (n : Nat) : (s.add f n).bru = s.bru := rfl
@[simp] theorem add_tim (s : State) (f : Fld) (n : Nat) : (s.add f n).tim = s.tim := rfl
@[simp] theorem add_img (s : State) (f : Fld) (n : Nat) : (s.add f n).img = s.img := rfl
@[simp] theorem add_crier (s : State) (f : Fld) (n : Nat) : (s.add f n).crier = s.crier := rfl
@[simp] theorem add_tal (s : State) (f : Fld) (n : Nat) : (s.add f n).tal = s.tal := rfl
@[simp] theorem add_scl (s : State) (f : Fld) (n : Nat) : (s.add f n).scl = s.scl := rfl
@[simp] theorem add_red (s : State) (f : Fld) (n : Nat) : (s.add f n).red = s.red := rfl
@[simp] theorem add_tko (s : State) (f : Fld) (n : Nat) : (s.add f n).tko = s.tko := rfl
@[simp] theorem add_trc (s : State) (f : Fld) (n : Nat) : (s.add f n).trc = s.trc := rfl
@[simp] theorem add_inf (s : State) (f : Fld) (n : Nat) : (s.add f n).inf = s.inf := rfl
@[simp] theorem add_srv (s : State) (f : Fld) (n : Nat) : (s.add f n).srv = s.srv := rfl
@[simp] theorem add_con (s : State) (f : Fld) (n : Nat) : (s.add f n).con = s.con := rfl
@[simp] theorem add_free (s : State) (f : Fld) (n : Nat) : (s.add f n).free = s.free := rfl
@[simp] theorem add_pending (s : State) (f : Fld) (n : Nat) : (s.add f n).pending = s.pending := rfl

@[simp] theorem inc_build (s : State) (f : Fld) : (s.inc f).build = s.build := rfl
@[simp] theorem inc_inForce (s : State) (f : Fld) : (s.inc f).inForce = s.inForce := rfl
@[simp] theorem inc_ports (s : State) (f : Fld) : (s.inc f).ports = s.ports := rfl
@[simp] theorem inc_led (s : State) (f : Fld) : (s.inc f).led = s.led := rfl
@[simp] theorem inc_lnk (s : State) (f : Fld) : (s.inc f).lnk = s.lnk := rfl
@[simp] theorem inc_sec (s : State) (f : Fld) : (s.inc f).sec = s.sec := rfl
@[simp] theorem inc_bru (s : State) (f : Fld) : (s.inc f).bru = s.bru := rfl
@[simp] theorem inc_tim (s : State) (f : Fld) : (s.inc f).tim = s.tim := rfl
@[simp] theorem inc_img (s : State) (f : Fld) : (s.inc f).img = s.img := rfl
@[simp] theorem inc_crier (s : State) (f : Fld) : (s.inc f).crier = s.crier := rfl
@[simp] theorem inc_tal (s : State) (f : Fld) : (s.inc f).tal = s.tal := rfl
@[simp] theorem inc_scl (s : State) (f : Fld) : (s.inc f).scl = s.scl := rfl
@[simp] theorem inc_red (s : State) (f : Fld) : (s.inc f).red = s.red := rfl
@[simp] theorem inc_tko (s : State) (f : Fld) : (s.inc f).tko = s.tko := rfl
@[simp] theorem inc_trc (s : State) (f : Fld) : (s.inc f).trc = s.trc := rfl
@[simp] theorem inc_inf (s : State) (f : Fld) : (s.inc f).inf = s.inf := rfl
@[simp] theorem inc_srv (s : State) (f : Fld) : (s.inc f).srv = s.srv := rfl
@[simp] theorem inc_con (s : State) (f : Fld) : (s.inc f).con = s.con := rfl
@[simp] theorem inc_free (s : State) (f : Fld) : (s.inc f).free = s.free := rfl
@[simp] theorem inc_pending (s : State) (f : Fld) : (s.inc f).pending = s.pending := rfl

@[simp] theorem wrapInc_build (s : State) (f : Fld) : (s.wrapInc f).build = s.build := rfl
@[simp] theorem wrapInc_inForce (s : State) (f : Fld) : (s.wrapInc f).inForce = s.inForce := rfl
@[simp] theorem wrapInc_ports (s : State) (f : Fld) : (s.wrapInc f).ports = s.ports := rfl
@[simp] theorem wrapInc_led (s : State) (f : Fld) : (s.wrapInc f).led = s.led := rfl
@[simp] theorem wrapInc_lnk (s : State) (f : Fld) : (s.wrapInc f).lnk = s.lnk := rfl
@[simp] theorem wrapInc_sec (s : State) (f : Fld) : (s.wrapInc f).sec = s.sec := rfl
@[simp] theorem wrapInc_bru (s : State) (f : Fld) : (s.wrapInc f).bru = s.bru := rfl
@[simp] theorem wrapInc_tim (s : State) (f : Fld) : (s.wrapInc f).tim = s.tim := rfl
@[simp] theorem wrapInc_img (s : State) (f : Fld) : (s.wrapInc f).img = s.img := rfl
@[simp] theorem wrapInc_crier (s : State) (f : Fld) : (s.wrapInc f).crier = s.crier := rfl
@[simp] theorem wrapInc_tal (s : State) (f : Fld) : (s.wrapInc f).tal = s.tal := rfl
@[simp] theorem wrapInc_scl (s : State) (f : Fld) : (s.wrapInc f).scl = s.scl := rfl
@[simp] theorem wrapInc_red (s : State) (f : Fld) : (s.wrapInc f).red = s.red := rfl
@[simp] theorem wrapInc_tko (s : State) (f : Fld) : (s.wrapInc f).tko = s.tko := rfl
@[simp] theorem wrapInc_trc (s : State) (f : Fld) : (s.wrapInc f).trc = s.trc := rfl
@[simp] theorem wrapInc_inf (s : State) (f : Fld) : (s.wrapInc f).inf = s.inf := rfl
@[simp] theorem wrapInc_srv (s : State) (f : Fld) : (s.wrapInc f).srv = s.srv := rfl
@[simp] theorem wrapInc_con (s : State) (f : Fld) : (s.wrapInc f).con = s.con := rfl
@[simp] theorem wrapInc_free (s : State) (f : Fld) : (s.wrapInc f).free = s.free := rfl
@[simp] theorem wrapInc_pending (s : State) (f : Fld) : (s.wrapInc f).pending = s.pending := rfl

@[simp] theorem raiseTo_build (s : State) (f : Fld) (v : Nat) : (s.raiseTo f v).build = s.build := rfl
@[simp] theorem raiseTo_inForce (s : State) (f : Fld) (v : Nat) : (s.raiseTo f v).inForce = s.inForce := rfl
@[simp] theorem raiseTo_ports (s : State) (f : Fld) (v : Nat) : (s.raiseTo f v).ports = s.ports := rfl
@[simp] theorem raiseTo_led (s : State) (f : Fld) (v : Nat) : (s.raiseTo f v).led = s.led := rfl
@[simp] theorem raiseTo_lnk (s : State) (f : Fld) (v : Nat) : (s.raiseTo f v).lnk = s.lnk := rfl
@[simp] theorem raiseTo_sec (s : State) (f : Fld) (v : Nat) : (s.raiseTo f v).sec = s.sec := rfl
@[simp] theorem raiseTo_bru (s : State) (f : Fld) (v : Nat) : (s.raiseTo f v).bru = s.bru := rfl
@[simp] theorem raiseTo_tim (s : State) (f : Fld) (v : Nat) : (s.raiseTo f v).tim = s.tim := rfl
@[simp] theorem raiseTo_img (s : State) (f : Fld) (v : Nat) : (s.raiseTo f v).img = s.img := rfl
@[simp] theorem raiseTo_crier (s : State) (f : Fld) (v : Nat) : (s.raiseTo f v).crier = s.crier := rfl
@[simp] theorem raiseTo_tal (s : State) (f : Fld) (v : Nat) : (s.raiseTo f v).tal = s.tal := rfl
@[simp] theorem raiseTo_scl (s : State) (f : Fld) (v : Nat) : (s.raiseTo f v).scl = s.scl := rfl
@[simp] theorem raiseTo_red (s : State) (f : Fld) (v : Nat) : (s.raiseTo f v).red = s.red := rfl
@[simp] theorem raiseTo_tko (s : State) (f : Fld) (v : Nat) : (s.raiseTo f v).tko = s.tko := rfl
@[simp] theorem raiseTo_trc (s : State) (f : Fld) (v : Nat) : (s.raiseTo f v).trc = s.trc := rfl
@[simp] theorem raiseTo_inf (s : State) (f : Fld) (v : Nat) : (s.raiseTo f v).inf = s.inf := rfl
@[simp] theorem raiseTo_srv (s : State) (f : Fld) (v : Nat) : (s.raiseTo f v).srv = s.srv := rfl
@[simp] theorem raiseTo_con (s : State) (f : Fld) (v : Nat) : (s.raiseTo f v).con = s.con := rfl
@[simp] theorem raiseTo_free (s : State) (f : Fld) (v : Nat) : (s.raiseTo f v).free = s.free := rfl
@[simp] theorem raiseTo_pending (s : State) (f : Fld) (v : Nat) : (s.raiseTo f v).pending = s.pending := rfl

@[simp] theorem wrapAdd_build (s : State) (f : Fld) (n : Nat) : (s.wrapAdd f n).build = s.build := rfl
@[simp] theorem wrapAdd_inForce (s : State) (f : Fld) (n : Nat) : (s.wrapAdd f n).inForce = s.inForce := rfl
@[simp] theorem wrapAdd_ports (s : State) (f : Fld) (n : Nat) : (s.wrapAdd f n).ports = s.ports := rfl
@[simp] theorem wrapAdd_led (s : State) (f : Fld) (n : Nat) : (s.wrapAdd f n).led = s.led := rfl
@[simp] theorem wrapAdd_lnk (s : State) (f : Fld) (n : Nat) : (s.wrapAdd f n).lnk = s.lnk := rfl
@[simp] theorem wrapAdd_sec (s : State) (f : Fld) (n : Nat) : (s.wrapAdd f n).sec = s.sec := rfl
@[simp] theorem wrapAdd_bru (s : State) (f : Fld) (n : Nat) : (s.wrapAdd f n).bru = s.bru := rfl
@[simp] theorem wrapAdd_tim (s : State) (f : Fld) (n : Nat) : (s.wrapAdd f n).tim = s.tim := rfl
@[simp] theorem wrapAdd_img (s : State) (f : Fld) (n : Nat) : (s.wrapAdd f n).img = s.img := rfl
@[simp] theorem wrapAdd_crier (s : State) (f : Fld) (n : Nat) : (s.wrapAdd f n).crier = s.crier := rfl
@[simp] theorem wrapAdd_tal (s : State) (f : Fld) (n : Nat) : (s.wrapAdd f n).tal = s.tal := rfl
@[simp] theorem wrapAdd_scl (s : State) (f : Fld) (n : Nat) : (s.wrapAdd f n).scl = s.scl := rfl
@[simp] theorem wrapAdd_red (s : State) (f : Fld) (n : Nat) : (s.wrapAdd f n).red = s.red := rfl
@[simp] theorem wrapAdd_tko (s : State) (f : Fld) (n : Nat) : (s.wrapAdd f n).tko = s.tko := rfl
@[simp] theorem wrapAdd_trc (s : State) (f : Fld) (n : Nat) : (s.wrapAdd f n).trc = s.trc := rfl
@[simp] theorem wrapAdd_inf (s : State) (f : Fld) (n : Nat) : (s.wrapAdd f n).inf = s.inf := rfl
@[simp] theorem wrapAdd_srv (s : State) (f : Fld) (n : Nat) : (s.wrapAdd f n).srv = s.srv := rfl
@[simp] theorem wrapAdd_con (s : State) (f : Fld) (n : Nat) : (s.wrapAdd f n).con = s.con := rfl
@[simp] theorem wrapAdd_free (s : State) (f : Fld) (n : Nat) : (s.wrapAdd f n).free = s.free := rfl
@[simp] theorem wrapAdd_pending (s : State) (f : Fld) (n : Nat) : (s.wrapAdd f n).pending = s.pending := rfl

@[simp] theorem setPair_build (s : State) (lo hi : Fld) (v : Nat) : (s.setPair lo hi v).build = s.build := rfl
@[simp] theorem setPair_inForce (s : State) (lo hi : Fld) (v : Nat) : (s.setPair lo hi v).inForce = s.inForce := rfl
@[simp] theorem setPair_ports (s : State) (lo hi : Fld) (v : Nat) : (s.setPair lo hi v).ports = s.ports := rfl
@[simp] theorem setPair_led (s : State) (lo hi : Fld) (v : Nat) : (s.setPair lo hi v).led = s.led := rfl
@[simp] theorem setPair_lnk (s : State) (lo hi : Fld) (v : Nat) : (s.setPair lo hi v).lnk = s.lnk := rfl
@[simp] theorem setPair_sec (s : State) (lo hi : Fld) (v : Nat) : (s.setPair lo hi v).sec = s.sec := rfl
@[simp] theorem setPair_bru (s : State) (lo hi : Fld) (v : Nat) : (s.setPair lo hi v).bru = s.bru := rfl
@[simp] theorem setPair_tim (s : State) (lo hi : Fld) (v : Nat) : (s.setPair lo hi v).tim = s.tim := rfl
@[simp] theorem setPair_img (s : State) (lo hi : Fld) (v : Nat) : (s.setPair lo hi v).img = s.img := rfl
@[simp] theorem setPair_crier (s : State) (lo hi : Fld) (v : Nat) : (s.setPair lo hi v).crier = s.crier := rfl
@[simp] theorem setPair_tal (s : State) (lo hi : Fld) (v : Nat) : (s.setPair lo hi v).tal = s.tal := rfl
@[simp] theorem setPair_scl (s : State) (lo hi : Fld) (v : Nat) : (s.setPair lo hi v).scl = s.scl := rfl
@[simp] theorem setPair_red (s : State) (lo hi : Fld) (v : Nat) : (s.setPair lo hi v).red = s.red := rfl
@[simp] theorem setPair_tko (s : State) (lo hi : Fld) (v : Nat) : (s.setPair lo hi v).tko = s.tko := rfl
@[simp] theorem setPair_trc (s : State) (lo hi : Fld) (v : Nat) : (s.setPair lo hi v).trc = s.trc := rfl
@[simp] theorem setPair_inf (s : State) (lo hi : Fld) (v : Nat) : (s.setPair lo hi v).inf = s.inf := rfl
@[simp] theorem setPair_srv (s : State) (lo hi : Fld) (v : Nat) : (s.setPair lo hi v).srv = s.srv := rfl
@[simp] theorem setPair_con (s : State) (lo hi : Fld) (v : Nat) : (s.setPair lo hi v).con = s.con := rfl
@[simp] theorem setPair_free (s : State) (lo hi : Fld) (v : Nat) : (s.setPair lo hi v).free = s.free := rfl
@[simp] theorem setPair_pending (s : State) (lo hi : Fld) (v : Nat) : (s.setPair lo hi v).pending = s.pending := rfl

@[simp] theorem plainWrite_build (s : State) (a : Nat) (w : Word) : (s.plainWrite a w).build = s.build := rfl
@[simp] theorem plainWrite_inForce (s : State) (a : Nat) (w : Word) : (s.plainWrite a w).inForce = s.inForce := rfl
@[simp] theorem plainWrite_ports (s : State) (a : Nat) (w : Word) : (s.plainWrite a w).ports = s.ports := rfl
@[simp] theorem plainWrite_led (s : State) (a : Nat) (w : Word) : (s.plainWrite a w).led = s.led := rfl
@[simp] theorem plainWrite_lnk (s : State) (a : Nat) (w : Word) : (s.plainWrite a w).lnk = s.lnk := rfl
@[simp] theorem plainWrite_sec (s : State) (a : Nat) (w : Word) : (s.plainWrite a w).sec = s.sec := rfl
@[simp] theorem plainWrite_bru (s : State) (a : Nat) (w : Word) : (s.plainWrite a w).bru = s.bru := rfl
@[simp] theorem plainWrite_tim (s : State) (a : Nat) (w : Word) : (s.plainWrite a w).tim = s.tim := rfl
@[simp] theorem plainWrite_img (s : State) (a : Nat) (w : Word) : (s.plainWrite a w).img = s.img := rfl
@[simp] theorem plainWrite_crier (s : State) (a : Nat) (w : Word) : (s.plainWrite a w).crier = s.crier := rfl
@[simp] theorem plainWrite_tal (s : State) (a : Nat) (w : Word) : (s.plainWrite a w).tal = s.tal := rfl
@[simp] theorem plainWrite_scl (s : State) (a : Nat) (w : Word) : (s.plainWrite a w).scl = s.scl := rfl
@[simp] theorem plainWrite_red (s : State) (a : Nat) (w : Word) : (s.plainWrite a w).red = s.red := rfl
@[simp] theorem plainWrite_tko (s : State) (a : Nat) (w : Word) : (s.plainWrite a w).tko = s.tko := rfl
@[simp] theorem plainWrite_trc (s : State) (a : Nat) (w : Word) : (s.plainWrite a w).trc = s.trc := rfl
@[simp] theorem plainWrite_inf (s : State) (a : Nat) (w : Word) : (s.plainWrite a w).inf = s.inf := rfl
@[simp] theorem plainWrite_srv (s : State) (a : Nat) (w : Word) : (s.plainWrite a w).srv = s.srv := rfl
@[simp] theorem plainWrite_con (s : State) (a : Nat) (w : Word) : (s.plainWrite a w).con = s.con := rfl
@[simp] theorem plainWrite_free (s : State) (a : Nat) (w : Word) : (s.plainWrite a w).free = s.free := rfl
@[simp] theorem plainWrite_pending (s : State) (a : Nat) (w : Word) : (s.plainWrite a w).pending = s.pending := rfl

@[simp] theorem alert_build (s : State) (k : Nat) : (s.alert k).build = s.build := rfl
@[simp] theorem alert_inForce (s : State) (k : Nat) : (s.alert k).inForce = s.inForce := rfl
@[simp] theorem alert_ports (s : State) (k : Nat) : (s.alert k).ports = s.ports := rfl
@[simp] theorem alert_led (s : State) (k : Nat) : (s.alert k).led = s.led := rfl
@[simp] theorem alert_lnk (s : State) (k : Nat) : (s.alert k).lnk = s.lnk := rfl
@[simp] theorem alert_sec (s : State) (k : Nat) : (s.alert k).sec = s.sec := rfl
@[simp] theorem alert_bru (s : State) (k : Nat) : (s.alert k).bru = s.bru := rfl
@[simp] theorem alert_tim (s : State) (k : Nat) : (s.alert k).tim = s.tim := rfl
@[simp] theorem alert_img (s : State) (k : Nat) : (s.alert k).img = s.img := rfl
@[simp] theorem alert_crier (s : State) (k : Nat) : (s.alert k).crier = s.crier := rfl
@[simp] theorem alert_tal (s : State) (k : Nat) : (s.alert k).tal = s.tal := rfl
@[simp] theorem alert_scl (s : State) (k : Nat) : (s.alert k).scl = s.scl := rfl
@[simp] theorem alert_red (s : State) (k : Nat) : (s.alert k).red = s.red := rfl
@[simp] theorem alert_tko (s : State) (k : Nat) : (s.alert k).tko = s.tko := rfl
@[simp] theorem alert_trc (s : State) (k : Nat) : (s.alert k).trc = s.trc := rfl
@[simp] theorem alert_inf (s : State) (k : Nat) : (s.alert k).inf = s.inf := rfl
@[simp] theorem alert_srv (s : State) (k : Nat) : (s.alert k).srv = s.srv := rfl
@[simp] theorem alert_con (s : State) (k : Nat) : (s.alert k).con = s.con := rfl
@[simp] theorem alert_free (s : State) (k : Nat) : (s.alert k).free = s.free := rfl
@[simp] theorem alert_pending (s : State) (k : Nat) : (s.alert k).pending = s.pending := rfl

@[simp] theorem takeForce_build (s : State) (l : List Nat) : (s.takeForce l).build = s.build := rfl
@[simp] theorem takeForce_regs (s : State) (l : List Nat) : (s.takeForce l).regs = s.regs := rfl
@[simp] theorem takeForce_ports (s : State) (l : List Nat) : (s.takeForce l).ports = s.ports := rfl
@[simp] theorem takeForce_led (s : State) (l : List Nat) : (s.takeForce l).led = s.led := rfl
@[simp] theorem takeForce_lnk (s : State) (l : List Nat) : (s.takeForce l).lnk = s.lnk := rfl
@[simp] theorem takeForce_sec (s : State) (l : List Nat) : (s.takeForce l).sec = s.sec := rfl
@[simp] theorem takeForce_bru (s : State) (l : List Nat) : (s.takeForce l).bru = s.bru := rfl
@[simp] theorem takeForce_tim (s : State) (l : List Nat) : (s.takeForce l).tim = s.tim := rfl
@[simp] theorem takeForce_img (s : State) (l : List Nat) : (s.takeForce l).img = s.img := rfl
@[simp] theorem takeForce_crier (s : State) (l : List Nat) : (s.takeForce l).crier = s.crier := rfl
@[simp] theorem takeForce_tal (s : State) (l : List Nat) : (s.takeForce l).tal = s.tal := rfl
@[simp] theorem takeForce_scl (s : State) (l : List Nat) : (s.takeForce l).scl = s.scl := rfl
@[simp] theorem takeForce_red (s : State) (l : List Nat) : (s.takeForce l).red = s.red := rfl
@[simp] theorem takeForce_tko (s : State) (l : List Nat) : (s.takeForce l).tko = s.tko := rfl
@[simp] theorem takeForce_trc (s : State) (l : List Nat) : (s.takeForce l).trc = s.trc := rfl
@[simp] theorem takeForce_inf (s : State) (l : List Nat) : (s.takeForce l).inf = s.inf := rfl
@[simp] theorem takeForce_srv (s : State) (l : List Nat) : (s.takeForce l).srv = s.srv := rfl
@[simp] theorem takeForce_con (s : State) (l : List Nat) : (s.takeForce l).con = s.con := rfl
@[simp] theorem takeForce_free (s : State) (l : List Nat) : (s.takeForce l).free = s.free := rfl
@[simp] theorem takeForce_pending (s : State) (l : List Nat) : (s.takeForce l).pending = s.pending := rfl

@[simp] theorem answer_build (s : State) (a : Access) (r : Resp) (d : Word) : (s.answer a r d).build = s.build := rfl
@[simp] theorem answer_regs (s : State) (a : Access) (r : Resp) (d : Word) : (s.answer a r d).regs = s.regs := rfl
@[simp] theorem answer_inForce (s : State) (a : Access) (r : Resp) (d : Word) : (s.answer a r d).inForce = s.inForce := rfl
@[simp] theorem answer_led (s : State) (a : Access) (r : Resp) (d : Word) : (s.answer a r d).led = s.led := rfl
@[simp] theorem answer_lnk (s : State) (a : Access) (r : Resp) (d : Word) : (s.answer a r d).lnk = s.lnk := rfl
@[simp] theorem answer_sec (s : State) (a : Access) (r : Resp) (d : Word) : (s.answer a r d).sec = s.sec := rfl
@[simp] theorem answer_bru (s : State) (a : Access) (r : Resp) (d : Word) : (s.answer a r d).bru = s.bru := rfl
@[simp] theorem answer_tim (s : State) (a : Access) (r : Resp) (d : Word) : (s.answer a r d).tim = s.tim := rfl
@[simp] theorem answer_img (s : State) (a : Access) (r : Resp) (d : Word) : (s.answer a r d).img = s.img := rfl
@[simp] theorem answer_crier (s : State) (a : Access) (r : Resp) (d : Word) : (s.answer a r d).crier = s.crier := rfl
@[simp] theorem answer_tal (s : State) (a : Access) (r : Resp) (d : Word) : (s.answer a r d).tal = s.tal := rfl
@[simp] theorem answer_scl (s : State) (a : Access) (r : Resp) (d : Word) : (s.answer a r d).scl = s.scl := rfl
@[simp] theorem answer_red (s : State) (a : Access) (r : Resp) (d : Word) : (s.answer a r d).red = s.red := rfl
@[simp] theorem answer_tko (s : State) (a : Access) (r : Resp) (d : Word) : (s.answer a r d).tko = s.tko := rfl
@[simp] theorem answer_trc (s : State) (a : Access) (r : Resp) (d : Word) : (s.answer a r d).trc = s.trc := rfl
@[simp] theorem answer_inf (s : State) (a : Access) (r : Resp) (d : Word) : (s.answer a r d).inf = s.inf := rfl
@[simp] theorem answer_srv (s : State) (a : Access) (r : Resp) (d : Word) : (s.answer a r d).srv = s.srv := rfl
@[simp] theorem answer_con (s : State) (a : Access) (r : Resp) (d : Word) : (s.answer a r d).con = s.con := rfl
@[simp] theorem answer_free (s : State) (a : Access) (r : Resp) (d : Word) : (s.answer a r d).free = s.free := rfl
@[simp] theorem answer_pending (s : State) (a : Access) (r : Resp) (d : Word) : (s.answer a r d).pending = s.pending := rfl

@[simp] theorem capture_build (s : State) (a : Access) (b : Nat) (ws : List Word) : (s.capture a b ws).build = s.build := rfl
@[simp] theorem capture_regs (s : State) (a : Access) (b : Nat) (ws : List Word) : (s.capture a b ws).regs = s.regs := rfl
@[simp] theorem capture_inForce (s : State) (a : Access) (b : Nat) (ws : List Word) : (s.capture a b ws).inForce = s.inForce := rfl
@[simp] theorem capture_led (s : State) (a : Access) (b : Nat) (ws : List Word) : (s.capture a b ws).led = s.led := rfl
@[simp] theorem capture_lnk (s : State) (a : Access) (b : Nat) (ws : List Word) : (s.capture a b ws).lnk = s.lnk := rfl
@[simp] theorem capture_sec (s : State) (a : Access) (b : Nat) (ws : List Word) : (s.capture a b ws).sec = s.sec := rfl
@[simp] theorem capture_bru (s : State) (a : Access) (b : Nat) (ws : List Word) : (s.capture a b ws).bru = s.bru := rfl
@[simp] theorem capture_tim (s : State) (a : Access) (b : Nat) (ws : List Word) : (s.capture a b ws).tim = s.tim := rfl
@[simp] theorem capture_img (s : State) (a : Access) (b : Nat) (ws : List Word) : (s.capture a b ws).img = s.img := rfl
@[simp] theorem capture_crier (s : State) (a : Access) (b : Nat) (ws : List Word) : (s.capture a b ws).crier = s.crier := rfl
@[simp] theorem capture_tal (s : State) (a : Access) (b : Nat) (ws : List Word) : (s.capture a b ws).tal = s.tal := rfl
@[simp] theorem capture_scl (s : State) (a : Access) (b : Nat) (ws : List Word) : (s.capture a b ws).scl = s.scl := rfl
@[simp] theorem capture_red (s : State) (a : Access) (b : Nat) (ws : List Word) : (s.capture a b ws).red = s.red := rfl
@[simp] theorem capture_tko (s : State) (a : Access) (b : Nat) (ws : List Word) : (s.capture a b ws).tko = s.tko := rfl
@[simp] theorem capture_trc (s : State) (a : Access) (b : Nat) (ws : List Word) : (s.capture a b ws).trc = s.trc := rfl
@[simp] theorem capture_inf (s : State) (a : Access) (b : Nat) (ws : List Word) : (s.capture a b ws).inf = s.inf := rfl
@[simp] theorem capture_srv (s : State) (a : Access) (b : Nat) (ws : List Word) : (s.capture a b ws).srv = s.srv := rfl
@[simp] theorem capture_con (s : State) (a : Access) (b : Nat) (ws : List Word) : (s.capture a b ws).con = s.con := rfl
@[simp] theorem capture_free (s : State) (a : Access) (b : Nat) (ws : List Word) : (s.capture a b ws).free = s.free := rfl
@[simp] theorem capture_pending (s : State) (a : Access) (b : Nat) (ws : List Word) : (s.capture a b ws).pending = s.pending := rfl

@[simp] theorem modLink_build (s : State) (p : Nat) (f : LinkSt → LinkSt) : (s.modLink p f).build = s.build := rfl
@[simp] theorem modLink_regs (s : State) (p : Nat) (f : LinkSt → LinkSt) : (s.modLink p f).regs = s.regs := rfl
@[simp] theorem modLink_inForce (s : State) (p : Nat) (f : LinkSt → LinkSt) : (s.modLink p f).inForce = s.inForce := rfl
@[simp] theorem modLink_ports (s : State) (p : Nat) (f : LinkSt → LinkSt) : (s.modLink p f).ports = s.ports := rfl
@[simp] theorem modLink_led (s : State) (p : Nat) (f : LinkSt → LinkSt) : (s.modLink p f).led = s.led := rfl
@[simp] theorem modLink_sec (s : State) (p : Nat) (f : LinkSt → LinkSt) : (s.modLink p f).sec = s.sec := rfl
@[simp] theorem modLink_bru (s : State) (p : Nat) (f : LinkSt → LinkSt) : (s.modLink p f).bru = s.bru := rfl
@[simp] theorem modLink_tim (s : State) (p : Nat) (f : LinkSt → LinkSt) : (s.modLink p f).tim = s.tim := rfl
@[simp] theorem modLink_img (s : State) (p : Nat) (f : LinkSt → LinkSt) : (s.modLink p f).img = s.img := rfl
@[simp] theorem modLink_crier (s : State) (p : Nat) (f : LinkSt → LinkSt) : (s.modLink p f).crier = s.crier := rfl
@[simp] theorem modLink_tal (s : State) (p : Nat) (f : LinkSt → LinkSt) : (s.modLink p f).tal = s.tal := rfl
@[simp] theorem modLink_scl (s : State) (p : Nat) (f : LinkSt → LinkSt) : (s.modLink p f).scl = s.scl := rfl
@[simp] theorem modLink_red (s : State) (p : Nat) (f : LinkSt → LinkSt) : (s.modLink p f).red = s.red := rfl
@[simp] theorem modLink_tko (s : State) (p : Nat) (f : LinkSt → LinkSt) : (s.modLink p f).tko = s.tko := rfl
@[simp] theorem modLink_trc (s : State) (p : Nat) (f : LinkSt → LinkSt) : (s.modLink p f).trc = s.trc := rfl
@[simp] theorem modLink_inf (s : State) (p : Nat) (f : LinkSt → LinkSt) : (s.modLink p f).inf = s.inf := rfl
@[simp] theorem modLink_srv (s : State) (p : Nat) (f : LinkSt → LinkSt) : (s.modLink p f).srv = s.srv := rfl
@[simp] theorem modLink_con (s : State) (p : Nat) (f : LinkSt → LinkSt) : (s.modLink p f).con = s.con := rfl
@[simp] theorem modLink_free (s : State) (p : Nat) (f : LinkSt → LinkSt) : (s.modLink p f).free = s.free := rfl
@[simp] theorem modLink_pending (s : State) (p : Nat) (f : LinkSt → LinkSt) : (s.modLink p f).pending = s.pending := rfl

@[simp] theorem consume_build (s : State) (r : Rx) : (s.consume r).build = s.build := rfl
@[simp] theorem consume_regs (s : State) (r : Rx) : (s.consume r).regs = s.regs := rfl
@[simp] theorem consume_inForce (s : State) (r : Rx) : (s.consume r).inForce = s.inForce := rfl
@[simp] theorem consume_ports (s : State) (r : Rx) : (s.consume r).ports = s.ports := rfl
@[simp] theorem consume_led (s : State) (r : Rx) : (s.consume r).led = s.led := rfl
@[simp] theorem consume_sec (s : State) (r : Rx) : (s.consume r).sec = s.sec := rfl
@[simp] theorem consume_bru (s : State) (r : Rx) : (s.consume r).bru = s.bru := rfl
@[simp] theorem consume_tim (s : State) (r : Rx) : (s.consume r).tim = s.tim := rfl
@[simp] theorem consume_img (s : State) (r : Rx) : (s.consume r).img = s.img := rfl
@[simp] theorem consume_crier (s : State) (r : Rx) : (s.consume r).crier = s.crier := rfl
@[simp] theorem consume_tal (s : State) (r : Rx) : (s.consume r).tal = s.tal := rfl
@[simp] theorem consume_scl (s : State) (r : Rx) : (s.consume r).scl = s.scl := rfl
@[simp] theorem consume_red (s : State) (r : Rx) : (s.consume r).red = s.red := rfl
@[simp] theorem consume_tko (s : State) (r : Rx) : (s.consume r).tko = s.tko := rfl
@[simp] theorem consume_trc (s : State) (r : Rx) : (s.consume r).trc = s.trc := rfl
@[simp] theorem consume_inf (s : State) (r : Rx) : (s.consume r).inf = s.inf := rfl
@[simp] theorem consume_srv (s : State) (r : Rx) : (s.consume r).srv = s.srv := rfl
@[simp] theorem consume_con (s : State) (r : Rx) : (s.consume r).con = s.con := rfl
@[simp] theorem consume_free (s : State) (r : Rx) : (s.consume r).free = s.free := rfl
@[simp] theorem consume_pending (s : State) (r : Rx) : (s.consume r).pending = s.pending := rfl

@[simp] theorem tail_build (s : State) (l : List Instr) : (s.tail l).build = s.build := rfl
@[simp] theorem tail_regs (s : State) (l : List Instr) : (s.tail l).regs = s.regs := rfl
@[simp] theorem tail_inForce (s : State) (l : List Instr) : (s.tail l).inForce = s.inForce := rfl
@[simp] theorem tail_ports (s : State) (l : List Instr) : (s.tail l).ports = s.ports := rfl
@[simp] theorem tail_led (s : State) (l : List Instr) : (s.tail l).led = s.led := rfl
@[simp] theorem tail_lnk (s : State) (l : List Instr) : (s.tail l).lnk = s.lnk := rfl
@[simp] theorem tail_sec (s : State) (l : List Instr) : (s.tail l).sec = s.sec := rfl
@[simp] theorem tail_bru (s : State) (l : List Instr) : (s.tail l).bru = s.bru := rfl
@[simp] theorem tail_tim (s : State) (l : List Instr) : (s.tail l).tim = s.tim := rfl
@[simp] theorem tail_img (s : State) (l : List Instr) : (s.tail l).img = s.img := rfl
@[simp] theorem tail_crier (s : State) (l : List Instr) : (s.tail l).crier = s.crier := rfl
@[simp] theorem tail_tal (s : State) (l : List Instr) : (s.tail l).tal = s.tal := rfl
@[simp] theorem tail_scl (s : State) (l : List Instr) : (s.tail l).scl = s.scl := rfl
@[simp] theorem tail_red (s : State) (l : List Instr) : (s.tail l).red = s.red := rfl
@[simp] theorem tail_tko (s : State) (l : List Instr) : (s.tail l).tko = s.tko := rfl
@[simp] theorem tail_trc (s : State) (l : List Instr) : (s.tail l).trc = s.trc := rfl
@[simp] theorem tail_inf (s : State) (l : List Instr) : (s.tail l).inf = s.inf := rfl
@[simp] theorem tail_srv (s : State) (l : List Instr) : (s.tail l).srv = s.srv := rfl
@[simp] theorem tail_con (s : State) (l : List Instr) : (s.tail l).con = s.con := rfl
@[simp] theorem tail_free (s : State) (l : List Instr) : (s.tail l).free = s.free := rfl

/-! ### Updates that leave every part or one of two states -/

@[simp] theorem alertIf_build (s : State) (f : Fld) (k : Nat) : (s.alertIf f k).build = s.build := by unfold State.alertIf; split <;> rfl
@[simp] theorem alertIf_inForce (s : State) (f : Fld) (k : Nat) : (s.alertIf f k).inForce = s.inForce := by unfold State.alertIf; split <;> rfl
@[simp] theorem alertIf_ports (s : State) (f : Fld) (k : Nat) : (s.alertIf f k).ports = s.ports := by unfold State.alertIf; split <;> rfl
@[simp] theorem alertIf_led (s : State) (f : Fld) (k : Nat) : (s.alertIf f k).led = s.led := by unfold State.alertIf; split <;> rfl
@[simp] theorem alertIf_lnk (s : State) (f : Fld) (k : Nat) : (s.alertIf f k).lnk = s.lnk := by unfold State.alertIf; split <;> rfl
@[simp] theorem alertIf_sec (s : State) (f : Fld) (k : Nat) : (s.alertIf f k).sec = s.sec := by unfold State.alertIf; split <;> rfl
@[simp] theorem alertIf_bru (s : State) (f : Fld) (k : Nat) : (s.alertIf f k).bru = s.bru := by unfold State.alertIf; split <;> rfl
@[simp] theorem alertIf_tim (s : State) (f : Fld) (k : Nat) : (s.alertIf f k).tim = s.tim := by unfold State.alertIf; split <;> rfl
@[simp] theorem alertIf_img (s : State) (f : Fld) (k : Nat) : (s.alertIf f k).img = s.img := by unfold State.alertIf; split <;> rfl
@[simp] theorem alertIf_crier (s : State) (f : Fld) (k : Nat) : (s.alertIf f k).crier = s.crier := by unfold State.alertIf; split <;> rfl
@[simp] theorem alertIf_tal (s : State) (f : Fld) (k : Nat) : (s.alertIf f k).tal = s.tal := by unfold State.alertIf; split <;> rfl
@[simp] theorem alertIf_scl (s : State) (f : Fld) (k : Nat) : (s.alertIf f k).scl = s.scl := by unfold State.alertIf; split <;> rfl
@[simp] theorem alertIf_red (s : State) (f : Fld) (k : Nat) : (s.alertIf f k).red = s.red := by unfold State.alertIf; split <;> rfl
@[simp] theorem alertIf_tko (s : State) (f : Fld) (k : Nat) : (s.alertIf f k).tko = s.tko := by unfold State.alertIf; split <;> rfl
@[simp] theorem alertIf_trc (s : State) (f : Fld) (k : Nat) : (s.alertIf f k).trc = s.trc := by unfold State.alertIf; split <;> rfl
@[simp] theorem alertIf_inf (s : State) (f : Fld) (k : Nat) : (s.alertIf f k).inf = s.inf := by unfold State.alertIf; split <;> rfl
@[simp] theorem alertIf_srv (s : State) (f : Fld) (k : Nat) : (s.alertIf f k).srv = s.srv := by unfold State.alertIf; split <;> rfl
@[simp] theorem alertIf_con (s : State) (f : Fld) (k : Nat) : (s.alertIf f k).con = s.con := by unfold State.alertIf; split <;> rfl
@[simp] theorem alertIf_free (s : State) (f : Fld) (k : Nat) : (s.alertIf f k).free = s.free := by unfold State.alertIf; split <;> rfl
@[simp] theorem alertIf_pending (s : State) (f : Fld) (k : Nat) : (s.alertIf f k).pending = s.pending := by unfold State.alertIf; split <;> rfl

@[simp] theorem markExpert_build (s : State) (a : Nat) : (s.markExpert a).build = s.build := by unfold State.markExpert; split <;> rfl
@[simp] theorem markExpert_inForce (s : State) (a : Nat) : (s.markExpert a).inForce = s.inForce := by unfold State.markExpert; split <;> rfl
@[simp] theorem markExpert_ports (s : State) (a : Nat) : (s.markExpert a).ports = s.ports := by unfold State.markExpert; split <;> rfl
@[simp] theorem markExpert_led (s : State) (a : Nat) : (s.markExpert a).led = s.led := by unfold State.markExpert; split <;> rfl
@[simp] theorem markExpert_lnk (s : State) (a : Nat) : (s.markExpert a).lnk = s.lnk := by unfold State.markExpert; split <;> rfl
@[simp] theorem markExpert_sec (s : State) (a : Nat) : (s.markExpert a).sec = s.sec := by unfold State.markExpert; split <;> rfl
@[simp] theorem markExpert_bru (s : State) (a : Nat) : (s.markExpert a).bru = s.bru := by unfold State.markExpert; split <;> rfl
@[simp] theorem markExpert_tim (s : State) (a : Nat) : (s.markExpert a).tim = s.tim := by unfold State.markExpert; split <;> rfl
@[simp] theorem markExpert_img (s : State) (a : Nat) : (s.markExpert a).img = s.img := by unfold State.markExpert; split <;> rfl
@[simp] theorem markExpert_crier (s : State) (a : Nat) : (s.markExpert a).crier = s.crier := by unfold State.markExpert; split <;> rfl
@[simp] theorem markExpert_tal (s : State) (a : Nat) : (s.markExpert a).tal = s.tal := by unfold State.markExpert; split <;> rfl
@[simp] theorem markExpert_scl (s : State) (a : Nat) : (s.markExpert a).scl = s.scl := by unfold State.markExpert; split <;> rfl
@[simp] theorem markExpert_red (s : State) (a : Nat) : (s.markExpert a).red = s.red := by unfold State.markExpert; split <;> rfl
@[simp] theorem markExpert_tko (s : State) (a : Nat) : (s.markExpert a).tko = s.tko := by unfold State.markExpert; split <;> rfl
@[simp] theorem markExpert_trc (s : State) (a : Nat) : (s.markExpert a).trc = s.trc := by unfold State.markExpert; split <;> rfl
@[simp] theorem markExpert_inf (s : State) (a : Nat) : (s.markExpert a).inf = s.inf := by unfold State.markExpert; split <;> rfl
@[simp] theorem markExpert_srv (s : State) (a : Nat) : (s.markExpert a).srv = s.srv := by unfold State.markExpert; split <;> rfl
@[simp] theorem markExpert_con (s : State) (a : Nat) : (s.markExpert a).con = s.con := by unfold State.markExpert; split <;> rfl
@[simp] theorem markExpert_free (s : State) (a : Nat) : (s.markExpert a).free = s.free := by unfold State.markExpert; split <;> rfl
@[simp] theorem markExpert_pending (s : State) (a : Nat) : (s.markExpert a).pending = s.pending := by unfold State.markExpert; split <;> rfl

@[simp] theorem reach_build (s : State) (t : Nat) : (s.reach t).build = s.build := by unfold State.reach; split <;> (try split) <;> rfl
@[simp] theorem reach_regs (s : State) (t : Nat) : (s.reach t).regs = s.regs := by unfold State.reach; split <;> (try split) <;> rfl
@[simp] theorem reach_inForce (s : State) (t : Nat) : (s.reach t).inForce = s.inForce := by unfold State.reach; split <;> (try split) <;> rfl
@[simp] theorem reach_ports (s : State) (t : Nat) : (s.reach t).ports = s.ports := by unfold State.reach; split <;> (try split) <;> rfl
@[simp] theorem reach_led (s : State) (t : Nat) : (s.reach t).led = s.led := by unfold State.reach; split <;> (try split) <;> rfl
@[simp] theorem reach_lnk (s : State) (t : Nat) : (s.reach t).lnk = s.lnk := by unfold State.reach; split <;> (try split) <;> rfl
@[simp] theorem reach_sec (s : State) (t : Nat) : (s.reach t).sec = s.sec := by unfold State.reach; split <;> (try split) <;> rfl
@[simp] theorem reach_bru (s : State) (t : Nat) : (s.reach t).bru = s.bru := by unfold State.reach; split <;> (try split) <;> rfl
@[simp] theorem reach_img (s : State) (t : Nat) : (s.reach t).img = s.img := by unfold State.reach; split <;> (try split) <;> rfl
@[simp] theorem reach_crier (s : State) (t : Nat) : (s.reach t).crier = s.crier := by unfold State.reach; split <;> (try split) <;> rfl
@[simp] theorem reach_tal (s : State) (t : Nat) : (s.reach t).tal = s.tal := by unfold State.reach; split <;> (try split) <;> rfl
@[simp] theorem reach_scl (s : State) (t : Nat) : (s.reach t).scl = s.scl := by unfold State.reach; split <;> (try split) <;> rfl
@[simp] theorem reach_red (s : State) (t : Nat) : (s.reach t).red = s.red := by unfold State.reach; split <;> (try split) <;> rfl
@[simp] theorem reach_tko (s : State) (t : Nat) : (s.reach t).tko = s.tko := by unfold State.reach; split <;> (try split) <;> rfl
@[simp] theorem reach_trc (s : State) (t : Nat) : (s.reach t).trc = s.trc := by unfold State.reach; split <;> (try split) <;> rfl
@[simp] theorem reach_inf (s : State) (t : Nat) : (s.reach t).inf = s.inf := by unfold State.reach; split <;> (try split) <;> rfl
@[simp] theorem reach_srv (s : State) (t : Nat) : (s.reach t).srv = s.srv := by unfold State.reach; split <;> (try split) <;> rfl
@[simp] theorem reach_con (s : State) (t : Nat) : (s.reach t).con = s.con := by unfold State.reach; split <;> (try split) <;> rfl
@[simp] theorem reach_free (s : State) (t : Nat) : (s.reach t).free = s.free := by unfold State.reach; split <;> (try split) <;> rfl
@[simp] theorem reach_pending (s : State) (t : Nat) : (s.reach t).pending = s.pending := by unfold State.reach; split <;> (try split) <;> rfl

@[simp] theorem reachNs_build (s : State) (t : Nat) : (s.reachNs t).build = s.build := reach_build s (8 * t)
@[simp] theorem reachNs_regs (s : State) (t : Nat) : (s.reachNs t).regs = s.regs := reach_regs s (8 * t)
@[simp] theorem reachNs_inForce (s : State) (t : Nat) : (s.reachNs t).inForce = s.inForce := reach_inForce s (8 * t)
@[simp] theorem reachNs_ports (s : State) (t : Nat) : (s.reachNs t).ports = s.ports := reach_ports s (8 * t)
@[simp] theorem reachNs_led (s : State) (t : Nat) : (s.reachNs t).led = s.led := reach_led s (8 * t)
@[simp] theorem reachNs_lnk (s : State) (t : Nat) : (s.reachNs t).lnk = s.lnk := reach_lnk s (8 * t)
@[simp] theorem reachNs_sec (s : State) (t : Nat) : (s.reachNs t).sec = s.sec := reach_sec s (8 * t)
@[simp] theorem reachNs_bru (s : State) (t : Nat) : (s.reachNs t).bru = s.bru := reach_bru s (8 * t)
@[simp] theorem reachNs_img (s : State) (t : Nat) : (s.reachNs t).img = s.img := reach_img s (8 * t)
@[simp] theorem reachNs_crier (s : State) (t : Nat) : (s.reachNs t).crier = s.crier := reach_crier s (8 * t)
@[simp] theorem reachNs_tal (s : State) (t : Nat) : (s.reachNs t).tal = s.tal := reach_tal s (8 * t)
@[simp] theorem reachNs_scl (s : State) (t : Nat) : (s.reachNs t).scl = s.scl := reach_scl s (8 * t)
@[simp] theorem reachNs_red (s : State) (t : Nat) : (s.reachNs t).red = s.red := reach_red s (8 * t)
@[simp] theorem reachNs_tko (s : State) (t : Nat) : (s.reachNs t).tko = s.tko := reach_tko s (8 * t)
@[simp] theorem reachNs_trc (s : State) (t : Nat) : (s.reachNs t).trc = s.trc := reach_trc s (8 * t)
@[simp] theorem reachNs_inf (s : State) (t : Nat) : (s.reachNs t).inf = s.inf := reach_inf s (8 * t)
@[simp] theorem reachNs_srv (s : State) (t : Nat) : (s.reachNs t).srv = s.srv := reach_srv s (8 * t)
@[simp] theorem reachNs_con (s : State) (t : Nat) : (s.reachNs t).con = s.con := reach_con s (8 * t)
@[simp] theorem reachNs_free (s : State) (t : Nat) : (s.reachNs t).free = s.free := reach_free s (8 * t)
@[simp] theorem reachNs_pending (s : State) (t : Nat) : (s.reachNs t).pending = s.pending := reach_pending s (8 * t)

/-! ### Settling: with the block powered it touches the register file, the pins and nothing else -/

@[simp] theorem settle_build (s : State) (h : s.ports.powered = true) : s.settle.build = s.build := by
  simp only [State.settle, h]; dsimp; split <;> split <;> rfl
@[simp] theorem settle_inForce (s : State) (h : s.ports.powered = true) : s.settle.inForce = s.inForce := by
  simp only [State.settle, h]; dsimp; split <;> split <;> rfl
@[simp] theorem settle_led (s : State) (h : s.ports.powered = true) : s.settle.led = s.led := by
  simp only [State.settle, h]; dsimp; split <;> split <;> rfl
@[simp] theorem settle_lnk (s : State) (h : s.ports.powered = true) : s.settle.lnk = s.lnk := by
  simp only [State.settle, h]; dsimp; split <;> split <;> rfl
@[simp] theorem settle_sec (s : State) (h : s.ports.powered = true) : s.settle.sec = s.sec := by
  simp only [State.settle, h]; dsimp; split <;> split <;> rfl
@[simp] theorem settle_bru (s : State) (h : s.ports.powered = true) : s.settle.bru = s.bru := by
  simp only [State.settle, h]; dsimp; split <;> split <;> rfl
@[simp] theorem settle_tim (s : State) (h : s.ports.powered = true) : s.settle.tim = s.tim := by
  simp only [State.settle, h]; dsimp; split <;> split <;> rfl
@[simp] theorem settle_img (s : State) (h : s.ports.powered = true) : s.settle.img = s.img := by
  simp only [State.settle, h]; dsimp; split <;> split <;> rfl
@[simp] theorem settle_crier (s : State) (h : s.ports.powered = true) : s.settle.crier = s.crier := by
  simp only [State.settle, h]; dsimp; split <;> split <;> rfl
@[simp] theorem settle_tal (s : State) (h : s.ports.powered = true) : s.settle.tal = s.tal := by
  simp only [State.settle, h]; dsimp; split <;> split <;> rfl
@[simp] theorem settle_scl (s : State) (h : s.ports.powered = true) : s.settle.scl = s.scl := by
  simp only [State.settle, h]; dsimp; split <;> split <;> rfl
@[simp] theorem settle_red (s : State) (h : s.ports.powered = true) : s.settle.red = s.red := by
  simp only [State.settle, h]; dsimp; split <;> split <;> rfl
@[simp] theorem settle_tko (s : State) (h : s.ports.powered = true) : s.settle.tko = s.tko := by
  simp only [State.settle, h]; dsimp; split <;> split <;> rfl
@[simp] theorem settle_trc (s : State) (h : s.ports.powered = true) : s.settle.trc = s.trc := by
  simp only [State.settle, h]; dsimp; split <;> split <;> rfl
@[simp] theorem settle_inf (s : State) (h : s.ports.powered = true) : s.settle.inf = s.inf := by
  simp only [State.settle, h]; dsimp; split <;> split <;> rfl
@[simp] theorem settle_srv (s : State) (h : s.ports.powered = true) : s.settle.srv = s.srv := by
  simp only [State.settle, h]; dsimp; split <;> split <;> rfl
@[simp] theorem settle_con (s : State) (h : s.ports.powered = true) : s.settle.con = s.con := by
  simp only [State.settle, h]; dsimp; split <;> split <;> rfl
@[simp] theorem settle_free (s : State) (h : s.ports.powered = true) : s.settle.free = s.free := by
  simp only [State.settle, h]; dsimp; split <;> split <;> rfl
@[simp] theorem settle_pending (s : State) (h : s.ports.powered = true) : s.settle.pending = s.pending := by
  simp only [State.settle, h]; dsimp; split <;> split <;> rfl

end Sys2Proof.Machine
end

