-- ==== Sys2Proof/Laws/Registers.lean ====
section
/-! SUPPORT. The register file: a word written is the word read, no other word changes, the canonical form is kept; a field written is
the field read, and fields that share no bit do not disturb one another. -/

set_option Elab.async false

namespace Sys2Proof.Machine

/-! ### Words -/

@[simp] theorem regRead_regErase_same (m : Regs) (a : Nat) : regRead (regErase m a) a = 0 := by
  induction m with
  | nil => rfl
  | cons p rest ih =>
    obtain ⟨k, v⟩ := p
    by_cases h : k = a <;> simp [regErase, regRead, h, ih]

theorem regRead_regErase_ne (m : Regs) {a b : Nat} (h : b ≠ a) : regRead (regErase m a) b = regRead m b := by
  induction m with
  | nil => rfl
  | cons p rest ih =>
    obtain ⟨k, v⟩ := p
    by_cases ha : k = a
    · subst ha; simp [regErase, regRead, ih, h.symm]
    · by_cases hb : k = b
      · subst hb; simp [regErase, regRead, ha]
      · simp [regErase, regRead, ha, hb, ih]

theorem regRead_regInsert_same (m : Regs) (a : Nat) (v : Word) (h : ∀ p ∈ m, p.1 ≠ a) : regRead (regInsert m a v) a = v := by
  induction m with
  | nil => simp [regInsert, regRead]
  | cons p rest ih =>
    obtain ⟨k, w⟩ := p
    have hk : k ≠ a := h (k, w) (by simp)
    by_cases ha : a < k
    · simp [regInsert, regRead, ha]
    · simp [regInsert, regRead, ha, hk, ih (fun q hq => h q (by simp [hq]))]

theorem regRead_regInsert_ne (m : Regs) {a b : Nat} (v : Word) (h : b ≠ a) : regRead (regInsert m a v) b = regRead m b := by
  induction m with
  | nil => simp [regInsert, regRead, h.symm]
  | cons p rest ih =>
    obtain ⟨k, w⟩ := p
    by_cases ha : a < k
    · simp [regInsert, regRead, ha, h.symm]
    · by_cases hb : k = b
      · subst hb; simp [regInsert, regRead, ha]
      · simp [regInsert, regRead, ha, hb, ih]

theorem regErase_not_mem (m : Regs) (a : Nat) : ∀ p ∈ regErase m a, p.1 ≠ a := by
  induction m with
  | nil => simp [regErase]
  | cons p rest ih =>
    obtain ⟨k, v⟩ := p
    by_cases h : k = a
    · simpa [regErase, h] using ih
    · intro q hq
      simp only [regErase, h, if_false, List.mem_cons] at hq
      rcases hq with rfl | hq
      · exact h
      · exact ih q hq

@[simp] theorem regRead_regWrite_same (m : Regs) (a : Nat) (v : Word) : regRead (regWrite m a v) a = v := by
  unfold regWrite
  split
  · next h => rw [h, regRead_regErase_same]
  · exact regRead_regInsert_same _ _ _ (regErase_not_mem m a)

theorem regRead_regWrite_ne (m : Regs) {a b : Nat} (v : Word) (h : b ≠ a) : regRead (regWrite m a v) b = regRead m b := by
  unfold regWrite
  split
  · exact regRead_regErase_ne m h
  · rw [regRead_regInsert_ne _ _ h, regRead_regErase_ne m h]

theorem regRead_regWrite (m : Regs) (a b : Nat) (v : Word) : regRead (regWrite m a v) b = if b = a then v else regRead m b := by
  by_cases h : b = a
  · subst h; simp
  · simp [regRead_regWrite_ne m v h, h]

/-! ### Fields -/

/-- The bits of a field. -/
theorem Fld.get_testBit (f : Fld) (w : Word) (i : Nat) : (f.get w).testBit i = (decide (i < f.width) && w.getLsbD (f.lo + i)) := by
  simp [Fld.get, Nat.testBit_mod_two_pow, BitVec.toNat_ushiftRight, Nat.testBit_shiftRight, BitVec.getLsbD]

/-- The bits that a field's mask holds. -/
theorem Fld.mask_getLsbD (f : Fld) (i : Nat) : f.mask.getLsbD i = (decide (i < 32) && decide (f.lo ≤ i) && decide (i < f.lo + f.width)) := by
  simp only [Fld.mask, BitVec.getLsbD_shiftLeft, BitVec.getLsbD_ofNat, Nat.testBit_two_pow_sub_one]
  by_cases h1 : i < 32
  · by_cases h2 : f.lo ≤ i
    · have e : (i - f.lo < f.width) = (i < f.lo + f.width) := propext ⟨fun h => by omega, fun h => by omega⟩
      have h3 : ¬ i < f.lo := by omega
      have h4 : i - f.lo < 32 := by omega
      simp [h1, h2, h3, h4, e]
    · simp [h1, h2, Nat.lt_of_not_le h2]
  · simp [h1]

/-- Bit `i` of a word with a field replaced. -/
theorem Fld.put_getLsbD (f : Fld) (w : Word) (v i : Nat) (hi : i < 32) :
    (f.put w v).getLsbD i = if f.lo ≤ i ∧ i < f.lo + f.width then v.testBit (i - f.lo) else w.getLsbD i := by
  simp only [Fld.put, BitVec.getLsbD_or, BitVec.getLsbD_and, BitVec.getLsbD_not, Fld.mask_getLsbD, BitVec.getLsbD_shiftLeft, BitVec.getLsbD_ofNat,
    Nat.testBit_mod_two_pow]
  by_cases h1 : f.lo ≤ i <;> by_cases h2 : i < f.lo + f.width <;> simp [hi, h1, h2]
  · have h3 : ¬ i < f.lo := by omega
    have h4 : i - f.lo < 32 := by omega
    have h5 : i - f.lo < f.width := by omega
    simp [h3, h4, h5]
  · intro h3 h4 h5; omega

/-- A field put is the field got, at its width. -/
theorem Fld.get_put_same (f : Fld) (w : Word) (v : Nat) (h : f.hi < 32) : f.get (f.put w v) = v % 2 ^ f.width := by
  apply Nat.eq_of_testBit_eq
  intro i
  rw [Fld.get_testBit, Nat.testBit_mod_two_pow]
  by_cases hi : i < f.width
  · have h32 : f.lo + i < 32 := by unfold Fld.width at hi; omega
    rw [Fld.put_getLsbD f w v _ h32]
    simp [hi]
  · simp [hi]

/-- A field put leaves a field that shares no bit with it. -/
theorem Fld.get_put_disjoint (f g : Fld) (w : Word) (v : Nat) (h : f.hi < g.lo ∨ g.hi < f.lo) : g.get (f.put w v) = g.get w := by
  apply Nat.eq_of_testBit_eq
  intro i
  rw [Fld.get_testBit, Fld.get_testBit]
  by_cases hi : i < g.width
  · by_cases h32 : g.lo + i < 32
    · rw [Fld.put_getLsbD f w v _ h32]
      have : ¬ (f.lo ≤ g.lo + i ∧ g.lo + i < f.lo + f.width) := by unfold Fld.width at *; omega
      simp [this]
    · simp [BitVec.getLsbD_of_ge _ _ (Nat.le_of_not_lt h32)]
  · simp [hi]

theorem Fld.get_lt (f : Fld) (w : Word) : f.get w < 2 ^ f.width := Nat.mod_lt _ (Nat.two_pow_pos _)

theorem State.fld_lt (s : State) (f : Fld) : s.fld f < 2 ^ f.width := f.get_lt _

/-! ### Fields of the state -/

theorem State.fld_congr {s t : State} (h : s.regs = t.regs) (f : Fld) : s.fld f = t.fld f := by unfold State.fld; rw [h]

theorem State.word_congr {s t : State} (h : s.regs = t.regs) (a : Nat) : s.word a = t.word a := by unfold State.word; rw [h]

theorem State.word_set_ne (s : State) (f : Fld) (v a : Nat) (h : a ≠ f.addr) : (s.set f v).word a = s.word a := by
  simp [State.word, State.set, regRead_regWrite_ne _ _ h]

theorem State.word_setWord_same (s : State) (a : Nat) (w : Word) : (s.setWord a w).word a = w := by
  simp [State.word, State.setWord]

theorem State.word_setWord_ne (s : State) {a b : Nat} (w : Word) (h : b ≠ a) : (s.setWord a w).word b = s.word b := by
  simp [State.word, State.setWord, regRead_regWrite_ne _ _ h]

theorem State.fld_set_same (s : State) (f : Fld) (v : Nat) (h : f.hi < 32) : (s.set f v).fld f = v % 2 ^ f.width := by
  simp [State.fld, State.set, Fld.get_put_same _ _ _ h]

/-- A field written leaves every field of another word, and those of its own word that share no bit with it. -/
theorem State.fld_set_other (s : State) (f g : Fld) (v : Nat) (h : g.addr ≠ f.addr ∨ f.hi < g.lo ∨ g.hi < f.lo) : (s.set f v).fld g = s.fld g := by
  unfold State.fld State.set
  by_cases ha : g.addr = f.addr
  · rcases h with h | h
    · exact absurd ha h
    · simp [ha, Fld.get_put_disjoint f g _ _ h]
  · simp [regRead_regWrite_ne _ _ ha]

theorem State.fld_setWord_ne (s : State) (a : Nat) (w : Word) (f : Fld) (h : f.addr ≠ a) : (s.setWord a w).fld f = s.fld f := by
  simp [State.fld, State.setWord, regRead_regWrite_ne _ _ h]

/-! ### The canonical form (no word listed twice or listed as 0, addresses rising) -/

theorem regCanon_tail {p : Nat × Word} {m : Regs} (h : regCanon (p :: m) = true) : regCanon m = true := by
  match p, m with
  | _, [] => rfl
  | (_, _), (_, _) :: _ => simp only [regCanon, Bool.and_eq_true] at h; exact h.2

theorem regCanon_cons (a : Nat) (v : Word) (m : Regs) : regCanon ((a, v) :: m) = true ↔ v ≠ 0 ∧ (∀ p ∈ m.head?, a < p.1) ∧ regCanon m = true := by
  match m with
  | [] => simp [regCanon]
  | (b, w) :: rest => simp [regCanon, and_assoc]

/-- Every address of a canonical file lies above one that lies below its head. -/
theorem regCanon_above {m : Regs} (h : regCanon m = true) {a : Nat} (ha : ∀ p ∈ m.head?, a < p.1) : ∀ p ∈ m, a < p.1 := by
  induction m generalizing a with
  | nil => simp
  | cons q rest ih =>
    obtain ⟨b, w⟩ := q
    have hb : a < b := ha (b, w) (by simp)
    intro p hp
    rcases List.mem_cons.1 hp with rfl | hp
    · exact hb
    · exact Nat.lt_trans hb (ih ((regCanon_cons b w rest).1 h).2.2 ((regCanon_cons b w rest).1 h).2.1 p hp)

end Sys2Proof.Machine
end

