-- ==== Sys2Proof/Laws/Frames.lean ====
section
/-! SUPPORT. The parts of State that the shared operations leave as they are: raising an event, queueing a frame, ordering a port. -/

set_option Elab.async false

namespace Sys2Proof.Machine

@[simp] theorem loseEvent_build (s : State) (e : LEvt) : (s.loseEvent e).build = s.build := by simp [State.loseEvent]
@[simp] theorem loseEvent_inForce (s : State) (e : LEvt) : (s.loseEvent e).inForce = s.inForce := by simp [State.loseEvent]
@[simp] theorem loseEvent_ports (s : State) (e : LEvt) : (s.loseEvent e).ports = s.ports := by simp [State.loseEvent]
@[simp] theorem loseEvent_lnk (s : State) (e : LEvt) : (s.loseEvent e).lnk = s.lnk := by simp [State.loseEvent]
@[simp] theorem loseEvent_sec (s : State) (e : LEvt) : (s.loseEvent e).sec = s.sec := by simp [State.loseEvent]
@[simp] theorem loseEvent_bru (s : State) (e : LEvt) : (s.loseEvent e).bru = s.bru := by simp [State.loseEvent]
@[simp] theorem loseEvent_tim (s : State) (e : LEvt) : (s.loseEvent e).tim = s.tim := by simp [State.loseEvent]
@[simp] theorem loseEvent_img (s : State) (e : LEvt) : (s.loseEvent e).img = s.img := by simp [State.loseEvent]
@[simp] theorem loseEvent_crier (s : State) (e : LEvt) : (s.loseEvent e).crier = s.crier := by simp [State.loseEvent]
@[simp] theorem loseEvent_tal (s : State) (e : LEvt) : (s.loseEvent e).tal = s.tal := by simp [State.loseEvent]
@[simp] theorem loseEvent_scl (s : State) (e : LEvt) : (s.loseEvent e).scl = s.scl := by simp [State.loseEvent]
@[simp] theorem loseEvent_red (s : State) (e : LEvt) : (s.loseEvent e).red = s.red := by simp [State.loseEvent]
@[simp] theorem loseEvent_tko (s : State) (e : LEvt) : (s.loseEvent e).tko = s.tko := by simp [State.loseEvent]
@[simp] theorem loseEvent_trc (s : State) (e : LEvt) : (s.loseEvent e).trc = s.trc := by simp [State.loseEvent]
@[simp] theorem loseEvent_inf (s : State) (e : LEvt) : (s.loseEvent e).inf = s.inf := by simp [State.loseEvent]
@[simp] theorem loseEvent_srv (s : State) (e : LEvt) : (s.loseEvent e).srv = s.srv := by simp [State.loseEvent]
@[simp] theorem loseEvent_con (s : State) (e : LEvt) : (s.loseEvent e).con = s.con := by simp [State.loseEvent]
@[simp] theorem loseEvent_free (s : State) (e : LEvt) : (s.loseEvent e).free = s.free := by simp [State.loseEvent]
@[simp] theorem loseEvent_pending (s : State) (e : LEvt) : (s.loseEvent e).pending = s.pending := by simp [State.loseEvent]

@[simp] theorem noteLoss_build (s : State)  : (s.noteLoss).build = s.build := by unfold State.noteLoss; split <;> (try split) <;> simp
@[simp] theorem noteLoss_inForce (s : State)  : (s.noteLoss).inForce = s.inForce := by unfold State.noteLoss; split <;> (try split) <;> simp
@[simp] theorem noteLoss_ports (s : State)  : (s.noteLoss).ports = s.ports := by unfold State.noteLoss; split <;> (try split) <;> simp
@[simp] theorem noteLoss_lnk (s : State)  : (s.noteLoss).lnk = s.lnk := by unfold State.noteLoss; split <;> (try split) <;> simp
@[simp] theorem noteLoss_sec (s : State)  : (s.noteLoss).sec = s.sec := by unfold State.noteLoss; split <;> (try split) <;> simp
@[simp] theorem noteLoss_bru (s : State)  : (s.noteLoss).bru = s.bru := by unfold State.noteLoss; split <;> (try split) <;> simp
@[simp] theorem noteLoss_tim (s : State)  : (s.noteLoss).tim = s.tim := by unfold State.noteLoss; split <;> (try split) <;> simp
@[simp] theorem noteLoss_img (s : State)  : (s.noteLoss).img = s.img := by unfold State.noteLoss; split <;> (try split) <;> simp
@[simp] theorem noteLoss_crier (s : State)  : (s.noteLoss).crier = s.crier := by unfold State.noteLoss; split <;> (try split) <;> simp
@[simp] theorem noteLoss_tal (s : State)  : (s.noteLoss).tal = s.tal := by unfold State.noteLoss; split <;> (try split) <;> simp
@[simp] theorem noteLoss_scl (s : State)  : (s.noteLoss).scl = s.scl := by unfold State.noteLoss; split <;> (try split) <;> simp
@[simp] theorem noteLoss_red (s : State)  : (s.noteLoss).red = s.red := by unfold State.noteLoss; split <;> (try split) <;> simp
@[simp] theorem noteLoss_tko (s : State)  : (s.noteLoss).tko = s.tko := by unfold State.noteLoss; split <;> (try split) <;> simp
@[simp] theorem noteLoss_trc (s : State)  : (s.noteLoss).trc = s.trc := by unfold State.noteLoss; split <;> (try split) <;> simp
@[simp] theorem noteLoss_inf (s : State)  : (s.noteLoss).inf = s.inf := by unfold State.noteLoss; split <;> (try split) <;> simp
@[simp] theorem noteLoss_srv (s : State)  : (s.noteLoss).srv = s.srv := by unfold State.noteLoss; split <;> (try split) <;> simp
@[simp] theorem noteLoss_con (s : State)  : (s.noteLoss).con = s.con := by unfold State.noteLoss; split <;> (try split) <;> simp
@[simp] theorem noteLoss_free (s : State)  : (s.noteLoss).free = s.free := by unfold State.noteLoss; split <;> (try split) <;> simp
@[simp] theorem noteLoss_pending (s : State)  : (s.noteLoss).pending = s.pending := by unfold State.noteLoss; split <;> (try split) <;> simp

@[simp] theorem mirrorEvent_build (s : State) (e : LEvt) : (s.mirrorEvent e).build = s.build := by simp [State.mirrorEvent, State.fresh]
@[simp] theorem mirrorEvent_inForce (s : State) (e : LEvt) : (s.mirrorEvent e).inForce = s.inForce := by simp [State.mirrorEvent, State.fresh]
@[simp] theorem mirrorEvent_ports (s : State) (e : LEvt) : (s.mirrorEvent e).ports = s.ports := by simp [State.mirrorEvent, State.fresh]
@[simp] theorem mirrorEvent_lnk (s : State) (e : LEvt) : (s.mirrorEvent e).lnk = s.lnk := by simp [State.mirrorEvent, State.fresh]
@[simp] theorem mirrorEvent_sec (s : State) (e : LEvt) : (s.mirrorEvent e).sec = s.sec := by simp [State.mirrorEvent, State.fresh]
@[simp] theorem mirrorEvent_bru (s : State) (e : LEvt) : (s.mirrorEvent e).bru = s.bru := by simp [State.mirrorEvent, State.fresh]
@[simp] theorem mirrorEvent_tim (s : State) (e : LEvt) : (s.mirrorEvent e).tim = s.tim := by simp [State.mirrorEvent, State.fresh]
@[simp] theorem mirrorEvent_img (s : State) (e : LEvt) : (s.mirrorEvent e).img = s.img := by simp [State.mirrorEvent, State.fresh]
@[simp] theorem mirrorEvent_crier (s : State) (e : LEvt) : (s.mirrorEvent e).crier = s.crier := by simp [State.mirrorEvent, State.fresh]
@[simp] theorem mirrorEvent_tal (s : State) (e : LEvt) : (s.mirrorEvent e).tal = s.tal := by simp [State.mirrorEvent, State.fresh]
@[simp] theorem mirrorEvent_scl (s : State) (e : LEvt) : (s.mirrorEvent e).scl = s.scl := by simp [State.mirrorEvent, State.fresh]
@[simp] theorem mirrorEvent_red (s : State) (e : LEvt) : (s.mirrorEvent e).red = s.red := by simp [State.mirrorEvent, State.fresh]
@[simp] theorem mirrorEvent_tko (s : State) (e : LEvt) : (s.mirrorEvent e).tko = s.tko := by simp [State.mirrorEvent, State.fresh]
@[simp] theorem mirrorEvent_trc (s : State) (e : LEvt) : (s.mirrorEvent e).trc = s.trc := by simp [State.mirrorEvent, State.fresh]
@[simp] theorem mirrorEvent_inf (s : State) (e : LEvt) : (s.mirrorEvent e).inf = s.inf := by simp [State.mirrorEvent, State.fresh]
@[simp] theorem mirrorEvent_srv (s : State) (e : LEvt) : (s.mirrorEvent e).srv = s.srv := by simp [State.mirrorEvent, State.fresh]
@[simp] theorem mirrorEvent_con (s : State) (e : LEvt) : (s.mirrorEvent e).con = s.con := by simp [State.mirrorEvent, State.fresh]
@[simp] theorem mirrorEvent_pending (s : State) (e : LEvt) : (s.mirrorEvent e).pending = s.pending := by simp [State.mirrorEvent, State.fresh]

@[simp] theorem raiseEvent_build (s : State) (e : LEvt) : (s.raiseEvent e).build = s.build := by unfold State.raiseEvent; dsimp only; split <;> (try split) <;> (try split) <;> simp
@[simp] theorem raiseEvent_inForce (s : State) (e : LEvt) : (s.raiseEvent e).inForce = s.inForce := by unfold State.raiseEvent; dsimp only; split <;> (try split) <;> (try split) <;> simp
@[simp] theorem raiseEvent_ports (s : State) (e : LEvt) : (s.raiseEvent e).ports = s.ports := by unfold State.raiseEvent; dsimp only; split <;> (try split) <;> (try split) <;> simp
@[simp] theorem raiseEvent_lnk (s : State) (e : LEvt) : (s.raiseEvent e).lnk = s.lnk := by unfold State.raiseEvent; dsimp only; split <;> (try split) <;> (try split) <;> simp
@[simp] theorem raiseEvent_sec (s : State) (e : LEvt) : (s.raiseEvent e).sec = s.sec := by unfold State.raiseEvent; dsimp only; split <;> (try split) <;> (try split) <;> simp
@[simp] theorem raiseEvent_bru (s : State) (e : LEvt) : (s.raiseEvent e).bru = s.bru := by unfold State.raiseEvent; dsimp only; split <;> (try split) <;> (try split) <;> simp
@[simp] theorem raiseEvent_tim (s : State) (e : LEvt) : (s.raiseEvent e).tim = s.tim := by unfold State.raiseEvent; dsimp only; split <;> (try split) <;> (try split) <;> simp
@[simp] theorem raiseEvent_img (s : State) (e : LEvt) : (s.raiseEvent e).img = s.img := by unfold State.raiseEvent; dsimp only; split <;> (try split) <;> (try split) <;> simp
@[simp] theorem raiseEvent_crier (s : State) (e : LEvt) : (s.raiseEvent e).crier = s.crier := by unfold State.raiseEvent; dsimp only; split <;> (try split) <;> (try split) <;> simp
@[simp] theorem raiseEvent_tal (s : State) (e : LEvt) : (s.raiseEvent e).tal = s.tal := by unfold State.raiseEvent; dsimp only; split <;> (try split) <;> (try split) <;> simp
@[simp] theorem raiseEvent_scl (s : State) (e : LEvt) : (s.raiseEvent e).scl = s.scl := by unfold State.raiseEvent; dsimp only; split <;> (try split) <;> (try split) <;> simp
@[simp] theorem raiseEvent_red (s : State) (e : LEvt) : (s.raiseEvent e).red = s.red := by unfold State.raiseEvent; dsimp only; split <;> (try split) <;> (try split) <;> simp
@[simp] theorem raiseEvent_tko (s : State) (e : LEvt) : (s.raiseEvent e).tko = s.tko := by unfold State.raiseEvent; dsimp only; split <;> (try split) <;> (try split) <;> simp
@[simp] theorem raiseEvent_trc (s : State) (e : LEvt) : (s.raiseEvent e).trc = s.trc := by unfold State.raiseEvent; dsimp only; split <;> (try split) <;> (try split) <;> simp
@[simp] theorem raiseEvent_inf (s : State) (e : LEvt) : (s.raiseEvent e).inf = s.inf := by unfold State.raiseEvent; dsimp only; split <;> (try split) <;> (try split) <;> simp
@[simp] theorem raiseEvent_srv (s : State) (e : LEvt) : (s.raiseEvent e).srv = s.srv := by unfold State.raiseEvent; dsimp only; split <;> (try split) <;> (try split) <;> simp
@[simp] theorem raiseEvent_pending (s : State) (e : LEvt) : (s.raiseEvent e).pending = s.pending := by unfold State.raiseEvent; dsimp only; split <;> (try split) <;> (try split) <;> simp

@[simp] theorem log_build (s : State) (c d u v : Nat) : (s.log c d u v).build = s.build := by simp [State.log]
@[simp] theorem log_inForce (s : State) (c d u v : Nat) : (s.log c d u v).inForce = s.inForce := by simp [State.log]
@[simp] theorem log_ports (s : State) (c d u v : Nat) : (s.log c d u v).ports = s.ports := by simp [State.log]
@[simp] theorem log_lnk (s : State) (c d u v : Nat) : (s.log c d u v).lnk = s.lnk := by simp [State.log]
@[simp] theorem log_sec (s : State) (c d u v : Nat) : (s.log c d u v).sec = s.sec := by simp [State.log]
@[simp] theorem log_bru (s : State) (c d u v : Nat) : (s.log c d u v).bru = s.bru := by simp [State.log]
@[simp] theorem log_tim (s : State) (c d u v : Nat) : (s.log c d u v).tim = s.tim := by simp [State.log]
@[simp] theorem log_img (s : State) (c d u v : Nat) : (s.log c d u v).img = s.img := by simp [State.log]
@[simp] theorem log_crier (s : State) (c d u v : Nat) : (s.log c d u v).crier = s.crier := by simp [State.log]
@[simp] theorem log_tal (s : State) (c d u v : Nat) : (s.log c d u v).tal = s.tal := by simp [State.log]
@[simp] theorem log_scl (s : State) (c d u v : Nat) : (s.log c d u v).scl = s.scl := by simp [State.log]
@[simp] theorem log_red (s : State) (c d u v : Nat) : (s.log c d u v).red = s.red := by simp [State.log]
@[simp] theorem log_tko (s : State) (c d u v : Nat) : (s.log c d u v).tko = s.tko := by simp [State.log]
@[simp] theorem log_trc (s : State) (c d u v : Nat) : (s.log c d u v).trc = s.trc := by simp [State.log]
@[simp] theorem log_inf (s : State) (c d u v : Nat) : (s.log c d u v).inf = s.inf := by simp [State.log]
@[simp] theorem log_srv (s : State) (c d u v : Nat) : (s.log c d u v).srv = s.srv := by simp [State.log]
@[simp] theorem log_pending (s : State) (c d u v : Nat) : (s.log c d u v).pending = s.pending := by simp [State.log]

@[simp] theorem secFail_build (s : State) (u d : Nat) : (s.secFail u d).build = s.build := by simp [State.secFail]
@[simp] theorem secFail_inForce (s : State) (u d : Nat) : (s.secFail u d).inForce = s.inForce := by simp [State.secFail]
@[simp] theorem secFail_ports (s : State) (u d : Nat) : (s.secFail u d).ports = s.ports := by simp [State.secFail]
@[simp] theorem secFail_lnk (s : State) (u d : Nat) : (s.secFail u d).lnk = s.lnk := by simp [State.secFail]
@[simp] theorem secFail_sec (s : State) (u d : Nat) : (s.secFail u d).sec = s.sec := by simp [State.secFail]
@[simp] theorem secFail_bru (s : State) (u d : Nat) : (s.secFail u d).bru = s.bru := by simp [State.secFail]
@[simp] theorem secFail_tim (s : State) (u d : Nat) : (s.secFail u d).tim = s.tim := by simp [State.secFail]
@[simp] theorem secFail_img (s : State) (u d : Nat) : (s.secFail u d).img = s.img := by simp [State.secFail]
@[simp] theorem secFail_crier (s : State) (u d : Nat) : (s.secFail u d).crier = s.crier := by simp [State.secFail]
@[simp] theorem secFail_tal (s : State) (u d : Nat) : (s.secFail u d).tal = s.tal := by simp [State.secFail]
@[simp] theorem secFail_scl (s : State) (u d : Nat) : (s.secFail u d).scl = s.scl := by simp [State.secFail]
@[simp] theorem secFail_red (s : State) (u d : Nat) : (s.secFail u d).red = s.red := by simp [State.secFail]
@[simp] theorem secFail_tko (s : State) (u d : Nat) : (s.secFail u d).tko = s.tko := by simp [State.secFail]
@[simp] theorem secFail_trc (s : State) (u d : Nat) : (s.secFail u d).trc = s.trc := by simp [State.secFail]
@[simp] theorem secFail_inf (s : State) (u d : Nat) : (s.secFail u d).inf = s.inf := by simp [State.secFail]
@[simp] theorem secFail_srv (s : State) (u d : Nat) : (s.secFail u d).srv = s.srv := by simp [State.secFail]
@[simp] theorem secFail_pending (s : State) (u d : Nat) : (s.secFail u d).pending = s.pending := by simp [State.secFail]

@[simp] theorem secChange_build (s : State) (u v d : Nat) : (s.secChange u v d).build = s.build := by simp [State.secChange]
@[simp] theorem secChange_inForce (s : State) (u v d : Nat) : (s.secChange u v d).inForce = s.inForce := by simp [State.secChange]
@[simp] theorem secChange_ports (s : State) (u v d : Nat) : (s.secChange u v d).ports = s.ports := by simp [State.secChange]
@[simp] theorem secChange_lnk (s : State) (u v d : Nat) : (s.secChange u v d).lnk = s.lnk := by simp [State.secChange]
@[simp] theorem secChange_sec (s : State) (u v d : Nat) : (s.secChange u v d).sec = s.sec := by simp [State.secChange]
@[simp] theorem secChange_bru (s : State) (u v d : Nat) : (s.secChange u v d).bru = s.bru := by simp [State.secChange]
@[simp] theorem secChange_tim (s : State) (u v d : Nat) : (s.secChange u v d).tim = s.tim := by simp [State.secChange]
@[simp] theorem secChange_img (s : State) (u v d : Nat) : (s.secChange u v d).img = s.img := by simp [State.secChange]
@[simp] theorem secChange_crier (s : State) (u v d : Nat) : (s.secChange u v d).crier = s.crier := by simp [State.secChange]
@[simp] theorem secChange_tal (s : State) (u v d : Nat) : (s.secChange u v d).tal = s.tal := by simp [State.secChange]
@[simp] theorem secChange_scl (s : State) (u v d : Nat) : (s.secChange u v d).scl = s.scl := by simp [State.secChange]
@[simp] theorem secChange_red (s : State) (u v d : Nat) : (s.secChange u v d).red = s.red := by simp [State.secChange]
@[simp] theorem secChange_tko (s : State) (u v d : Nat) : (s.secChange u v d).tko = s.tko := by simp [State.secChange]
@[simp] theorem secChange_trc (s : State) (u v d : Nat) : (s.secChange u v d).trc = s.trc := by simp [State.secChange]
@[simp] theorem secChange_inf (s : State) (u v d : Nat) : (s.secChange u v d).inf = s.inf := by simp [State.secChange]
@[simp] theorem secChange_srv (s : State) (u v d : Nat) : (s.secChange u v d).srv = s.srv := by simp [State.secChange]
@[simp] theorem secChange_pending (s : State) (u v d : Nat) : (s.secChange u v d).pending = s.pending := by simp [State.secChange]

@[simp] theorem conEvent_build (s : State) (d u v : Nat) : (s.conEvent d u v).build = s.build := by simp [State.conEvent]
@[simp] theorem conEvent_inForce (s : State) (d u v : Nat) : (s.conEvent d u v).inForce = s.inForce := by simp [State.conEvent]
@[simp] theorem conEvent_ports (s : State) (d u v : Nat) : (s.conEvent d u v).ports = s.ports := by simp [State.conEvent]
@[simp] theorem conEvent_lnk (s : State) (d u v : Nat) : (s.conEvent d u v).lnk = s.lnk := by simp [State.conEvent]
@[simp] theorem conEvent_sec (s : State) (d u v : Nat) : (s.conEvent d u v).sec = s.sec := by simp [State.conEvent]
@[simp] theorem conEvent_bru (s : State) (d u v : Nat) : (s.conEvent d u v).bru = s.bru := by simp [State.conEvent]
@[simp] theorem conEvent_tim (s : State) (d u v : Nat) : (s.conEvent d u v).tim = s.tim := by simp [State.conEvent]
@[simp] theorem conEvent_img (s : State) (d u v : Nat) : (s.conEvent d u v).img = s.img := by simp [State.conEvent]
@[simp] theorem conEvent_crier (s : State) (d u v : Nat) : (s.conEvent d u v).crier = s.crier := by simp [State.conEvent]
@[simp] theorem conEvent_tal (s : State) (d u v : Nat) : (s.conEvent d u v).tal = s.tal := by simp [State.conEvent]
@[simp] theorem conEvent_scl (s : State) (d u v : Nat) : (s.conEvent d u v).scl = s.scl := by simp [State.conEvent]
@[simp] theorem conEvent_red (s : State) (d u v : Nat) : (s.conEvent d u v).red = s.red := by simp [State.conEvent]
@[simp] theorem conEvent_tko (s : State) (d u v : Nat) : (s.conEvent d u v).tko = s.tko := by simp [State.conEvent]
@[simp] theorem conEvent_trc (s : State) (d u v : Nat) : (s.conEvent d u v).trc = s.trc := by simp [State.conEvent]
@[simp] theorem conEvent_inf (s : State) (d u v : Nat) : (s.conEvent d u v).inf = s.inf := by simp [State.conEvent]
@[simp] theorem conEvent_srv (s : State) (d u v : Nat) : (s.conEvent d u v).srv = s.srv := by simp [State.conEvent]
@[simp] theorem conEvent_pending (s : State) (d u v : Nat) : (s.conEvent d u v).pending = s.pending := by simp [State.conEvent]

@[simp] theorem bruEvent_build (s : State) (c d u v : Nat) : (s.bruEvent c d u v).build = s.build := by simp [State.bruEvent]
@[simp] theorem bruEvent_inForce (s : State) (c d u v : Nat) : (s.bruEvent c d u v).inForce = s.inForce := by simp [State.bruEvent]
@[simp] theorem bruEvent_ports (s : State) (c d u v : Nat) : (s.bruEvent c d u v).ports = s.ports := by simp [State.bruEvent]
@[simp] theorem bruEvent_lnk (s : State) (c d u v : Nat) : (s.bruEvent c d u v).lnk = s.lnk := by simp [State.bruEvent]
@[simp] theorem bruEvent_sec (s : State) (c d u v : Nat) : (s.bruEvent c d u v).sec = s.sec := by simp [State.bruEvent]
@[simp] theorem bruEvent_bru (s : State) (c d u v : Nat) : (s.bruEvent c d u v).bru = s.bru := by simp [State.bruEvent]
@[simp] theorem bruEvent_tim (s : State) (c d u v : Nat) : (s.bruEvent c d u v).tim = s.tim := by simp [State.bruEvent]
@[simp] theorem bruEvent_img (s : State) (c d u v : Nat) : (s.bruEvent c d u v).img = s.img := by simp [State.bruEvent]
@[simp] theorem bruEvent_crier (s : State) (c d u v : Nat) : (s.bruEvent c d u v).crier = s.crier := by simp [State.bruEvent]
@[simp] theorem bruEvent_tal (s : State) (c d u v : Nat) : (s.bruEvent c d u v).tal = s.tal := by simp [State.bruEvent]
@[simp] theorem bruEvent_scl (s : State) (c d u v : Nat) : (s.bruEvent c d u v).scl = s.scl := by simp [State.bruEvent]
@[simp] theorem bruEvent_red (s : State) (c d u v : Nat) : (s.bruEvent c d u v).red = s.red := by simp [State.bruEvent]
@[simp] theorem bruEvent_tko (s : State) (c d u v : Nat) : (s.bruEvent c d u v).tko = s.tko := by simp [State.bruEvent]
@[simp] theorem bruEvent_trc (s : State) (c d u v : Nat) : (s.bruEvent c d u v).trc = s.trc := by simp [State.bruEvent]
@[simp] theorem bruEvent_inf (s : State) (c d u v : Nat) : (s.bruEvent c d u v).inf = s.inf := by simp [State.bruEvent]
@[simp] theorem bruEvent_srv (s : State) (c d u v : Nat) : (s.bruEvent c d u v).srv = s.srv := by simp [State.bruEvent]
@[simp] theorem bruEvent_pending (s : State) (c d u v : Nat) : (s.bruEvent c d u v).pending = s.pending := by simp [State.bruEvent]

@[simp] theorem setPhase_build (s : State) (p : Nat) : (s.setPhase p).build = s.build := by simp [State.setPhase]
@[simp] theorem setPhase_inForce (s : State) (p : Nat) : (s.setPhase p).inForce = s.inForce := by simp [State.setPhase]
@[simp] theorem setPhase_ports (s : State) (p : Nat) : (s.setPhase p).ports = s.ports := by simp [State.setPhase]
@[simp] theorem setPhase_led (s : State) (p : Nat) : (s.setPhase p).led = s.led := by simp [State.setPhase]
@[simp] theorem setPhase_lnk (s : State) (p : Nat) : (s.setPhase p).lnk = s.lnk := by simp [State.setPhase]
@[simp] theorem setPhase_sec (s : State) (p : Nat) : (s.setPhase p).sec = s.sec := by simp [State.setPhase]
@[simp] theorem setPhase_tim (s : State) (p : Nat) : (s.setPhase p).tim = s.tim := by simp [State.setPhase]
@[simp] theorem setPhase_img (s : State) (p : Nat) : (s.setPhase p).img = s.img := by simp [State.setPhase]
@[simp] theorem setPhase_crier (s : State) (p : Nat) : (s.setPhase p).crier = s.crier := by simp [State.setPhase]
@[simp] theorem setPhase_tal (s : State) (p : Nat) : (s.setPhase p).tal = s.tal := by simp [State.setPhase]
@[simp] theorem setPhase_scl (s : State) (p : Nat) : (s.setPhase p).scl = s.scl := by simp [State.setPhase]
@[simp] theorem setPhase_red (s : State) (p : Nat) : (s.setPhase p).red = s.red := by simp [State.setPhase]
@[simp] theorem setPhase_tko (s : State) (p : Nat) : (s.setPhase p).tko = s.tko := by simp [State.setPhase]
@[simp] theorem setPhase_trc (s : State) (p : Nat) : (s.setPhase p).trc = s.trc := by simp [State.setPhase]
@[simp] theorem setPhase_inf (s : State) (p : Nat) : (s.setPhase p).inf = s.inf := by simp [State.setPhase]
@[simp] theorem setPhase_srv (s : State) (p : Nat) : (s.setPhase p).srv = s.srv := by simp [State.setPhase]
@[simp] theorem setPhase_con (s : State) (p : Nat) : (s.setPhase p).con = s.con := by simp [State.setPhase]
@[simp] theorem setPhase_free (s : State) (p : Nat) : (s.setPhase p).free = s.free := by simp [State.setPhase]
@[simp] theorem setPhase_pending (s : State) (p : Nat) : (s.setPhase p).pending = s.pending := by simp [State.setPhase]

@[simp] theorem halt_build (s : State) (c : Nat) : (s.halt c).build = s.build := by unfold State.halt; simp
@[simp] theorem halt_inForce (s : State) (c : Nat) : (s.halt c).inForce = s.inForce := by unfold State.halt; simp
@[simp] theorem halt_ports (s : State) (c : Nat) : (s.halt c).ports = s.ports := by unfold State.halt; simp
@[simp] theorem halt_lnk (s : State) (c : Nat) : (s.halt c).lnk = s.lnk := by unfold State.halt; simp
@[simp] theorem halt_sec (s : State) (c : Nat) : (s.halt c).sec = s.sec := by unfold State.halt; simp
@[simp] theorem halt_tim (s : State) (c : Nat) : (s.halt c).tim = s.tim := by unfold State.halt; simp
@[simp] theorem halt_img (s : State) (c : Nat) : (s.halt c).img = s.img := by unfold State.halt; simp
@[simp] theorem halt_crier (s : State) (c : Nat) : (s.halt c).crier = s.crier := by unfold State.halt; simp
@[simp] theorem halt_tal (s : State) (c : Nat) : (s.halt c).tal = s.tal := by unfold State.halt; simp
@[simp] theorem halt_scl (s : State) (c : Nat) : (s.halt c).scl = s.scl := by unfold State.halt; simp
@[simp] theorem halt_red (s : State) (c : Nat) : (s.halt c).red = s.red := by unfold State.halt; simp
@[simp] theorem halt_tko (s : State) (c : Nat) : (s.halt c).tko = s.tko := by unfold State.halt; simp
@[simp] theorem halt_trc (s : State) (c : Nat) : (s.halt c).trc = s.trc := by unfold State.halt; simp
@[simp] theorem halt_inf (s : State) (c : Nat) : (s.halt c).inf = s.inf := by unfold State.halt; simp
@[simp] theorem halt_srv (s : State) (c : Nat) : (s.halt c).srv = s.srv := by unfold State.halt; simp
@[simp] theorem halt_pending (s : State) (c : Nat) : (s.halt c).pending = s.pending := by unfold State.halt; simp

@[simp] theorem send_build (s : State) (p c d e : Nat) (b : Bytes) : (s.send p c d e b).build = s.build := by unfold State.send; split <;> simp
@[simp] theorem send_regs (s : State) (p c d e : Nat) (b : Bytes) : (s.send p c d e b).regs = s.regs := by unfold State.send; split <;> simp
@[simp] theorem send_inForce (s : State) (p c d e : Nat) (b : Bytes) : (s.send p c d e b).inForce = s.inForce := by unfold State.send; split <;> simp
@[simp] theorem send_ports (s : State) (p c d e : Nat) (b : Bytes) : (s.send p c d e b).ports = s.ports := by unfold State.send; split <;> simp
@[simp] theorem send_led (s : State) (p c d e : Nat) (b : Bytes) : (s.send p c d e b).led = s.led := by unfold State.send; split <;> simp
@[simp] theorem send_sec (s : State) (p c d e : Nat) (b : Bytes) : (s.send p c d e b).sec = s.sec := by unfold State.send; split <;> simp
@[simp] theorem send_bru (s : State) (p c d e : Nat) (b : Bytes) : (s.send p c d e b).bru = s.bru := by unfold State.send; split <;> simp
@[simp] theorem send_tim (s : State) (p c d e : Nat) (b : Bytes) : (s.send p c d e b).tim = s.tim := by unfold State.send; split <;> simp
@[simp] theorem send_img (s : State) (p c d e : Nat) (b : Bytes) : (s.send p c d e b).img = s.img := by unfold State.send; split <;> simp
@[simp] theorem send_crier (s : State) (p c d e : Nat) (b : Bytes) : (s.send p c d e b).crier = s.crier := by unfold State.send; split <;> simp
@[simp] theorem send_tal (s : State) (p c d e : Nat) (b : Bytes) : (s.send p c d e b).tal = s.tal := by unfold State.send; split <;> simp
@[simp] theorem send_scl (s : State) (p c d e : Nat) (b : Bytes) : (s.send p c d e b).scl = s.scl := by unfold State.send; split <;> simp
@[simp] theorem send_red (s : State) (p c d e : Nat) (b : Bytes) : (s.send p c d e b).red = s.red := by unfold State.send; split <;> simp
@[simp] theorem send_tko (s : State) (p c d e : Nat) (b : Bytes) : (s.send p c d e b).tko = s.tko := by unfold State.send; split <;> simp
@[simp] theorem send_trc (s : State) (p c d e : Nat) (b : Bytes) : (s.send p c d e b).trc = s.trc := by unfold State.send; split <;> simp
@[simp] theorem send_inf (s : State) (p c d e : Nat) (b : Bytes) : (s.send p c d e b).inf = s.inf := by unfold State.send; split <;> simp
@[simp] theorem send_srv (s : State) (p c d e : Nat) (b : Bytes) : (s.send p c d e b).srv = s.srv := by unfold State.send; split <;> simp
@[simp] theorem send_con (s : State) (p c d e : Nat) (b : Bytes) : (s.send p c d e b).con = s.con := by unfold State.send; split <;> simp
@[simp] theorem send_free (s : State) (p c d e : Nat) (b : Bytes) : (s.send p c d e b).free = s.free := by unfold State.send; split <;> simp
@[simp] theorem send_pending (s : State) (p c d e : Nat) (b : Bytes) : (s.send p c d e b).pending = s.pending := by unfold State.send; split <;> simp

@[simp] theorem sendPeer_build (s : State) (p c : Nat) (b : Bytes) : (s.sendPeer p c b).build = s.build := by simp [State.sendPeer]
@[simp] theorem sendPeer_regs (s : State) (p c : Nat) (b : Bytes) : (s.sendPeer p c b).regs = s.regs := by simp [State.sendPeer]
@[simp] theorem sendPeer_inForce (s : State) (p c : Nat) (b : Bytes) : (s.sendPeer p c b).inForce = s.inForce := by simp [State.sendPeer]
@[simp] theorem sendPeer_ports (s : State) (p c : Nat) (b : Bytes) : (s.sendPeer p c b).ports = s.ports := by simp [State.sendPeer]
@[simp] theorem sendPeer_led (s : State) (p c : Nat) (b : Bytes) : (s.sendPeer p c b).led = s.led := by simp [State.sendPeer]
@[simp] theorem sendPeer_sec (s : State) (p c : Nat) (b : Bytes) : (s.sendPeer p c b).sec = s.sec := by simp [State.sendPeer]
@[simp] theorem sendPeer_bru (s : State) (p c : Nat) (b : Bytes) : (s.sendPeer p c b).bru = s.bru := by simp [State.sendPeer]
@[simp] theorem sendPeer_tim (s : State) (p c : Nat) (b : Bytes) : (s.sendPeer p c b).tim = s.tim := by simp [State.sendPeer]
@[simp] theorem sendPeer_img (s : State) (p c : Nat) (b : Bytes) : (s.sendPeer p c b).img = s.img := by simp [State.sendPeer]
@[simp] theorem sendPeer_crier (s : State) (p c : Nat) (b : Bytes) : (s.sendPeer p c b).crier = s.crier := by simp [State.sendPeer]
@[simp] theorem sendPeer_tal (s : State) (p c : Nat) (b : Bytes) : (s.sendPeer p c b).tal = s.tal := by simp [State.sendPeer]
@[simp] theorem sendPeer_scl (s : State) (p c : Nat) (b : Bytes) : (s.sendPeer p c b).scl = s.scl := by simp [State.sendPeer]
@[simp] theorem sendPeer_red (s : State) (p c : Nat) (b : Bytes) : (s.sendPeer p c b).red = s.red := by simp [State.sendPeer]
@[simp] theorem sendPeer_tko (s : State) (p c : Nat) (b : Bytes) : (s.sendPeer p c b).tko = s.tko := by simp [State.sendPeer]
@[simp] theorem sendPeer_trc (s : State) (p c : Nat) (b : Bytes) : (s.sendPeer p c b).trc = s.trc := by simp [State.sendPeer]
@[simp] theorem sendPeer_inf (s : State) (p c : Nat) (b : Bytes) : (s.sendPeer p c b).inf = s.inf := by simp [State.sendPeer]
@[simp] theorem sendPeer_srv (s : State) (p c : Nat) (b : Bytes) : (s.sendPeer p c b).srv = s.srv := by simp [State.sendPeer]
@[simp] theorem sendPeer_con (s : State) (p c : Nat) (b : Bytes) : (s.sendPeer p c b).con = s.con := by simp [State.sendPeer]
@[simp] theorem sendPeer_free (s : State) (p c : Nat) (b : Bytes) : (s.sendPeer p c b).free = s.free := by simp [State.sendPeer]
@[simp] theorem sendPeer_pending (s : State) (p c : Nat) (b : Bytes) : (s.sendPeer p c b).pending = s.pending := by simp [State.sendPeer]

@[simp] theorem sendEach_build (s : State) (ps : List Nat) (c : Nat) (b : Bytes) : (s.sendEach ps c b).build = s.build := by unfold State.sendEach; induction ps generalizing s with | nil => rfl | cons p ps ih => simp [ih]
@[simp] theorem sendEach_regs (s : State) (ps : List Nat) (c : Nat) (b : Bytes) : (s.sendEach ps c b).regs = s.regs := by unfold State.sendEach; induction ps generalizing s with | nil => rfl | cons p ps ih => simp [ih]
@[simp] theorem sendEach_inForce (s : State) (ps : List Nat) (c : Nat) (b : Bytes) : (s.sendEach ps c b).inForce = s.inForce := by unfold State.sendEach; induction ps generalizing s with | nil => rfl | cons p ps ih => simp [ih]
@[simp] theorem sendEach_ports (s : State) (ps : List Nat) (c : Nat) (b : Bytes) : (s.sendEach ps c b).ports = s.ports := by unfold State.sendEach; induction ps generalizing s with | nil => rfl | cons p ps ih => simp [ih]
@[simp] theorem sendEach_led (s : State) (ps : List Nat) (c : Nat) (b : Bytes) : (s.sendEach ps c b).led = s.led := by unfold State.sendEach; induction ps generalizing s with | nil => rfl | cons p ps ih => simp [ih]
@[simp] theorem sendEach_sec (s : State) (ps : List Nat) (c : Nat) (b : Bytes) : (s.sendEach ps c b).sec = s.sec := by unfold State.sendEach; induction ps generalizing s with | nil => rfl | cons p ps ih => simp [ih]
@[simp] theorem sendEach_bru (s : State) (ps : List Nat) (c : Nat) (b : Bytes) : (s.sendEach ps c b).bru = s.bru := by unfold State.sendEach; induction ps generalizing s with | nil => rfl | cons p ps ih => simp [ih]
@[simp] theorem sendEach_tim (s : State) (ps : List Nat) (c : Nat) (b : Bytes) : (s.sendEach ps c b).tim = s.tim := by unfold State.sendEach; induction ps generalizing s with | nil => rfl | cons p ps ih => simp [ih]
@[simp] theorem sendEach_img (s : State) (ps : List Nat) (c : Nat) (b : Bytes) : (s.sendEach ps c b).img = s.img := by unfold State.sendEach; induction ps generalizing s with | nil => rfl | cons p ps ih => simp [ih]
@[simp] theorem sendEach_crier (s : State) (ps : List Nat) (c : Nat) (b : Bytes) : (s.sendEach ps c b).crier = s.crier := by unfold State.sendEach; induction ps generalizing s with | nil => rfl | cons p ps ih => simp [ih]
@[simp] theorem sendEach_tal (s : State) (ps : List Nat) (c : Nat) (b : Bytes) : (s.sendEach ps c b).tal = s.tal := by unfold State.sendEach; induction ps generalizing s with | nil => rfl | cons p ps ih => simp [ih]
@[simp] theorem sendEach_scl (s : State) (ps : List Nat) (c : Nat) (b : Bytes) : (s.sendEach ps c b).scl = s.scl := by unfold State.sendEach; induction ps generalizing s with | nil => rfl | cons p ps ih => simp [ih]
@[simp] theorem sendEach_red (s : State) (ps : List Nat) (c : Nat) (b : Bytes) : (s.sendEach ps c b).red = s.red := by unfold State.sendEach; induction ps generalizing s with | nil => rfl | cons p ps ih => simp [ih]
@[simp] theorem sendEach_tko (s : State) (ps : List Nat) (c : Nat) (b : Bytes) : (s.sendEach ps c b).tko = s.tko := by unfold State.sendEach; induction ps generalizing s with | nil => rfl | cons p ps ih => simp [ih]
@[simp] theorem sendEach_trc (s : State) (ps : List Nat) (c : Nat) (b : Bytes) : (s.sendEach ps c b).trc = s.trc := by unfold State.sendEach; induction ps generalizing s with | nil => rfl | cons p ps ih => simp [ih]
@[simp] theorem sendEach_inf (s : State) (ps : List Nat) (c : Nat) (b : Bytes) : (s.sendEach ps c b).inf = s.inf := by unfold State.sendEach; induction ps generalizing s with | nil => rfl | cons p ps ih => simp [ih]
@[simp] theorem sendEach_srv (s : State) (ps : List Nat) (c : Nat) (b : Bytes) : (s.sendEach ps c b).srv = s.srv := by unfold State.sendEach; induction ps generalizing s with | nil => rfl | cons p ps ih => simp [ih]
@[simp] theorem sendEach_con (s : State) (ps : List Nat) (c : Nat) (b : Bytes) : (s.sendEach ps c b).con = s.con := by unfold State.sendEach; induction ps generalizing s with | nil => rfl | cons p ps ih => simp [ih]
@[simp] theorem sendEach_free (s : State) (ps : List Nat) (c : Nat) (b : Bytes) : (s.sendEach ps c b).free = s.free := by unfold State.sendEach; induction ps generalizing s with | nil => rfl | cons p ps ih => simp [ih]
@[simp] theorem sendEach_pending (s : State) (ps : List Nat) (c : Nat) (b : Bytes) : (s.sendEach ps c b).pending = s.pending := by unfold State.sendEach; induction ps generalizing s with | nil => rfl | cons p ps ih => simp [ih]

@[simp] theorem sendUp_build (s : State) (c : Nat) (b : Bytes) : (s.sendUp c b).build = s.build := by unfold State.sendUp; split <;> simp
@[simp] theorem sendUp_regs (s : State) (c : Nat) (b : Bytes) : (s.sendUp c b).regs = s.regs := by unfold State.sendUp; split <;> simp
@[simp] theorem sendUp_inForce (s : State) (c : Nat) (b : Bytes) : (s.sendUp c b).inForce = s.inForce := by unfold State.sendUp; split <;> simp
@[simp] theorem sendUp_ports (s : State) (c : Nat) (b : Bytes) : (s.sendUp c b).ports = s.ports := by unfold State.sendUp; split <;> simp
@[simp] theorem sendUp_led (s : State) (c : Nat) (b : Bytes) : (s.sendUp c b).led = s.led := by unfold State.sendUp; split <;> simp
@[simp] theorem sendUp_sec (s : State) (c : Nat) (b : Bytes) : (s.sendUp c b).sec = s.sec := by unfold State.sendUp; split <;> simp
@[simp] theorem sendUp_bru (s : State) (c : Nat) (b : Bytes) : (s.sendUp c b).bru = s.bru := by unfold State.sendUp; split <;> simp
@[simp] theorem sendUp_tim (s : State) (c : Nat) (b : Bytes) : (s.sendUp c b).tim = s.tim := by unfold State.sendUp; split <;> simp
@[simp] theorem sendUp_img (s : State) (c : Nat) (b : Bytes) : (s.sendUp c b).img = s.img := by unfold State.sendUp; split <;> simp
@[simp] theorem sendUp_crier (s : State) (c : Nat) (b : Bytes) : (s.sendUp c b).crier = s.crier := by unfold State.sendUp; split <;> simp
@[simp] theorem sendUp_tal (s : State) (c : Nat) (b : Bytes) : (s.sendUp c b).tal = s.tal := by unfold State.sendUp; split <;> simp
@[simp] theorem sendUp_scl (s : State) (c : Nat) (b : Bytes) : (s.sendUp c b).scl = s.scl := by unfold State.sendUp; split <;> simp
@[simp] theorem sendUp_red (s : State) (c : Nat) (b : Bytes) : (s.sendUp c b).red = s.red := by unfold State.sendUp; split <;> simp
@[simp] theorem sendUp_tko (s : State) (c : Nat) (b : Bytes) : (s.sendUp c b).tko = s.tko := by unfold State.sendUp; split <;> simp
@[simp] theorem sendUp_trc (s : State) (c : Nat) (b : Bytes) : (s.sendUp c b).trc = s.trc := by unfold State.sendUp; split <;> simp
@[simp] theorem sendUp_inf (s : State) (c : Nat) (b : Bytes) : (s.sendUp c b).inf = s.inf := by unfold State.sendUp; split <;> simp
@[simp] theorem sendUp_srv (s : State) (c : Nat) (b : Bytes) : (s.sendUp c b).srv = s.srv := by unfold State.sendUp; split <;> simp
@[simp] theorem sendUp_con (s : State) (c : Nat) (b : Bytes) : (s.sendUp c b).con = s.con := by unfold State.sendUp; split <;> simp
@[simp] theorem sendUp_free (s : State) (c : Nat) (b : Bytes) : (s.sendUp c b).free = s.free := by unfold State.sendUp; split <;> simp
@[simp] theorem sendUp_pending (s : State) (c : Nat) (b : Bytes) : (s.sendUp c b).pending = s.pending := by unfold State.sendUp; split <;> simp

@[simp] theorem linkMgmt_build (s : State) (n : Nat) (l : List (Nat × Bytes)) : ((s.linkMgmt n l).2).build = s.build := by rfl
@[simp] theorem linkMgmt_regs (s : State) (n : Nat) (l : List (Nat × Bytes)) : ((s.linkMgmt n l).2).regs = s.regs := by rfl
@[simp] theorem linkMgmt_inForce (s : State) (n : Nat) (l : List (Nat × Bytes)) : ((s.linkMgmt n l).2).inForce = s.inForce := by rfl
@[simp] theorem linkMgmt_ports (s : State) (n : Nat) (l : List (Nat × Bytes)) : ((s.linkMgmt n l).2).ports = s.ports := by rfl
@[simp] theorem linkMgmt_led (s : State) (n : Nat) (l : List (Nat × Bytes)) : ((s.linkMgmt n l).2).led = s.led := by rfl
@[simp] theorem linkMgmt_sec (s : State) (n : Nat) (l : List (Nat × Bytes)) : ((s.linkMgmt n l).2).sec = s.sec := by rfl
@[simp] theorem linkMgmt_bru (s : State) (n : Nat) (l : List (Nat × Bytes)) : ((s.linkMgmt n l).2).bru = s.bru := by rfl
@[simp] theorem linkMgmt_tim (s : State) (n : Nat) (l : List (Nat × Bytes)) : ((s.linkMgmt n l).2).tim = s.tim := by rfl
@[simp] theorem linkMgmt_img (s : State) (n : Nat) (l : List (Nat × Bytes)) : ((s.linkMgmt n l).2).img = s.img := by rfl
@[simp] theorem linkMgmt_crier (s : State) (n : Nat) (l : List (Nat × Bytes)) : ((s.linkMgmt n l).2).crier = s.crier := by rfl
@[simp] theorem linkMgmt_tal (s : State) (n : Nat) (l : List (Nat × Bytes)) : ((s.linkMgmt n l).2).tal = s.tal := by rfl
@[simp] theorem linkMgmt_scl (s : State) (n : Nat) (l : List (Nat × Bytes)) : ((s.linkMgmt n l).2).scl = s.scl := by rfl
@[simp] theorem linkMgmt_red (s : State) (n : Nat) (l : List (Nat × Bytes)) : ((s.linkMgmt n l).2).red = s.red := by rfl
@[simp] theorem linkMgmt_tko (s : State) (n : Nat) (l : List (Nat × Bytes)) : ((s.linkMgmt n l).2).tko = s.tko := by rfl
@[simp] theorem linkMgmt_trc (s : State) (n : Nat) (l : List (Nat × Bytes)) : ((s.linkMgmt n l).2).trc = s.trc := by rfl
@[simp] theorem linkMgmt_inf (s : State) (n : Nat) (l : List (Nat × Bytes)) : ((s.linkMgmt n l).2).inf = s.inf := by rfl
@[simp] theorem linkMgmt_srv (s : State) (n : Nat) (l : List (Nat × Bytes)) : ((s.linkMgmt n l).2).srv = s.srv := by rfl
@[simp] theorem linkMgmt_con (s : State) (n : Nat) (l : List (Nat × Bytes)) : ((s.linkMgmt n l).2).con = s.con := by rfl
@[simp] theorem linkMgmt_free (s : State) (n : Nat) (l : List (Nat × Bytes)) : ((s.linkMgmt n l).2).free = s.free := by rfl
@[simp] theorem linkMgmt_pending (s : State) (n : Nat) (l : List (Nat × Bytes)) : ((s.linkMgmt n l).2).pending = s.pending := by rfl

@[simp] theorem mgmtEach_build (s : State) (ps : List Nat) (n : Nat) (l : List (Nat × Bytes)) : (s.mgmtEach ps n l).build = s.build := by unfold State.mgmtEach; induction ps generalizing s with | nil => rfl | cons p ps ih => simp [ih]
@[simp] theorem mgmtEach_regs (s : State) (ps : List Nat) (n : Nat) (l : List (Nat × Bytes)) : (s.mgmtEach ps n l).regs = s.regs := by unfold State.mgmtEach; induction ps generalizing s with | nil => rfl | cons p ps ih => simp [ih]
@[simp] theorem mgmtEach_inForce (s : State) (ps : List Nat) (n : Nat) (l : List (Nat × Bytes)) : (s.mgmtEach ps n l).inForce = s.inForce := by unfold State.mgmtEach; induction ps generalizing s with | nil => rfl | cons p ps ih => simp [ih]
@[simp] theorem mgmtEach_ports (s : State) (ps : List Nat) (n : Nat) (l : List (Nat × Bytes)) : (s.mgmtEach ps n l).ports = s.ports := by unfold State.mgmtEach; induction ps generalizing s with | nil => rfl | cons p ps ih => simp [ih]
@[simp] theorem mgmtEach_led (s : State) (ps : List Nat) (n : Nat) (l : List (Nat × Bytes)) : (s.mgmtEach ps n l).led = s.led := by unfold State.mgmtEach; induction ps generalizing s with | nil => rfl | cons p ps ih => simp [ih]
@[simp] theorem mgmtEach_sec (s : State) (ps : List Nat) (n : Nat) (l : List (Nat × Bytes)) : (s.mgmtEach ps n l).sec = s.sec := by unfold State.mgmtEach; induction ps generalizing s with | nil => rfl | cons p ps ih => simp [ih]
@[simp] theorem mgmtEach_bru (s : State) (ps : List Nat) (n : Nat) (l : List (Nat × Bytes)) : (s.mgmtEach ps n l).bru = s.bru := by unfold State.mgmtEach; induction ps generalizing s with | nil => rfl | cons p ps ih => simp [ih]
@[simp] theorem mgmtEach_tim (s : State) (ps : List Nat) (n : Nat) (l : List (Nat × Bytes)) : (s.mgmtEach ps n l).tim = s.tim := by unfold State.mgmtEach; induction ps generalizing s with | nil => rfl | cons p ps ih => simp [ih]
@[simp] theorem mgmtEach_img (s : State) (ps : List Nat) (n : Nat) (l : List (Nat × Bytes)) : (s.mgmtEach ps n l).img = s.img := by unfold State.mgmtEach; induction ps generalizing s with | nil => rfl | cons p ps ih => simp [ih]
@[simp] theorem mgmtEach_crier (s : State) (ps : List Nat) (n : Nat) (l : List (Nat × Bytes)) : (s.mgmtEach ps n l).crier = s.crier := by unfold State.mgmtEach; induction ps generalizing s with | nil => rfl | cons p ps ih => simp [ih]
@[simp] theorem mgmtEach_tal (s : State) (ps : List Nat) (n : Nat) (l : List (Nat × Bytes)) : (s.mgmtEach ps n l).tal = s.tal := by unfold State.mgmtEach; induction ps generalizing s with | nil => rfl | cons p ps ih => simp [ih]
@[simp] theorem mgmtEach_scl (s : State) (ps : List Nat) (n : Nat) (l : List (Nat × Bytes)) : (s.mgmtEach ps n l).scl = s.scl := by unfold State.mgmtEach; induction ps generalizing s with | nil => rfl | cons p ps ih => simp [ih]
@[simp] theorem mgmtEach_red (s : State) (ps : List Nat) (n : Nat) (l : List (Nat × Bytes)) : (s.mgmtEach ps n l).red = s.red := by unfold State.mgmtEach; induction ps generalizing s with | nil => rfl | cons p ps ih => simp [ih]
@[simp] theorem mgmtEach_tko (s : State) (ps : List Nat) (n : Nat) (l : List (Nat × Bytes)) : (s.mgmtEach ps n l).tko = s.tko := by unfold State.mgmtEach; induction ps generalizing s with | nil => rfl | cons p ps ih => simp [ih]
@[simp] theorem mgmtEach_trc (s : State) (ps : List Nat) (n : Nat) (l : List (Nat × Bytes)) : (s.mgmtEach ps n l).trc = s.trc := by unfold State.mgmtEach; induction ps generalizing s with | nil => rfl | cons p ps ih => simp [ih]
@[simp] theorem mgmtEach_inf (s : State) (ps : List Nat) (n : Nat) (l : List (Nat × Bytes)) : (s.mgmtEach ps n l).inf = s.inf := by unfold State.mgmtEach; induction ps generalizing s with | nil => rfl | cons p ps ih => simp [ih]
@[simp] theorem mgmtEach_srv (s : State) (ps : List Nat) (n : Nat) (l : List (Nat × Bytes)) : (s.mgmtEach ps n l).srv = s.srv := by unfold State.mgmtEach; induction ps generalizing s with | nil => rfl | cons p ps ih => simp [ih]
@[simp] theorem mgmtEach_con (s : State) (ps : List Nat) (n : Nat) (l : List (Nat × Bytes)) : (s.mgmtEach ps n l).con = s.con := by unfold State.mgmtEach; induction ps generalizing s with | nil => rfl | cons p ps ih => simp [ih]
@[simp] theorem mgmtEach_free (s : State) (ps : List Nat) (n : Nat) (l : List (Nat × Bytes)) : (s.mgmtEach ps n l).free = s.free := by unfold State.mgmtEach; induction ps generalizing s with | nil => rfl | cons p ps ih => simp [ih]
@[simp] theorem mgmtEach_pending (s : State) (ps : List Nat) (n : Nat) (l : List (Nat × Bytes)) : (s.mgmtEach ps n l).pending = s.pending := by unfold State.mgmtEach; induction ps generalizing s with | nil => rfl | cons p ps ih => simp [ih]

@[simp] theorem gateServe_build (s : State)  : (s.gateServe).build = s.build := by unfold State.gateServe; dsimp only; split <;> (try split) <;> simp
@[simp] theorem gateServe_inForce (s : State)  : (s.gateServe).inForce = s.inForce := by unfold State.gateServe; dsimp only; split <;> (try split) <;> simp
@[simp] theorem gateServe_led (s : State)  : (s.gateServe).led = s.led := by unfold State.gateServe; dsimp only; split <;> (try split) <;> simp
@[simp] theorem gateServe_lnk (s : State)  : (s.gateServe).lnk = s.lnk := by unfold State.gateServe; dsimp only; split <;> (try split) <;> simp
@[simp] theorem gateServe_sec (s : State)  : (s.gateServe).sec = s.sec := by unfold State.gateServe; dsimp only; split <;> (try split) <;> simp
@[simp] theorem gateServe_bru (s : State)  : (s.gateServe).bru = s.bru := by unfold State.gateServe; dsimp only; split <;> (try split) <;> simp
@[simp] theorem gateServe_tim (s : State)  : (s.gateServe).tim = s.tim := by unfold State.gateServe; dsimp only; split <;> (try split) <;> simp
@[simp] theorem gateServe_img (s : State)  : (s.gateServe).img = s.img := by unfold State.gateServe; dsimp only; split <;> (try split) <;> simp
@[simp] theorem gateServe_crier (s : State)  : (s.gateServe).crier = s.crier := by unfold State.gateServe; dsimp only; split <;> (try split) <;> simp
@[simp] theorem gateServe_tal (s : State)  : (s.gateServe).tal = s.tal := by unfold State.gateServe; dsimp only; split <;> (try split) <;> simp
@[simp] theorem gateServe_scl (s : State)  : (s.gateServe).scl = s.scl := by unfold State.gateServe; dsimp only; split <;> (try split) <;> simp
@[simp] theorem gateServe_red (s : State)  : (s.gateServe).red = s.red := by unfold State.gateServe; dsimp only; split <;> (try split) <;> simp
@[simp] theorem gateServe_tko (s : State)  : (s.gateServe).tko = s.tko := by unfold State.gateServe; dsimp only; split <;> (try split) <;> simp
@[simp] theorem gateServe_trc (s : State)  : (s.gateServe).trc = s.trc := by unfold State.gateServe; dsimp only; split <;> (try split) <;> simp
@[simp] theorem gateServe_inf (s : State)  : (s.gateServe).inf = s.inf := by unfold State.gateServe; dsimp only; split <;> (try split) <;> simp
@[simp] theorem gateServe_srv (s : State)  : (s.gateServe).srv = s.srv := by unfold State.gateServe; dsimp only; split <;> (try split) <;> simp
@[simp] theorem gateServe_con (s : State)  : (s.gateServe).con = s.con := by unfold State.gateServe; dsimp only; split <;> (try split) <;> simp
@[simp] theorem gateServe_free (s : State)  : (s.gateServe).free = s.free := by unfold State.gateServe; dsimp only; split <;> (try split) <;> simp
@[simp] theorem gateServe_pending (s : State)  : (s.gateServe).pending = s.pending := by unfold State.gateServe; dsimp only; split <;> (try split) <;> simp

@[simp] theorem freeShadows_build (s : State) (n : Nat) : (s.freeShadows n).build = s.build := by simp [State.freeShadows]
@[simp] theorem freeShadows_inForce (s : State) (n : Nat) : (s.freeShadows n).inForce = s.inForce := by simp [State.freeShadows]
@[simp] theorem freeShadows_ports (s : State) (n : Nat) : (s.freeShadows n).ports = s.ports := by simp [State.freeShadows]
@[simp] theorem freeShadows_led (s : State) (n : Nat) : (s.freeShadows n).led = s.led := by simp [State.freeShadows]
@[simp] theorem freeShadows_lnk (s : State) (n : Nat) : (s.freeShadows n).lnk = s.lnk := by simp [State.freeShadows]
@[simp] theorem freeShadows_sec (s : State) (n : Nat) : (s.freeShadows n).sec = s.sec := by simp [State.freeShadows]
@[simp] theorem freeShadows_bru (s : State) (n : Nat) : (s.freeShadows n).bru = s.bru := by simp [State.freeShadows]
@[simp] theorem freeShadows_tim (s : State) (n : Nat) : (s.freeShadows n).tim = s.tim := by simp [State.freeShadows]
@[simp] theorem freeShadows_img (s : State) (n : Nat) : (s.freeShadows n).img = s.img := by simp [State.freeShadows]
@[simp] theorem freeShadows_crier (s : State) (n : Nat) : (s.freeShadows n).crier = s.crier := by simp [State.freeShadows]
@[simp] theorem freeShadows_tal (s : State) (n : Nat) : (s.freeShadows n).tal = s.tal := by simp [State.freeShadows]
@[simp] theorem freeShadows_scl (s : State) (n : Nat) : (s.freeShadows n).scl = s.scl := by simp [State.freeShadows]
@[simp] theorem freeShadows_red (s : State) (n : Nat) : (s.freeShadows n).red = s.red := by simp [State.freeShadows]
@[simp] theorem freeShadows_tko (s : State) (n : Nat) : (s.freeShadows n).tko = s.tko := by simp [State.freeShadows]
@[simp] theorem freeShadows_trc (s : State) (n : Nat) : (s.freeShadows n).trc = s.trc := by simp [State.freeShadows]
@[simp] theorem freeShadows_inf (s : State) (n : Nat) : (s.freeShadows n).inf = s.inf := by simp [State.freeShadows]
@[simp] theorem freeShadows_srv (s : State) (n : Nat) : (s.freeShadows n).srv = s.srv := by simp [State.freeShadows]
@[simp] theorem freeShadows_con (s : State) (n : Nat) : (s.freeShadows n).con = s.con := by simp [State.freeShadows]
@[simp] theorem freeShadows_free (s : State) (n : Nat) : (s.freeShadows n).free = s.free := by simp [State.freeShadows]
@[simp] theorem freeShadows_pending (s : State) (n : Nat) : (s.freeShadows n).pending = s.pending := by simp [State.freeShadows]

@[simp] theorem abandon_build (s : State) (c : Nat) : (s.abandon c).build = s.build := by unfold State.abandon; simp
@[simp] theorem abandon_inForce (s : State) (c : Nat) : (s.abandon c).inForce = s.inForce := by unfold State.abandon; simp
@[simp] theorem abandon_lnk (s : State) (c : Nat) : (s.abandon c).lnk = s.lnk := by unfold State.abandon; simp
@[simp] theorem abandon_sec (s : State) (c : Nat) : (s.abandon c).sec = s.sec := by unfold State.abandon; simp
@[simp] theorem abandon_bru (s : State) (c : Nat) : (s.abandon c).bru = s.bru := by unfold State.abandon; simp
@[simp] theorem abandon_tim (s : State) (c : Nat) : (s.abandon c).tim = s.tim := by unfold State.abandon; simp
@[simp] theorem abandon_img (s : State) (c : Nat) : (s.abandon c).img = s.img := by unfold State.abandon; simp
@[simp] theorem abandon_crier (s : State) (c : Nat) : (s.abandon c).crier = s.crier := by unfold State.abandon; simp
@[simp] theorem abandon_tal (s : State) (c : Nat) : (s.abandon c).tal = s.tal := by unfold State.abandon; simp
@[simp] theorem abandon_scl (s : State) (c : Nat) : (s.abandon c).scl = s.scl := by unfold State.abandon; simp
@[simp] theorem abandon_red (s : State) (c : Nat) : (s.abandon c).red = s.red := by unfold State.abandon; simp
@[simp] theorem abandon_tko (s : State) (c : Nat) : (s.abandon c).tko = s.tko := by unfold State.abandon; simp
@[simp] theorem abandon_trc (s : State) (c : Nat) : (s.abandon c).trc = s.trc := by unfold State.abandon; simp
@[simp] theorem abandon_inf (s : State) (c : Nat) : (s.abandon c).inf = s.inf := by unfold State.abandon; simp
@[simp] theorem abandon_srv (s : State) (c : Nat) : (s.abandon c).srv = s.srv := by unfold State.abandon; simp
@[simp] theorem abandon_pending (s : State) (c : Nat) : (s.abandon c).pending = s.pending := by unfold State.abandon; simp

@[simp] theorem touch_build (s : State) (k n : Nat) : (s.touch k n).build = s.build := by unfold State.touch; split <;> (try (dsimp only; split)) <;> (try split) <;> simp
@[simp] theorem touch_inForce (s : State) (k n : Nat) : (s.touch k n).inForce = s.inForce := by unfold State.touch; split <;> (try (dsimp only; split)) <;> (try split) <;> simp
@[simp] theorem touch_lnk (s : State) (k n : Nat) : (s.touch k n).lnk = s.lnk := by unfold State.touch; split <;> (try (dsimp only; split)) <;> (try split) <;> simp
@[simp] theorem touch_sec (s : State) (k n : Nat) : (s.touch k n).sec = s.sec := by unfold State.touch; split <;> (try (dsimp only; split)) <;> (try split) <;> simp
@[simp] theorem touch_bru (s : State) (k n : Nat) : (s.touch k n).bru = s.bru := by unfold State.touch; split <;> (try (dsimp only; split)) <;> (try split) <;> simp
@[simp] theorem touch_tim (s : State) (k n : Nat) : (s.touch k n).tim = s.tim := by unfold State.touch; split <;> (try (dsimp only; split)) <;> (try split) <;> simp
@[simp] theorem touch_img (s : State) (k n : Nat) : (s.touch k n).img = s.img := by unfold State.touch; split <;> (try (dsimp only; split)) <;> (try split) <;> simp
@[simp] theorem touch_crier (s : State) (k n : Nat) : (s.touch k n).crier = s.crier := by unfold State.touch; split <;> (try (dsimp only; split)) <;> (try split) <;> simp
@[simp] theorem touch_tal (s : State) (k n : Nat) : (s.touch k n).tal = s.tal := by unfold State.touch; split <;> (try (dsimp only; split)) <;> (try split) <;> simp
@[simp] theorem touch_scl (s : State) (k n : Nat) : (s.touch k n).scl = s.scl := by unfold State.touch; split <;> (try (dsimp only; split)) <;> (try split) <;> simp
@[simp] theorem touch_red (s : State) (k n : Nat) : (s.touch k n).red = s.red := by unfold State.touch; split <;> (try (dsimp only; split)) <;> (try split) <;> simp
@[simp] theorem touch_tko (s : State) (k n : Nat) : (s.touch k n).tko = s.tko := by unfold State.touch; split <;> (try (dsimp only; split)) <;> (try split) <;> simp
@[simp] theorem touch_trc (s : State) (k n : Nat) : (s.touch k n).trc = s.trc := by unfold State.touch; split <;> (try (dsimp only; split)) <;> (try split) <;> simp
@[simp] theorem touch_inf (s : State) (k n : Nat) : (s.touch k n).inf = s.inf := by unfold State.touch; split <;> (try (dsimp only; split)) <;> (try split) <;> simp
@[simp] theorem touch_srv (s : State) (k n : Nat) : (s.touch k n).srv = s.srv := by unfold State.touch; split <;> (try (dsimp only; split)) <;> (try split) <;> simp
@[simp] theorem touch_pending (s : State) (k n : Nat) : (s.touch k n).pending = s.pending := by unfold State.touch; split <;> (try (dsimp only; split)) <;> (try split) <;> simp

@[simp] theorem recovered_build (s : State) (c : Nat) : (s.recovered c).build = s.build := by unfold State.recovered; split <;> (try (dsimp only; split)) <;> (try split) <;> simp
@[simp] theorem recovered_inForce (s : State) (c : Nat) : (s.recovered c).inForce = s.inForce := by unfold State.recovered; split <;> (try (dsimp only; split)) <;> (try split) <;> simp
@[simp] theorem recovered_ports (s : State) (c : Nat) : (s.recovered c).ports = s.ports := by unfold State.recovered; split <;> (try (dsimp only; split)) <;> (try split) <;> simp
@[simp] theorem recovered_lnk (s : State) (c : Nat) : (s.recovered c).lnk = s.lnk := by unfold State.recovered; split <;> (try (dsimp only; split)) <;> (try split) <;> simp
@[simp] theorem recovered_sec (s : State) (c : Nat) : (s.recovered c).sec = s.sec := by unfold State.recovered; split <;> (try (dsimp only; split)) <;> (try split) <;> simp
@[simp] theorem recovered_bru (s : State) (c : Nat) : (s.recovered c).bru = s.bru := by unfold State.recovered; split <;> (try (dsimp only; split)) <;> (try split) <;> simp
@[simp] theorem recovered_tim (s : State) (c : Nat) : (s.recovered c).tim = s.tim := by unfold State.recovered; split <;> (try (dsimp only; split)) <;> (try split) <;> simp
@[simp] theorem recovered_img (s : State) (c : Nat) : (s.recovered c).img = s.img := by unfold State.recovered; split <;> (try (dsimp only; split)) <;> (try split) <;> simp
@[simp] theorem recovered_crier (s : State) (c : Nat) : (s.recovered c).crier = s.crier := by unfold State.recovered; split <;> (try (dsimp only; split)) <;> (try split) <;> simp
@[simp] theorem recovered_tal (s : State) (c : Nat) : (s.recovered c).tal = s.tal := by unfold State.recovered; split <;> (try (dsimp only; split)) <;> (try split) <;> simp
@[simp] theorem recovered_scl (s : State) (c : Nat) : (s.recovered c).scl = s.scl := by unfold State.recovered; split <;> (try (dsimp only; split)) <;> (try split) <;> simp
@[simp] theorem recovered_red (s : State) (c : Nat) : (s.recovered c).red = s.red := by unfold State.recovered; split <;> (try (dsimp only; split)) <;> (try split) <;> simp
@[simp] theorem recovered_tko (s : State) (c : Nat) : (s.recovered c).tko = s.tko := by unfold State.recovered; split <;> (try (dsimp only; split)) <;> (try split) <;> simp
@[simp] theorem recovered_trc (s : State) (c : Nat) : (s.recovered c).trc = s.trc := by unfold State.recovered; split <;> (try (dsimp only; split)) <;> (try split) <;> simp
@[simp] theorem recovered_inf (s : State) (c : Nat) : (s.recovered c).inf = s.inf := by unfold State.recovered; split <;> (try (dsimp only; split)) <;> (try split) <;> simp
@[simp] theorem recovered_srv (s : State) (c : Nat) : (s.recovered c).srv = s.srv := by unfold State.recovered; split <;> (try (dsimp only; split)) <;> (try split) <;> simp
@[simp] theorem recovered_pending (s : State) (c : Nat) : (s.recovered c).pending = s.pending := by unfold State.recovered; split <;> (try (dsimp only; split)) <;> (try split) <;> simp

@[simp] theorem unstall_build (s : State) (g k : Nat) : (s.unstall g k).build = s.build := by unfold State.unstall; dsimp only; split <;> simp
@[simp] theorem unstall_inForce (s : State) (g k : Nat) : (s.unstall g k).inForce = s.inForce := by unfold State.unstall; dsimp only; split <;> simp
@[simp] theorem unstall_led (s : State) (g k : Nat) : (s.unstall g k).led = s.led := by unfold State.unstall; dsimp only; split <;> simp
@[simp] theorem unstall_lnk (s : State) (g k : Nat) : (s.unstall g k).lnk = s.lnk := by unfold State.unstall; dsimp only; split <;> simp
@[simp] theorem unstall_sec (s : State) (g k : Nat) : (s.unstall g k).sec = s.sec := by unfold State.unstall; dsimp only; split <;> simp
@[simp] theorem unstall_bru (s : State) (g k : Nat) : (s.unstall g k).bru = s.bru := by unfold State.unstall; dsimp only; split <;> simp
@[simp] theorem unstall_tim (s : State) (g k : Nat) : (s.unstall g k).tim = s.tim := by unfold State.unstall; dsimp only; split <;> simp
@[simp] theorem unstall_img (s : State) (g k : Nat) : (s.unstall g k).img = s.img := by unfold State.unstall; dsimp only; split <;> simp
@[simp] theorem unstall_crier (s : State) (g k : Nat) : (s.unstall g k).crier = s.crier := by unfold State.unstall; dsimp only; split <;> simp
@[simp] theorem unstall_tal (s : State) (g k : Nat) : (s.unstall g k).tal = s.tal := by unfold State.unstall; dsimp only; split <;> simp
@[simp] theorem unstall_scl (s : State) (g k : Nat) : (s.unstall g k).scl = s.scl := by unfold State.unstall; dsimp only; split <;> simp
@[simp] theorem unstall_red (s : State) (g k : Nat) : (s.unstall g k).red = s.red := by unfold State.unstall; dsimp only; split <;> simp
@[simp] theorem unstall_tko (s : State) (g k : Nat) : (s.unstall g k).tko = s.tko := by unfold State.unstall; dsimp only; split <;> simp
@[simp] theorem unstall_trc (s : State) (g k : Nat) : (s.unstall g k).trc = s.trc := by unfold State.unstall; dsimp only; split <;> simp
@[simp] theorem unstall_inf (s : State) (g k : Nat) : (s.unstall g k).inf = s.inf := by unfold State.unstall; dsimp only; split <;> simp
@[simp] theorem unstall_srv (s : State) (g k : Nat) : (s.unstall g k).srv = s.srv := by unfold State.unstall; dsimp only; split <;> simp
@[simp] theorem unstall_con (s : State) (g k : Nat) : (s.unstall g k).con = s.con := by unfold State.unstall; dsimp only; split <;> simp
@[simp] theorem unstall_free (s : State) (g k : Nat) : (s.unstall g k).free = s.free := by unfold State.unstall; dsimp only; split <;> simp
@[simp] theorem unstall_pending (s : State) (g k : Nat) : (s.unstall g k).pending = s.pending := by unfold State.unstall; dsimp only; split <;> simp

@[simp] theorem refuse_build (s : State) (a : Access) (v : Verdict) : (s.refuse a v).build = s.build := by unfold State.refuse; split <;> simp
@[simp] theorem refuse_inForce (s : State) (a : Access) (v : Verdict) : (s.refuse a v).inForce = s.inForce := by unfold State.refuse; split <;> simp
@[simp] theorem refuse_led (s : State) (a : Access) (v : Verdict) : (s.refuse a v).led = s.led := by unfold State.refuse; split <;> simp
@[simp] theorem refuse_lnk (s : State) (a : Access) (v : Verdict) : (s.refuse a v).lnk = s.lnk := by unfold State.refuse; split <;> simp
@[simp] theorem refuse_sec (s : State) (a : Access) (v : Verdict) : (s.refuse a v).sec = s.sec := by unfold State.refuse; split <;> simp
@[simp] theorem refuse_bru (s : State) (a : Access) (v : Verdict) : (s.refuse a v).bru = s.bru := by unfold State.refuse; split <;> simp
@[simp] theorem refuse_tim (s : State) (a : Access) (v : Verdict) : (s.refuse a v).tim = s.tim := by unfold State.refuse; split <;> simp
@[simp] theorem refuse_img (s : State) (a : Access) (v : Verdict) : (s.refuse a v).img = s.img := by unfold State.refuse; split <;> simp
@[simp] theorem refuse_crier (s : State) (a : Access) (v : Verdict) : (s.refuse a v).crier = s.crier := by unfold State.refuse; split <;> simp
@[simp] theorem refuse_tal (s : State) (a : Access) (v : Verdict) : (s.refuse a v).tal = s.tal := by unfold State.refuse; split <;> simp
@[simp] theorem refuse_scl (s : State) (a : Access) (v : Verdict) : (s.refuse a v).scl = s.scl := by unfold State.refuse; split <;> simp
@[simp] theorem refuse_red (s : State) (a : Access) (v : Verdict) : (s.refuse a v).red = s.red := by unfold State.refuse; split <;> simp
@[simp] theorem refuse_tko (s : State) (a : Access) (v : Verdict) : (s.refuse a v).tko = s.tko := by unfold State.refuse; split <;> simp
@[simp] theorem refuse_trc (s : State) (a : Access) (v : Verdict) : (s.refuse a v).trc = s.trc := by unfold State.refuse; split <;> simp
@[simp] theorem refuse_inf (s : State) (a : Access) (v : Verdict) : (s.refuse a v).inf = s.inf := by unfold State.refuse; split <;> simp
@[simp] theorem refuse_srv (s : State) (a : Access) (v : Verdict) : (s.refuse a v).srv = s.srv := by unfold State.refuse; split <;> simp
@[simp] theorem refuse_con (s : State) (a : Access) (v : Verdict) : (s.refuse a v).con = s.con := by unfold State.refuse; split <;> simp
@[simp] theorem refuse_free (s : State) (a : Access) (v : Verdict) : (s.refuse a v).free = s.free := by unfold State.refuse; split <;> simp
@[simp] theorem refuse_pending (s : State) (a : Access) (v : Verdict) : (s.refuse a v).pending = s.pending := by unfold State.refuse; split <;> simp

/-! ### The words that the shared operations leave as they are -/

theorem State.fld_of_word {s t : State} {f : Fld} (h : s.word f.addr = t.word f.addr) : s.fld f = t.fld f := by
  simp only [State.word] at h; simp [State.fld, h]

theorem word_add (s : State) (f : Fld) (n a : Nat) (h : a ≠ f.addr) : (s.add f n).word a = s.word a := State.word_set_ne s f _ a h

theorem word_inc (s : State) (f : Fld) (a : Nat) (h : a ≠ f.addr) : (s.inc f).word a = s.word a := State.word_set_ne s f _ a h

theorem word_alertIf (s : State) (f : Fld) (k a : Nat) (h : a ≠ 0x44) : (s.alertIf f k).word a = s.word a := by
  unfold State.alertIf
  split
  · exact State.word_set_ne _ _ _ _ h
  · rfl

theorem word_markExpert (s : State) (b a : Nat) (h : a ≠ 0x78) : (s.markExpert b).word a = s.word a := by
  unfold State.markExpert
  split
  · exact State.word_set_ne _ _ _ _ h
  · rfl

theorem word_unstall (s : State) (g k a : Nat) (h : a ≠ 0x38) : (s.unstall g k).word a = s.word a := by
  unfold State.unstall
  dsimp only
  split
  · rfl
  · exact State.word_set_ne _ _ _ _ h

theorem word_loseEvent (s : State) (e : LEvt) (a : Nat) (h : a ≠ 0x70014) : (s.loseEvent e).word a = s.word a :=
  (State.word_set_ne _ F.LED_LOST_LAST_CLASS _ _ h).trans (State.word_set_ne _ F.LED_LOST_EVENTS _ _ h)

theorem word_noteLoss (s : State) (a : Nat) (h : a ≠ 0x44) : s.noteLoss.word a = s.word a := by
  unfold State.noteLoss
  split
  · rfl
  · dsimp only
    split
    · exact word_alertIf _ _ _ _ h
    · rfl

theorem word_raiseEvent (s : State) (e : LEvt) (a : Nat) (h : a ≠ 0x70014) (h2 : a ≠ 0x44) : (s.raiseEvent e).word a = s.word a := by
  unfold State.raiseEvent
  dsimp only
  split
  · exact (State.word_set_ne _ F.LED_LOST_LAST_CLASS _ _ h).trans (State.word_set_ne _ F.LED_LOST_EVENTS _ _ h)
  · split
    · split
      · exact (word_noteLoss _ _ h2).trans (word_loseEvent _ _ _ h)
      · rfl
    · split
      · exact (word_noteLoss _ _ h2).trans (word_loseEvent _ _ _ h)
      · rfl

theorem word_log (s : State) (c d u v a : Nat) (h : a ≠ 0x70014) (h2 : a ≠ 0x44) : (s.log c d u v).word a = s.word a := word_raiseEvent _ _ _ h h2

theorem word_bruEvent (s : State) (c d u v a : Nat) (h : a ≠ 0x70014) (h2 : a ≠ 0x44) : (s.bruEvent c d u v).word a = s.word a :=
  (word_alertIf _ _ _ _ h2).trans (word_log _ _ _ _ _ _ h h2)

theorem word_plainWrite (s : State) (b : Nat) (w : Word) (a : Nat) (h : a ≠ b) : (s.plainWrite b w).word a = s.word a := State.word_setWord_ne s _ h

end Sys2Proof.Machine
end

