-- ==== Sys2Proof/Laws/Exec.lean ====
section
/-! SUPPORT. Which meaning each command has: one equation per constructor, so that a proof need not unfold the whole dispatch. -/

set_option Elab.async false

namespace Sys2Proof.Machine

theorem exec_powerUp (resetLow bootSel : Bool) (s : State) : exec (.powerUp resetLow bootSel) s = execPowerUp resetLow bootSel s := rfl
theorem exec_powerOff (s : State) : exec .powerOff s = execPowerOff s := rfl
theorem exec_bootSelSample (level : Bool) (s : State) : exec (.bootSelSample level) s = execBootSelSample level s := rfl
theorem exec_resetNAssert (t : Nat) (s : State) : exec (.resetNAssert t) s = execResetNAssert t s := rfl
theorem exec_resetNRelease (t : Nat) (bootSel : Bool) (s : State) : exec (.resetNRelease t bootSel) s = execResetNRelease t bootSel s := rfl
theorem exec_resetHeldBeacon (s : State) : exec .resetHeldBeacon s = execResetHeldBeacon s := rfl
theorem exec_fuseReadResponse (t : Nat) (data : Word) (resp : BitVec 2) (s : State) : exec (.fuseReadResponse t data resp) s = execFuseReadResponse t data resp s := rfl
theorem exec_bootReadResponse (t : Nat) (data : BitVec 128) (resp : BitVec 2) (s : State) : exec (.bootReadResponse t data resp) s = execBootReadResponse t data resp s := rfl
theorem exec_imageChecked (s : State) : exec .imageChecked s = execImageChecked s := rfl
theorem exec_bcastWaitExpiry (s : State) : exec .bcastWaitExpiry s = execBcastWaitExpiry s := rfl
theorem exec_katDone (failed : List Nat) (s : State) : exec (.katDone failed) s = execKatDone failed s := rfl
theorem exec_waveGateAck (t gate : Nat) (s : State) : exec (.waveGateAck t gate) s = execWaveGateAck t gate s := rfl
theorem exec_waveSettle (gate : Nat) (s : State) : exec (.waveSettle gate) s = execWaveSettle gate s := rfl
theorem exec_waveGateAckFall (t gate : Nat) (s : State) : exec (.waveGateAckFall t gate) s = execWaveGateAckFall t gate s := rfl
theorem exec_marketOpenOccurs (s : State) : exec .marketOpenOccurs s = execMarketOpenOccurs s := rfl
theorem exec_marketOpen (a : Access) (w : Word) (s : State) : exec (.marketOpen a w) s = execMarketOpen a w s := rfl
theorem exec_wavesOff (a : Access) (w : Word) (s : State) : exec (.wavesOff a w) s = execWavesOff a w s := rfl
theorem exec_wavesOn (a : Access) (w : Word) (s : State) : exec (.wavesOn a w) s = execWavesOn a w s := rfl
theorem exec_retry (a : Access) (w : Word) (s : State) : exec (.retry a w) s = execRetry a w s := rfl
theorem exec_katRequest (a : Access) (w : Word) (s : State) : exec (.katRequest a w) s = execKatRequest a w s := rfl
theorem exec_katRequestDone (pass : Bool) (s : State) : exec (.katRequestDone pass) s = execKatRequestDone pass s := rfl
theorem exec_inbandSend (a : Access) (w : Word) (s : State) : exec (.inbandSend a w) s = execInbandSend a w s := rfl
theorem exec_inbandReset (r : Rx) (s : State) : exec (.inbandReset r) s = execInbandReset r s := rfl
theorem exec_heldReset (r : Rx) (s : State) : exec (.heldReset r) s = execHeldReset r s := rfl
theorem exec_resetNotice (r : Rx) (s : State) : exec (.resetNotice r) s = execResetNotice r s := rfl
theorem exec_powerRequest (a : Access) (w : Word) (s : State) : exec (.powerRequest a w) s = execPowerRequest a w s := rfl
theorem exec_powerTransitionDone (s : State) : exec .powerTransitionDone s = execPowerTransitionDone s := rfl
theorem exec_powerNotice (r : Rx) (s : State) : exec (.powerNotice r) s = execPowerNotice r s := rfl
theorem exec_stateRequest (a : Access) (w : Word) (s : State) : exec (.stateRequest a w) s = execStateRequest a w s := rfl
theorem exec_recoveryComplete (s : State) : exec .recoveryComplete s = execRecoveryComplete s := rfl
theorem exec_routeHandshake (lane : Nat) (routes : List Nat) (s : State) : exec (.routeHandshake lane routes) s = execRouteHandshake lane routes s := rfl
theorem exec_tileHung (t tile : Nat) (s : State) : exec (.tileHung t tile) s = execTileHung t tile s := rfl
theorem exec_portStallTimeout (port sub : Nat) (s : State) : exec (.portStallTimeout port sub) s = execPortStallTimeout port sub s := rfl
theorem exec_phaseOrderBreak (t port sub : Nat) (s : State) : exec (.phaseOrderBreak t port sub) s = execPhaseOrderBreak t port sub s := rfl
theorem exec_speedWindow (rate : BitVec 12) (s : State) : exec (.speedWindow rate) s = execSpeedWindow rate s := rfl
theorem exec_hostMemoryWriteDone (t : Nat) (resp : BitVec 2) (s : State) : exec (.hostMemoryWriteDone t resp) s = execHostMemoryWriteDone t resp s := rfl
theorem exec_issueGateReq (t : Nat) (s : State) : exec (.issueGateReq t) s = execIssueGateReq t s := rfl
theorem exec_tbrefLost (s : State) : exec .tbrefLost s = execTbrefLost s := rfl
theorem exec_tbrefReturn (s : State) : exec .tbrefReturn s = execTbrefReturn s := rfl
theorem exec_syncInterval (s : State) : exec .syncInterval s = execSyncInterval s := rfl
theorem exec_pdelayInterval (s : State) : exec .pdelayInterval s = execPdelayInterval s := rfl
theorem exec_sync (r : Rx) (s : State) : exec (.sync r) s = execSync r s := rfl
theorem exec_followUp (r : Rx) (s : State) : exec (.followUp r) s = execFollowUp r s := rfl
theorem exec_pdelayReq (r : Rx) (s : State) : exec (.pdelayReq r) s = execPdelayReq r s := rfl
theorem exec_pdelayResp (r : Rx) (s : State) : exec (.pdelayResp r) s = execPdelayResp r s := rfl
theorem exec_pdelayRespFollowUp (r : Rx) (s : State) : exec (.pdelayRespFollowUp r) s = execPdelayRespFollowUp r s := rfl
theorem exec_syncPortLoss (s : State) : exec .syncPortLoss s = execSyncPortLoss s := rfl
theorem exec_gmLoss (s : State) : exec .gmLoss s = execGmLoss s := rfl
theorem exec_relock (a : Access) (w : Word) (s : State) : exec (.relock a w) s = execRelock a w s := rfl
theorem exec_gmResume (a : Access) (w : Word) (s : State) : exec (.gmResume a w) s = execGmResume a w s := rfl
theorem exec_timAdj (a : Access) (w : Word) (s : State) : exec (.timAdj a w) s = execTimAdj a w s := rfl
theorem exec_periodWrite (a : Access) (w : Word) (s : State) : exec (.periodWrite a w) s = execPeriodWrite a w s := rfl
theorem exec_sealLagWrite (a : Access) (w : Word) (s : State) : exec (.sealLagWrite a w) s = execSealLagWrite a w s := rfl
theorem exec_cadenceAnnouncement (r : Rx) (s : State) : exec (.cadenceAnnouncement r) s = execCadenceAnnouncement r s := rfl
theorem exec_syncInEdge (t : Nat) (s : State) : exec (.syncInEdge t) s = execSyncInEdge t s := rfl
theorem exec_epochBoundary (s : State) : exec .epochBoundary s = execEpochBoundary s := rfl
theorem exec_seal (s : State) : exec .seal s = execSeal s := rfl
theorem exec_pulseArm (a : Access) (k : Nat) (w : Word) (s : State) : exec (.pulseArm a k w) s = execPulseArm a k w s := rfl
theorem exec_pulseDisarm (a : Access) (k : Nat) (w : Word) (s : State) : exec (.pulseDisarm a k w) s = execPulseDisarm a k w s := rfl
theorem exec_pulseEdge (k : Nat) (s : State) : exec (.pulseEdge k) s = execPulseEdge k s := rfl
theorem exec_pulseTrailingEdge (k : Nat) (s : State) : exec (.pulseTrailingEdge k) s = execPulseTrailingEdge k s := rfl
theorem exec_sweepPassStart (s : State) : exec .sweepPassStart s = execSweepPassStart s := rfl
theorem exec_bracketPrepass (s : State) : exec .bracketPrepass s = execBracketPrepass s := rfl
theorem exec_tallyReadResponse (t : Nat) (value : BitVec 48) (gen status : BitVec 4) (s : State) : exec (.tallyReadResponse t value gen status) s = execTallyReadResponse t value gen status s := rfl
theorem exec_genStuck (ctr : Nat) (s : State) : exec (.genStuck ctr) s = execGenStuck ctr s := rfl
theorem exec_mapEntryWrite (a : Access) (ctr : Nat) (w : Word) (s : State) : exec (.mapEntryWrite a ctr w) s = execMapEntryWrite a ctr w s := rfl
theorem exec_serviceReportArrival (t : Nat) (typ : Byte) (body : BitVec 120) (s : State) : exec (.serviceReportArrival t typ body) s = execServiceReportArrival t typ body s := rfl
theorem exec_raPost (r : Report) (s : State) : exec (.raPost r) s = execRaPost r s := rfl
theorem exec_raCommit (r : Report) (s : State) : exec (.raCommit r) s = execRaCommit r s := rfl
theorem exec_raCancel (r : Report) (s : State) : exec (.raCancel r) s = execRaCancel r s := rfl
theorem exec_raTicketExpiry (ticket : Nat) (s : State) : exec (.raTicketExpiry ticket) s = execRaTicketExpiry ticket s := rfl
theorem exec_sample (r : Report) (s : State) : exec (.sample r) s = execSample r s := rfl
theorem exec_hostReport (typ : Byte) (r : Report) (s : State) : exec (.hostReport typ r) s = execHostReport typ r s := rfl
theorem exec_scalesValue (v : MetricValue) (s : State) : exec (.scalesValue v) s = execScalesValue v s := rfl
theorem exec_childSummary (r : Rx) (parts : List Bytes) (s : State) : exec (.childSummary r parts) s = execChildSummary r parts s := rfl
theorem exec_mergeDeadline (s : State) : exec .mergeDeadline s = execMergeDeadline s := rfl
theorem exec_mergeComplete (s : State) : exec .mergeComplete s = execMergeComplete s := rfl
theorem exec_lateBundle (r : Rx) (recs : List Bytes) (s : State) : exec (.lateBundle r recs) s = execLateBundle r recs s := rfl
theorem exec_contributorRecord (r : Rx) (s : State) : exec (.contributorRecord r) s = execContributorRecord r s := rfl
theorem exec_retractionRecord (r : Rx) (s : State) : exec (.retractionRecord r) s = execRetractionRecord r s := rfl
theorem exec_sourceValueRecord (r : Rx) (s : State) : exec (.sourceValueRecord r) s = execSourceValueRecord r s := rfl
theorem exec_stragglerRecord (r : Rx) (s : State) : exec (.stragglerRecord r) s = execStragglerRecord r s := rfl
theorem exec_referenceRecord (r : Rx) (s : State) : exec (.referenceRecord r) s = execReferenceRecord r s := rfl
theorem exec_epochAck (r : Rx) (s : State) : exec (.epochAck r) s = execEpochAck r s := rfl
theorem exec_derailleurCommit (a : Access) (w : Word) (s : State) : exec (.derailleurCommit a w) s = execDerailleurCommit a w s := rfl
theorem exec_streamTrigger (slot t : Nat) (value : MetricValue) (s : State) : exec (.streamTrigger slot t value) s = execStreamTrigger slot t value s := rfl
theorem exec_rowScored (slot : Nat) (err : StoreErr) (s : State) : exec (.rowScored slot err) s = execRowScored slot err s := rfl
theorem exec_driftReset (a : Access) (d : Nat) (w : Word) (s : State) : exec (.driftReset a d w) s = execDriftReset a d w s := rfl
theorem exec_modelLoad (a : Access) (w : Word) (s : State) : exec (.modelLoad a w) s = execModelLoad a w s := rfl
theorem exec_modelFetchComplete (s : State) : exec .modelFetchComplete s = execModelFetchComplete s := rfl
theorem exec_modelCommit (a : Access) (w : Word) (s : State) : exec (.modelCommit a w) s = execModelCommit a w s := rfl
theorem exec_modelUnload (a : Access) (w : Word) (s : State) : exec (.modelUnload a w) s = execModelUnload a w s := rfl
theorem exec_modelAbort (a : Access) (w : Word) (s : State) : exec (.modelAbort a w) s = execModelAbort a w s := rfl
theorem exec_modelResume (a : Access) (w : Word) (s : State) : exec (.modelResume a w) s = execModelResume a w s := rfl
theorem exec_epochBudgetExpiry (s : State) : exec .epochBudgetExpiry s = execEpochBudgetExpiry s := rfl
theorem exec_childBudgetExpiry (s : State) : exec .childBudgetExpiry s = execChildBudgetExpiry s := rfl
theorem exec_alarmRecord (r : Rx) (s : State) : exec (.alarmRecord r) s = execAlarmRecord r s := rfl
theorem exec_tracePacket (t chan : Nat) (head : BitVec 64) (conts : List (BitVec 64)) (s : State) : exec (.tracePacket t chan head conts) s = execTracePacket t chan head conts s := rfl
theorem exec_traceStallTimeout (chan : Nat) (s : State) : exec (.traceStallTimeout chan) s = execTraceStallTimeout chan s := rfl
theorem exec_seqTimeEvent (q : Nat) (s : State) : exec (.seqTimeEvent q) s = execSeqTimeEvent q s := rfl
theorem exec_seqFire (a : Access) (q : Nat) (w : Word) (s : State) : exec (.seqFire a q w) s = execSeqFire a q w s := rfl
theorem exec_seqRestart (a : Access) (q : Nat) (w : Word) (s : State) : exec (.seqRestart a q w) s = execSeqRestart a q w s := rfl
theorem exec_blockAgeExpiry (stream : Nat) (s : State) : exec (.blockAgeExpiry stream) s = execBlockAgeExpiry stream s := rfl
theorem exec_blockCoded (stream : Nat) (s : State) : exec (.blockCoded stream) s = execBlockCoded stream s := rfl
theorem exec_traceFlush (a : Access) (w : Word) (s : State) : exec (.traceFlush a w) s = execTraceFlush a w s := rfl
theorem exec_traceSync (a : Access) (w : Word) (s : State) : exec (.traceSync a w) s = execTraceSync a w s := rfl
theorem exec_pannierStart (a : Access) (stream : Nat) (w : Word) (s : State) : exec (.pannierStart a stream w) s = execPannierStart a stream w s := rfl
theorem exec_pannierAppend (a : Access) (stream : Nat) (w : Word) (s : State) : exec (.pannierAppend a stream w) s = execPannierAppend a stream w s := rfl
theorem exec_pannierStop (a : Access) (stream : Nat) (w : Word) (s : State) : exec (.pannierStop a stream w) s = execPannierStop a stream w s := rfl
theorem exec_pannierPoll (stream : Nat) (s : State) : exec (.pannierPoll stream) s = execPannierPoll stream s := rfl
theorem exec_ledgerFold (s : State) : exec .ledgerFold s = execLedgerFold s := rfl
theorem exec_ledgerQueueTake (s : State) : exec .ledgerQueueTake s = execLedgerQueueTake s := rfl
theorem exec_ledgerEntryWrite (s : State) : exec .ledgerEntryWrite s = execLedgerEntryWrite s := rfl
theorem exec_ledgerReadback (result : Readback) (s : State) : exec (.ledgerReadback result) s = execLedgerReadback result s := rfl
theorem exec_ledgerFoldTimeout (seq : Nat) (s : State) : exec (.ledgerFoldTimeout seq) s = execLedgerFoldTimeout seq s := rfl
theorem exec_cmdMark (r : Report) (s : State) : exec (.cmdMark r) s = execCmdMark r s := rfl
theorem exec_latchPassDone (s : State) : exec .latchPassDone s = execLatchPassDone s := rfl
theorem exec_pcSample (r : Report) (s : State) : exec (.pcSample r) s = execPcSample r s := rfl
theorem exec_opcount (r : Report) (s : State) : exec (.opcount r) s = execOpcount r s := rfl
theorem exec_tensorTag (r : Report) (s : State) : exec (.tensorTag r) s = execTensorTag r s := rfl
theorem exec_tensorLen (r : Report) (s : State) : exec (.tensorLen r) s = execTensorLen r s := rfl
theorem exec_dumpArm (a : Access) (w : Word) (s : State) : exec (.dumpArm a w) s = execDumpArm a w s := rfl
theorem exec_digOpen (r : Report) (s : State) : exec (.digOpen r) s = execDigOpen r s := rfl
theorem exec_digTap (r : Report) (s : State) : exec (.digTap r) s = execDigTap r s := rfl
theorem exec_digClose (r : Report) (s : State) : exec (.digClose r) s = execDigClose r s := rfl
theorem exec_collTimeout (coll : Nat) (s : State) : exec (.collTimeout coll) s = execCollTimeout coll s := rfl
theorem exec_digestRecord (r : Rx) (s : State) : exec (.digestRecord r) s = execDigestRecord r s := rfl
theorem exec_digestPairExpiry (s : State) : exec .digestPairExpiry s = execDigestPairExpiry s := rfl
theorem exec_dupPlanWrite (s : State) : exec .dupPlanWrite s = execDupPlanWrite s := rfl
theorem exec_dupResult (r : Report) (s : State) : exec (.dupResult r) s = execDupResult r s := rfl
theorem exec_dupResultWindowClose (s : State) : exec .dupResultWindowClose s = execDupResultWindowClose s := rfl
theorem exec_poison (r : Report) (s : State) : exec (.poison r) s = execPoison r s := rfl
theorem exec_check (r : Report) (s : State) : exec (.check r) s = execCheck r s := rfl
theorem exec_numeric (r : Report) (s : State) : exec (.numeric r) s = execNumeric r s := rfl
theorem exec_ftResult (r : Report) (s : State) : exec (.ftResult r) s = execFtResult r s := rfl
theorem exec_ftTimeout (tile : Nat) (s : State) : exec (.ftTimeout tile) s = execFtTimeout tile s := rfl
theorem exec_ftReqTest (a : Access) (w : Word) (s : State) : exec (.ftReqTest a w) s = execFtReqTest a w s := rfl
theorem exec_ftReqClear (a : Access) (w : Word) (s : State) : exec (.ftReqClear a w) s = execFtReqClear a w s := rfl
theorem exec_ftAck (a : Access) (w : Word) (s : State) : exec (.ftAck a w) s = execFtAck a w s := rfl
theorem exec_stepGrant (a : Access) (w : Word) (s : State) : exec (.stepGrant a w) s = execStepGrant a w s := rfl
theorem exec_stepModeWrite (a : Access) (w : Word) (s : State) : exec (.stepModeWrite a w) s = execStepModeWrite a w s := rfl
theorem exec_groupSend (port t : Nat) (s : State) : exec (.groupSend port t) s = execGroupSend port t s := rfl
theorem exec_groupReceived (port t : Nat) (flits : List Bytes) (s : State) : exec (.groupReceived port t flits) s = execGroupReceived port t flits s := rfl
theorem exec_linkSilenceTimeout (port : Nat) (s : State) : exec (.linkSilenceTimeout port) s = execLinkSilenceTimeout port s := rfl
theorem exec_linkUp (port t : Nat) (s : State) : exec (.linkUp port t) s = execLinkUp port t s := rfl
theorem exec_frameAgeExpiry (port : Nat) (s : State) : exec (.frameAgeExpiry port) s = execFrameAgeExpiry port s := rfl
theorem exec_controlRequest (r : Rx) (s : State) : exec (.controlRequest r) s = execControlRequest r s := rfl
theorem exec_controlResponse (r : Rx) (s : State) : exec (.controlResponse r) s = execControlResponse r s := rfl
theorem exec_controlTimeout (txn : Nat) (s : State) : exec (.controlTimeout txn) s = execControlTimeout txn s := rfl
theorem exec_hello (r : Rx) (s : State) : exec (.hello r) s = execHello r s := rfl
theorem exec_discoveryPeriod (s : State) : exec .discoveryPeriod s = execDiscoveryPeriod s := rfl
theorem exec_discover (r : Rx) (s : State) : exec (.discover r) s = execDiscover r s := rfl
theorem exec_discReply (r : Rx) (s : State) : exec (.discReply r) s = execDiscReply r s := rfl
theorem exec_heartbeatInterval (s : State) : exec .heartbeatInterval s = execHeartbeatInterval s := rfl
theorem exec_heartbeat (r : Rx) (s : State) : exec (.heartbeat r) s = execHeartbeat r s := rfl
theorem exec_takeoverDetect (s : State) : exec .takeoverDetect s = execTakeoverDetect s := rfl
theorem exec_take (r : Rx) (s : State) : exec (.take r) s = execTake r s := rfl
theorem exec_takeover (r : Rx) (s : State) : exec (.takeover r) s = execTakeover r s := rfl
theorem exec_tkoTake (a : Access) (w : Word) (s : State) : exec (.tkoTake a w) s = execTkoTake a w s := rfl
theorem exec_tkoHandback (a : Access) (w : Word) (s : State) : exec (.tkoHandback a w) s = execTkoHandback a w s := rfl
theorem exec_bcastChunk (r : Rx) (s : State) : exec (.bcastChunk r) s = execBcastChunk r s := rfl
theorem exec_bcastNack (r : Rx) (s : State) : exec (.bcastNack r) s = execBcastNack r s := rfl
theorem exec_spareStart (a : Access) (w : Word) (s : State) : exec (.spareStart a w) s = execSpareStart a w s := rfl
theorem exec_spareAdmit (a : Access) (w : Word) (s : State) : exec (.spareAdmit a w) s = execSpareAdmit a w s := rfl
theorem exec_shadowFeed (r : Rx) (s : State) : exec (.shadowFeed r) s = execShadowFeed r s := rfl
theorem exec_shadowDig (r : Rx) (s : State) : exec (.shadowDig r) s = execShadowDig r s := rfl
theorem exec_splitViewPersist (child row : Nat) (s : State) : exec (.splitViewPersist child row) s = execSplitViewPersist child row s := rfl
theorem exec_trayWindowAccess (a : Access) (addr : Nat) (write : Bool) (w : Word) (s : State) : exec (.trayWindowAccess a addr write w) s = execTrayWindowAccess a addr write w s := rfl
theorem exec_keyx (r : Rx) (s : State) : exec (.keyx r) s = execKeyx r s := rfl
theorem exec_attestationRecord (r : Rx) (s : State) : exec (.attestationRecord r) s = execAttestationRecord r s := rfl
theorem exec_credentialRecord (r : Rx) (s : State) : exec (.credentialRecord r) s = execCredentialRecord r s := rfl
theorem exec_sessionRetry (port : Nat) (s : State) : exec (.sessionRetry port) s = execSessionRetry port s := rfl
theorem exec_rekey (port : Nat) (s : State) : exec (.rekey port) s = execRekey port s := rfl
theorem exec_keyOverlapExpiry (port : Nat) (s : State) : exec (.keyOverlapExpiry port) s = execKeyOverlapExpiry port s := rfl
theorem exec_domainKeyRecord (r : Rx) (s : State) : exec (.domainKeyRecord r) s = execDomainKeyRecord r s := rfl
theorem exec_sealRecord (r : Rx) (s : State) : exec (.sealRecord r) s = execSealRecord r s := rfl
theorem exec_sigVerifyDone (s : State) : exec .sigVerifyDone s = execSigVerifyDone s := rfl
theorem exec_verifyLagExpiry (s : State) : exec .verifyLagExpiry s = execVerifyLagExpiry s := rfl
theorem exec_floorSet (a : Access) (w : Word) (s : State) : exec (.floorSet a w) s = execFloorSet a w s := rfl
theorem exec_debugLevelRequest (a : Access) (w : Word) (s : State) : exec (.debugLevelRequest a w) s = execDebugLevelRequest a w s := rfl
theorem exec_tokenChecked (s : State) : exec .tokenChecked s = execTokenChecked s := rfl
theorem exec_debugTokenExpiry (s : State) : exec .debugTokenExpiry s = execDebugTokenExpiry s := rfl
theorem exec_attestationRequest (a : Access) (w : Word) (s : State) : exec (.attestationRequest a w) s = execAttestationRequest a w s := rfl
theorem exec_imageStage (a : Access) (w : Word) (s : State) : exec (.imageStage a w) s = execImageStage a w s := rfl
theorem exec_imageCommit (a : Access) (w : Word) (s : State) : exec (.imageCommit a w) s = execImageCommit a w s := rfl
theorem exec_imageAbort (a : Access) (w : Word) (s : State) : exec (.imageAbort a w) s = execImageAbort a w s := rfl
theorem exec_imageShadowBuild (s : State) : exec .imageShadowBuild s = execImageShadowBuild s := rfl
theorem exec_ckpt (a : Access) (w : Word) (s : State) : exec (.ckpt a w) s = execCkpt a w s := rfl
theorem exec_ckptCopyDone (s : State) : exec .ckptCopyDone s = execCkptCopyDone s := rfl
theorem exec_ckptAbort (a : Access) (w : Word) (s : State) : exec (.ckptAbort a w) s = execCkptAbort a w s := rfl
theorem exec_restore (a : Access) (w : Word) (s : State) : exec (.restore a w) s = execRestore a w s := rfl
theorem exec_restoreApplied (s : State) : exec .restoreApplied s = execRestoreApplied s := rfl
theorem exec_kioskReady (a : Access) (w : Word) (s : State) : exec (.kioskReady a w) s = execKioskReady a w s := rfl
theorem exec_kioskStartTimeout (pair : Nat) (s : State) : exec (.kioskStartTimeout pair) s = execKioskStartTimeout pair s := rfl
theorem exec_lockstepMismatch (pair : Nat) (s : State) : exec (.lockstepMismatch pair) s = execLockstepMismatch pair s := rfl
theorem exec_fiArm (a : Access) (w : Word) (s : State) : exec (.fiArm a w) s = execFiArm a w s := rfl
theorem exec_fiDisarm (a : Access) (w : Word) (s : State) : exec (.fiDisarm a w) s = execFiDisarm a w s := rfl
theorem exec_fiEntryDue (s : State) : exec .fiEntryDue s = execFiEntryDue s := rfl
theorem exec_fiDurationEnd (s : State) : exec .fiDurationEnd s = execFiDurationEnd s := rfl
theorem exec_h2kPost (a : Access) (w : Word) (s : State) : exec (.h2kPost a w) s = execH2kPost a w s := rfl
theorem exec_h2kTaken (a : Access) (w : Word) (s : State) : exec (.h2kTaken a w) s = execH2kTaken a w s := rfl
theorem exec_k2hPost (a : Access) (w : Word) (s : State) : exec (.k2hPost a w) s = execK2hPost a w s := rfl
theorem exec_timNowCapture (a : Access) (s : State) : exec (.timNowCapture a) s = execTimNowCapture a s := rfl
theorem exec_pairLoCapture (a : Access) (addr : Nat) (s : State) : exec (.pairLoCapture a addr) s = execPairLoCapture a addr s := rfl
theorem exec_counterWindowCapture (a : Access) (ctr : Nat) (s : State) : exec (.counterWindowCapture a ctr) s = execCounterWindowCapture a ctr s := rfl
theorem exec_sealedSumCapture (a : Access) (metric : Nat) (s : State) : exec (.sealedSumCapture a metric) s = execSealedSumCapture a metric s := rfl
theorem exec_classLineCapture (a : Access) (cls : Nat) (s : State) : exec (.classLineCapture a cls) s = execClassLineCapture a cls s := rfl
theorem exec_ledgerEntryCapture (a : Access) (index : Nat) (s : State) : exec (.ledgerEntryCapture a index) s = execLedgerEntryCapture a index s := rfl
theorem exec_mirrorCapture (a : Access) (s : State) : exec (.mirrorCapture a) s = execMirrorCapture a s := rfl
theorem exec_optableCapture (a : Access) (cell : Nat) (s : State) : exec (.optableCapture a cell) s = execOptableCapture a cell s := rfl
theorem exec_registerWrite (a : Access) (addr : Nat) (w : Word) (s : State) : exec (.registerWrite a addr w) s = execRegisterWrite a addr w s := rfl
theorem exec_blkClrDeny (a : Access) (s : State) : exec (.blkClrDeny a) s = execBlkClrDeny a s := rfl
theorem exec_blkClrLaneWait (a : Access) (s : State) : exec (.blkClrLaneWait a) s = execBlkClrLaneWait a s := rfl
theorem exec_blkClrState (a : Access) (s : State) : exec (.blkClrState a) s = execBlkClrState a s := rfl
theorem exec_blkClrTileFault (a : Access) (s : State) : exec (.blkClrTileFault a) s = execBlkClrTileFault a s := rfl
theorem exec_clrRegerr (a : Access) (s : State) : exec (.clrRegerr a) s = execClrRegerr a s := rfl
theorem exec_clrMinRate (a : Access) (s : State) : exec (.clrMinRate a) s = execClrMinRate a s := rfl
theorem exec_timClrJump (a : Access) (s : State) : exec (.timClrJump a) s = execTimClrJump a s := rfl
theorem exec_timClrSync (a : Access) (s : State) : exec (.timClrSync a) s = execTimClrSync a s := rfl
theorem exec_talClrExt (a : Access) (s : State) : exec (.talClrExt a) s = execTalClrExt a s := rfl
theorem exec_talClrGen (a : Access) (s : State) : exec (.talClrGen a) s = execTalClrGen a s := rfl
theorem exec_talClrStn (a : Access) (s : State) : exec (.talClrStn a) s = execTalClrStn a s := rfl
theorem exec_talClrRa (a : Access) (s : State) : exec (.talClrRa a) s = execTalClrRa a s := rfl
theorem exec_talClrSample (a : Access) (s : State) : exec (.talClrSample a) s = execTalClrSample a s := rfl
theorem exec_sclClrConv (a : Access) (s : State) : exec (.sclClrConv a) s = execSclClrConv a s := rfl
theorem exec_sclClrHist (a : Access) (s : State) : exec (.sclClrHist a) s = execSclClrHist a s := rfl
theorem exec_sclClrLate (a : Access) (s : State) : exec (.sclClrLate a) s = execSclClrLate a s := rfl
theorem exec_redClrMerge (a : Access) (s : State) : exec (.redClrMerge a) s = execRedClrMerge a s := rfl
theorem exec_redClrLate (a : Access) (s : State) : exec (.redClrLate a) s = execRedClrLate a s := rfl
theorem exec_redClrIncomplete (a : Access) (s : State) : exec (.redClrIncomplete a) s = execRedClrIncomplete a s := rfl
theorem exec_redClrRetain (a : Access) (s : State) : exec (.redClrRetain a) s = execRedClrRetain a s := rfl
theorem exec_redClrStrag (a : Access) (s : State) : exec (.redClrStrag a) s = execRedClrStrag a s := rfl
theorem exec_infClrRow (a : Access) (s : State) : exec (.infClrRow a) s = execInfClrRow a s := rfl
theorem exec_infClrMiss (a : Access) (s : State) : exec (.infClrMiss a) s = execInfClrMiss a s := rfl
theorem exec_infClrNum (a : Access) (s : State) : exec (.infClrNum a) s = execInfClrNum a s := rfl
theorem exec_infClrFault (a : Access) (s : State) : exec (.infClrFault a) s = execInfClrFault a s := rfl
theorem exec_infClrWait (a : Access) (s : State) : exec (.infClrWait a) s = execInfClrWait a s := rfl
theorem exec_infClrDrift (a : Access) (s : State) : exec (.infClrDrift a) s = execInfClrDrift a s := rfl
theorem exec_mdlClrBudget (a : Access) (s : State) : exec (.mdlClrBudget a) s = execMdlClrBudget a s := rfl
theorem exec_mdlClrCrier (a : Access) (s : State) : exec (.mdlClrCrier a) s = execMdlClrCrier a s := rfl
theorem exec_mdlClrSwap (a : Access) (s : State) : exec (.mdlClrSwap a) s = execMdlClrSwap a s := rfl
theorem exec_trcClrChan (a : Access) (s : State) : exec (.trcClrChan a) s = execTrcClrChan a s := rfl
theorem exec_trcClrPan (a : Access) (s : State) : exec (.trcClrPan a) s = execTrcClrPan a s := rfl
theorem exec_trcClrSeq (a : Access) (s : State) : exec (.trcClrSeq a) s = execTrcClrSeq a s := rfl
theorem exec_ledClrFold (a : Access) (s : State) : exec (.ledClrFold a) s = execLedClrFold a s := rfl
theorem exec_ledClrLost (a : Access) (s : State) : exec (.ledClrLost a) s = execLedClrLost a s := rfl
theorem exec_ledClrCorr (a : Access) (s : State) : exec (.ledClrCorr a) s = execLedClrCorr a s := rfl
theorem exec_svcClrStat (a : Access) (s : State) : exec (.svcClrStat a) s = execSvcClrStat a s := rfl
theorem exec_svcClrDup (a : Access) (s : State) : exec (.svcClrDup a) s = execSvcClrDup a s := rfl
theorem exec_svcClrDig (a : Access) (s : State) : exec (.svcClrDig a) s = execSvcClrDig a s := rfl
theorem exec_svcClrChk (a : Access) (s : State) : exec (.svcClrChk a) s = execSvcClrChk a s := rfl
theorem exec_svcClrPcs (a : Access) (s : State) : exec (.svcClrPcs a) s = execSvcClrPcs a s := rfl
theorem exec_lnkClrSvc (a : Access) (s : State) : exec (.lnkClrSvc a) s = execLnkClrSvc a s := rfl
theorem exec_lnkClrPort (a : Access) (s : State) : exec (.lnkClrPort a) s = execLnkClrPort a s := rfl
theorem exec_lnkClrMisc (a : Access) (s : State) : exec (.lnkClrMisc a) s = execLnkClrMisc a s := rfl
theorem exec_bruClrKat (a : Access) (s : State) : exec (.bruClrKat a) s = execBruClrKat a s := rfl
theorem exec_bruClrWave (a : Access) (s : State) : exec (.bruClrWave a) s = execBruClrWave a s := rfl
theorem exec_bruClrInband (a : Access) (s : State) : exec (.bruClrInband a) s = execBruClrInband a s := rfl
theorem exec_bruClrAnswer (a : Access) (s : State) : exec (.bruClrAnswer a) s = execBruClrAnswer a s := rfl
theorem exec_secClrChain (a : Access) (s : State) : exec (.secClrChain a) s = execSecClrChain a s := rfl
theorem exec_secClrLink (a : Access) (s : State) : exec (.secClrLink a) s = execSecClrLink a s := rfl
theorem exec_secClrAuth (a : Access) (s : State) : exec (.secClrAuth a) s = execSecClrAuth a s := rfl
theorem exec_secClrKey (a : Access) (s : State) : exec (.secClrKey a) s = execSecClrKey a s := rfl
theorem exec_inbandResetRelease (s : State) : exec .inbandResetRelease s = execInbandResetRelease s := rfl
theorem exec_attestationFormed (s : State) : exec .attestationFormed s = execAttestationFormed s := rfl
theorem exec_registerRead (a : Access) (addr : Nat) (s : State) : exec (.registerRead a addr) s = execRegisterRead a addr s := rfl
theorem exec_tckEdge (rising tms tdi : Bool) (s : State) : exec (.tckEdge rising tms tdi) s = execTckEdge rising tms tdi s := rfl

end Sys2Proof.Machine
end

