-- ==== Sys2Proof/Laws/Ops.lean ====
section
/-! SUPPORT. What each shared operation does, said once: settling, reaching a time, a guarded access, an expert mark. -/

set_option Elab.async false

namespace Sys2Proof.Machine

/-! ### Reaching a time leaves every register as it is -/

@[simp] theorem reach_fld (s : State) (t : Nat) (f : Fld) : (s.reach t).fld f = s.fld f := State.fld_congr (reach_regs s t) f

@[simp] theorem reach_word (s : State) (t a : Nat) : (s.reach t).word a = s.word a := State.word_congr (reach_regs s t) a

@[simp] theorem reach_on (s : State) (t : Nat) (f : Fld) : (s.reach t).on f = s.on f := by simp [State.on]

@[simp] theorem reach_power (s : State) (t : Nat) : (s.reach t).power = s.power := by simp [State.power]

@[simp] theorem reach_svc (s : State) (t : Nat) : (s.reach t).svc = s.svc := by simp [State.svc]

@[simp] theorem reach_serves (s : State) (t : Nat) : (s.reach t).serves = s.serves := by simp [State.serves]

/-- Reaching a time moves the time counter alone. -/
theorem reach_tim (s : State) (t : Nat) : (s.reach t).tim = { s.tim with now := (s.reach t).tim.now } := by
  unfold State.reach
  split
  · rfl
  · split <;> rfl

@[simp] theorem reach_epoch (s : State) (t : Nat) : (s.reach t).tim.epoch = s.tim.epoch := by rw [reach_tim]

/-! ### Settling -/

/-- With the block powered, settling changes two words at most: BLK_ALERT and TIM_STATUS. -/
theorem settle_word (s : State) (h : s.ports.powered = true) (a : Nat) (h1 : a ≠ 0x44) (h2 : a ≠ 0x1000C) : s.settle.word a = s.word a := by
  simp only [State.settle, h]
  dsimp
  split <;> split <;>
    simp only [State.word, State.set, regRead_regWrite_ne _ _ h1, regRead_regWrite_ne _ _ h2]

theorem settle_fld (s : State) (h : s.ports.powered = true) (f : Fld) (h1 : f.addr ≠ 0x44) (h2 : f.addr ≠ 0x1000C) : s.settle.fld f = s.fld f := by
  have := settle_word s h f.addr h1 h2
  simp only [State.word] at this
  simp [State.fld, this]

/-- Settling leaves the host side but for ALERT_N and the test port. -/
theorem settle_ports (s : State) (h : s.ports.powered = true) :
    s.settle.ports.powered = true ∧ s.settle.ports.inReset = s.ports.inReset ∧ s.settle.ports.answer = s.ports.answer
      ∧ s.settle.ports.captures = s.ports.captures ∧ s.settle.ports.jobs = s.ports.jobs ∧ s.settle.ports.hwrites = s.ports.hwrites
      ∧ s.settle.ports.gateHeld = s.ports.gateHeld ∧ s.settle.ports.gateAcks = s.ports.gateAcks := by
  simp only [State.settle, h]
  dsimp
  split <;> split <;> split <;> simp_all [PortSt.tapReset]

/-- Settling a powered block changes only register words and the host side. -/
theorem settle_frame (s : State) (h : s.ports.powered = true) : s.settle = { s with regs := s.settle.regs, ports := s.settle.ports } := by
  simp only [State.settle, h, Bool.not_true, Bool.false_eq_true, if_false]
  split <;> split <;> rfl

/-! ### Guarded accesses -/

/-- A word with no image-set field outside the basic registers is never marked. -/
theorem markExpert_id (s : State) (a : Nat) (h : expertMask a = 0) : s.markExpert a = s := by simp [State.markExpert, h]

/-- A privileged access is served: what that says. -/
theorem servesPriv_iff (s : State) (a : Access) :
    s.servesPriv a = true ↔ s.ports.powered = true ∧ s.ports.inReset = false ∧ privileged a = true ∧ s.power ≠ 2 := by
  simp [State.servesPriv, and_assoc]

/-- A mapped, writable address outside the windows and the Kiosk's own words. -/
def plainAddr (addr : Nat) : Bool :=
  addr % 4 == 0 && inRanges mapRegs addr && !inRanges mapWindows addr && !inRanges roWindows addr && !trayAddr addr && !kioskWrites addr

theorem switching_regs (s : State) (addr : Nat) (h : addr < 0x200000) : s.switching addr = false := by
  simp [State.switching]
  omega

/-- A privileged write of a register is allowed. -/
theorem judge_write (s : State) (a : Access) (addr : Nat) (hs : s.servesPriv a = true) (ha : plainAddr addr = true) (h2 : addr < 0x200000) :
    s.judge a addr true = .ok := by
  obtain ⟨-, -, hp, hw⟩ := (servesPriv_iff s a).1 hs
  simp only [plainAddr, Bool.and_eq_true, Bool.not_eq_true', beq_iff_eq] at ha
  obtain ⟨⟨⟨⟨⟨h4, hm⟩, hwin⟩, hro⟩, ht⟩, hk⟩ := ha
  simp [State.judge, State.mapped, h4, hm, hro, ht, hk, hp, hw, switching_regs s addr h2]

/-- The effect of a privileged write of a register. -/
theorem guardWrite_ok (s : State) (a : Access) (addr : Nat) (f : State → State) (hs : s.servesPriv a = true) (ha : plainAddr addr = true)
    (h2 : addr < 0x200000) : s.guardWrite a addr f = ((f (s.reach a.t)).markExpert addr).answer a .ok 0 := by
  obtain ⟨h1, h3, hp, hw⟩ := (servesPriv_iff s a).1 hs
  have hs' : (s.reach a.t).servesPriv a = true := by rw [servesPriv_iff]; simp [h1, h3, hp, hw]
  have hj := judge_write _ a addr hs' ha h2
  simp [State.guardWrite, State.serves, h1, h3, hj]

/-! ### Reads, and accesses allowed whoever makes them -/

@[simp] theorem reach_grant (s : State) (t n : Nat) : (s.reach t).grant n = s.grant n := by simp [State.grant]

@[simp] theorem reach_ownerAt (s : State) (t a : Nat) : (s.reach t).ownerAt a = s.ownerAt a := by simp [State.ownerAt]

@[simp] theorem reach_judgeUserRead (s : State) (t : Nat) (a : Access) (addr : Nat) : (s.reach t).judgeUserRead a addr = s.judgeUserRead a addr := by
  unfold State.judgeUserRead
  simp

/-- Reaching the arrival of an access does not change how it is judged. -/
@[simp] theorem reach_judge (s : State) (t : Nat) (a : Access) (addr : Nat) (w : Bool) : (s.reach t).judge a addr w = s.judge a addr w := by
  have hm : (s.reach t).mapped addr = s.mapped addr := by simp only [State.mapped, State.hub, reach_fld]
  have hsw : (s.reach t).switching addr = s.switching addr := by simp only [State.switching, reach_img]
  simp only [State.judge, hm, hsw, reach_power, reach_judgeUserRead, State.debug, reach_fld]
  rfl

/-- The effect of an allowed write. -/
theorem guardWrite_allowed (s : State) (a : Access) (addr : Nat) (f : State → State) (hs : s.serves = true) (hj : s.judge a addr true = .ok) :
    s.guardWrite a addr f = ((f (s.reach a.t)).markExpert addr).answer a .ok 0 := by
  simp [State.guardWrite, hs, hj]

/-- The effect of an allowed read. -/
theorem guardRead_allowed (s : State) (a : Access) (addr : Nat) (f : State → Word × State) (hs : s.serves = true) (hj : s.judge a addr false = .ok) :
    s.guardRead a addr f = (f (s.reach a.t)).2.answer a .ok (f (s.reach a.t)).1 := by
  simp [State.guardRead, hs, hj]

end Sys2Proof.Machine
end

