-- ==== Sys2Proof/Laws/Clears.lean ====
section
/-! SUPPORT. What setting words and fields to 0 does: they read 0, a 0 stays 0, everything else keeps its value. -/

namespace Sys2Proof.Machine

set_option Elab.async false

/-- Words and fields set to 0. -/
def State.zeroed (s : State) (ws : List Nat) (fs : List Fld) : State := fs.foldl (fun s f => s.set f 0) (s.clearWords ws)

/-- Writing 0 to a field only takes bits away. -/
theorem put_zero_get (f g : Fld) (w : Word) (h : g.get w = 0) : g.get (f.put w 0) = 0 := by
  apply Nat.eq_of_testBit_eq
  intro i
  have hi := congrArg (fun n => Nat.testBit n i) h
  simp only [Fld.get_testBit, Nat.zero_testBit, Bool.and_eq_false_iff, decide_eq_false_iff_not] at hi ⊢
  rcases hi with hi | hi
  · exact Or.inl hi
  · right
    by_cases h32 : g.lo + i < 32
    · rw [Fld.put_getLsbD _ _ _ _ h32]
      simp [hi]
    · exact BitVec.getLsbD_of_ge _ _ (by omega)

theorem put_zero_of_zero (f : Fld) : f.put 0 0 = 0 := by
  ext i hi
  simp only [← BitVec.getLsbD_eq_getElem]
  rw [Fld.put_getLsbD _ _ _ _ hi]
  simp

/-- A field that reads 0 still reads 0 once any field is set to 0. -/
theorem set_zero_fld (s : State) (f g : Fld) (h : s.fld g = 0) : (s.set f 0).fld g = 0 := by
  simp only [State.fld, State.set] at h ⊢
  rw [regRead_regWrite]
  split
  · rename_i he
    rw [he] at h
    exact put_zero_get _ _ _ h
  · exact h

theorem set_zero_word (s : State) (f : Fld) (a : Nat) (h : s.word a = 0) : (s.set f 0).word a = 0 := by
  simp only [State.word, State.set] at h ⊢
  rw [regRead_regWrite]
  split
  · rename_i he
    rw [← he, h, put_zero_of_zero]
  · exact h

theorem clearWords_word (s : State) (ws : List Nat) (a : Nat) : (s.clearWords ws).word a = if a ∈ ws then 0 else s.word a := by
  induction ws generalizing s with
  | nil => simp [State.clearWords]
  | cons w ws ih =>
    have e : s.clearWords (w :: ws) = (s.setWord w 0).clearWords ws := rfl
    rw [e, ih]
    by_cases h1 : a ∈ ws
    · simp [h1]
    · by_cases h2 : a = w
      · subst h2; simp [h1, State.word_setWord_same]
      · simpa [h1, h2] using State.word_setWord_ne s 0 h2

/-- Every word of the list, and every field of the list, reads 0. -/
theorem zeroed_word (s : State) (ws : List Nat) (fs : List Fld) (a : Nat) (h : a ∈ ws) : (s.zeroed ws fs).word a = 0 := by
  have h0 : (s.clearWords ws).word a = 0 := by simp [clearWords_word, h]
  unfold State.zeroed
  generalize s.clearWords ws = u at h0
  induction fs generalizing u with
  | nil => exact h0
  | cons f fs ih => exact ih _ (set_zero_word u f a h0)

theorem zeroed_fld (s : State) (ws : List Nat) (fs : List Fld) (f : Fld) (h : f ∈ fs) (hf : ∀ f ∈ fs, f.hi < 32) : (s.zeroed ws fs).fld f = 0 := by
  unfold State.zeroed
  generalize s.clearWords ws = u
  have keep : ∀ (l : List Fld) (u : State), u.fld f = 0 → (l.foldl (fun s f => s.set f 0) u).fld f = 0 := by
    intro l
    induction l with
    | nil => intro u h; exact h
    | cons g l ih => intro u h; exact ih _ (set_zero_fld u g f h)
  induction fs generalizing u with
  | nil => cases h
  | cons g fs ih =>
    rcases List.mem_cons.1 h with he | he
    · subst he
      exact keep fs (u.set f 0) (by rw [State.fld_set_same _ _ _ (hf f (by simp))]; simp)
    · exact ih he (fun x hx => hf x (List.mem_cons_of_mem _ hx)) _

/-- A field in no word of the list and apart from every field of the list keeps its value. -/
theorem zeroed_other (s : State) (ws : List Nat) (fs : List Fld) (g : Fld) (hw : g.addr ∉ ws)
    (hg : ∀ f ∈ fs, g.addr ≠ f.addr ∨ f.hi < g.lo ∨ g.hi < f.lo) : (s.zeroed ws fs).fld g = s.fld g := by
  have h0 : (s.clearWords ws).fld g = s.fld g := by
    have := clearWords_word s ws g.addr
    simp only [hw, if_false, State.word] at this
    simp [State.fld, this]
  rw [← h0]
  unfold State.zeroed
  generalize s.clearWords ws = u
  induction fs generalizing u with
  | nil => rfl
  | cons f fs ih =>
    rw [List.foldl_cons, ih (fun x hx => hg x (List.mem_cons_of_mem _ hx))]
    exact State.fld_set_other _ _ _ _ (hg f (by simp))

/-- Only the register file changes. -/
theorem zeroed_frame (s : State) (ws : List Nat) (fs : List Fld) : s.zeroed ws fs = { s with regs := (s.zeroed ws fs).regs } := by
  have h0 : s.clearWords ws = { s with regs := (s.clearWords ws).regs } := by
    induction ws generalizing s with
    | nil => rfl
    | cons w ws ih =>
      have e : s.clearWords (w :: ws) = (s.setWord w 0).clearWords ws := rfl
      rw [e, ih]; rfl
  unfold State.zeroed
  rw [h0]
  generalize (s.clearWords ws).regs = r
  induction fs generalizing r with
  | nil => rfl
  | cons f fs ih => exact ih _

/-- A clearing row whose effect at its register sets words and fields to 0, away from the words that settling shows levels in, is as
`Clears` says. -/
theorem clears_of {i : Access → Instr} {ws fs} {addr} {clr : State → State}
    (h0 : ∀ a s, exec (i a) s = done (s.guardWrite a addr clr)) (h1 : ∀ s, clr s = s.zeroed ws fs) (hp : plainAddr addr = true) (hl : addr < 0x200000)
    (hm : expertMask addr = 0) (hw : ws.all (fun w => w != 0x44 && w != 0x1000C) = true)
    (hf : fs.all (fun f => decide (f.hi < 32) && f.addr != 0x44 && f.addr != 0x1000C) = true) : Clears i ws fs := by
  intro s a hs
  simp at hw hf
  have hpow : s.ports.powered = true := ((servesPriv_iff s a).1 hs).1
  obtain ⟨Z, hZ⟩ : ∃ Z, Z = (s.reach a.t).zeroed ws fs := ⟨_, rfl⟩
  have hfr := zeroed_frame (s.reach a.t) ws fs
  rw [← hZ] at hfr
  have hpz : (Z.answer a .ok 0).ports.powered = true := by rw [hfr]; simp [State.answer, hpow]
  refine ⟨(Z.answer a .ok 0).settle, ?_, ?_, ?_, ?_, ?_, ?_⟩
  · rw [h0, guardWrite_ok _ _ _ _ hs hp hl, markExpert_id _ _ hm, h1, ← hZ]; rfl
  · intro w h
    rw [settle_word _ hpz _ (hw w h).1 (hw w h).2]
    have := zeroed_word (s.reach a.t) ws fs w h
    rw [← hZ] at this; exact this
  · intro f h
    rw [settle_fld _ hpz _ (hf f h).1.2 (hf f h).2]
    have := zeroed_fld (s.reach a.t) ws fs f h (fun f h => (hf f h).1.1)
    rw [← hZ] at this; exact this
  · intro g g1 g2 g3 g4
    rw [settle_fld _ hpz _ g2 g3]
    have := zeroed_other (s.reach a.t) ws fs g g1 g4
    rw [← hZ] at this
    rw [reach_fld] at this
    exact this
  · rw [(settle_ports _ hpz).2.2.1]; rfl
  · have hr : s.reach a.t = { s with tim := (s.reach a.t).tim } := by unfold State.reach; split; rfl; split <;> rfl
    have e := settle_frame _ hpz
    generalize (Z.answer a .ok 0).settle = S at e ⊢
    have et := congrArg State.tim e
    rw [et]
    exact e.trans (by rw [hfr, hr]; rfl)

end Sys2Proof.Machine
end

