-- ==== Sys2Proof/Laws/Fields.lean ====
section
/-! SUPPORT. A field read through each shared operation: those that write no register, and those that write another. -/

set_option Elab.async false

namespace Sys2Proof.Machine

/-! ### Operations that write no register -/

@[simp] theorem setPorts_fld (s : State) (x : PortSt) (f : Fld) : (s.setPorts x).fld f = s.fld f := State.fld_congr rfl f
@[simp] theorem setLed_fld (s : State) (x : LedSt) (f : Fld) : (s.setLed x).fld f = s.fld f := State.fld_congr rfl f
@[simp] theorem setLnk_fld (s : State) (x : LnkSt) (f : Fld) : (s.setLnk x).fld f = s.fld f := State.fld_congr rfl f
@[simp] theorem setSec_fld (s : State) (x : SecSt) (f : Fld) : (s.setSec x).fld f = s.fld f := State.fld_congr rfl f
@[simp] theorem setBru_fld (s : State) (x : BruSt) (f : Fld) : (s.setBru x).fld f = s.fld f := State.fld_congr rfl f
@[simp] theorem setTim_fld (s : State) (x : TimSt) (f : Fld) : (s.setTim x).fld f = s.fld f := State.fld_congr rfl f
@[simp] theorem setImg_fld (s : State) (x : ImgSt) (f : Fld) : (s.setImg x).fld f = s.fld f := State.fld_congr rfl f
@[simp] theorem setCrier_fld (s : State) (x : CrierSt) (f : Fld) : (s.setCrier x).fld f = s.fld f := State.fld_congr rfl f
@[simp] theorem setTal_fld (s : State) (x : TalSt) (f : Fld) : (s.setTal x).fld f = s.fld f := State.fld_congr rfl f
@[simp] theorem setScl_fld (s : State) (x : SclSt) (f : Fld) : (s.setScl x).fld f = s.fld f := State.fld_congr rfl f
@[simp] theorem setRed_fld (s : State) (x : RedSt) (f : Fld) : (s.setRed x).fld f = s.fld f := State.fld_congr rfl f
@[simp] theorem setTrc_fld (s : State) (x : TrcSt) (f : Fld) : (s.setTrc x).fld f = s.fld f := State.fld_congr rfl f
@[simp] theorem setInf_fld (s : State) (x : InfSt) (f : Fld) : (s.setInf x).fld f = s.fld f := State.fld_congr rfl f
@[simp] theorem setSrv_fld (s : State) (x : SvcSt) (f : Fld) : (s.setSrv x).fld f = s.fld f := State.fld_congr rfl f
@[simp] theorem setCon_fld (s : State) (x : ConSt) (f : Fld) : (s.setCon x).fld f = s.fld f := State.fld_congr rfl f
@[simp] theorem setTko_fld (s : State) (x : Option TkoSt) (f : Fld) : (s.setTko x).fld f = s.fld f := State.fld_congr rfl f
@[simp] theorem answer_fld (s : State) (a : Access) (r : Resp) (d : Word) (f : Fld) : (s.answer a r d).fld f = s.fld f := State.fld_congr rfl f
@[simp] theorem capture_fld (s : State) (a : Access) (b : Nat) (ws : List Word) (f : Fld) : (s.capture a b ws).fld f = s.fld f := State.fld_congr rfl f
@[simp] theorem modLink_fld (s : State) (p : Nat) (g : LinkSt → LinkSt) (f : Fld) : (s.modLink p g).fld f = s.fld f := State.fld_congr rfl f
@[simp] theorem consume_fld (s : State) (r : Rx) (f : Fld) : (s.consume r).fld f = s.fld f := State.fld_congr rfl f
@[simp] theorem tail_fld (s : State) (l : List Instr) (f : Fld) : (s.tail l).fld f = s.fld f := State.fld_congr rfl f
@[simp] theorem send_fld (s : State) (p c d e : Nat) (b : Bytes) (f : Fld) : (s.send p c d e b).fld f = s.fld f := State.fld_congr (by simp) f
@[simp] theorem sendPeer_fld (s : State) (p c : Nat) (b : Bytes) (f : Fld) : (s.sendPeer p c b).fld f = s.fld f := State.fld_congr (by simp) f
@[simp] theorem sendEach_fld (s : State) (ps : List Nat) (c : Nat) (b : Bytes) (f : Fld) : (s.sendEach ps c b).fld f = s.fld f := State.fld_congr (by simp) f
@[simp] theorem sendUp_fld (s : State) (c : Nat) (b : Bytes) (f : Fld) : (s.sendUp c b).fld f = s.fld f := State.fld_congr (by simp) f
@[simp] theorem mgmtEach_fld (s : State) (ps : List Nat) (n : Nat) (l : List (Nat × Bytes)) (f : Fld) : (s.mgmtEach ps n l).fld f = s.fld f := State.fld_congr (by simp) f
@[simp] theorem linkMgmt_fld (s : State) (n : Nat) (l : List (Nat × Bytes)) (f : Fld) : ((s.linkMgmt n l).2).fld f = s.fld f := State.fld_congr rfl f
@[simp] theorem reachNs_fld (s : State) (t : Nat) (f : Fld) : (s.reachNs t).fld f = s.fld f := reach_fld s _ f

/-! ### Operations that write a field of another word, or other bits of the word -/

theorem fld_set (s : State) (f g : Fld) (v : Nat) (h : g.addr ≠ f.addr ∨ f.hi < g.lo ∨ g.hi < f.lo) : (s.set f v).fld g = s.fld g := State.fld_set_other s f g v h
theorem fld_add (s : State) (f g : Fld) (n : Nat) (h : g.addr ≠ f.addr ∨ f.hi < g.lo ∨ g.hi < f.lo) : (s.add f n).fld g = s.fld g := State.fld_set_other s f g _ h
theorem fld_inc (s : State) (f g : Fld) (h : g.addr ≠ f.addr ∨ f.hi < g.lo ∨ g.hi < f.lo) : (s.inc f).fld g = s.fld g := State.fld_set_other s f g _ h
theorem fld_wrapInc (s : State) (f g : Fld) (h : g.addr ≠ f.addr ∨ f.hi < g.lo ∨ g.hi < f.lo) : (s.wrapInc f).fld g = s.fld g := State.fld_set_other s f g _ h
theorem fld_raiseTo (s : State) (f g : Fld) (v : Nat) (h : g.addr ≠ f.addr ∨ f.hi < g.lo ∨ g.hi < f.lo) : (s.raiseTo f v).fld g = s.fld g := State.fld_set_other s f g _ h
theorem fld_plainWrite (s : State) (a : Nat) (w : Word) (g : Fld) (h : g.addr ≠ a) : (s.plainWrite a w).fld g = s.fld g := State.fld_setWord_ne _ _ _ _ h
theorem fld_alert (s : State) (k : Nat) (g : Fld) (h : g.addr ≠ 0x44) : (s.alert k).fld g = s.fld g := State.fld_of_word (State.word_set_ne _ _ _ _ h)
theorem fld_alertIf (s : State) (f : Fld) (k : Nat) (g : Fld) (h : g.addr ≠ 0x44) : (s.alertIf f k).fld g = s.fld g := State.fld_of_word (word_alertIf s f k _ h)
theorem fld_markExpert (s : State) (a : Nat) (g : Fld) (h : g.addr ≠ 0x78) : (s.markExpert a).fld g = s.fld g := State.fld_of_word (word_markExpert s a _ h)
theorem fld_unstall (s : State) (k c : Nat) (g : Fld) (h : g.addr ≠ 0x38) : (s.unstall k c).fld g = s.fld g := State.fld_of_word (word_unstall s k c _ h)
theorem fld_log (s : State) (c d u v : Nat) (g : Fld) (h : g.addr ≠ 0x70014 ∧ g.addr ≠ 0x44) : (s.log c d u v).fld g = s.fld g := State.fld_of_word (word_log s c d u v _ h.1 h.2)
theorem fld_raiseEvent (s : State) (e : LEvt) (g : Fld) (h : g.addr ≠ 0x70014 ∧ g.addr ≠ 0x44) : (s.raiseEvent e).fld g = s.fld g := State.fld_of_word (word_raiseEvent s e _ h.1 h.2)
theorem fld_bruEvent (s : State) (c d u v : Nat) (g : Fld) (h : g.addr ≠ 0x70014 ∧ g.addr ≠ 0x44) : (s.bruEvent c d u v).fld g = s.fld g := State.fld_of_word (word_bruEvent s c d u v _ h.1 h.2)
theorem fld_secFail (s : State) (u d : Nat) (g : Fld) (h : g.addr ≠ 0x70014 ∧ g.addr ≠ 0x44) : (s.secFail u d).fld g = s.fld g := State.fld_of_word ((word_alertIf _ _ _ _ h.2).trans (word_log _ _ _ _ _ _ h.1 h.2))
theorem fld_secChange (s : State) (u v d : Nat) (g : Fld) (h : g.addr ≠ 0x70014 ∧ g.addr ≠ 0x44) : (s.secChange u v d).fld g = s.fld g := State.fld_of_word (word_log _ _ _ _ _ _ h.1 h.2)
theorem fld_conEvent (s : State) (d u v : Nat) (g : Fld) (h : g.addr ≠ 0x70014 ∧ g.addr ≠ 0x44) : (s.conEvent d u v).fld g = s.fld g := State.fld_of_word (word_log _ _ _ _ _ _ h.1 h.2)

end Sys2Proof.Machine
end

