-- ==== Sys2Proof/Laws/Reset.lean ====
section
/-! SUPPORT. What a reset leaves of each part (R50, R381, R382), with no checkpoint under way and no Control request waiting. -/

set_option Elab.async false

namespace Sys2Proof.Machine

theorem assertReset_parts (s : State) (c : Nat) (h3 : s.con.ckptAt = none) (h4 : s.con.copy = none) (h5 : s.lnk.ctl = []) :
    (s.assertReset c).ports = { initPorts true s.ports.bootSel with
        resetLow := s.ports.resetLow, bootSampled := s.ports.bootSampled, resetAt := s.stamp, alertN := s.ports.alertN,
        tdo := s.ports.tdo, tap := s.ports.tap, tapIr := s.ports.tapIr, tapDr := s.ports.tapDr, tapUpd := s.ports.tapUpd }
      ∧ (s.assertReset c).img = initImg ∧ (s.assertReset c).crier = initCrier ∧ (s.assertReset c).scl = initScl
      ∧ (s.assertReset c).red = initRed ∧ (s.assertReset c).tko = none ∧ (s.assertReset c).trc = initTrc s.build
      ∧ (s.assertReset c).inf = initInf ∧ (s.assertReset c).srv = initSrv ∧ (s.assertReset c).led = s.led
      ∧ (s.assertReset c).bru = s.bru.afterReset s.ident ∧ (s.assertReset c).sec = s.sec.afterReset
      ∧ (s.assertReset c).tim = { s.tim with closed := none, measured := [], pulses := List.replicate 8 idlePulse }
      ∧ (s.assertReset c).build = s.build ∧ (s.assertReset c).pending = s.pending ∧ (s.assertReset c).free = s.free := by
  unfold State.assertReset
  simp only [h3, h4, Option.isSome_none, Bool.or_self, Bool.false_eq_true, if_false]
  simp only [State.flushRequests, set_lnk, inc_lnk, add_lnk, LnkSt.afterReset, h5, List.foldl_nil, setLnk_ports, set_ports, inc_ports, add_ports,
    setLnk_img, set_img, inc_img, add_img, setLnk_crier, set_crier, inc_crier, add_crier, setLnk_scl, set_scl, inc_scl, add_scl, setLnk_red,
    set_red, inc_red, add_red, setLnk_tko, set_tko, inc_tko, add_tko, setLnk_trc, set_trc, inc_trc, add_trc, setLnk_inf, set_inf, inc_inf,
    add_inf, setLnk_srv, set_srv, inc_srv, add_srv, setLnk_led, set_led, inc_led, add_led, setLnk_bru, set_bru, inc_bru, add_bru, setLnk_sec,
    set_sec, inc_sec, add_sec, setLnk_tim, set_tim, inc_tim, add_tim, setLnk_build, set_build, inc_build, add_build, setLnk_pending,
    set_pending, inc_pending, add_pending, setLnk_free, set_free, inc_free, add_free, and_self]

end Sys2Proof.Machine
end

