-- ==== Sys2Proof/WellFormed.lean ====
section
/-! DEFINITION. Well-formed commands: operands within what the ports of spec/01 and spec/02 can carry and what the records of spec/12 are. A
meaning is total on every command; well-formedness says which commands an environment can send. -/

namespace Sys2Proof

/-- A record is 64 × FLITS bytes, FLITS from 1 to 255, and byte 14 holds FLITS (R341). -/
def recordWf (b : Bytes) : Bool := b.length % 64 = 0 && 64 ≤ b.length && b.length ≤ 64 * 255 && (b[14]?.map (fun x => 64 * x.toNat)) = some b.length

/-- Records that follow one another. -/
def recordsWf (bs : List Bytes) : Bool := bs.all recordWf

/-- A received record comes on one of at most 96 ports (R1). -/
def Rx.wf (r : Rx) : Bool := r.port < 96 && recordWf r.bytes

/-- A value names one of 1,024 metrics (R138) and flags of MFLAGS (R153). -/
def MetricValue.wf (v : MetricValue) : Bool := v.metric < 1024 && v.flags < 2 ^ 16

/-- A double-bit error lies in the store of one of at most 128 MAC tiles. -/
def StoreErr.wf : StoreErr → Bool
  | .none => true
  | .single => true
  | .double tile _ => tile < 128

/-- A group is a control flit and 15 payload flits of 64 bytes each (R339). -/
def flitsWf (fs : List Bytes) : Bool := fs.length = 16 && fs.all (fun f => f.length = 64)

/-- A channel of a host port: the port group by its bit in BLK_PORT_FAULT (R64), and a trace channel or wave gate within it. -/
def hostPortWf (port sub : Nat) : Bool := port < 9 && sub < (if port = 2 then 16 else if port = 7 then 64 else 1)

/-- LEN of a trace head word counts its continuation words (R252). -/
def contsWf (head : BitVec 64) (conts : List (BitVec 64)) : Bool := (head >>> 60).toNat = conts.length

/-- Operands within the ranges of the spec. Log entry 27 (DESIGN CHOICE). -/
def Instr.wf : Instr → Bool
  | .powerUp _ _ => true
  | .powerOff => true
  | .bootSelSample _ => true
  | .resetNAssert _ => true
  | .resetNRelease _ _ => true
  | .resetHeldBeacon => true
  | .fuseReadResponse _ _ _ => true
  | .bootReadResponse _ _ _ => true
  | .imageChecked => true
  | .bcastWaitExpiry => true
  | .katDone failed => failed.all (fun t => t < 512)
  | .waveGateAck _ gate => gate < 64
  | .waveSettle gate => gate < 64
  | .waveGateAckFall _ gate => gate < 64
  | .marketOpenOccurs => true
  | .marketOpen _ _ => true
  | .wavesOff _ _ => true
  | .wavesOn _ _ => true
  | .retry _ _ => true
  | .katRequest _ _ => true
  | .katRequestDone _ => true
  | .inbandSend _ _ => true
  | .inbandReset r => r.wf
  | .heldReset r => r.wf
  | .resetNotice r => r.wf
  | .powerRequest _ _ => true
  | .powerTransitionDone => true
  | .powerNotice r => r.wf
  | .stateRequest _ _ => true
  | .recoveryComplete => true
  | .routeHandshake lane routes => lane < 128 && routes.all (fun i => i < 2 ^ 16)
  | .tileHung _ tile => tile < 512
  | .portStallTimeout port sub => hostPortWf port sub
  | .phaseOrderBreak _ port sub => hostPortWf port sub
  | .speedWindow _ => true
  | .hostMemoryWriteDone _ _ => true
  | .issueGateReq _ => true
  | .tbrefLost => true
  | .tbrefReturn => true
  | .syncInterval => true
  | .pdelayInterval => true
  | .sync r => r.wf
  | .followUp r => r.wf
  | .pdelayReq r => r.wf
  | .pdelayResp r => r.wf
  | .pdelayRespFollowUp r => r.wf
  | .syncPortLoss => true
  | .gmLoss => true
  | .relock _ _ => true
  | .gmResume _ _ => true
  | .timAdj _ _ => true
  | .periodWrite _ _ => true
  | .sealLagWrite _ _ => true
  | .cadenceAnnouncement r => r.wf
  | .syncInEdge _ => true
  | .epochBoundary => true
  | .seal => true
  | .pulseArm _ k _ => k < 8
  | .pulseDisarm _ k _ => k < 8
  | .pulseEdge k => k < 8
  | .pulseTrailingEdge k => k < 8
  | .sweepPassStart => true
  | .bracketPrepass => true
  | .tallyReadResponse _ _ _ _ => true
  | .genStuck ctr => ctr < 131072
  | .mapEntryWrite _ ctr _ => ctr < 131072
  | .serviceReportArrival _ _ _ => true
  | .raPost _ => true
  | .raCommit _ => true
  | .raCancel _ => true
  | .raTicketExpiry ticket => ticket < 2 ^ 32
  | .sample _ => true
  | .hostReport typ _ => 0x80#8 ≤ typ
  | .scalesValue v => v.wf
  | .childSummary r parts => r.wf && recordsWf parts
  | .mergeDeadline => true
  | .mergeComplete => true
  | .lateBundle r recs => r.wf && recordsWf recs
  | .contributorRecord r => r.wf
  | .retractionRecord r => r.wf
  | .sourceValueRecord r => r.wf
  | .stragglerRecord r => r.wf
  | .referenceRecord r => r.wf
  | .epochAck r => r.wf
  | .derailleurCommit _ _ => true
  | .streamTrigger slot _ value => slot < 64 && value.wf
  | .rowScored slot err => slot < 64 && err.wf
  | .driftReset _ d _ => d < 512
  | .modelLoad _ _ => true
  | .modelFetchComplete => true
  | .modelCommit _ _ => true
  | .modelUnload _ _ => true
  | .modelAbort _ _ => true
  | .modelResume _ _ => true
  | .epochBudgetExpiry => true
  | .childBudgetExpiry => true
  | .alarmRecord r => r.wf
  | .tracePacket _ chan head conts => chan < 16 && contsWf head conts
  | .traceStallTimeout chan => chan < 16
  | .seqTimeEvent q => q < 4
  | .seqFire _ q _ => q < 4
  | .seqRestart _ q _ => q < 4
  | .blockAgeExpiry stream => stream < 64
  | .blockCoded stream => stream < 64
  | .traceFlush _ _ => true
  | .traceSync _ _ => true
  | .pannierStart _ stream _ => stream < 64
  | .pannierAppend _ stream _ => stream < 64
  | .pannierStop _ stream _ => stream < 64
  | .pannierPoll stream => stream < 64
  | .ledgerFold => true
  | .ledgerQueueTake => true
  | .ledgerEntryWrite => true
  | .ledgerReadback _ => true
  | .ledgerFoldTimeout seq => seq < 2 ^ 32
  | .cmdMark _ => true
  | .latchPassDone => true
  | .pcSample _ => true
  | .opcount _ => true
  | .tensorTag _ => true
  | .tensorLen _ => true
  | .dumpArm _ _ => true
  | .digOpen _ => true
  | .digTap _ => true
  | .digClose _ => true
  | .collTimeout coll => coll < 2 ^ 32
  | .digestRecord r => r.wf
  | .digestPairExpiry => true
  | .dupPlanWrite => true
  | .dupResult _ => true
  | .dupResultWindowClose => true
  | .poison _ => true
  | .check _ => true
  | .numeric _ => true
  | .ftResult _ => true
  | .ftTimeout tile => tile < 512
  | .ftReqTest _ _ => true
  | .ftReqClear _ _ => true
  | .ftAck _ _ => true
  | .stepGrant _ _ => true
  | .stepModeWrite _ _ => true
  | .groupSend port _ => port < 96
  | .groupReceived port _ flits => port < 96 && flitsWf flits
  | .linkSilenceTimeout port => port < 96
  | .linkUp port _ => port < 96
  | .frameAgeExpiry port => port < 96
  | .controlRequest r => r.wf
  | .controlResponse r => r.wf
  | .controlTimeout txn => txn < 2 ^ 32
  | .hello r => r.wf
  | .discoveryPeriod => true
  | .discover r => r.wf
  | .discReply r => r.wf
  | .heartbeatInterval => true
  | .heartbeat r => r.wf
  | .takeoverDetect => true
  | .take r => r.wf
  | .takeover r => r.wf
  | .tkoTake _ _ => true
  | .tkoHandback _ _ => true
  | .bcastChunk r => r.wf
  | .bcastNack r => r.wf
  | .spareStart _ _ => true
  | .spareAdmit _ _ => true
  | .shadowFeed r => r.wf
  | .shadowDig r => r.wf
  | .splitViewPersist child row => child < 128 && row < 8
  | .trayWindowAccess _ addr _ _ => addr < 2 ^ 24
  | .keyx r => r.wf
  | .attestationRecord r => r.wf
  | .credentialRecord r => r.wf
  | .sessionRetry port => port < 96
  | .rekey port => port < 96
  | .keyOverlapExpiry port => port < 96
  | .domainKeyRecord r => r.wf
  | .sealRecord r => r.wf
  | .sigVerifyDone => true
  | .verifyLagExpiry => true
  | .floorSet _ _ => true
  | .debugLevelRequest _ _ => true
  | .tokenChecked => true
  | .debugTokenExpiry => true
  | .attestationRequest _ _ => true
  | .imageStage _ _ => true
  | .imageCommit _ _ => true
  | .imageAbort _ _ => true
  | .imageShadowBuild => true
  | .ckpt _ _ => true
  | .ckptCopyDone => true
  | .ckptAbort _ _ => true
  | .restore _ _ => true
  | .restoreApplied => true
  | .kioskReady _ _ => true
  | .kioskStartTimeout pair => pair < 4
  | .lockstepMismatch pair => pair < 4
  | .fiArm _ _ => true
  | .fiDisarm _ _ => true
  | .fiEntryDue => true
  | .fiDurationEnd => true
  | .h2kPost _ _ => true
  | .h2kTaken _ _ => true
  | .k2hPost _ _ => true
  | .timNowCapture _ => true
  | .pairLoCapture _ addr => addr < 2 ^ 24
  | .counterWindowCapture _ ctr => ctr < 131072
  | .sealedSumCapture _ metric => metric < 1024
  | .classLineCapture _ cls => cls < 64
  | .ledgerEntryCapture _ index => index < 32768
  | .mirrorCapture _ => true
  | .optableCapture _ cell => cell < 256
  | .registerWrite _ addr _ => addr < 2 ^ 24
  | .blkClrDeny _ => true
  | .blkClrLaneWait _ => true
  | .blkClrState _ => true
  | .blkClrTileFault _ => true
  | .clrRegerr _ => true
  | .clrMinRate _ => true
  | .timClrJump _ => true
  | .timClrSync _ => true
  | .talClrExt _ => true
  | .talClrGen _ => true
  | .talClrStn _ => true
  | .talClrRa _ => true
  | .talClrSample _ => true
  | .sclClrConv _ => true
  | .sclClrHist _ => true
  | .sclClrLate _ => true
  | .redClrMerge _ => true
  | .redClrLate _ => true
  | .redClrIncomplete _ => true
  | .redClrRetain _ => true
  | .redClrStrag _ => true
  | .infClrRow _ => true
  | .infClrMiss _ => true
  | .infClrNum _ => true
  | .infClrFault _ => true
  | .infClrWait _ => true
  | .infClrDrift _ => true
  | .mdlClrBudget _ => true
  | .mdlClrCrier _ => true
  | .mdlClrSwap _ => true
  | .trcClrChan _ => true
  | .trcClrPan _ => true
  | .trcClrSeq _ => true
  | .ledClrFold _ => true
  | .ledClrLost _ => true
  | .ledClrCorr _ => true
  | .svcClrStat _ => true
  | .svcClrDup _ => true
  | .svcClrDig _ => true
  | .svcClrChk _ => true
  | .svcClrPcs _ => true
  | .lnkClrSvc _ => true
  | .lnkClrPort _ => true
  | .lnkClrMisc _ => true
  | .bruClrKat _ => true
  | .bruClrWave _ => true
  | .bruClrInband _ => true
  | .bruClrAnswer _ => true
  | .secClrChain _ => true
  | .secClrLink _ => true
  | .secClrAuth _ => true
  | .secClrKey _ => true
  | .inbandResetRelease => true
  | .attestationFormed => true
  | .registerRead _ addr => addr < 2 ^ 24
  | .tckEdge _ _ _ => true

end Sys2Proof
end

