-- ==== Sys2Proof/Tests/Slice0.lean ====
section
/-! SUPPORT. Tests of the model: ill-formed commands are refused by WellFormed; worked examples and tables of the spec; single commands on small
states; and, for every statement with hypotheses, a state and operands that meet them together. -/

set_option Elab.async false

open Sys2Proof Sys2Proof.Machine

/-! ### Small states -/

def testBlank : State :=
  { build := .spoke, regs := [], inForce := [], ports := initPorts false false, led := initLed, lnk := initLnk .spoke, sec := initSec,
    bru := initBru false, tim := initTim 1000000 20, img := initImg, crier := initCrier, tal := initTal, scl := initScl, red := initRed,
    tko := none, trc := initTrc .spoke, inf := initInf, srv := initSrv, con := initCon, free := 0, pending := [] }
def testState (fs : List (Fld × Nat)) : State := fs.foldl (fun s p => s.set p.1 p.2) testBlank
def nxtOf : Host.Outcome State Fault Refusal → State
  | .next t => t
  | _ => testBlank
def testTal (t : TalSt) : State := { testState [(F.BLK_ROLE, 1)] with tal := t }
def testMap (mode : Nat) (es : List EvtInfo) : State :=
  { testState [(F.BLK_ROLE, 1), (F.MAP_A_PRESENT 0, 1), (F.MAP_A_MODE 0, mode), (F.MAP_A_EVENT 0, 3), (F.TAL_SAMPLE_CFG_MAX_PER_EPOCH, 10)] with
    inForce := [(0x020000, 15)], img := { initImg with tabs := { initImg.tabs with events := es } } }
def testChild : Child := ⟨0, 0, 0, 0, false, 0, 1, 0⟩
def testMerge (ms : List MergeSt) : State :=
  { testState [(F.BLK_ROLE, 1), (F.RED_NODE_LEVEL, 2), (F.CHILD_A_TYPE 0, 0), (F.CHILD_C_EXPECTED 0, 1)] with
    inForce := [(0x040000, 0xFFFF)], red := { initRed with merges := ms } }
def testMs : MergeSt :=
  { epoch := 0, openNs := 0, closeNs := 0, sealNs := 0, svc := 2, timeQ := 0, sflags := 0, pgen := 0, catId := 0, fig := ⟨0, 0, 0⟩, own := none,
    kids := [testChild], ups := [], ready := false, childOver := false, started := false, startNs := 0, complete := false, sent := false,
    missing := [], absent := [], mbits := [] }
def testMs1 : MergeSt := { testMs with started := true }
def testSlot (rs : List Row) : State :=
  { testBlank with inf := { initInf with slots := [{ newSlot 0 with cur := some [], rows := rs, suspended := true, next := some (List.replicate 256 0) }] } }
def testSlotL : State := testSlot []
def testSlotN : State := { testState [(F.INF_MDL_EPOCH_LO, 9)] with inf := testSlotL.inf }
def testStream : State := { testState [(F.BLK_ROLE, 1), (F.BLK_STATE, 2)] with
  inForce := [(0x050000, 0xFF)], inf := { initInf with slots := [{ newSlot 0 with cur := some (List.replicate 256 0) }] } }
def testFetched : State := { testBlank with inf := { initInf with fetched := some (0, [], false) } }
def testTrc : State := testState [(F.BLK_ROLE, 1), (F.TRC_CTRL_EN, 1), (F.TRC_CHAN_EN 3, 1)]
def testTrcF : State := { testTrc with trc := { initTrc .spoke with chans := modNth (initTrc .spoke).chans 3 (fun c => { c with fifo := [⟨3, 0, List.replicate 64 0, false⟩] }) } }
def testTrcS : State := { testTrcF with regs := (testTrcF.set (F.TRC_CHAN_STALL_EN 3) 1).regs }
def testWait : State := testState [(F.TRC_PAN_STAT_STATE 0, paWait)]
def testExh : State := testState [(F.TRC_PAN_STAT_STATE 0, paExhausted)]
def testWaitB : State := { testWait with trc := { initTrc .spoke with pans := [{ newPan 0 with block := some ⟨0, 0, 4, 1, 0, [], [], 0⟩ }] } }
def testLEntry (q c : Nat) : LEntry := mirrorOf ⟨c, 0, 0, 0, 0⟩ q q 0
def testLSlot : LSlot := ⟨{ testLEntry 0 0 with isOpen := true }, noShadow, false⟩
def testOpen : State := { testBlank with led := { initLed with queue := [⟨0, 0, 0, 0, 0⟩], slots := [testLSlot] } }
def testFull : State := { testBlank with led := { initLed with queue := [⟨7, 0, 0, 0, 0⟩], slots := testLSlot :: (List.range 7).map (fun i => ⟨{ testLEntry (i + 1) (i + 10) with last := 5 }, noShadow, false⟩) } }
def testWriting : State := { testOpen with led := { testOpen.led with writing := some testLSlot.ent } }
def testSvc : State := { testState [(F.BLK_ROLE, 1), (F.BLK_STATE, 2), (F.SVC_HOST_TILES, 8)] with inForce := [(0x080000, 0x7FFFFFFF)] }
def testSvcN : State := { testSvc with inForce := [(0x080000, F.SVC_CTRL_CHARGE_NAN.put 0xFFFFFFFF 0)] }
def testSusp : State := { testSvc with regs := (testSvc.set (F.HTILE_STATE 0) 1).regs }
def testFailed : State := { testSvc with regs := (testSvc.set (F.HTILE_STATE 0) 3).regs }
def testPcs : State := { testSvc with regs := (testSvc.set F.SVC_PCS_MAX_PER_EPOCH 4).regs }
def testColl : State := { testSvc with srv := { initSrv with colls := [⟨0, 0, 0, 0, 1, 0, 0, false, 9⟩] } }
def testDup : DupPlan := ⟨0, 4, 8, [], [0], [], true, []⟩
def testPlan : State := { testSvc with srv := { initSrv with plans := [testDup] } }
def testDump : State := { testSvc with regs := (testSvc.set F.SVC_DUMP_CTRL_ARM 1).regs, srv := { initSrv with tag := some (0, 0, 64) } }
def testKeyed : State := { testSvc with sec := { initSec with dkeys := [(1, 0, zeros 48)] } }
def testHost : Access := ⟨.host, true, 0, 0⟩
def testKiosk : Access := ⟨.kioskM, true, 0, 0⟩
def testFetchedImg : State := { testState [(F.BRU_STATUS_PHASE, 1)] with img := { initImg with fetched := some [], fetchErr := true } }
def testInband : State := testState [(F.BRU_BOOT_CFG_INBAND_EN, 1)]
def testInbandRx : Rx := ⟨0, 0, false, 0, overlay (layout 64 [(0, 1, 0x52), (16, 1, 11), (24, 1, 9)]) 32 (testInband.inbandMac (layout 64 [(0, 1, 0x52), (16, 1, 11), (24, 1, 9)]))⟩
def testLink : State := testState [(F.LNK_PORT_STATE_LSTATE 0, lsUp)]
def testLinkS : State := { testLink with lnk := (testLink.modLink 0 (fun l => { l with resend := [[]] })).lnk }
def testLinkH : State := { testLink with lnk := (testLink.modLink 0 (fun l => { l with rxHeld := some [] })).lnk }
def testGroup : Bytes := zeros 60 ++ toLE 4 (crc32c (zeros 60))
def testAged : State := { testLink with lnk := (testLink.modLink 0 (fun l => { l with txq := [⟨0, 0, 0, false, [], 0⟩] })).lnk, tim := { initTim 1000000 20 with now := BitVec.ofNat 112 (16000000 * 2 ^ 45) } }
def testCtl : State := testState [(F.BLK_ROLE, 1), (F.BRU_STATUS_PHASE, 6), (F.LNK_SVC_STALL_OUT, 4)]
def testOut : State := { testBlank with lnk := { initLnk .spoke with out := [⟨0, .host, true, 0⟩] } }
def testHub0 : State := testState [(F.BLK_ROLE, 2)]
def testHub : State := testState [(F.BLK_ROLE, 2), (F.LNK_TKO_SIB_PORT, 0), (F.LNK_CTRL_TKO_EN, 1), (F.LNK_PORT_STATE_LSTATE 0, lsUp)]
def testHubT : State := testState [(F.BLK_ROLE, 2), (F.BLK_STATE, 2)]
def testTray : State := { testHubT with regs := (testState [(F.BLK_ROLE, 2), (F.BLK_STATE, 2), (F.LNK_PORT_STATE_LSTATE 0, lsUp), (F.CHILD_A_TYPE 0, 1), (F.CHILD_C_EXPECTED 0, 1)]).regs }
def testPlanned : State := testState [(F.BLK_ROLE, 1), (F.LNK_PORT_STATE_LSTATE 0, lsHello), (F.LNK_PORT_PLAN_PLAN_VALID 0, 1), (F.LNK_PORT_PLAN_PLAN_PEER 0, 5)]
def testChain : State := testState [(F.BLK_ROLE, 1), (F.LNK_CTRL_DISC_EN, 1), (F.LNK_PORT_FUNC 0, 1), (F.LNK_PORT_STATE_LSTATE 0, lsUp)]
def testDetect : State := { testHub with lnk := { testHub.lnk with heartbeat := some (9, 3) }, tim := { initTim 1000000 20 with sealedEpoch := some 5 }, regs := (testHub.set F.LNK_TKO_DETECT_US 300).regs }
def testTaken : State := { testHub with regs := (testHub.set F.LNK_TKO_EPOCH_LO 9).regs, tko := some ⟨7, 1, 0, { initRed with tbl := 256 }, zeros 48, [], 0, zeros 48, [], []⟩ }
def testRelaying : State := testState [(F.BLK_ROLE, 2), (F.LNK_TKO_SIB_PORT, 0), (F.LNK_TKO_RELAYING, 1)]
def testReady : State := testState [(F.LNK_SPARE_STATE, 2), (F.LNK_TKO_EPOCH_LO, 9)]
def testDig : State := { testState [(F.RED_NODE_LEVEL, 2), (F.LNK_SPARE_STATE, 1)] with lnk := { initLnk .spoke with spareDig := [(0, 7, 0)] } }
def testSplit : State := { testState [(F.LNK_SPLIT_EPOCHS, 4)] with lnk := { initLnk .spoke with splits := [(0, 0, 4, false)] } }
def testSession : Sess := ⟨0, 0, false, false, 0, 1, zeros 16, 1, [], [], [], [], [], [], false, List.replicate 5 0, List.replicate 5 0⟩
def testSess : State := { testState [(F.BLK_ROLE, 1), (F.LNK_PORT_FUNC_ENC 0, 1), (F.LNK_PORT_STATE_LSTATE 0, lsHello), (F.SEC_STATE_LIFECYCLE, 2)] with lnk := { initLnk .spoke with sess := [testSession] } }
def testAdm : State := testState [(F.BLK_ROLE, 1), (F.SEC_CTRL_PRIV_FROM, 2), (F.LNK_TKO_SIB_PORT, 0)]
def testAdmRx : Rx := ⟨0, 0, true, 0, List.replicate 128 0⟩
def testStaged : State := testState [(F.BLK_ROLE, 1), (F.BLK_STATE, 1), (F.BLK_IMG_STAT_STATE, imStaged), (F.BLK_IMG_EPOCH_LO, 9)]
def testPend : State := { testState [(F.BLK_IMG_STAT_STATE, imPending)] with img := { initImg with target := 1 } }
def testCon : State := testState [(F.CON_CKPT_EPOCH_LO, 9)]
def testAsked : State := { testBlank with con := { initCon with ckptAt := some 9 } }
def testKioskW : State := { testBlank with con := { initCon with kiosk := ⟨1, [0], 0⟩ } }
def testFi : State := testState [(F.CON_FI_CTRL_ARMED, 1), (F.CON_FI_B_VALID 0, 1)]

/-- The state after a command, where the model answers one. -/
def testAfter (i : Instr) (s : State) : State := nxtOf (exec i s)

/-! ### Ill-formed commands -/

/-- A received record: port and bytes. -/
def testRec (port : Nat) (b : Bytes) : Rx := ⟨port, 0, false, 0, b⟩
/-- 64 bytes with FLITS 1 at byte 14. -/
def testFlit : Bytes := zeros 14 ++ [1] ++ zeros 49

-- a record on a port that no build has, a record of 63 bytes, one whose FLITS does not say its length, an empty one, and one that is right
theorem test_wf_records : Instr.wf (.inbandReset (testRec 96 testFlit)) = false ∧ Instr.wf (.inbandReset (testRec 0 (zeros 63))) = false
    ∧ Instr.wf (.inbandReset (testRec 0 (zeros 64))) = false ∧ Instr.wf (.inbandReset (testRec 0 [])) = false
    ∧ Instr.wf (.childSummary (testRec 0 testFlit) [zeros 64]) = false ∧ Instr.wf (.lateBundle (testRec 0 testFlit) [zeros 65]) = false
    ∧ Instr.wf (.inbandReset (testRec 95 testFlit)) = true := by decide +kernel

-- tiles, gates, lanes and routes, host ports and their channels
theorem test_wf_block : Instr.wf (.katDone [0, 512]) = false ∧ Instr.wf (.waveGateAck 0 64) = false ∧ Instr.wf (.waveSettle 64) = false
    ∧ Instr.wf (.waveGateAckFall 0 64) = false ∧ Instr.wf (.routeHandshake 128 []) = false ∧ Instr.wf (.routeHandshake 0 [65536]) = false
    ∧ Instr.wf (.tileHung 0 512) = false ∧ Instr.wf (.portStallTimeout 9 0) = false ∧ Instr.wf (.portStallTimeout 1 1) = false
    ∧ Instr.wf (.phaseOrderBreak 0 2 16) = false ∧ Instr.wf (.phaseOrderBreak 0 7 64) = false ∧ Instr.wf (.phaseOrderBreak 0 7 63) = true
    ∧ Instr.wf (.ftTimeout 512) = false := by decide +kernel

-- pulse channels, counters, tickets, TYPEs, metrics, slots, stores and detectors
theorem test_wf_capture : Instr.wf (.pulseArm testHost 8 0) = false ∧ Instr.wf (.pulseDisarm testHost 8 0) = false ∧ Instr.wf (.pulseEdge 8) = false
    ∧ Instr.wf (.pulseTrailingEdge 8) = false ∧ Instr.wf (.genStuck 131072) = false ∧ Instr.wf (.mapEntryWrite testHost 131072 0) = false
    ∧ Instr.wf (.raTicketExpiry (2 ^ 32)) = false ∧ Instr.wf (.hostReport 0x7F#8 ⟨0, 0⟩) = false ∧ Instr.wf (.scalesValue ⟨1024, 0, 0, 0, 0⟩) = false
    ∧ Instr.wf (.scalesValue ⟨0, 0, 0, 65536, 0⟩) = false ∧ Instr.wf (.streamTrigger 64 0 ⟨0, 0, 0, 0, 0⟩) = false
    ∧ Instr.wf (.rowScored 64 .none) = false ∧ Instr.wf (.rowScored 0 (.double 128 0)) = false ∧ Instr.wf (.driftReset testHost 512 0) = false := by
  decide +kernel

-- trace channels and packets whose LEN does not count their words, sequencers, streams, entries, collectives
theorem test_wf_trace : Instr.wf (.tracePacket 0 16 0 []) = false ∧ Instr.wf (.tracePacket 0 0 0 [0]) = false
    ∧ Instr.wf (.tracePacket 0 0 (1#64 <<< 60) [0]) = true ∧ Instr.wf (.traceStallTimeout 16) = false ∧ Instr.wf (.seqTimeEvent 4) = false
    ∧ Instr.wf (.seqFire testHost 4 0) = false ∧ Instr.wf (.seqRestart testHost 4 0) = false ∧ Instr.wf (.blockAgeExpiry 64) = false
    ∧ Instr.wf (.blockCoded 64) = false ∧ Instr.wf (.pannierStart testHost 64 0) = false ∧ Instr.wf (.pannierAppend testHost 64 0) = false
    ∧ Instr.wf (.pannierStop testHost 64 0) = false ∧ Instr.wf (.pannierPoll 64) = false ∧ Instr.wf (.ledgerFoldTimeout (2 ^ 32)) = false
    ∧ Instr.wf (.collTimeout (2 ^ 32)) = false := by decide +kernel

-- ports, groups that are not 16 flits of 64 bytes, transactions, pairs, and addresses outside the register map's 24 bits
theorem test_wf_links : Instr.wf (.groupSend 96 0) = false ∧ Instr.wf (.groupReceived 96 0 (List.replicate 16 (zeros 64))) = false
    ∧ Instr.wf (.groupReceived 0 0 (List.replicate 15 (zeros 64))) = false ∧ Instr.wf (.groupReceived 0 0 (List.replicate 16 (zeros 63))) = false
    ∧ Instr.wf (.linkSilenceTimeout 96) = false ∧ Instr.wf (.linkUp 96 0) = false ∧ Instr.wf (.frameAgeExpiry 96) = false
    ∧ Instr.wf (.controlTimeout (2 ^ 32)) = false ∧ Instr.wf (.splitViewPersist 128 0) = false ∧ Instr.wf (.splitViewPersist 0 8) = false
    ∧ Instr.wf (.sessionRetry 96) = false ∧ Instr.wf (.rekey 96) = false ∧ Instr.wf (.keyOverlapExpiry 96) = false
    ∧ Instr.wf (.kioskStartTimeout 4) = false ∧ Instr.wf (.lockstepMismatch 4) = false := by decide +kernel
theorem test_wf_addresses : Instr.wf (.trayWindowAccess testHost (2 ^ 24) false 0) = false ∧ Instr.wf (.pairLoCapture testHost (2 ^ 24)) = false
    ∧ Instr.wf (.counterWindowCapture testHost 131072) = false ∧ Instr.wf (.sealedSumCapture testHost 1024) = false
    ∧ Instr.wf (.classLineCapture testHost 64) = false ∧ Instr.wf (.ledgerEntryCapture testHost 32768) = false
    ∧ Instr.wf (.optableCapture testHost 256) = false ∧ Instr.wf (.registerWrite testHost (2 ^ 24) 0) = false
    ∧ Instr.wf (.registerRead testHost (2 ^ 24)) = false := by decide +kernel

/-! ### Worked examples of the spec -/

-- spec/05, six latencies into one section: codes and the rounding of 0.5 and 1.5
theorem test_lb12_examples : lb12 3584 = 0x330 ∧ lb12 12544 = 0x3A2 ∧ lb12 2 = 0x080 ∧ lb12 1024000 = 0x53D ∧ codeValue 0x330 = 3600
    ∧ codeValue 0x3A2 = 12608 ∧ codeValue 0x53D = 1028096 := by decide +kernel
theorem test_rounds_half_to_even : roundEven 1 2 = 0 ∧ roundEven 3 2 = 2 ∧ roundEven (-3) 2 = -2 := by decide
-- 3.5 as FP32 with FRAC 10 is 3,584, and so is the tie of two equal values put in order of TS_NS
theorem test_fp32_fixed : toFixed (rawVal 3 0x40600000) 10 = (some 3584, .none) := by decide +kernel
theorem test_extremes_tie : addExtreme true 0 (addExtreme true 0 [] ⟨3584, 0x10005000, 0, 1⟩) ⟨3584, 0x10001000, 0, 3⟩
    = [⟨3584, 0x10001000, 0, 3⟩, ⟨3584, 0x10005000, 0, 1⟩] := by decide +kernel
-- spec/04, two counters at one boundary, in 125 ps units
theorem test_interp_example : Ctr.method { newCtr 0 with before1 := some ⟨8 * 10994000, 88000000, 0⟩, after := some ⟨8 * 11004000, 88012000, 0⟩ }
    (8 * 11000000) 2000 1000 0 = (mInterp, 88007200, 312) := by decide +kernel
theorem test_extrap_example : Ctr.method { newCtr 0 with before1 := some ⟨8 * 10600000, 7262144, 0⟩, before2 := some ⟨8 * 10075712, 7000000, 0⟩ }
    (8 * 11000000) 2000 1000 0 = (mExtrap, 7462144, 25000) := by decide +kernel
-- spec/06, a tray with one late Chain: median 98,816 and MAD 1,024
theorem test_median_example : medianMad [(0x45F, 60), (0x460, 150), (0x461, 95), (0x464, 4), (0x473, 1)] = some (98816, 1024) := by decide +kernel
-- spec/07: rshift_rne(120, 4) = 8, and 37,000 × 113 by SHIFT 15 saturates to 127
theorem test_requantise_examples : rshiftRne 120 4 = 8 ∧ satI8 (rshiftRne (37000 * 113) 15) = (127, true) := by decide +kernel
-- spec/11, R310: taps 0x5 at index 0 and 0x3 at index 1 under k = 0x2, in either order, and exchanged
theorem test_digest_example : gf64Mul 5 (gf64Pow 2 1) ^^^ gf64Mul 3 (gf64Pow 2 2) = 6 ∧ gf64Mul 3 (gf64Pow 2 1) ^^^ gf64Mul 5 (gf64Pow 2 2) = 0x12 := by
  decide +kernel

/-! ### Check values of the standards that the spec names -/

theorem test_crc32c : crc32c (ascii "123456789") = 0xE3069283 := by decide +kernel
-- the first and last words of SHA-384 of "abc" (FIPS 180-4)
theorem test_sha384 : (sha384 (ascii "abc")).take 4 = [0xCB, 0x00, 0x75, 0x3F] ∧ (sha384 (ascii "abc")).drop 44 = [0x34, 0xC8, 0x25, 0xA7] := by
  decide +kernel
-- AES-256 of FIPS 197, appendix C.3: key 00 to 1f, block 00112233…ff
theorem test_aes256 : aesBlock (aesKeys ((List.range 32).map (fun i => BitVec.ofNat 8 i))) ((List.range 16).map (fun i => BitVec.ofNat 8 (17 * i)))
    = [0x8E, 0xA2, 0xB7, 0xCA, 0x51, 0x67, 0x45, 0xBF, 0xEA, 0xFC, 0x49, 0x90, 0x4B, 0x49, 0x60, 0x89] := by decide +kernel

/-! ### Single commands -/

-- R26, R2: the identity words at reset
theorem test_reads_identity : (testAfter (.registerRead testHost 0) State.reset).ports.answer = some ⟨.host, .ok, 0x0B407A51⟩
    ∧ (testAfter (.registerRead testHost 4) State.reset).ports.answer = some ⟨.host, .ok, 0x00030001⟩ := by decide +kernel
-- R46: an unaligned write, an unmapped read, a write to a read-only window, and a denied write
theorem test_unaligned : (testAfter (.registerWrite testHost 0x4A 0) testBlank).ports.answer = some ⟨.host, .decode, 0⟩
    ∧ (testAfter (.registerWrite testHost 0x4A 0) testBlank).fld F.BLK_REGERR_LAST_CAUSE = 1 := by decide +kernel
theorem test_unmapped : (testAfter (.registerRead testHost 0x7C) testBlank).fld F.BLK_REGERR_LAST_CAUSE = 2 := by decide +kernel
theorem test_readonly_window : (testAfter (.registerWrite testHost 0x200000 1) testBlank).fld F.BLK_REGERR_LAST_CAUSE = 4 := by decide +kernel
theorem test_denied : (testAfter (.registerWrite ⟨.host, false, 5, 0⟩ 0x48 1) testBlank).fld F.BLK_DENY_LAST_CAUSE = 2
    ∧ (testAfter (.registerWrite ⟨.host, false, 5, 0⟩ 0x48 1) testBlank).fld F.BLK_DENY_LAST_STALL = 5 := by decide +kernel
-- R6: RW takes the value, RW1C clears the bits written 1; R39: ALERT_N follows
theorem test_alert : (testAfter (.registerWrite testHost 0x48 2) (testState [(F.BLK_ALERT_PENDING, 6)])).ports.alertN = true
    ∧ (testAfter (.registerWrite testHost 0x44 2) (testState [(F.BLK_ALERT_PENDING, 6), (F.BLK_ALERT_EN, 2)])).ports.alertN = false
    ∧ (testAfter (.registerWrite testHost 0x44 2) (testState [(F.BLK_ALERT_PENDING, 6), (F.BLK_ALERT_EN, 2)])).fld F.BLK_ALERT_PENDING = 4 := by
  decide +kernel
-- R56: RATE below FLOOR sets BELOW and lowers MIN_RATE
theorem test_speed : (testAfter (.speedWindow 100) (testState [(F.BLK_SPEED_FLOOR, 200), (F.BLK_SPEED_MIN_RATE, 0xFFF)])).fld F.BLK_SPEED_BELOW = 1
    ∧ (testAfter (.speedWindow 100) (testState [(F.BLK_SPEED_FLOOR, 200), (F.BLK_SPEED_MIN_RATE, 0xFFF)])).fld F.BLK_SPEED_MIN_RATE = 100 := by
  decide +kernel
-- R24: a request that R23 does not list
theorem test_state_request : (testAfter (.stateRequest testHost 2) testBlank).fld F.BLK_STATE_REFUSALS = 1 := by decide +kernel
-- R468: with the supply removed nothing stands but the build
theorem test_power_off : (testAfter .powerOff (testState [(F.BLK_DENY_COUNT, 9)])).fld F.BLK_DENY_COUNT = 0
    ∧ (testAfter .powerOff testBlank).ports.powered = false := by decide +kernel
-- R70: reading TIM_NOW_LO captures HI and FRAC for the source
theorem test_now_capture : (testAfter (.timNowCapture ⟨.host, true, 0, 8 * 5 + 1⟩) testBlank).shadowWord testHost 0x010004 2 = 0x2000
    ∧ (testAfter (.timNowCapture ⟨.host, true, 0, 8 * 5 + 1⟩) testBlank).ports.answer = some ⟨.host, .ok, 5⟩ := by decide +kernel
-- one step takes the front command and leaves the rest
theorem test_step_queue : (nxtOf (step { testBlank with pending := [.speedWindow 100, .powerOff] })).pending = [.powerOff]
    ∧ (nxtOf (step { testBlank with pending := [.speedWindow 100, .powerOff] })).fld F.BLK_SPEED_RATE = 100 := by decide +kernel
-- no row has bits, so no word spells a command
theorem test_no_words : decodeTableWord 16 0x1234 = none ∧ State.reset.withFetchWord 16 0x1234 = State.reset := ⟨rfl, rfl⟩

/-! ### Premises that are met -/

theorem test_premises_StepRunsFront : ∃ (s : State) (c : Instr) (rest : List Instr), s.pending = c :: rest := ⟨{ testBlank with pending := [.recoveryComplete] }, .recoveryComplete, [], rfl⟩
theorem test_premises_PinsAgreeKept : ∃ s t : State, step s = .next t := ⟨testBlank, _, rfl⟩
theorem test_premises_AccessCodes_1 : ∃ (s : State) (addr : Nat) (w : Word) (r : RegRow) (f : RegField), regRow addr = some r ∧ f ∈ r.fields ∧ f.acc = .rw :=
  ⟨testBlank, 0x48, 5, ((regRow 0x48).getD ⟨"", 0, 0, 1, []⟩), ((((regRow 0x48).getD ⟨"", 0, 0, 1, []⟩).fields).headD ⟨F.BLK_ROLE, .ro, .kept⟩), by decide +kernel, by decide +kernel, by decide +kernel⟩
theorem test_premises_AccessCodes_2 : ∃ (s : State) (addr : Nat) (w : Word) (r : RegRow) (i : Nat), regRow addr = some r ∧ i < 32 ∧ (∀ f ∈ r.fields, i < f.fld.lo ∨ f.fld.hi < i) :=
  ⟨testBlank, 0x48, 5, ((regRow 0x48).getD ⟨"", 0, 0, 1, []⟩), 31, by decide +kernel, by decide, by decide +kernel⟩
theorem test_premises_RegisterFileCanonical : ∃ m n : Regs, regCanon m = true ∧ regCanon n = true ∧ (∀ a, regRead m a = regRead n a) := ⟨[(4, 1)], [(4, 1)], rfl, rfl, fun _ => rfl⟩
theorem test_premises_ErrorOrder_1 : ∃ addr : Nat, addr % 4 ≠ 0 := ⟨1, by decide⟩
theorem test_premises_ErrorOrder_2 : ∃ (s : State) (addr : Nat), addr % 4 = 0 ∧ s.mapped addr = false := ⟨testBlank, 0x7C, by decide +kernel⟩
theorem test_premises_ErrorOrder_3 : ∃ (s : State) (addr : Nat), addr % 4 = 0 ∧ s.mapped addr = true ∧ inRanges roWindows addr = true := ⟨testBlank, 0x503FFC, by decide +kernel⟩
theorem test_premises_ErrorOrder_4 : ∃ (s : State) (a : Access) (addr : Nat), addr % 4 = 0 ∧ s.mapped addr = true ∧ inRanges roWindows addr = false ∧ trayAddr addr = false ∧
    privileged a = false := ⟨testBlank, ⟨.host, false, 0, 0⟩, 0x4FFFFC, by decide +kernel⟩
theorem test_premises_ErrorOrder_5 : ∃ (s : State) (a : Access) (addr : Nat), addr % 4 = 0 ∧ s.mapped addr = true ∧ privileged a = true ∧ ledgerAddr addr = false :=
  ⟨testBlank, testHost, 0x78, by decide +kernel⟩
theorem test_premises_RefusedAccess_1 : ∃ (s : State) (a : Access) (addr c : Nat), trayAddr addr = false ∧ s.serves = true ∧ s.judge a addr false = .decode c :=
  ⟨testBlank, testHost, 2, 1, by decide +kernel⟩
theorem test_premises_RefusedAccess_2 : ∃ (s : State) (a : Access) (addr c : Nat), trayAddr addr = false ∧ s.serves = true ∧ s.judge a addr true = .decode c :=
  ⟨testBlank, testHost, 0x200000, 4, by decide +kernel⟩
theorem test_premises_RefusedAccess_3 : ∃ (s : State) (a : Access) (addr c : Nat), trayAddr addr = false ∧ s.serves = true ∧ s.judge a addr false = .denied c :=
  ⟨testBlank, ⟨.host, false, 0, 0⟩, 0x200000, 1, by decide +kernel⟩
theorem test_premises_RefusedAccess_4 : ∃ (s : State) (a : Access) (addr c : Nat), trayAddr addr = false ∧ addr ≠ 0x14 ∧ s.serves = true ∧ s.judge a addr true = .denied c :=
  ⟨testBlank, ⟨.host, false, 0, 0⟩, 0x10, 2, by decide +kernel⟩
theorem test_premises_RefusedAccess_5 : ∃ (s : State) (a : Access) (c : Nat), s.serves = true ∧ s.judge a 0x14 true = .denied c :=
  ⟨testBlank, ⟨.host, false, 0, 0⟩, 2, by decide +kernel⟩
theorem test_premises_RefusedAccess_6 : ∃ (s : State) (a : Access) (addr : Nat), trayAddr addr = false ∧ s.serves = true ∧ s.judge a addr false = .retry :=
  ⟨testState [(F.BLK_POWER_STATE, 2)], testHost, 0x10, by decide +kernel⟩
theorem test_premises_RefusedAccess_7 : ∃ (s : State) (a : Access) (addr : Nat), trayAddr addr = false ∧ s.serves = true ∧ s.judge a addr true = .retry :=
  ⟨testState [(F.BLK_POWER_STATE, 2)], testHost, 0x10, by decide +kernel⟩
theorem test_premises_RefusedAccess_8 : ∃ (s : State) (addr : Nat), trayAddr addr = false ∧ s.serves = false := ⟨testBlank.off, 0, by decide +kernel⟩
theorem test_premises_UserReads : (∃ (a : Access) (addr b : Nat), addr % 4 = 0 ∧ privileged a = false ∧ 0x200000 ≤ addr ∧ addr ≤ 0x4FFFFF ∧ b = 0)
    ∧ (∃ (a : Access) (addr b : Nat), addr % 4 = 0 ∧ privileged a = false ∧ 0x500000 ≤ addr ∧ addr ≤ 0x503FFF ∧ b = 1)
    ∧ (∃ (a : Access) (addr b : Nat), addr % 4 = 0 ∧ privileged a = false ∧ 0x510000 ≤ addr ∧ addr ≤ 0x51FFFF ∧ b = 1) :=
  ⟨⟨⟨.host, false, 0, 0⟩, 0x4FFFFC, 0, by decide⟩, ⟨⟨.host, false, 0, 0⟩, 0x503FFC, 1, by decide⟩, ⟨⟨.host, false, 0, 0⟩, 0x51FFFC, 1, by decide⟩⟩
theorem test_premises_StateRequestRefused_1 : ∃ (s : State) (a : Access), s.servesPriv a = true ∧ s.on F.BLK_STATE_PEND_VALID = true :=
  ⟨testState [(F.BLK_STATE_PEND_VALID, 1)], testHost, by decide +kernel⟩
theorem test_premises_StateRequestRefused_2 : ∃ (s : State) (a : Access) (w : Word), s.servesPriv a = true ∧ ¬ (s.svc = svcBringup ∧ F.BLK_STATE_REQ_TARGET.get w = svcTest) ∧
    s.svc = svcBringup := ⟨testBlank, testHost, 2, by decide +kernel⟩
theorem test_premises_StateRequestRefused_3 : ∃ (s : State) (a : Access), s.serves = true ∧ privileged a = false := ⟨testBlank, ⟨.host, false, 0, 0⟩, by decide +kernel⟩
theorem test_premises_PeriodWrites_1 : ∃ (s : State) (a : Access) (w : Word), s.servesPriv a = true ∧ s.cadenceSource = true ∧
    100 ≤ F.TIM_EPOCH_PERIOD_PERIOD_US.get w ∧ F.TIM_EPOCH_PERIOD_PERIOD_US.get w ≤ 1000000 := ⟨testState [(F.TIM_CTRL_CADENCE_SRC, 1)], testHost, 100, by decide +kernel⟩
theorem test_premises_PeriodWrites_2 : ∃ (s : State) (a : Access) (w : Word), s.servesPriv a = true ∧ s.cadenceSource = true ∧
    (F.TIM_EPOCH_PERIOD_PERIOD_US.get w < 100 ∨ 1000000 < F.TIM_EPOCH_PERIOD_PERIOD_US.get w) := ⟨testState [(F.TIM_CTRL_CADENCE_SRC, 1)], testHost, 99, by decide +kernel⟩
theorem test_premises_PeriodWrites_3 : ∃ (s : State) (a : Access), s.servesPriv a = true ∧ s.cadenceSource = false := ⟨testBlank, testHost, by decide +kernel⟩
theorem test_premises_PeriodWrites_4 : ∃ (s : State) (a : Access), s.serves = true ∧ privileged a = false := ⟨testBlank, ⟨.host, false, 0, 0⟩, by decide +kernel⟩
theorem test_premises_ResetKeepsTime : ∃ s : State, s.con.ckptAt = none ∧ s.con.copy = none ∧ s.lnk.ctl = [] := ⟨testBlank, rfl, rfl, rfl⟩
theorem test_premises_EventsCounted_1 : ∃ (s : State) (e : LEvt), s.led.state ≠ 2 ∧ e.cls ≠ 0x28 := ⟨testBlank, ⟨1, 0, 0, 0, 0⟩, by decide +kernel⟩
theorem test_premises_EventsCounted_2 : ∃ (s : State) (e : LEvt) (k : Nat), s.led.state ≠ 2 ∧ k ≠ e.cls ∧ k ≠ 0x28 := ⟨testBlank, ⟨1, 0, 0, 0, 0⟩, 2, by decide +kernel⟩
theorem test_premises_EventsCounted_3 : ∃ s : State, s.led.state = 2 := ⟨{ testBlank with led := { initLed with state := 2 } }, rfl⟩
theorem test_premises_CountersSaturate : ∃ f g : Fld, f.hi < 32 ∧ f.lo ≤ f.hi ∧ (g.addr ≠ f.addr ∨ f.hi < g.lo ∨ g.hi < f.lo) := ⟨F.BLK_DENY_COUNT, F.BLK_DENY_LAST_CAUSE, by decide⟩
theorem test_premises_Lb12Codes : ∃ q : Nat, 1 ≤ q ∧ q < 2 ^ 63 := ⟨2 ^ 63 - 1, by decide⟩
theorem test_premises_ExactMerge_1 : ∃ a b : Sect, a.count + b.count < 2 ^ 48 ∧ bit a.flags 11 = false ∧ bit b.flags 11 = false ∧ a.metric = b.metric :=
  ⟨newSect 1 0, newSect 1 0, by decide⟩
theorem test_premises_ExactMerge_2 : ∃ a b c : Sect, a.count + b.count + c.count < 2 ^ 48 := ⟨newSect 1 0, newSect 1 0, newSect 1 0, by decide⟩
theorem test_premises_ExactMerge_3 : ∃ a b : Sect, 2 ^ 48 ≤ a.count + b.count := ⟨{ newSect 1 0 with count := 2 ^ 48 - 1 }, { newSect 1 0 with count := 1 }, by decide⟩
theorem test_premises_ExtremesOrderFree : ∃ (largest : Bool) (o : Nat) (xs : List XEnt) (x y : XEnt), x.ts < 2 ^ 32 ∧ y.ts < 2 ^ 32 ∧ (∀ z ∈ xs, z.ts < 2 ^ 32) ∧ xs.length ≤ 8 ∧
    xs.Pairwise (fun a b => ranksBefore largest o a b = true) := ⟨true, 0, [⟨5, 1, 0, 0⟩, ⟨5, 2, 0, 0⟩], ⟨6, 0, 0, 0⟩, ⟨5, 2, 0, 1⟩, by decide +kernel⟩
theorem test_premises_DigestOrderFree : ∃ (s : State) (x : Report) (c : Coll), s.srv.colls.find? (fun k => k.coll = rf x 0x26 0) = some c := ⟨testColl, ⟨0, 0⟩, ⟨0, 0, 0, 0, 1, 0, 0, false, 9⟩, by decide +kernel⟩
theorem test_premises_PgenRule_1 : ∃ (s : State) (key : Nat), s.lnk.pgenSeen.find? (fun p => p.1 = key) = none := ⟨testBlank, 0, by decide +kernel⟩
theorem test_premises_PgenRule_2 : ∃ (s : State) (key g0 e0 : Nat), s.lnk.pgenSeen.find? (fun p => p.1 = key) = some (key, g0, e0) :=
  ⟨{ testBlank with lnk := { initLnk .spoke with pgenSeen := [(0, 7, 3)] } }, 0, 7, 3, by decide +kernel⟩
def testStale : State := { testBlank with lnk := { initLnk .spoke with pgenSeen := [(9, 7, 0)] } }
theorem test_premises_PgenRule_3 : ∃ (s u : State) (x : Summary) (c : Child) (key : Nat),
    u = s.setRed { s.red with absentKeys := s.red.absentKeys.filter (fun k => k.1 ≠ key && k.1 ≠ c.key) } ∧
    c.excl = false ∧ (readHead x.head).catId = u.catIdAt (readHead x.head).epoch ∧ (readHead x.head).epoch ≤ u.tim.epoch ∧
    u.mergeStarted (readHead x.head).epoch = false ∧ u.level ≠ 5 ∧ u.pgenTake key (readHead x.head).pgen (readHead x.head).epoch = none :=
  ⟨testStale, testStale.setRed { testStale.red with absentKeys := testStale.red.absentKeys.filter (fun k => k.1 ≠ 9 && k.1 ≠ testChild.key) }, ⟨List.replicate 128 0, []⟩, testChild, 9,
    by decide +kernel⟩
theorem test_premises_FloorWrites : ∃ (s : State) (a : Access) (w : Word), s.servesPriv a = true ∧ w.toNat % 65536 ≤ s.fld F.SEC_FLOOR_GEN := ⟨testState [(F.SEC_FLOOR_GEN, 3)], testHost, 3, by decide +kernel⟩
theorem test_premises_SealedFrames : ∃ key iv : Bytes, key.length = 32 ∧ iv.length = 12 := ⟨zeros 32, zeros 12, rfl, rfl⟩
def testHead : Bytes := zeros 8 ++ [1, 0, 0, 0] ++ zeros 12
def testEnv : Bytes := testHead ++ [90, 72, 177, 206, 100, 14, 113, 97, 99, 42, 174, 113, 146, 238, 127, 126] ++ zeros 24
def testRxSess : Sess := { testSession with keyId := 1, formed := true, rxKey := zeros 36 }
theorem test_premises_ReplayRefused : ∃ (s : State) (p : Nat) (env body : Bytes) (x : Sess), (s.lnk.sess.filter (fun x => x.port = p && x.formed)) = [x] ∧ x.keyId = le env 8 4 ∧
    x.rxKey ≠ [] ∧ slice (slice env 12 12) 0 4 = slice x.rxKey 32 4 ∧ gcmTag (x.rxKey.take 32) (slice env 12 12) (env.take 24) body = slice env 24 16 :=
  ⟨{ testBlank with lnk := { initLnk .spoke with sess := [testRxSess] } }, 0, testEnv, [], testRxSess, by decide +kernel⟩
theorem test_premises_TestPortClosed_1 : ∃ s : State, s.testPort = false := ⟨testState [(F.SEC_STATE_LIFECYCLE, 2)], by decide +kernel⟩
theorem test_premises_TestPortClosed_2 : ∃ s t : State, step s = .next t ∧ t.ports.powered = true ∧ t.testPort = false :=
  ⟨{ testState [(F.SEC_STATE_LIFECYCLE, 2)] with pending := [.recoveryComplete] }, _, rfl, by decide +kernel, by decide +kernel⟩
theorem test_premises_ClearingWords : ∃ (s : State) (a : Access), s.servesPriv a = true := ⟨testBlank, testHost, by decide +kernel⟩
theorem test_premises_BringUpCommands_1 : ∃ (s : State) (low sel : Bool),
    (s.ports.powered = false) :=
  ⟨{ testBlank with ports := { testBlank.ports with powered := false } }, false, false, by decide +kernel⟩
theorem test_premises_BringUpCommands_3 : ∃ (s : State) (level : Bool),
    (s.ports.bootSampled = false) ∧ (s.ports.resetLow = false) :=
  ⟨testBlank, true, by decide +kernel, by decide +kernel⟩
theorem test_premises_BringUpCommands_4 : ∃ (s : State) (t a x : Nat) (d : Word),
    (s.phase = phFuse) ∧ (s.bru.fuseGot = some x) ∧ (fuseAfter x = some a) ∧ (s.bru.fuseNext = some a) ∧ (a ≠ fuseEnd (fuseSect a)) :=
  ⟨{ testBlank with bru := { testBlank.bru with fuseGot := some 0, fuseNext := some 1 } }, 0, 1, 0, 1, by decide +kernel, by decide +kernel, by decide +kernel, by decide +kernel, by decide +kernel⟩
theorem test_premises_BringUpCommands_5 : ∃ (s v : State) (b : Bytes),
    (s.phase = phImage) ∧ (s.fromBcast = false) ∧ (s.img.fetched = some b) ∧ (v = s.setImg { s.img with fetched := none, fetchErr := false }) :=
  ⟨testFetchedImg, testFetchedImg.setImg { testFetchedImg.img with fetched := none, fetchErr := false }, [], by decide +kernel, by decide +kernel, by decide +kernel, rfl⟩
theorem test_premises_BringUpCommands_6 : ∃ (s : State),
    (s.phase = phImage) ∧ (s.fromBcast = true) :=
  ⟨testState [(F.BRU_STATUS_PHASE, 1), (F.BRU_STATUS_FROM_BCAST, 1)], by decide +kernel, by decide +kernel⟩
theorem test_premises_BringUpCommands_7 : ∃ (s : State),
    (s.phase = phKat) ∧ (s.routed.filter (fun t => s.bru.hidden.contains t) = []) :=
  ⟨testState [(F.BRU_STATUS_PHASE, 2)], by decide +kernel, by decide +kernel⟩
theorem test_premises_BringUpCommands_8 : ∃ (s : State) (t g : Nat),
    ((s.gate g).req = true) ∧ ((s.gate g).acked = false) ∧ (s.bru.wavesDown = false) :=
  ⟨{ testBlank with bru := { testBlank.bru with gates := [⟨3, true, false, true, false, false, 0⟩] } }, 0, 3, by decide +kernel, by decide +kernel, by decide +kernel⟩
theorem test_premises_BringUpCommands_9 : ∃ (s : State) (g : Nat),
    ((s.gate g).acked = true) ∧ ((s.gate g).req = true) ∧ ((s.gate g).settled = false) :=
  ⟨{ testBlank with bru := { testBlank.bru with gates := [⟨3, true, true, true, false, false, 0⟩] } }, 3, by decide +kernel, by decide +kernel, by decide +kernel⟩
theorem test_premises_BringUpCommands_10 : ∃ (s : State) (t g : Nat),
    ((s.gate g).req = false) ∧ ((s.gate g).acked = true) :=
  ⟨{ testBlank with bru := { testBlank.bru with gates := [⟨3, false, true, false, false, false, 0⟩] } }, 0, 3, by decide +kernel, by decide +kernel⟩
theorem test_premises_BringUpCommands_11 : ∃ (s : State),
    (s.marketReady = true) :=
  ⟨{ testState [(F.BRU_STATUS_PHASE, 5), (F.TIM_STATUS_SERVO, 2), (F.TIM_CTRL_CADENCE_SRC, 1)] with bru := { testBlank.bru with marketWanted := true } }, by decide +kernel⟩
theorem test_premises_BringUpCommands_12 : ∃ (s : State) (a : Access) (w : Word),
    (s.servesPriv a = true) ∧ (F.BRU_CTRL_MARKET_OPEN.get w = 1) ∧ (F.BRU_CTRL_WAVES_OFF.get w = 0) ∧ (F.BRU_CTRL_WAVES_ON.get w = 0) ∧ (F.BRU_CTRL_RETRY.get w = 0) ∧ (s.phase = phReady) ∧ (s.svc = svcBringup) :=
  ⟨testState [(F.BRU_STATUS_PHASE, 5)], testHost, 1, by decide +kernel, by decide +kernel, by decide +kernel, by decide +kernel, by decide +kernel, by decide +kernel, by decide +kernel⟩
theorem test_premises_BringUpCommands_13 : ∃ (s : State) (a : Access) (w : Word),
    (s.servesPriv a = true) ∧ (F.BRU_CTRL_MARKET_OPEN.get w = 0) ∧ (F.BRU_CTRL_WAVES_OFF.get w = 1) ∧ (F.BRU_CTRL_WAVES_ON.get w = 0) ∧ (F.BRU_CTRL_RETRY.get w = 0) :=
  ⟨testBlank, testHost, 2, by decide +kernel, by decide +kernel, by decide +kernel, by decide +kernel, by decide +kernel⟩
theorem test_premises_BringUpCommands_14 : ∃ (s : State) (a : Access) (w : Word),
    (s.servesPriv a = true) ∧ (F.BRU_CTRL_MARKET_OPEN.get w = 0) ∧ (F.BRU_CTRL_WAVES_OFF.get w = 0) ∧ (F.BRU_CTRL_WAVES_ON.get w = 1) ∧ (F.BRU_CTRL_RETRY.get w = 0) :=
  ⟨testBlank, testHost, 4, by decide +kernel, by decide +kernel, by decide +kernel, by decide +kernel, by decide +kernel⟩
theorem test_premises_BringUpCommands_15 : ∃ (s : State) (a : Access) (w : Word),
    (s.servesPriv a = true) ∧ (F.BRU_CTRL_MARKET_OPEN.get w = 0) ∧ (F.BRU_CTRL_WAVES_OFF.get w = 0) ∧ (F.BRU_CTRL_WAVES_ON.get w = 0) ∧ (F.BRU_CTRL_RETRY.get w = 1) ∧ (s.phase = phHalted) ∧ (s.bru.haltPhase = phKat) :=
  ⟨{ testState [(F.BRU_STATUS_PHASE, 7)] with bru := { testBlank.bru with haltPhase := 2 } }, testHost, 8, by decide +kernel, by decide +kernel, by decide +kernel, by decide +kernel, by decide +kernel, by decide +kernel, by decide +kernel⟩
theorem test_premises_BringUpCommands_16 : ∃ (s : State) (a : Access) (w : Word),
    (s.servesPriv a = true) ∧ (F.BRU_KAT_REQ_RUN.get w = 1) ∧ (s.svc = svcTest) ∧ (s.on F.BRU_KAT_REQ_BUSY = false) ∧ ((tileOf s.build (F.BRU_KAT_REQ_TILE.get w)).isSome = true) :=
  ⟨testState [(F.BLK_STATE, 1)], testHost, 0x200, by decide +kernel, by decide +kernel, by decide +kernel, by decide +kernel, by decide +kernel⟩
theorem test_premises_BringUpCommands_17 : ∃ (s : State) (x : Nat),
    (s.bru.katTile = some x) ∧ (s.svc ≠ svcRecovery) :=
  ⟨{ testBlank with bru := { testBlank.bru with katTile := some 3 } }, 3, by decide +kernel, by decide +kernel⟩
theorem test_premises_ResetCommands_1 : ∃ (s : State) (t : Nat),
    (s.ports.powered = true) ∧ (s.ports.resetLow = false) ∧ (s.con.ckptAt = none) ∧ (s.con.copy = none) ∧ (s.lnk.ctl = []) :=
  ⟨testBlank, 0, by decide +kernel, by decide +kernel, by decide +kernel, by decide +kernel, by decide +kernel⟩
theorem test_premises_ResetCommands_2 : ∃ (s : State) (t : Nat) (sel : Bool),
    (s.ports.resetLow = true) ∧ (s.bru.inbandDue = false) :=
  ⟨{ testBlank with ports := initPorts true false }, 0, false, by decide +kernel, by decide +kernel⟩
theorem test_premises_ResetCommands_3 : ∃ (s : State),
    (s.ports.resetLow = true) :=
  ⟨{ testBlank with ports := initPorts true false }, by decide +kernel⟩
theorem test_premises_ResetCommands_4 : ∃ (s : State) (r : Rx),
    (s.ports.inReset = false) ∧ (s.on F.BRU_BOOT_CFG_INBAND_EN = true) ∧ (le r.bytes 20 4 % 2 ^ 20 = ((s.reach r.t).consume r).ident) ∧ (slice r.bytes 32 16 = s.inbandMac r.bytes) ∧ (s.nonce < le r.bytes 24 8) ∧ (s.on F.TIM_STATUS_CADENCE_ADOPTED = false) :=
  ⟨testInband, testInbandRx, by decide +kernel, by decide +kernel, by decide +kernel, by decide +kernel, by decide +kernel, by decide +kernel⟩
theorem test_premises_ResetCommands_5 : ∃ (s : State),
    (s.bru.inbandDue = true) ∧ (s.ports.resetLow = false) :=
  ⟨{ testBlank with bru := { testBlank.bru with inbandDue := true } }, by decide +kernel, by decide +kernel⟩
theorem test_premises_ResetCommands_6 : ∃ (s : State) (r : Rx),
    (s.tko = none) :=
  ⟨testBlank, ⟨0, 0, false, 0, []⟩, by decide +kernel⟩
theorem test_premises_ResetCommands_7 : ∃ (s : State) (r : Rx),
    (s.tko = none) ∧ (s.uplinks.contains r.port = false) :=
  ⟨testBlank, ⟨99, 0, false, 0, []⟩, by decide +kernel, by decide +kernel⟩
theorem test_premises_ResetCommands_8 : ∃ (s : State) (a : Access) (w : Word),
    (s.servesPriv a = true) ∧ (F.BRU_INBAND_SEND.get w = 1) ∧ (s.loaded = true) ∧ (s.lstate (s.fld F.BRU_INBAND_TGT_PORT) = lsUp) :=
  ⟨testState [(F.BLK_ROLE, 1), (F.LNK_PORT_STATE_LSTATE 0, 2)], testHost, 1, by decide +kernel, by decide +kernel, by decide +kernel, by decide +kernel⟩
theorem test_premises_BlockCommands_1 : ∃ (s : State) (a : Access) (w : Word),
    (s.servesPriv a = true) ∧ (s.on F.BLK_STATE_PEND_VALID = false) ∧ (s.svc = svcService) ∧ (F.BLK_STATE_REQ_TARGET.get w = svcTest) :=
  ⟨testState [(F.BLK_STATE, 2)], testHost, 1, by decide +kernel, by decide +kernel, by decide +kernel, by decide +kernel⟩
theorem test_premises_BlockCommands_2 : ∃ (s : State),
    (s.svc = svcRecovery) ∧ (s.recoveryMet = true) :=
  ⟨testState [(F.BLK_STATE, 3), (F.BLK_STATE_ENTRY_CAUSE, 0x13)], by decide +kernel, by decide +kernel⟩
theorem test_premises_BlockCommands_3 : ∃ (s : State) (lane i : Nat) (x : Route),
    (lane < s.build.lanes) ∧ (s.img.tabs.routes[i]? = some x) ∧ (x.lane = lane) ∧ (x.alarm = false) ∧ (s.tileDown x.src = false) ∧ (s.tileDown x.dst = false) ∧ (s.bru.grants = []) :=
  ⟨{ testBlank with img := { initImg with tabs := { initImg.tabs with routes := [⟨20, 21, 0, false, 0, 0⟩] } } }, 0, 0, ⟨20, 21, 0, false, 0, 0⟩, by decide +kernel, by decide +kernel, by decide +kernel, by decide +kernel, by decide +kernel, by decide +kernel, by decide +kernel⟩
theorem test_premises_BlockCommands_4 : ∃ (s : State) (t x : Nat),
    ((tileOf s.build x).isSome = true) ∧ (s.tileDown x = false) ∧ (tileKind s.build x ≠ tkLedger) ∧ (s.svc ≠ svcBringup) ∧ (s.routed.contains x = false) :=
  ⟨testState [(F.BLK_STATE, 2)], 0, 24, by decide +kernel, by decide +kernel, by decide +kernel, by decide +kernel, by decide +kernel⟩
theorem test_premises_BlockCommands_5 : ∃ (s : State),
    (s.tal.asked.isSome = true) ∧ (s.ports.stallSub = []) :=
  ⟨{ testBlank with tal := { initTal with asked := some (0, 0) } }, by decide +kernel, by decide +kernel⟩
theorem test_premises_BlockCommands_6 : ∃ (s : State) (t : Nat),
    (s.ports.stallSub = []) :=
  ⟨testBlank, 0, by decide +kernel⟩
theorem test_premises_BlockCommands_7 : ∃ (s : State) (rate : BitVec 12),
    (s.fld F.BLK_SPEED_FLOOR = 0) :=
  ⟨testBlank, 500, by decide +kernel⟩
theorem test_premises_BlockCommands_8 : ∃ (s : State) (t : Nat) (x : HWrite) (rest : List HWrite),
    (s.ports.hwrites = x :: rest) ∧ (x.owner = .plan) :=
  ⟨{ testBlank with ports := { testBlank.ports with hwrites := [⟨0, [], .plan, true⟩] } }, 0, ⟨0, [], .plan, true⟩, [], by decide +kernel, by decide +kernel⟩
theorem test_premises_BlockCommands_9 : ∃ (s : State) (t : Nat) (d : BitVec 128) (j : Job) (rest : List Job),
    (s.ports.bootStalled = false) ∧ (s.ports.jobs = j :: rest) ∧ (j.kind ≠ .dump) ∧ (j.got.length + 16 < j.want) :=
  ⟨{ testBlank with ports := { testBlank.ports with jobs := [⟨.bringupImage, 0, 64, [], false⟩] } }, 0, 0, ⟨.bringupImage, 0, 64, [], false⟩, [], by decide +kernel, by decide +kernel, by decide +kernel, by decide +kernel⟩
theorem test_premises_BlockCommands_10 : ∃ (s : State) (t : Nat),
    (s.ports.inReset = false) :=
  ⟨testBlank, 0, by decide +kernel⟩
theorem test_premises_BlockCommands_11 : ∃ (s : State) (tms tdi : Bool),
    (s.testPort = true) ∧ (s.ports.tap = 1) :=
  ⟨{ testBlank with ports := { testBlank.ports with tap := 1 } }, true, false, by decide +kernel, by decide +kernel⟩
theorem test_premises_PowerCommands_1 : ∃ (s : State) (a : Access) (w : Word),
    (s.servesPriv a = true) ∧ (F.BLK_POWER_REQ_TARGET.get w = 1) ∧ (s.power = 0) ∧ (s.on F.BLK_POWER_PEND_VALID = false) ∧ ((s.reach a.t).powerBarred = false) :=
  ⟨testState [(F.BLK_STATE, 2)], testHost, 1, by decide +kernel, by decide +kernel, by decide +kernel, by decide +kernel, by decide +kernel⟩
theorem test_premises_PowerCommands_2 : ∃ (s : State),
    (s.on F.BLK_POWER_PEND_VALID = true) ∧ (s.power = 1) ∧ (s.fld F.BLK_POWER_PEND_TARGET = 2) ∧ (s.red.retained = []) :=
  ⟨testState [(F.BLK_POWER_STATE, 1), (F.BLK_POWER_PEND_VALID, 1), (F.BLK_POWER_PEND_TARGET, 2)], by decide +kernel, by decide +kernel, by decide +kernel, by decide +kernel⟩
theorem test_premises_PowerCommands_3 : ∃ (s : State) (r : Rx),
    (s.tko = none) ∧ (le r.bytes 24 1 ≠ 0) ∧ (s.mergeFor (le r.bytes 32 6) = none) :=
  ⟨testBlank, ⟨0, 0, false, 0, List.replicate 64 1⟩, by decide +kernel, by decide +kernel, by decide +kernel⟩
theorem test_premises_AccessCommands_1 : ∃ (s : State) (a : Access) (addr : Nat),
    (s.serves = true) ∧ (s.judge a addr false = .ok) ∧ (trayAddr addr = false) ∧ (groupOf addr = none) :=
  ⟨testBlank, testHost, 0x48, by decide +kernel, by decide +kernel, by decide +kernel, by decide +kernel⟩
theorem test_premises_AccessCommands_2 : ∃ (s : State) (a : Access),
    (s.serves = true) ∧ (s.judge a 0x010004 false = .ok) :=
  ⟨testBlank, testHost, by decide +kernel, by decide +kernel⟩
theorem test_premises_AccessCommands_3 : ∃ (s : State) (a : Access) (addr : Nat),
    (s.serves = true) ∧ (s.judge a addr false = .ok) ∧ (addr = 0x010044 ∨ addr = 0x01004C ∨ addr = 0x010054 ∨ addr = 0x010064) :=
  ⟨testBlank, testHost, 0x010064, by decide +kernel, by decide +kernel, by decide +kernel⟩
theorem test_premises_AccessCommands_4 : ∃ (s : State) (a : Access) (ctr : Nat),
    (s.serves = true) ∧ (s.judge a (0x200000 + 16 * ctr) false = .ok) ∧ (ctr < 131072) :=
  ⟨testBlank, testHost, 131071, by decide +kernel, by decide +kernel, by decide +kernel⟩
theorem test_premises_AccessCommands_5 : ∃ (s : State) (a : Access) (metric : Nat),
    (s.serves = true) ∧ (s.judge a (0x510000 + 64 * metric) false = .ok) ∧ (metric < 1024) :=
  ⟨testBlank, testHost, 1023, by decide +kernel, by decide +kernel, by decide +kernel⟩
theorem test_premises_AccessCommands_6 : ∃ (s : State) (a : Access) (cls : Nat),
    (s.serves = true) ∧ (s.judge a (0x580000 + 64 * cls) false = .ok) ∧ (cls < 64) :=
  ⟨testBlank, testKiosk, 63, by decide +kernel, by decide +kernel, by decide +kernel⟩
theorem test_premises_AccessCommands_7 : ∃ (s : State) (a : Access) (i : Nat),
    (s.serves = true) ∧ (s.judge a (0x600000 + 32 * i) false = .ok) ∧ (i < 32768) :=
  ⟨testBlank, testKiosk, 32767, by decide +kernel, by decide +kernel, by decide +kernel⟩
theorem test_premises_AccessCommands_8 : ∃ (s : State) (a : Access),
    (s.serves = true) ∧ (s.judge a 0x070040 false = .ok) :=
  ⟨testBlank, testKiosk, by decide +kernel, by decide +kernel⟩
theorem test_premises_AccessCommands_9 : ∃ (s : State) (a : Access) (cell : Nat),
    (s.serves = true) ∧ (s.judge a (0x5A0000 + 8 * cell) false = .ok) ∧ (cell < 256) :=
  ⟨testBlank, testHost, 255, by decide +kernel, by decide +kernel, by decide +kernel⟩
theorem test_premises_AccessCommands_10 : ∃ (s : State) (a : Access) (addr : Nat) (w : Word),
    (s.serves = true) ∧ (s.judge a addr true = .ok) ∧ (trayAddr addr = false) :=
  ⟨testBlank, testHost, 0x48, 5, by decide +kernel, by decide +kernel, by decide +kernel⟩
theorem test_premises_AccessCommands_11 : ∃ (s : State) (a : Access) (w : Word),
    (s.servesPriv a = true) :=
  ⟨testBlank, testHost, 0xFFFFFFFF, by decide +kernel⟩
theorem test_premises_AccessCommands_12 : ∃ (s : State) (a : Access) (w : Word),
    (s.servesPriv a = true) ∧ (a.src = .kioskM) ∧ (F.KSK_MBOX_H2K_POST.get w = 0) :=
  ⟨testBlank, testKiosk, 0, by decide +kernel, by decide +kernel, by decide +kernel⟩
theorem test_premises_AccessCommands_13 : ∃ (s : State) (a : Access) (w : Word),
    (s.servesPriv a = true) ∧ (a.src = .kioskM) :=
  ⟨testBlank, testKiosk, 0xFFFFFFFF, by decide +kernel, by decide +kernel⟩
theorem test_premises_AccessCommands_14 : ∃ (s : State) (a : Access),
    (s.servesPriv a = true) :=
  ⟨testBlank, testHost, by decide +kernel⟩
theorem test_premises_ClearingCommands : ∃ (s : State) (a : Access), s.servesPriv a = true :=
  ⟨testBlank, testHost, by decide +kernel⟩
theorem test_premises_TimeCommands_1 : ∃ (s : State),
    (s.on F.TIM_STATUS_TBREF_LOST = false) :=
  ⟨testBlank, by decide +kernel⟩
theorem test_premises_TimeCommands_3 : ∃ (s u : State),
    (s.injecting 7 = false) ∧ (u = (s.reachNs (s.tim.lastSyncTx + 1000 * 2 ^ clampN 3 10 (s.fld F.TIM_SYNC_CFG_LOG_SYNC)))) ∧ (s.servo = svLocked) :=
  ⟨testState [(F.TIM_STATUS_SERVO, 2)], (testState [(F.TIM_STATUS_SERVO, 2)]).reachNs 8000, by decide +kernel, rfl, by decide +kernel⟩
theorem test_premises_TimeCommands_4 : ∃ (s u : State),
    (u = s.reachNs (s.tim.lastPdTx + 1000 * 2 ^ clampN 6 14 (s.fld F.TIM_SYNC_CFG_LOG_PDELAY))) ∧ (s.timePorts = []) :=
  ⟨testBlank, testBlank.reachNs 64000, rfl, by decide +kernel⟩
theorem test_premises_TimeCommands_5 : ∃ (s : State) (p : Nat),
    (s.ports.powered = true) ∧ (s.timePorts = [p]) ∧ (s.tim.used.contains p = true) ∧ (s.on (F.TIM_ASYM_EXT_VALID p) = true) :=
  ⟨{ testState [(F.LNK_PORT_STATE_LSTATE 0, 2), (F.LNK_PORT_FUNC 0, 1), (F.TIM_ASYM_EXT_VALID 0, 1)] with tim := { initTim 1000000 20 with used := [0] } }, 0, by decide +kernel, by decide +kernel, by decide +kernel, by decide +kernel⟩
theorem test_premises_TimeCommands_6 : ∃ (s : State) (r : Rx),
    (s.ports.powered = true) ∧ (s.upstreams = [r.port]) ∧ (s.on F.TIM_STATUS_ACTING_GM = false) ∧ (s.tim.heard = []) ∧ (s.servo = svLocked) ∧ (r.port < 96) :=
  ⟨testState [(F.TIM_STATUS_SERVO, 2), (F.TIM_UPSTREAM_PORT0, 0), (F.TIM_UPSTREAM_PORT1, 127), (F.TIM_UPSTREAM_PORT2, 127), (F.TIM_UPSTREAM_PORT3, 127)], ⟨0, 0, false, 0, List.replicate 128 0⟩, by decide +kernel, by decide +kernel, by decide +kernel, by decide +kernel, by decide +kernel, by decide +kernel⟩
theorem test_premises_TimeCommands_7 : ∃ (s : State) (r : Rx) (tr cor off : Int),
    (s.tim.syncRx = [(r.port, ptpSeqId r.bytes, tr, cor)]) ∧ (s.on F.TIM_STATUS_ACTING_GM = false) ∧ (s.tim.measured.contains r.port = true) ∧ (s.servo = svAcquire) ∧ (s.tim.samples.length < 15) ∧ (s.ports.powered = true) ∧ (off = tr - (ptpNs r.bytes : Int) * 65536 - ((s.fld (F.TIM_ASYM_DELAY_MEAN_DELAY r.port) : Int) * 8192 + s.asym r.port) - (cor + rxCorr r)) :=
  ⟨{ testState [(F.TIM_STATUS_SERVO, 1)] with tim := { initTim 1000000 20 with syncRx := [(0, 0, 0, 0)], measured := [0] } }, ⟨0, 0, false, 0, List.replicate 128 0⟩, 0, 0, 0, by decide +kernel, by decide +kernel, by decide +kernel, by decide +kernel, by decide +kernel, by decide +kernel, by decide +kernel⟩
theorem test_premises_TimeCommands_9 : ∃ (s : State) (r : Rx) (d : Pdelay),
    (s.tim.pdelay = [d]) ∧ (d.port = r.port) ∧ (d.seq = ptpSeqId r.bytes) :=
  ⟨{ testBlank with tim := { initTim 1000000 20 with pdelay := [⟨0, 0, 0, none, 0⟩] } }, ⟨0, 0, false, 0, List.replicate 128 0⟩, ⟨0, 0, 0, none, 0⟩, by decide +kernel, by decide +kernel, by decide +kernel⟩
theorem test_premises_TimeCommands_10 : ∃ (s : State) (r : Rx) (t1 t2 t4 : Int),
    (s.tim.pdelay = [⟨r.port, ptpSeqId r.bytes, t1, some t2, t4⟩]) ∧ (s.ports.powered = true) ∧ (r.port < 96) :=
  ⟨{ testBlank with tim := { initTim 1000000 20 with pdelay := [⟨0, 0, 0, some 0, 65536⟩] } }, ⟨0, 0, false, 0, List.replicate 128 0⟩, 0, 0, 65536, by decide +kernel, by decide +kernel, by decide +kernel⟩
theorem test_premises_TimeCommands_11 : ∃ (s : State) (h : Heard),
    (s.ports.powered = true) ∧ (s.on F.TIM_STATUS_TBREF_LOST = false) ∧ (s.tim.heard = [h]) ∧ (h.port = s.fld F.TIM_STATUS_UP_PORT) ∧ (s.on F.TIM_STATUS_ACTING_GM = false) ∧ (s.servo = svLocked) :=
  ⟨{ testState [(F.TIM_STATUS_SERVO, 2)] with tim := { initTim 1000000 20 with heard := [⟨0, 5, 0, 1⟩] } }, ⟨0, 5, 0, 1⟩, by decide +kernel, by decide +kernel, by decide +kernel, by decide +kernel, by decide +kernel, by decide +kernel⟩
theorem test_premises_TimeCommands_12 : ∃ (s : State),
    (s.on F.TIM_STATUS_ACTING_GM = false) ∧ (s.fld F.TIM_GM_RANK = 0 ∧ s.tim.everSync = false ∨ 0 < s.fld F.TIM_GM_RANK ∧ s.fld F.TIM_GM_RANK < 7 ∧ (s.servo = svLocked ∨ s.servo = svHoldover)) :=
  ⟨testState [(F.TIM_GM_RANK, 1), (F.TIM_STATUS_SERVO, 3)], by decide +kernel, by decide +kernel⟩
theorem test_premises_TimeCommands_13 : ∃ (s : State) (a : Access) (w : Word),
    (s.servesPriv a = true) ∧ (s.svc = svcTest ∨ s.svc = svcRecovery) ∧ (s.on F.TIM_STATUS_ACTING_GM = false) :=
  ⟨testState [(F.BLK_STATE, 1), (F.TIM_STATUS_SERVO, 2)], testHost, 0, by decide +kernel, by decide +kernel, by decide +kernel⟩
theorem test_premises_TimeCommands_14 : ∃ (s : State) (a : Access) (w : Word),
    (s.servesPriv a = true) ∧ (s.fld F.TIM_GM_RANK = 0) :=
  ⟨testBlank, testHost, 0, by decide +kernel, by decide +kernel⟩
theorem test_premises_TimeCommands_15 : ∃ (s : State) (a : Access) (w : Word),
    (s.servesPriv a = true) ∧ (s.on F.TIM_STATUS_ACTING_GM = true) ∧ ((w.toInt.natAbs : Int) * 65536 ≤ s.jumpLimit) :=
  ⟨testState [(F.TIM_STATUS_ACTING_GM, 1)], testHost, 50, by decide +kernel, by decide +kernel, by decide +kernel⟩
theorem test_premises_TimeCommands_16 : ∃ (s : State) (a : Access) (w : Word),
    (s.servesPriv a = true) ∧ (s.on F.TIM_STATUS_ACTING_GM = false ∨ s.jumpLimit < (w.toInt.natAbs : Int) * 65536) :=
  ⟨testBlank, testHost, 1, by decide +kernel, by decide +kernel⟩
theorem test_premises_CadenceCommands_1 : ∃ (s : State) (a : Access) (w : Word),
    (s.servesPriv a = true) ∧ (s.cadenceSource = true) ∧ (100 ≤ F.TIM_EPOCH_PERIOD_PERIOD_US.get w) ∧ (F.TIM_EPOCH_PERIOD_PERIOD_US.get w ≤ 1000000) :=
  ⟨testState [(F.TIM_CTRL_CADENCE_SRC, 1)], testHost, 500, by decide +kernel, by decide +kernel, by decide +kernel, by decide +kernel⟩
theorem test_premises_CadenceCommands_2 : ∃ (s : State) (a : Access) (w : Word),
    (s.servesPriv a = true) ∧ (s.cadenceSource = true) ∧ (F.TIM_EPOCH_PERIOD_PERIOD_US.get w < 100 ∨ 1000000 < F.TIM_EPOCH_PERIOD_PERIOD_US.get w) :=
  ⟨testState [(F.TIM_CTRL_CADENCE_SRC, 1)], testHost, 5, by decide +kernel, by decide +kernel, by decide +kernel⟩
theorem test_premises_CadenceCommands_3 : ∃ (s : State) (a : Access) (w : Word),
    (s.servesPriv a = true) :=
  ⟨testBlank, testHost, 1000, by decide +kernel⟩
theorem test_premises_CadenceCommands_4 : ∃ (s : State) (r : Rx),
    (s.fld F.TIM_STATUS_UP_PORT = r.port) ∧ (r.port ≠ 0x7F) ∧ (s.cadenceSource = false) ∧ (s.on F.TIM_STATUS_CADENCE_ADOPTED = false) ∧ (s.servo = svLocked) ∧ (s.ports.powered = true) ∧ ((s.reach r.t).nowNs < le r.bytes 32 8) ∧ (le r.bytes 40 4 < 2 ^ 20) :=
  ⟨testState [(F.TIM_STATUS_SERVO, 2)], ⟨0, 0, false, 0, List.replicate 32 0 ++ [7] ++ List.replicate 31 0⟩, by decide +kernel, by decide +kernel, by decide +kernel, by decide +kernel, by decide +kernel, by decide +kernel, by decide +kernel, by decide +kernel⟩
theorem test_premises_CadenceCommands_5 : ∃ (s : State) (n : Nat),
    (s.fld F.TIM_CTRL_SYNC_MODE = 1) ∧ (s.ports.inReset = false) :=
  ⟨testState [(F.TIM_CTRL_SYNC_MODE, 1)], 80, by decide +kernel, by decide +kernel⟩
theorem test_premises_CadenceCommands_6 : ∃ (s : State),
    (s.on F.TIM_STATUS_TBREF_LOST = false) ∧ (s.ports.powered = true) :=
  ⟨testBlank, by decide +kernel, by decide +kernel⟩
theorem test_premises_CadenceCommands_7 : ∃ (s : State) (cl : Closed),
    (s.tim.closed = some cl) ∧ (s.on F.TIM_STATUS_TBREF_LOST = false) :=
  ⟨{ testBlank with tim := { initTim 1000000 20 with closed := some (testBlank.closeAt 1000000) } }, testBlank.closeAt 1000000, by decide +kernel, by decide +kernel⟩
theorem test_premises_CadenceCommands_8 : ∃ (s : State) (a : Access) (k : Nat) (w : Word),
    (s.servesPriv a = true) ∧ (k < 8) ∧ (2 ≤ s.fld (F.TIM_PULSE_WIDTH k)) ∧ (s.fld (F.TIM_PULSE_PERIOD k) = 0 ∨ 8 ≤ s.fld (F.TIM_PULSE_PERIOD k) ∧ s.fld (F.TIM_PULSE_WIDTH k) + 2 ≤ s.fld (F.TIM_PULSE_PERIOD k)) ∧ ((s.pulse k).trailing = none) :=
  ⟨testState [(F.TIM_PULSE_WIDTH 3, 10)], testHost, 3, 1, by decide +kernel, by decide +kernel, by decide +kernel, by decide +kernel, by decide +kernel⟩
theorem test_premises_CadenceCommands_9 : ∃ (s : State) (a : Access) (k : Nat) (w : Word),
    (s.servesPriv a = true) ∧ (k < 8) ∧ (s.fld (F.TIM_PULSE_WIDTH k) < 2) :=
  ⟨testBlank, testHost, 3, 1, by decide +kernel, by decide +kernel, by decide +kernel⟩
theorem test_premises_CadenceCommands_10 : ∃ (s : State) (a : Access) (k : Nat) (w : Word),
    (s.servesPriv a = true) ∧ (k < 8) ∧ ((s.pulse k).trailing = none) :=
  ⟨testBlank, testHost, 3, 0, by decide +kernel, by decide +kernel, by decide +kernel⟩
theorem test_premises_CadenceCommands_11 : ∃ (s : State) (k n : Nat),
    ((s.pulse k).next = some n) ∧ (s.on F.TIM_STATUS_TBREF_LOST = false) :=
  ⟨{ testBlank with tim := { initTim 1000000 20 with pulses := List.replicate 8 { idlePulse with next := some 500 } } }, 7, 500, by decide +kernel, by decide +kernel⟩
theorem test_premises_CadenceCommands_12 : ∃ (s : State) (k n : Nat),
    ((s.pulse k).trailing = some n) ∧ ((s.pulse k).rearm = false) :=
  ⟨{ testBlank with tim := { initTim 1000000 20 with pulses := List.replicate 8 { idlePulse with trailing := some 500 } } }, 7, 500, by decide +kernel, by decide +kernel⟩
theorem test_premises_TallyCommands_1 : ∃ (s : State),
    (s.tallyRuns = true) ∧ (s.act F.TAL_CTRL_SWEEP_EN = 1) ∧ (s.tal.sweepAt = none) :=
  ⟨{ testState [(F.BLK_ROLE, 1)] with inForce := [(0x020000, 1)] }, by decide +kernel, by decide +kernel, by decide +kernel⟩
theorem test_premises_TallyCommands_2 : ∃ (s u : State),
    (u = s.reachNs (s.tim.nextNs - s.prepassNs)) ∧ (u.tallyRuns = true) ∧ (u.act F.TAL_CTRL_BRACKET_EN = 1) ∧ (u.tal.preDone = false) :=
  ⟨{ testState [(F.BLK_ROLE, 1)] with inForce := [(0x020000, 0xFF)] }, ({ testState [(F.BLK_ROLE, 1)] with inForce := [(0x020000, 0xFF)] }).reachNs 1000000, rfl, by decide +kernel, by decide +kernel, by decide +kernel⟩
theorem test_premises_TallyCommands_3 : ∃ (s u : State) (t id : Nat) (value : BitVec 48) (gen status : BitVec 4) (c : Ctr),
    (s.tal.asked = some (0, id)) ∧ (s.tallyRuns = true) ∧ (u = (((s.reach t).unstall 1 0).setTal { s.tal with asked := none })) ∧ (bit status.toNat stFault = false) ∧ (bit status.toNat stNotCounting = false) ∧ (gen.toNat = s.fld (F.MAP_A_GEN id)) ∧ (s.ctrMode id = 0) ∧ (id < 131072) ∧ (c = { s.ctr id with status := status.toNat, gen := gen.toNat }) :=
  ⟨testTal { initTal with asked := some (0, 5) }, (((testTal { initTal with asked := some (0, 5) }).reach 0).unstall 1 0).setTal { initTal with asked := none }, 0, 5, 7, 0, 0, newCtr 5, by decide +kernel, by decide +kernel, rfl, by decide +kernel, by decide +kernel, by decide +kernel, by decide +kernel, by decide +kernel, by decide +kernel⟩
theorem test_premises_TallyCommands_4 : ∃ (s : State) (t id : Nat) (value : BitVec 48) (gen status : BitVec 4),
    (s.tal.asked = some (0, id)) ∧ (s.tallyRuns = true) ∧ (bit status.toNat stFault = true) :=
  ⟨testTal { initTal with asked := some (0, 5) }, 0, 5, 7, 0, 8, by decide +kernel, by decide +kernel, by decide +kernel⟩
theorem test_premises_TallyCommands_5 : ∃ (s : State) (id : Nat),
    (4 ≤ (s.ctr id).mmEpochs) ∧ ((s.ctr id).mmTold = false) :=
  ⟨{ testBlank with tal := { initTal with ctrs := [{ newCtr 5 with mmEpochs := 4 }] } }, 5, by decide +kernel, by decide +kernel⟩
theorem test_premises_TallyCommands_6 : ∃ (s : State) (a : Access) (id : Nat) (w : Word),
    (s.serves = true) ∧ (s.judge a (0x400000 + 8 * id) true = .ok) ∧ (id < 131072) ∧ (s.tim.closed = none) :=
  ⟨testBlank, testHost, 77, 0x200005, by decide +kernel, by decide +kernel, by decide +kernel, by decide +kernel⟩
theorem test_premises_TallyCommands_7 : ∃ (s : State) (a : Access) (id : Nat) (w : Word),
    (s.serves = true) ∧ (s.judge a (0x400000 + 8 * id) true = .ok) ∧ (id < 131072) ∧ (s.tim.closed.isSome = true) :=
  ⟨{ testBlank with tim := { testBlank.tim with closed := some (testBlank.closeAt 0) } }, testHost, 77, 0x200005, by decide +kernel, by decide +kernel, by decide +kernel, by decide +kernel⟩
theorem test_premises_TallyCommands_8 : ∃ (s : State) (t : Nat) (typ : Byte) (body : BitVec 120),
    (s.ports.powered = true) ∧ (s.ports.inReset = false) ∧ (s.srv.fifo.length < 256) ∧ (s.typeKnown typ.toNat = true) :=
  ⟨testBlank, 0, 0x10, 0, by decide +kernel, by decide +kernel, by decide +kernel, by decide +kernel⟩
theorem test_premises_TallyCommands_9 : ∃ (s : State) (t : Nat) (typ : Byte) (body : BitVec 120),
    (s.ports.powered = true) ∧ (s.ports.inReset = false) ∧ (256 ≤ s.srv.fifo.length) ∧ (digestType typ.toNat = false) ∧ (typ ≠ 0x21) ∧ (typ ≠ 0x13) :=
  ⟨{ testBlank with srv := { initSrv with fifo := List.replicate 256 (0, ⟨0, 0⟩) } }, 0, 0x10, 0, by decide +kernel, by decide +kernel, by decide +kernel, by decide +kernel, by decide +kernel, by decide +kernel⟩
theorem test_premises_TallyCommands_10 : ∃ (s u : State) (r : Report) (id : Nat) (k : EvtInfo),
    (u = (s.takeReport 0x10 r).feedReport 0x10 r) ∧ (id = repCtr r 0x10 1 2) ∧ (u.on (F.MAP_A_PRESENT id) = true) ∧ (u.ctrMode id = 2) ∧ (u.evtInfo (u.fld (F.MAP_A_EVENT id)) = some k) ∧ (k.postOk = true) ∧ (u.act F.TAL_CTRL_RA_EN = 1) ∧ (u.tal.tickets = []) ∧ (u.tal.entryCount = 0) ∧ (u.tim.closed = none) :=
  ⟨testMap 2 [⟨3, 0, false, true, 0, 0, 0⟩], ((testMap 2 [⟨3, 0, false, true, 0, 0, 0⟩]).takeReport 0x10 ⟨0, 0⟩).feedReport 0x10 ⟨0, 0⟩, ⟨0, 0⟩, 0, ⟨3, 0, false, true, 0, 0, 0⟩, rfl, by decide +kernel, by decide +kernel, by decide +kernel, by decide +kernel, by decide +kernel, by decide +kernel, by decide +kernel, by decide +kernel, by decide +kernel⟩
theorem test_premises_TallyCommands_11 : ∃ (s u : State) (r : Report),
    (u = (s.takeReport 0x11 r).feedReport 0x11 r) ∧ (u.tal.tickets.any (fun k => k.num = rf r 0x11 0) = true) :=
  ⟨{ testBlank with tal := { initTal with tickets := [⟨0, [], 0⟩] } }, (({ testBlank with tal := { initTal with tickets := [⟨0, [], 0⟩] } }).takeReport 0x11 ⟨0, 0⟩).feedReport 0x11 ⟨0, 0⟩, ⟨0, 0⟩, rfl, by decide +kernel⟩
theorem test_premises_TallyCommands_12 : ∃ (s u : State) (r : Report),
    (u = (s.takeReport 0x12 r).feedReport 0x12 r) ∧ (u.tal.tickets.any (fun k => k.num = rf r 0x12 0) = true) :=
  ⟨{ testBlank with tal := { initTal with tickets := [⟨0, [], 0⟩] } }, (({ testBlank with tal := { initTal with tickets := [⟨0, [], 0⟩] } }).takeReport 0x12 ⟨0, 0⟩).feedReport 0x12 ⟨0, 0⟩, ⟨0, 0⟩, rfl, by decide +kernel⟩
theorem test_premises_TallyCommands_13 : ∃ (s : State) (k : Ticket),
    (s.tal.tickets.find? (fun x => x.num = k.num) = some k) ∧ (s.raTimeout ≤ k.age) :=
  ⟨{ testBlank with tal := { initTal with tickets := [⟨0, [], 9⟩] } }, ⟨0, [], 9⟩, by decide +kernel, by decide +kernel⟩
theorem test_premises_TallyCommands_14 : ∃ (s u : State) (r : Report) (id : Nat) (c : Ctr),
    (u = (s.takeReport 0x13 r).feedReport 0x13 r) ∧ (id = repCtr r 0x13 0 1) ∧ (u.on (F.MAP_A_PRESENT id) = true) ∧ (u.ctrMode id = 1) ∧ (u.act F.TAL_CTRL_SAMPLE_EN ≠ 0) ∧ (u.bankAt r.t = some false) ∧ (u.tal.sampled < u.fld F.TAL_SAMPLE_CFG_MAX_PER_EPOCH) ∧ (u.evtInfo (u.fld (F.MAP_A_EVENT id)) = none) ∧ (c = u.ctr id) :=
  ⟨testMap 1 [], ((testMap 1 []).takeReport 0x13 ⟨0, 0⟩).feedReport 0x13 ⟨0, 0⟩, ⟨0, 0⟩, 0, newCtr 0, rfl, by decide +kernel, by decide +kernel, by decide +kernel, by decide +kernel, by decide +kernel, by decide +kernel, by decide +kernel, by decide +kernel⟩
theorem test_premises_TallyCommands_15 : ∃ (s : State) (typ : Byte) (r : Report),
    (((s.takeReport typ.toNat r).hostFields typ.toNat).isEmpty = false) :=
  ⟨{ testBlank with img := { initImg with tabs := { initImg.tabs with reports := [⟨0x80, 0, 0, 8, 0⟩] } } }, 0x80, ⟨0, 0⟩, by decide +kernel⟩
theorem test_premises_TallyCommands_16 : ∃ (s : State) (v : MetricValue) (closing : Bool),
    (s.collects = true) ∧ (v.metric < 1024) ∧ (s.act F.SCL_CTRL_ACC_EN ≠ 0) ∧ (s.bankAt v.t = some closing) :=
  ⟨{ testState [(F.BLK_ROLE, 1)] with inForce := [(0x030000, 1)] }, ⟨1023, 5, 0, 0, 0⟩, false, by decide +kernel, by decide +kernel, by decide +kernel, by decide +kernel⟩
theorem test_premises_TallyCommands_17 : ∃ (s : State) (v : MetricValue),
    (s.collects = true) ∧ (v.metric < 1024) ∧ (s.act F.SCL_CTRL_ACC_EN ≠ 0) ∧ (s.bankAt v.t = none) ∧ (s.act F.SCL_CTRL_LATE_MODE ≠ 1) :=
  ⟨{ testState [(F.BLK_ROLE, 1)] with inForce := [(0x030000, 1)], tim := { initTim 1000000 20 with openNs := 100 } }, ⟨1023, 5, 0, 0, 0⟩, by decide +kernel, by decide +kernel, by decide +kernel, by decide +kernel, by decide +kernel⟩
theorem test_premises_ReductionCommands_1 : ∃ (s u : State) (r : Rx) (parts : List Bytes) (k : Child),
    (u = (s.reach r.t).consume r) ∧ (u.tko = none) ∧ (u.loaded = true) ∧ (u.merging = true) ∧ (childFor (u.kidsAt (le r.bytes 16 6)) (recKey r.bytes) r.port = some k) :=
  ⟨testMerge [], ((testMerge []).reach 0).consume ⟨0, 0, false, 0, List.replicate 128 0⟩, ⟨0, 0, false, 0, List.replicate 128 0⟩, [], testChild, rfl, by decide +kernel, by decide +kernel, by decide +kernel, by decide +kernel⟩
theorem test_premises_ReductionCommands_2 : ∃ (s u : State) (r : Rx) (parts : List Bytes),
    (u = (s.reach r.t).consume r) ∧ (u.tko = none) ∧ (u.loaded = true) ∧ (u.merging = false) :=
  ⟨testTal initTal, ((testTal initTal).reach 0).consume ⟨0, 0, false, 0, List.replicate 128 0⟩, ⟨0, 0, false, 0, List.replicate 128 0⟩, [], rfl, by decide +kernel, by decide +kernel, by decide +kernel⟩
theorem test_premises_ReductionCommands_3 : ∃ (s : State) (m : MergeSt),
    (s.oldestMerge (fun m => !m.started) = some m) ∧ (s.merging = true) ∧ (s.injecting 4 = false) :=
  ⟨testMerge [testMs], testMs, by decide +kernel, by decide +kernel, by decide +kernel⟩
theorem test_premises_ReductionCommands_4 : ∃ (s : State) (m : MergeSt),
    (s.injecting 4 = false) ∧ (s.oldestMerge (fun m => m.started && !m.complete) = some m) :=
  ⟨testMerge [testMs1], testMs1, by decide +kernel, by decide +kernel⟩
theorem test_premises_ReductionCommands_5 : ∃ (s u : State) (r : Rx) (recs : List Bytes),
    (u = (s.reach r.t).consume r) ∧ (u.tko = none) ∧ (u.loaded = true) ∧ (u.merging = false) :=
  ⟨testTal initTal, ((testTal initTal).reach 0).consume ⟨0, 0, false, 0, List.replicate 128 0⟩, ⟨0, 0, false, 0, List.replicate 128 0⟩, [], rfl, by decide +kernel, by decide +kernel, by decide +kernel⟩
theorem test_premises_ReductionCommands_6 : ∃ (s u : State) (r : Rx) (recs : List Bytes) (k : Child) (head : Bytes),
    (u = (s.reach r.t).consume r) ∧ (u.tko = none) ∧ (u.loaded = true) ∧ (u.merging = true) ∧ (bundleChild u.children (recKey r.bytes) r.port = some k) ∧ (k.excl = false) ∧ (childFor u.children (recKey r.bytes) r.port = none) ∧ (recs.find? (fun b => recKind b = 0x20) = some head) ∧ (u.mergeStarted (le r.bytes 16 6) = true) ∧ (u.isRoot = false) :=
  ⟨testMerge [testMs1], ((testMerge [testMs1]).reach 0).consume ⟨0, 0, false, 0, 33#8 :: 8#8 :: List.replicate 126 0⟩, ⟨0, 0, false, 0, 33#8 :: 8#8 :: List.replicate 126 0⟩, [32#8 :: List.replicate 127 0], testChild, 32#8 :: List.replicate 127 0, rfl, by decide +kernel, by decide +kernel, by decide +kernel, by decide +kernel, by decide +kernel, by decide +kernel, by decide +kernel, by decide +kernel, by decide +kernel⟩
theorem test_premises_ReductionCommands_7 : ∃ (s u : State) (r : Rx),
    (u = (s.reach r.t).consume r) ∧ (u.tko = none) ∧ (u.loaded = true) ∧ (u.merging = true) :=
  ⟨testMerge [], ((testMerge []).reach 0).consume ⟨0, 0, false, 0, List.replicate 128 0⟩, ⟨0, 0, false, 0, List.replicate 128 0⟩, rfl, by decide +kernel, by decide +kernel, by decide +kernel⟩
theorem test_premises_ReductionCommands_8 : ∃ (s u : State) (r : Rx),
    (u = (s.reach r.t).consume r) ∧ (u.tko = none) ∧ (u.loaded = true) ∧ (u.merging = true) ∧ ((u.hashRec r.bytes).tim.epoch - le r.bytes 16 6 ≤ (u.hashRec r.bytes).lateWindow) ∧ ((u.hashRec r.bytes).mergeStarted (le r.bytes 16 6) = false) :=
  ⟨testMerge [], ((testMerge []).reach 0).consume ⟨0, 0, false, 0, List.replicate 128 0⟩, ⟨0, 0, false, 0, List.replicate 128 0⟩, rfl, by decide +kernel, by decide +kernel, by decide +kernel, by decide +kernel, by decide +kernel⟩
theorem test_premises_ReductionCommands_9 : ∃ (s u : State) (r : Rx),
    (u = (s.reach r.t).consume r) ∧ (u.tko = none) ∧ (u.loaded = true) ∧ (u.merging = false) :=
  ⟨testTal initTal, ((testTal initTal).reach 0).consume ⟨0, 0, false, 0, List.replicate 128 0⟩, ⟨0, 0, false, 0, List.replicate 128 0⟩, rfl, by decide +kernel, by decide +kernel, by decide +kernel⟩
theorem test_premises_ReductionCommands_10 : ∃ (s u : State) (r : Rx),
    (u = (s.reach r.t).consume r) ∧ (u.tko = none) ∧ (u.loaded = true) ∧ (u.merging = true) ∧ (u.level ≠ 1) ∧ (childFor u.children (recKey r.bytes) r.port = none) :=
  ⟨testMerge [], ((testMerge []).reach 0).consume ⟨0, 0, false, 0, 33#8 :: 8#8 :: List.replicate 126 0⟩, ⟨0, 0, false, 0, 33#8 :: 8#8 :: List.replicate 126 0⟩, rfl, by decide +kernel, by decide +kernel, by decide +kernel, by decide +kernel, by decide +kernel⟩
theorem test_premises_ReductionCommands_11 : ∃ (s u : State) (r : Rx),
    (u = (s.reach r.t).consume r) ∧ (u.tko = none) ∧ (u.loaded = true) ∧ (u.merging = true) :=
  ⟨testMerge [], ((testMerge []).reach 0).consume ⟨0, 0, false, 0, List.replicate 128 0⟩, ⟨0, 0, false, 0, List.replicate 128 0⟩, rfl, by decide +kernel, by decide +kernel, by decide +kernel⟩
theorem test_premises_ReductionCommands_12 : ∃ (s u : State) (r : Rx),
    (u = (s.reach r.t).consume r) ∧ (u.tko = none) ∧ (u.level < 3) :=
  ⟨testTal initTal, ((testTal initTal).reach 0).consume ⟨0, 0, false, 0, List.replicate 128 0⟩, ⟨0, 0, false, 0, List.replicate 128 0⟩, rfl, by decide +kernel, by decide +kernel⟩
theorem test_premises_ReductionCommands_13 : ∃ (s u : State) (r : Rx) (x : Retained),
    (u = (s.reach r.t).consume r) ∧ (u.tko = none) ∧ (u.red.retained = [x]) ∧ (x.epoch = le r.bytes 24 6) ∧ (x.seq = le r.bytes 32 4) ∧ (x.kids = []) :=
  ⟨{ testBlank with red := { initRed with retained := [⟨0, 0, [], [], 0⟩] } }, (({ testBlank with red := { initRed with retained := [⟨0, 0, [], [], 0⟩] } } : State).reach 0).consume ⟨0, 0, false, 0, List.replicate 128 0⟩, ⟨0, 0, false, 0, List.replicate 128 0⟩, ⟨0, 0, [], [], 0⟩, rfl, by decide +kernel, by decide +kernel, by decide +kernel, by decide +kernel, by decide +kernel⟩
theorem test_premises_ReductionCommands_14 : ∃ (s : State) (a : Access) (w : Word),
    (s.servesPriv a = true) ∧ (s.tim.epoch < s.fld F.RED_DRL_EPOCH_LO + 2 ^ 32 * s.fld F.RED_DRL_EPOCH_HI) :=
  ⟨testState [(F.RED_DRL_EPOCH_LO, 5)], testHost, 1, by decide +kernel, by decide +kernel⟩
theorem test_premises_ReductionCommands_15 : ∃ (s : State) (a : Access) (w : Word),
    (s.servesPriv a = true) ∧ (s.fld F.RED_DRL_EPOCH_LO + 2 ^ 32 * s.fld F.RED_DRL_EPOCH_HI ≤ s.tim.epoch) :=
  ⟨testBlank, testHost, 1, by decide +kernel, by decide +kernel⟩
theorem test_premises_ModelCommands_1 : ∃ (s : State) (n : Nat) (err : StoreErr) (x : Row) (rest : List Row),
    ((s.slot n).rows = x :: rest) ∧ (s.con.inject = none) ∧ (x.kind = 0) ∧ (x.late = false) :=
  ⟨testSlot [⟨0, 0, 0, 0, [], 0, 0, false⟩], 0, .none, ⟨0, 0, 0, 0, [], 0, 0, false⟩, [], by decide +kernel, by decide +kernel, by decide +kernel, by decide +kernel⟩
theorem test_premises_ModelCommands_2 : ∃ (s : State) (n : Nat) (x : Row) (rest : List Row),
    (s.ports.powered = true) ∧ ((s.slot n).rows = x :: rest) ∧ (s.con.inject = none) ∧ (s.inf.slots.any (fun y => y.num = n) = true) ∧ (x.kind = 0) ∧ (x.gen ≠ (s.slot n).gen) ∧ (x.gen ≠ (s.slot n).oldGen) :=
  ⟨testSlot [⟨0, 0, 0, 0, [], 0, 9, false⟩], 0, ⟨0, 0, 0, 0, [], 0, 9, false⟩, [], by decide +kernel, by decide +kernel, by decide +kernel, by decide +kernel, by decide +kernel, by decide +kernel, by decide +kernel⟩
theorem test_premises_ModelCommands_3 : ∃ (s : State) (m : MergeSt),
    (s.oldestMerge (fun m => !m.ready) = some m) :=
  ⟨testMerge [testMs], testMs, by decide +kernel⟩
theorem test_premises_ModelCommands_4 : ∃ (s : State) (m : MergeSt),
    (s.tko = none) ∧ (s.oldestMerge (fun m => m.started && !m.sent) = some m) :=
  ⟨testMerge [testMs1], testMs1, by decide +kernel, by decide +kernel⟩
theorem test_premises_ModelCommands_5 : ∃ (s : State) (n t : Nat) (v : MetricValue) (im : Bytes) (q : Int) (g : Nat),
    (s.infers = true) ∧ (s.act F.INF_CTRL_STREAM_EN ≠ 0) ∧ ((s.slot n).suspended = false) ∧ ((toFixed (rawVal (s.metricDef false v.metric).fmt v.raw.toNat) (s.metricDef false v.metric).frac).1 = some q) ∧ ((s.slot n).version (s.epochOf t) = (g, some im)) ∧ (mKind im = 0) ∧ (((s.slot n).rows.filter (fun r => r.kind = 0)).length < 64) :=
  ⟨testStream, 0, 0, ⟨0, 0, 0, 0, 0⟩, List.replicate 256 0, 0, 0, by decide +kernel, by decide +kernel, by decide +kernel, by decide +kernel, by decide +kernel, by decide +kernel, by decide +kernel⟩
theorem test_premises_ModelCommands_6 : ∃ (s : State) (a : Access) (d : Nat) (w : Word),
    (s.serves = true) ∧ (s.judge a (0x560010 + 32 * d) true = .ok) ∧ (d < 512) :=
  ⟨testBlank, testHost, 7, 1, by decide +kernel, by decide +kernel, by decide +kernel⟩
theorem test_premises_ModelCommands_7 : ∃ (s u : State) (a : Access) (w : Word),
    (s.servesPriv a = true) ∧ (u = ((s.reach a.t).plainWrite 0x050040 w)) ∧ (u.fld F.INF_MDL_STAT_LOAD_STATE = 0) ∧ (u.on F.INF_MDL_CTRL_SRC = false) :=
  ⟨testBlank, ((testBlank).reach 0).plainWrite 0x050040 1, testHost, 1, by decide +kernel, rfl, by decide +kernel, by decide +kernel⟩
theorem test_premises_ModelCommands_8 : ∃ (s u : State) (n : Nat) (b : Bytes) (err : Bool),
    (s.inf.fetched = some (n, b, err)) ∧ (u = s.setInf { s.inf with fetched := none }) :=
  ⟨testFetched, testFetched.setInf { testFetched.inf with fetched := none }, 0, [], false, by decide +kernel, rfl⟩
theorem test_premises_ModelCommands_9 : ∃ (s u : State) (a : Access) (w : Word),
    (s.servesPriv a = true) ∧ (u = ((s.reach a.t).plainWrite 0x050040 w)) ∧ ((u.slot u.mdlSlot).next.isSome = true) ∧ (u.tim.epoch < u.mdlTarget) ∧ (((u.slot u.mdlSlot).next.map mCatId) = some (u.fld F.SCL_CAT_ID)) :=
  ⟨testSlotN, ((testSlotN).reach 0).plainWrite 0x050040 2, testHost, 2, by decide +kernel, rfl, by decide +kernel, by decide +kernel, by decide +kernel⟩
theorem test_premises_ModelCommands_10 : ∃ (s u : State) (a : Access) (w : Word),
    (s.servesPriv a = true) ∧ (u = ((s.reach a.t).plainWrite 0x050040 w)) ∧ ((u.slot u.mdlSlot).next.isSome = true) ∧ (u.mdlTarget ≤ u.tim.epoch) :=
  ⟨testSlotL, ((testSlotL).reach 0).plainWrite 0x050040 2, testHost, 2, by decide +kernel, rfl, by decide +kernel, by decide +kernel⟩
theorem test_premises_ModelCommands_11 : ∃ (s u : State) (a : Access) (w : Word),
    (s.servesPriv a = true) ∧ (u = ((s.reach a.t).plainWrite 0x050040 w)) ∧ ((u.slot u.mdlSlot).cur.isSome = true) ∧ (u.tim.epoch < u.mdlTarget) :=
  ⟨testSlotN, ((testSlotN).reach 0).plainWrite 0x050040 3, testHost, 3, by decide +kernel, rfl, by decide +kernel, by decide +kernel⟩
theorem test_premises_ModelCommands_12 : ∃ (s u : State) (a : Access) (w : Word),
    (s.servesPriv a = true) ∧ (u = ((s.reach a.t).plainWrite 0x050040 w)) ∧ ((u.slot u.mdlSlot).next.isSome = true) :=
  ⟨testSlotN, ((testSlotN).reach 0).plainWrite 0x050040 4, testHost, 4, by decide +kernel, rfl, by decide +kernel⟩
theorem test_premises_ModelCommands_13 : ∃ (s u : State) (a : Access) (w : Word),
    (s.servesPriv a = true) ∧ (u = ((s.reach a.t).plainWrite 0x050040 w)) ∧ ((u.slot u.mdlSlot).suspended = true) :=
  ⟨testSlotN, ((testSlotN).reach 0).plainWrite 0x050040 5, testHost, 5, by decide +kernel, rfl, by decide +kernel⟩
theorem test_premises_ModelCommands_14 : ∃ (s u : State) (r : Rx),
    (u = (s.reach r.t).consume r) ∧ (u.crier.seen.any (fun p => p.1 = recIdent r.bytes && u.tim.epoch ≤ p.2 + 1) = true) :=
  ⟨({ testBlank with crier := { initCrier with seen := [(0, 0)] } } : State), ((({ testBlank with crier := { initCrier with seen := [(0, 0)] } } : State)).reach 0).consume ⟨0, 0, false, 0, List.replicate 128 0⟩, ⟨0, 0, false, 0, List.replicate 128 0⟩, rfl, by decide +kernel⟩
theorem test_premises_ModelCommands_15 : ∃ (s u : State) (r : Rx) (p : Nat),
    (u = (s.reach r.t).consume r) ∧ (u.crier.seen.any (fun p => p.1 = recIdent r.bytes && u.tim.epoch ≤ p.2 + 1) = false) ∧ (u.upNow = some p) :=
  ⟨testState [(F.LNK_PORT_STATE_LSTATE 0, 2), (F.RED_UPLINK_PORT1, 127), (F.RED_UPLINK_PORT2, 127), (F.RED_UPLINK_PORT3, 127)], ((testState [(F.LNK_PORT_STATE_LSTATE 0, 2), (F.RED_UPLINK_PORT1, 127), (F.RED_UPLINK_PORT2, 127), (F.RED_UPLINK_PORT3, 127)]).reach 0).consume ⟨0, 0, false, 0, List.replicate 128 0⟩, ⟨0, 0, false, 0, List.replicate 128 0⟩, 0, rfl, by decide +kernel, by decide +kernel⟩
theorem test_premises_TraceCommands_1 : ∃ (s u : State) (n c : Nat) (head : BitVec 64) (conts : List (BitVec 64)) (p : Pkt),
    (c < 16) ∧ (conts.length = bits head.toNat 63 60) ∧ (u = s.reach n) ∧ (p = ⟨c, n, head.toNat :: conts.map (fun w => w.toNat), false⟩) ∧ (u.serves = true) ∧ (u.collects = true) ∧ (u.on F.TRC_CTRL_EN = true) ∧ (u.on (F.TRC_CHAN_EN c) = true) ∧ (badType p.typ = false) ∧ ((u.chan c).stalled = none) ∧ (u.pktFits p = true) :=
  ⟨testTrc, testTrc, 0, 3, 0, [], ⟨3, 0, [0], false⟩, by decide +kernel, by decide +kernel, rfl, by decide +kernel, by decide +kernel, by decide +kernel, by decide +kernel, by decide +kernel, by decide +kernel, by decide +kernel, by decide +kernel⟩
theorem test_premises_TraceCommands_2 : ∃ (s u : State) (n c : Nat) (head : BitVec 64) (conts : List (BitVec 64)) (p : Pkt),
    (c < 16) ∧ (conts.length = bits head.toNat 63 60) ∧ (u = s.reach n) ∧ (p = ⟨c, n, head.toNat :: conts.map (fun w => w.toNat), false⟩) ∧ (u.serves = true) ∧ (u.collects = false ∨ u.on F.TRC_CTRL_EN = false ∨ u.on (F.TRC_CHAN_EN c) = false) :=
  ⟨testBlank, testBlank, 0, 3, 0, [], ⟨3, 0, [0], false⟩, by decide +kernel, by decide +kernel, rfl, by decide +kernel, by decide +kernel, by decide +kernel⟩
theorem test_premises_TraceCommands_3 : ∃ (s u : State) (n c : Nat) (head : BitVec 64) (conts : List (BitVec 64)) (p : Pkt),
    (c < 16) ∧ (conts.length = bits head.toNat 63 60) ∧ (u = s.reach n) ∧ (p = ⟨c, n, head.toNat :: conts.map (fun w => w.toNat), false⟩) ∧ (u.serves = true) ∧ (u.collects = true) ∧ (u.on F.TRC_CTRL_EN = true) ∧ (u.on (F.TRC_CHAN_EN c) = true) ∧ (badType p.typ = false) ∧ ((u.chan c).stalled = none) ∧ (u.pktFits p = false) ∧ (u.on (F.TRC_CHAN_STALL_EN c) = true) ∧ ((u.chan c).discarding = false) :=
  ⟨testTrcS, testTrcS, 0, 3, 0, [], ⟨3, 0, [0], false⟩, by decide +kernel, by decide +kernel, rfl, by decide +kernel, by decide +kernel, by decide +kernel, by decide +kernel, by decide +kernel, by decide +kernel, by decide +kernel, by decide +kernel, by decide +kernel, by decide +kernel⟩
theorem test_premises_TraceCommands_4 : ∃ (s u : State) (n c : Nat) (head : BitVec 64) (conts : List (BitVec 64)) (p : Pkt),
    (c < 16) ∧ (conts.length = bits head.toNat 63 60) ∧ (u = s.reach n) ∧ (p = ⟨c, n, head.toNat :: conts.map (fun w => w.toNat), false⟩) ∧ (u.serves = true) ∧ (u.collects = true) ∧ (u.on F.TRC_CTRL_EN = true) ∧ (u.on (F.TRC_CHAN_EN c) = true) ∧ (badType p.typ = false) ∧ ((u.chan c).stalled = none) ∧ (u.pktFits p = false) ∧ (u.on (F.TRC_CHAN_STALL_EN c) = false) :=
  ⟨testTrcF, testTrcF, 0, 3, 0, [], ⟨3, 0, [0], false⟩, by decide +kernel, by decide +kernel, rfl, by decide +kernel, by decide +kernel, by decide +kernel, by decide +kernel, by decide +kernel, by decide +kernel, by decide +kernel, by decide +kernel, by decide +kernel⟩
theorem test_premises_TraceCommands_5 : ∃ (s : State) (c : Nat) (p : Pkt),
    ((s.chan c).stalled = some p) ∧ (s.fld F.TRC_LIMITS_STALL_LIMIT_US ≠ 0) :=
  ⟨{ testState [(F.TRC_LIMITS_STALL_LIMIT_US, 9)] with trc := { initTrc .spoke with chans := modNth (initTrc .spoke).chans 3 (fun c => { c with stalled := some ⟨3, 0, [0], false⟩ }) } }, 3, ⟨3, 0, [0], false⟩, by decide +kernel, by decide +kernel⟩
theorem test_premises_TraceCommands_6 : ∃ (s : State) (q n : Nat),
    (q < 4) ∧ (n = s.pair (F.TRC_SEQ_TIME_LO q) (F.TRC_SEQ_TIME_HI q)) :=
  ⟨testBlank, 3, 0, by decide +kernel, by decide +kernel⟩
theorem test_premises_TraceCommands_7 : ∃ (s : State) (a : Access) (q : Nat) (w : Word),
    (s.serves = true) ∧ (s.judge a (0x060300 + 64 * q) true = .ok) ∧ (q < 4) :=
  ⟨testBlank, testHost, 3, 1, by decide +kernel, by decide +kernel, by decide +kernel⟩
theorem test_premises_TraceCommands_8 : ∃ (s : State) (a : Access) (q : Nat) (w : Word),
    (s.serves = true) ∧ (s.judge a (0x060300 + 64 * q) true = .ok) ∧ (q < 4) :=
  ⟨testBlank, testHost, 3, 2, by decide +kernel, by decide +kernel, by decide +kernel⟩
theorem test_premises_TraceCommands_9 : ∃ (s : State) (k : Nat) (b : Block),
    ((s.pan k).block = some b) ∧ (s.fld F.TRC_LIMITS_FLUSH_US ≠ 0) :=
  ⟨{ testState [(F.TRC_LIMITS_FLUSH_US, 9)] with trc := { initTrc .spoke with pans := [{ newPan 0 with block := some ⟨0, 0, 4, 1, 0, [], [], 0⟩ }] } }, 0, ⟨0, 0, 4, 1, 0, [], [], 0⟩, by decide +kernel, by decide +kernel⟩
theorem test_premises_TraceCommands_10 : ∃ (s : State) (k : Nat) (b : Block),
    ((s.pan k).closed = some b) ∧ ((s.pan k).frame = none) :=
  ⟨{ testBlank with trc := { initTrc .spoke with pans := [{ newPan 0 with closed := some ⟨0, 0, 4, 1, 0, [], [], 0⟩ }] } }, 0, ⟨0, 0, 4, 1, 0, [], [], 0⟩, by decide +kernel, by decide +kernel⟩
theorem test_premises_TraceCommands_11 : ∃ (s : State) (a : Access) (w : Word),
    (s.servesPriv a = true) :=
  ⟨testBlank, testHost, 0x40, by decide +kernel⟩
theorem test_premises_TraceCommands_12 : ∃ (s : State) (a : Access) (w : Word),
    (s.servesPriv a = true) :=
  ⟨testBlank, testHost, 0x40, by decide +kernel⟩
theorem test_premises_TraceCommands_13 : ∃ (s u : State) (a : Access) (k : Nat) (w : Word),
    (s.serves = true) ∧ (s.judge a (0x06100C + 64 * k) true = .ok) ∧ (k < streams s.build) ∧ (u = (s.reach a.t).plainWrite (0x06100C + 64 * k) w) ∧ (u.panState k ≠ paRun) ∧ (u.panState k ≠ paWait) ∧ (u.panState k ≠ paExhausted) :=
  ⟨testBlank, (testBlank.reach 0).plainWrite 0x06100C 0, testHost, 0, 0, by decide +kernel, by decide +kernel, by decide +kernel, rfl, by decide +kernel, by decide +kernel, by decide +kernel⟩
theorem test_premises_TraceCommands_14 : ∃ (s u : State) (a : Access) (k : Nat) (w : Word),
    (s.serves = true) ∧ (s.judge a (0x06100C + 64 * k) true = .ok) ∧ (k < streams s.build) ∧ (u = (s.reach a.t).plainWrite (0x06100C + 64 * k) w) ∧ (u.panState k = paRun ∨ u.panState k = paWait ∨ u.panState k = paExhausted) :=
  ⟨testWait, (testWait.reach 0).plainWrite 0x06100C 0, testHost, 0, 0, by decide +kernel, by decide +kernel, by decide +kernel, rfl, by decide +kernel⟩
theorem test_premises_TraceCommands_15 : ∃ (s u : State) (a : Access) (k : Nat) (w : Word),
    (s.serves = true) ∧ (s.judge a (0x06100C + 64 * k) true = .ok) ∧ (k < streams s.build) ∧ (u = (s.reach a.t).plainWrite (0x06100C + 64 * k) w) ∧ (u.panState k = paExhausted) :=
  ⟨testExh, (testExh.reach 0).plainWrite 0x06100C 0, testHost, 0, 0, by decide +kernel, by decide +kernel, by decide +kernel, rfl, by decide +kernel⟩
theorem test_premises_TraceCommands_16 : ∃ (s u : State) (a : Access) (k : Nat) (w : Word),
    (s.serves = true) ∧ (s.judge a (0x06100C + 64 * k) true = .ok) ∧ (k < streams s.build) ∧ (u = (s.reach a.t).plainWrite (0x06100C + 64 * k) w) ∧ (u.panState k ≠ paExhausted) :=
  ⟨testBlank, (testBlank.reach 0).plainWrite 0x06100C 0, testHost, 0, 0, by decide +kernel, by decide +kernel, by decide +kernel, rfl, by decide +kernel⟩
theorem test_premises_TraceCommands_17 : ∃ (s u : State) (a : Access) (k : Nat) (w : Word),
    (s.serves = true) ∧ (s.judge a (0x06100C + 64 * k) true = .ok) ∧ (k < streams s.build) ∧ (u = (s.reach a.t).plainWrite (0x06100C + 64 * k) w) ∧ (u.on (F.TRC_PAN_STAT_STOP_PENDING k) = false) ∧ (u.panState k = paRun ∨ u.panState k = paWait ∨ u.panState k = paExhausted) ∧ ((u.pan k).block.isSome = true ∨ (u.pan k).frame.isSome = true) :=
  ⟨testWaitB, (testWaitB.reach 0).plainWrite 0x06100C 0, testHost, 0, 0, by decide +kernel, by decide +kernel, by decide +kernel, rfl, by decide +kernel, by decide +kernel, by decide +kernel⟩
theorem test_premises_TraceCommands_18 : ∃ (s : State) (k addr : Nat),
    (k < streams s.build) ∧ (s.panState k = paWait) ∧ ((s.pan k).nextAddr = some addr) :=
  ⟨{ testWait with trc := { initTrc .spoke with pans := [{ newPan 0 with nextAddr := some 64 }] } }, 0, 64, by decide +kernel, by decide +kernel, by decide +kernel⟩
theorem test_premises_LedgerCommands_1 : ∃ (s u : State) (e : LEvt),
    (oldestEvt s.led.held = some e) ∧ (s.ports.inReset = false) ∧ (u = (s.setLed { s.led with held := eraseFirst (fun h => h == e) s.led.held }).touch 1 (64 * e.cls)) :=
  ⟨testBlank, (testBlank.setLed { initLed with held := [] }), ⟨0, 0, 0, 0, 0⟩, by decide +kernel, by decide +kernel, rfl⟩
theorem test_premises_LedgerCommands_2 : ∃ (s : State) (e : LEvt) (rest : List LEvt),
    (s.ports.inReset = false) ∧ (s.led.writing = none) ∧ (s.led.due = []) ∧ (s.led.queue = e :: rest) ∧ (s.led.match_ e = none) ∧ (s.led.state ≠ 2) ∧ (s.led.slots.length < 8) :=
  ⟨{ testBlank with led := { initLed with queue := [⟨0, 0, 0, 0, 0⟩] } }, ⟨0, 0, 0, 0, 0⟩, [], by decide +kernel, by decide +kernel, by decide +kernel, by decide +kernel, by decide +kernel, by decide +kernel, by decide +kernel⟩
theorem test_premises_LedgerCommands_3 : ∃ (s : State) (e : LEvt) (rest : List LEvt) (x : LSlot),
    (s.ports.inReset = false) ∧ (s.led.writing = none) ∧ (s.led.due = []) ∧ (s.led.queue = e :: rest) ∧ (s.led.match_ e = some x) :=
  ⟨testOpen, ⟨0, 0, 0, 0, 0⟩, [], testLSlot, by decide +kernel, by decide +kernel, by decide +kernel, by decide +kernel, by decide +kernel⟩
theorem test_premises_LedgerCommands_4 : ∃ (s : State) (e : LEvt) (rest : List LEvt) (x : LSlot),
    (s.ports.inReset = false) ∧ (s.led.writing = none) ∧ (s.led.due = []) ∧ (s.led.queue = e :: rest) ∧ (s.led.match_ e = none) ∧ (s.led.state ≠ 2) ∧ (8 ≤ s.led.slots.length) ∧ (oldestSlot s.led.slots = some x) :=
  ⟨testFull, ⟨7, 0, 0, 0, 0⟩, [], testLSlot, by decide +kernel, by decide +kernel, by decide +kernel, by decide +kernel, by decide +kernel, by decide +kernel, by decide +kernel, by decide +kernel⟩
theorem test_premises_LedgerCommands_5 : ∃ (s u : State) (q : Nat) (rest : List Nat) (x : LSlot),
    (s.ports.inReset = false) ∧ (s.led.writing = none) ∧ (s.led.state ≠ 2) ∧ (s.led.due = q :: rest) ∧ (s.led.slots.find? (fun y => y.ent.seq = q) = some x) ∧ (u = s.touch 1 (4096 + 32 * x.ent.pos)) :=
  ⟨{ testOpen with led := { testOpen.led with due := [0] } }, { testOpen with led := { testOpen.led with due := [0] } }, 0, [], testLSlot, by decide +kernel, by decide +kernel, by decide +kernel, by decide +kernel, by decide +kernel, rfl⟩
theorem test_premises_LedgerCommands_6 : ∃ (s u : State) (e : LEntry),
    (s.led.writing = some e) ∧ (s.con.failRead = false) ∧ (u = (s.setLed { s.led with writing := none }).setCon { s.con with failRead := false }) :=
  ⟨testWriting, (testWriting.setLed { testWriting.led with writing := none }).setCon { testWriting.con with failRead := false }, testLSlot.ent, by decide +kernel, by decide +kernel, rfl⟩
theorem test_premises_LedgerCommands_7 : ∃ (s u : State) (e : LEntry),
    (s.led.writing = some e) ∧ (s.con.failRead = false) ∧ (u = (s.setLed { s.led with writing := none }).setCon { s.con with failRead := false }) :=
  ⟨testWriting, (testWriting.setLed { testWriting.led with writing := none }).setCon { testWriting.con with failRead := false }, testLSlot.ent, by decide +kernel, by decide +kernel, rfl⟩
theorem test_premises_LedgerCommands_8 : ∃ (s u : State) (e : LEntry),
    (s.led.writing = some e) ∧ (s.con.failRead = false) ∧ (u = (s.setLed { s.led with writing := none }).setCon { s.con with failRead := false }) :=
  ⟨testWriting, (testWriting.setLed { testWriting.led with writing := none }).setCon { testWriting.con with failRead := false }, testLSlot.ent, by decide +kernel, by decide +kernel, rfl⟩
theorem test_premises_LedgerCommands_9 : ∃ (s u : State) (e : LEntry),
    (s.led.writing = some e) ∧ (s.con.failRead = false) ∧ (u = (s.setLed { s.led with writing := none }).setCon { s.con with failRead := false }) :=
  ⟨testWriting, (testWriting.setLed { testWriting.led with writing := none }).setCon { testWriting.con with failRead := false }, testLSlot.ent, by decide +kernel, by decide +kernel, rfl⟩
theorem test_premises_LedgerCommands_10 : ∃ (s : State) (q : Nat) (x : LSlot),
    (s.led.slots.find? (fun y => y.ent.seq = q) = some x) ∧ (x.closing = false) :=
  ⟨testOpen, 0, testLSlot, by decide +kernel, by decide +kernel⟩
theorem test_premises_ServiceCommands_1 : ∃ (s u v : State) (r : Report),
    (u = s.takeReport 0x25 r) ∧ (u.svcOn F.SVC_CTRL_DIG_EN = true) ∧ (v = u.feedReport 0x25 r) ∧ ((v.digestKey (rf r 0x25 3)).isSome = true) ∧ (v.srv.colls.length < collLimit v.build) ∧ (v.srv.colls.any (fun x => x.coll = rf r 0x25 0) = false) ∧ (rf r 0x25 3 ≤ v.epochOf r.t) ∧ (v.epochOf r.t ≤ rf r 0x25 3 + 3) ∧ (v.hub = true ∨ rf r 0x25 2 / 2 ^ 17 = v.ident / 2 ^ 17) :=
  ⟨testKeyed, (testKeyed).takeReport 0x25 ⟨0, 0⟩, ((testKeyed).takeReport 0x25 ⟨0, 0⟩).feedReport 0x25 ⟨0, 0⟩, ⟨0, 0⟩, rfl, by decide +kernel, rfl, by decide +kernel, by decide +kernel, by decide +kernel, by decide +kernel, by decide +kernel, by decide +kernel⟩
theorem test_premises_ServiceCommands_2 : ∃ (s u v : State) (r : Report),
    (u = s.takeReport 0x26 r) ∧ (u.svcOn F.SVC_CTRL_DIG_EN = true) ∧ (v = u.feedReport 0x26 r) ∧ (v.srv.colls.any (fun x => x.coll = rf r 0x26 0) = true) :=
  ⟨testColl, (testColl).takeReport 0x26 ⟨0, 0⟩, ((testColl).takeReport 0x26 ⟨0, 0⟩).feedReport 0x26 ⟨0, 0⟩, ⟨0, 0⟩, rfl, by decide +kernel, rfl, by decide +kernel⟩
theorem test_premises_ServiceCommands_3 : ∃ (s u v : State) (r : Report) (k : Coll),
    (u = s.takeReport 0x27 r) ∧ (u.svcOn F.SVC_CTRL_DIG_EN = true) ∧ (v = u.feedReport 0x27 r) ∧ (v.srv.colls.find? (fun x => x.coll = rf r 0x27 0) = some k) :=
  ⟨testColl, (testColl).takeReport 0x27 ⟨0, 0⟩, ((testColl).takeReport 0x27 ⟨0, 0⟩).feedReport 0x27 ⟨0, 0⟩, ⟨0, 0⟩, ⟨0, 0, 0, 0, 1, 0, 0, false, 9⟩, rfl, by decide +kernel, rfl, by decide +kernel⟩
theorem test_premises_ServiceCommands_4 : ∃ (s : State) (n : Nat) (k : Coll),
    (s.srv.colls.find? (fun x => x.coll = n) = some k) ∧ (max 1 (s.fld F.SVC_DIG_CFG_COLL_TIMEOUT) ≤ k.age) :=
  ⟨testColl, 0, ⟨0, 0, 0, 0, 1, 0, 0, false, 9⟩, by decide +kernel, by decide +kernel⟩
theorem test_premises_ServiceCommands_5 : ∃ (s u : State) (r : Rx),
    (u = (s.reach r.t).consume r) ∧ (u.tko = none) ∧ (u.loaded = true) ∧ (u.merging = true) ∧ (2 ≤ (u.hashRec r.bytes).level) :=
  ⟨testMerge [], ((testMerge []).reach 0).consume ⟨0, 0, false, 0, List.replicate 128 0⟩, ⟨0, 0, false, 0, List.replicate 128 0⟩, rfl, by decide +kernel, by decide +kernel, by decide +kernel, by decide +kernel⟩
theorem test_premises_ServiceCommands_6 : ∃ (s u : State) (r : Rx),
    (u = (s.reach r.t).consume r) ∧ (u.tko = none) ∧ (u.loaded = true) ∧ (u.merging = false) :=
  ⟨testTal initTal, ((testTal initTal).reach 0).consume ⟨0, 0, false, 0, List.replicate 128 0⟩, ⟨0, 0, false, 0, List.replicate 128 0⟩, rfl, by decide +kernel, by decide +kernel, by decide +kernel⟩
theorem test_premises_ServiceCommands_7 : ∃ (s : State),
    (s.isRoot = true) :=
  ⟨testState [(F.RED_NODE_LEVEL, 4)], by decide +kernel⟩
theorem test_premises_ServiceCommands_8 : ∃ (s : State),
    (s.svcOn F.SVC_CTRL_DUP_EN = true) ∧ (s.srv.plans.any (fun p => p.epoch = s.tim.epoch + 1) = false) :=
  ⟨testSvc, by decide +kernel, by decide +kernel⟩
theorem test_premises_ServiceCommands_9 : ∃ (s u v : State) (r : Report) (p : DupPlan),
    (u = s.takeReport 0x28 r) ∧ (u.svcOn F.SVC_CTRL_DUP_EN = true) ∧ (v = u.feedReport 0x28 r) ∧ (rf r 0x28 0 < v.hostTiles) ∧ (rf r 0x28 2 < v.hostTiles) ∧ (v.srv.plans.find? (fun p => p.epoch % 256 = rf r 0x28 3 && p.epoch ≤ v.tim.epoch && v.tim.epoch < p.epoch + v.resultWindow) = some p) ∧ (p.selects (rf r 0x28 0) (rf r 0x28 1) = true) ∧ (p.reported.contains (rf r 0x28 0, rf r 0x28 1) = false) ∧ (rf r 0x28 4 = rf r 0x28 5) :=
  ⟨testPlan, (testPlan).takeReport 0x28 ⟨0, 0⟩, ((testPlan).takeReport 0x28 ⟨0, 0⟩).feedReport 0x28 ⟨0, 0⟩, ⟨0, 0⟩, testDup, rfl, by decide +kernel, rfl, by decide +kernel, by decide +kernel, by decide +kernel, by decide +kernel, by decide +kernel, by decide +kernel⟩
theorem test_premises_ServiceCommands_10 : ∃ (s u v : State) (r : Report) (p : DupPlan),
    (u = s.takeReport 0x28 r) ∧ (u.svcOn F.SVC_CTRL_DUP_EN = true) ∧ (v = u.feedReport 0x28 r) ∧ (rf r 0x28 0 < v.hostTiles) ∧ (rf r 0x28 2 < v.hostTiles) ∧ (v.srv.plans.find? (fun p => p.epoch % 256 = rf r 0x28 3 && p.epoch ≤ v.tim.epoch && v.tim.epoch < p.epoch + v.resultWindow) = some p) ∧ (p.selects (rf r 0x28 0) (rf r 0x28 1) = true) ∧ (p.reported.contains (rf r 0x28 0, rf r 0x28 1) = false) ∧ (rf r 0x28 4 ≠ rf r 0x28 5) ∧ (rf r 0x28 2 = rf r 0x28 0) :=
  ⟨testPlan, (testPlan).takeReport 0x28 ⟨0, 1#120 <<< 38⟩, ((testPlan).takeReport 0x28 ⟨0, 1#120 <<< 38⟩).feedReport 0x28 ⟨0, 1#120 <<< 38⟩, ⟨0, 1#120 <<< 38⟩, testDup, rfl, by decide +kernel, rfl, by decide +kernel, by decide +kernel, by decide +kernel, by decide +kernel, by decide +kernel, by decide +kernel, by decide +kernel⟩
theorem test_premises_ServiceCommands_11 : ∃ (s : State) (p : DupPlan),
    (s.srv.plans.find? (fun p => p.epoch + s.resultWindow ≤ s.tim.epoch) = some p) :=
  ⟨{ testPlan with tim := { initTim 1000000 20 with epoch := 9 } }, testDup, by decide +kernel⟩
theorem test_premises_ServiceCommands_12 : ∃ (s u v : State) (r : Report) (k : Nat),
    (u = s.takeReport 0x29 r) ∧ (u.svcOn F.SVC_CTRL_CHK_EN = true) ∧ (v = u.feedReport 0x29 r) ∧ (rf r 0x29 0 < v.hostTiles) ∧ (k = (if rf r 0x29 1 = 0xFFF then rf r 0x29 0 else rf r 0x29 1)) ∧ (k < v.hostTiles) :=
  ⟨testSvc, (testSvc).takeReport 0x29 ⟨0, 0⟩, ((testSvc).takeReport 0x29 ⟨0, 0⟩).feedReport 0x29 ⟨0, 0⟩, ⟨0, 0⟩, 0, rfl, by decide +kernel, rfl, by decide +kernel, by decide +kernel, by decide +kernel⟩
theorem test_premises_ServiceCommands_13 : ∃ (s u v : State) (r : Report),
    (u = s.takeReport 0x2A r) ∧ (u.svcOn F.SVC_CTRL_CHK_EN = true) ∧ (v = u.feedReport 0x2A r) ∧ (rf r 0x2A 0 < v.hostTiles) ∧ (rf r 0x2A 1 < v.hostTiles) ∧ (rf r 0x2A 4 = rf r 0x2A 5) :=
  ⟨testSvc, (testSvc).takeReport 0x2A ⟨0, 0⟩, ((testSvc).takeReport 0x2A ⟨0, 0⟩).feedReport 0x2A ⟨0, 0⟩, ⟨0, 0⟩, rfl, by decide +kernel, rfl, by decide +kernel, by decide +kernel, by decide +kernel⟩
theorem test_premises_ServiceCommands_14 : ∃ (s u v : State) (r : Report),
    (u = s.takeReport 0x2A r) ∧ (u.svcOn F.SVC_CTRL_CHK_EN = true) ∧ (v = u.feedReport 0x2A r) ∧ (rf r 0x2A 0 < v.hostTiles) ∧ (rf r 0x2A 1 < v.hostTiles) ∧ (rf r 0x2A 4 ≠ rf r 0x2A 5) :=
  ⟨testSvc, (testSvc).takeReport 0x2A ⟨0, 1#120 <<< 56⟩, ((testSvc).takeReport 0x2A ⟨0, 1#120 <<< 56⟩).feedReport 0x2A ⟨0, 1#120 <<< 56⟩, ⟨0, 1#120 <<< 56⟩, rfl, by decide +kernel, rfl, by decide +kernel, by decide +kernel, by decide +kernel⟩
theorem test_premises_ServiceCommands_15 : ∃ (s u v : State) (r : Report),
    (u = s.takeReport 0x2B r) ∧ (u.svcOn F.SVC_CTRL_CHK_EN = true) ∧ (v = u.feedReport 0x2B r) ∧ (rf r 0x2B 0 < v.hostTiles) ∧ (rf r 0x2B 1 ≠ 0) ∧ (v.act F.SVC_CTRL_CHARGE_NAN = 0) :=
  ⟨testSvcN, (testSvcN).takeReport 0x2B ⟨0, 1#120 <<< 12⟩, ((testSvcN).takeReport 0x2B ⟨0, 1#120 <<< 12⟩).feedReport 0x2B ⟨0, 1#120 <<< 12⟩, ⟨0, 1#120 <<< 12⟩, rfl, by decide +kernel, rfl, by decide +kernel, by decide +kernel, by decide +kernel⟩
theorem test_premises_ServiceCommands_16 : ∃ (s u v : State) (r : Report),
    (u = s.takeReport 0x2B r) ∧ (u.svcOn F.SVC_CTRL_CHK_EN = true) ∧ (v = u.feedReport 0x2B r) ∧ (rf r 0x2B 0 < v.hostTiles) ∧ (rf r 0x2B 1 = 0) :=
  ⟨testSvc, (testSvc).takeReport 0x2B ⟨0, 0⟩, ((testSvc).takeReport 0x2B ⟨0, 0⟩).feedReport 0x2B ⟨0, 0⟩, ⟨0, 0⟩, rfl, by decide +kernel, rfl, by decide +kernel, by decide +kernel⟩
theorem test_premises_ServiceCommands_17 : ∃ (s u v : State) (r : Report) (k : Nat),
    (u = s.takeReport 0x2C r) ∧ ((u.testsRun && u.act F.SVC_CTRL_FT_EN = 1) = true) ∧ (v = u.feedReport 0x2C r) ∧ (k = rf r 0x2C 0) ∧ (k < v.hostTiles) ∧ (v.tileState k = 1 ∨ v.tileState k = 2) ∧ (rf r 0x2C 1 = 1) :=
  ⟨testSusp, (testSusp).takeReport 0x2C ⟨0, 1#120 <<< 12⟩, ((testSusp).takeReport 0x2C ⟨0, 1#120 <<< 12⟩).feedReport 0x2C ⟨0, 1#120 <<< 12⟩, ⟨0, 1#120 <<< 12⟩, 0, rfl, by decide +kernel, rfl, by decide +kernel, by decide +kernel, by decide +kernel, by decide +kernel⟩
theorem test_premises_ServiceCommands_18 : ∃ (s u v : State) (r : Report) (k : Nat),
    (u = s.takeReport 0x2C r) ∧ ((u.testsRun && u.act F.SVC_CTRL_FT_EN = 1) = true) ∧ (v = u.feedReport 0x2C r) ∧ (k = rf r 0x2C 0) ∧ (k < v.hostTiles) ∧ (v.tileState k = 1 ∨ v.tileState k = 2) ∧ (rf r 0x2C 1 = 0) :=
  ⟨testSusp, (testSusp).takeReport 0x2C ⟨0, 0⟩, ((testSusp).takeReport 0x2C ⟨0, 0⟩).feedReport 0x2C ⟨0, 0⟩, ⟨0, 0⟩, 0, rfl, by decide +kernel, rfl, by decide +kernel, by decide +kernel, by decide +kernel, by decide +kernel⟩
theorem test_premises_ServiceCommands_19 : ∃ (s : State) (k e : Nat),
    (s.act F.SVC_CTRL_FT_EN = 1) ∧ (s.tileState k = 1 ∨ s.tileState k = 2) ∧ (s.srv.ftAsked.find? (fun x => x.1 = k) = some (k, e)) ∧ (e + max 1 (s.fld F.SVC_FT_TIMEOUT) ≤ s.tim.epoch) :=
  ⟨{ testSusp with srv := { initSrv with ftAsked := [(0, 0)] }, tim := { initTim 1000000 20 with epoch := 9 } }, 0, 0, by decide +kernel, by decide +kernel, by decide +kernel, by decide +kernel⟩
theorem test_premises_ServiceCommands_20 : ∃ (s : State) (a : Access) (w : Word) (k : Nat),
    (s.servesPriv a = true) ∧ (k = F.SVC_FT_REQ_TILE.get w) ∧ (s.act F.SVC_CTRL_FT_EN = 1) ∧ (s.testsRun = true) ∧ (k < s.hostTiles) ∧ (s.tileState k = 0) :=
  ⟨testSvc, testHost, 0, 0, by decide +kernel, by decide +kernel, by decide +kernel, by decide +kernel, by decide +kernel, by decide +kernel⟩
theorem test_premises_ServiceCommands_21 : ∃ (s : State) (a : Access) (w : Word) (k : Nat),
    (s.servesPriv a = true) ∧ (k = F.SVC_FT_REQ_TILE.get w) ∧ (k < s.hostTiles) ∧ (s.tileState k = 3) :=
  ⟨testFailed, testHost, 0, 0, by decide +kernel, by decide +kernel, by decide +kernel, by decide +kernel⟩
theorem test_premises_ServiceCommands_22 : ∃ (s : State) (a : Access) (w : Word),
    (s.servesPriv a = true) :=
  ⟨testBlank, testHost, 1, by decide +kernel⟩
theorem test_premises_ServiceCommands_23 : ∃ (s : State) (a : Access) (w : Word) (u : State),
    (s.servesPriv a = true) ∧ (u = (if s.svc = svcTest then ((s.reach a.t).set F.SVC_STEP_MODE (F.SVC_STEP_MODE.get w)).setSrv { s.srv with broke := s.srv.broke && s.fld F.SVC_STEP_MODE = F.SVC_STEP_MODE.get w } else s.reach a.t)) :=
  ⟨testBlank, testHost, 5, testBlank, by decide +kernel, rfl⟩
theorem test_premises_ServiceCommands_24 : ∃ (s : State) (a : Access) (w : Word) (u : State),
    (s.servesPriv a = true) ∧ (u = (if s.svc = svcTest then ((s.reach a.t).set F.SVC_STEP_MODE (F.SVC_STEP_MODE.get w)).setSrv { s.srv with broke := s.srv.broke && s.fld F.SVC_STEP_MODE = F.SVC_STEP_MODE.get w } else s.reach a.t)) :=
  ⟨testBlank, testHost, 5, testBlank, by decide +kernel, rfl⟩
theorem test_premises_ServiceCommands_25 : ∃ (s u v : State) (r : Report) (m : Mark),
    (u = (s.takeReport 0x20 r).breakMark r) ∧ (u.svcOn F.SVC_CTRL_LATCH_EN = true) ∧ (v = u.feedReport 0x20 r) ∧ (v.srv.running = none) ∧ (m = ⟨r.t, v.epochOf r.t, rf r 0x20 0, rf r 0x20 1 = 1, rf r 0x20 2, v.bracketing⟩) :=
  ⟨testSvc, (testSvc.takeReport 0x20 ⟨0, 0⟩).breakMark ⟨0, 0⟩, ((testSvc.takeReport 0x20 ⟨0, 0⟩).breakMark ⟨0, 0⟩).feedReport 0x20 ⟨0, 0⟩, ⟨0, 0⟩, ⟨0, 0, 0, false, 0, false⟩, rfl, by decide +kernel, rfl, by decide +kernel, by decide +kernel⟩
theorem test_premises_ServiceCommands_26 : ∃ (s u : State) (m : Mark),
    (s.srv.running = some m) ∧ (s.tal.latchLeft = []) ∧ (s.tal.asked = none) ∧ (u = s.latchRecord m) ∧ (u.srv.marks = []) :=
  ⟨{ testBlank with srv := { initSrv with running := some ⟨0, 0, 0, false, 0, false⟩ } }, ({ testBlank with srv := { initSrv with running := some ⟨0, 0, 0, false, 0, false⟩ } } : State).latchRecord ⟨0, 0, 0, false, 0, false⟩, ⟨0, 0, 0, false, 0, false⟩, by decide +kernel, by decide +kernel, by decide +kernel, rfl, by decide +kernel⟩
theorem test_premises_ServiceCommands_27 : ∃ (s u v : State) (r : Report),
    (u = s.takeReport 0x21 r) ∧ (u.svcOn F.SVC_CTRL_PCS_EN = true) ∧ (v = u.feedReport 0x21 r) ∧ (v.srv.pcs < v.fld F.SVC_PCS_MAX_PER_EPOCH) :=
  ⟨testPcs, (testPcs).takeReport 0x21 ⟨0, 0⟩, ((testPcs).takeReport 0x21 ⟨0, 0⟩).feedReport 0x21 ⟨0, 0⟩, ⟨0, 0⟩, rfl, by decide +kernel, rfl, by decide +kernel⟩
theorem test_premises_ServiceCommands_28 : ∃ (s u v : State) (r : Report) (k : Nat),
    (u = s.takeReport 0x22 r) ∧ (u.svcOn F.SVC_CTRL_OPS_EN = true) ∧ (v = u.feedReport 0x22 r) ∧ (k = 16 * rf r 0x22 0 + rf r 0x22 1) ∧ (v.srv.ops.find? (fun x => x.1 = k) = none) :=
  ⟨testSvc, (testSvc).takeReport 0x22 ⟨0, 0⟩, ((testSvc).takeReport 0x22 ⟨0, 0⟩).feedReport 0x22 ⟨0, 0⟩, ⟨0, 0⟩, 0, rfl, by decide +kernel, rfl, by decide +kernel, by decide +kernel⟩
theorem test_premises_ServiceCommands_29 : ∃ (s u v : State) (r : Report) (k n : Nat),
    (u = s.takeReport 0x22 r) ∧ (u.svcOn F.SVC_CTRL_OPS_EN = true) ∧ (v = u.feedReport 0x22 r) ∧ (k = 16 * rf r 0x22 0 + rf r 0x22 1) ∧ (v.srv.ops.find? (fun x => x.1 = k) = some (k, n)) :=
  ⟨{ testSvc with srv := { initSrv with ops := [(0, 2 ^ 64 - 1)] } }, ({ testSvc with srv := { initSrv with ops := [(0, 2 ^ 64 - 1)] } }).takeReport 0x22 ⟨0, 256⟩, (({ testSvc with srv := { initSrv with ops := [(0, 2 ^ 64 - 1)] } }).takeReport 0x22 ⟨0, 256⟩).feedReport 0x22 ⟨0, 256⟩, ⟨0, 256⟩, 0, 2 ^ 64 - 1, rfl, by decide +kernel, rfl, by decide +kernel, by decide +kernel⟩
theorem test_premises_ServiceCommands_30 : ∃ (s u v : State) (r : Report),
    (u = s.takeReport 0x23 r) ∧ (u.dumpsRun = true) ∧ (v = u.feedReport 0x23 r) ∧ (v.on F.SVC_DUMP_CTRL_ARM = true) ∧ (rf r 0x23 0 = v.fld F.SVC_DUMP_ID_TENSOR_ID) ∧ (rf r 0x23 1 = v.fld F.SVC_DUMP_STEP) :=
  ⟨testDump, (testDump).takeReport 0x23 ⟨0, 0⟩, ((testDump).takeReport 0x23 ⟨0, 0⟩).feedReport 0x23 ⟨0, 0⟩, ⟨0, 0⟩, rfl, by decide +kernel, rfl, by decide +kernel, by decide +kernel, by decide +kernel⟩
theorem test_premises_ServiceCommands_31 : ∃ (s u v : State) (r : Report) (step addr : Nat),
    (u = s.takeReport 0x24 r) ∧ (u.dumpsRun = true) ∧ (v = u.feedReport 0x24 r) ∧ (v.srv.tag = some (rf r 0x24 0, step, addr)) ∧ (v.on F.SVC_DUMP_CTRL_ARM = true) ∧ (v.srv.dump = none) ∧ (rf r 0x24 1 ≠ 0) :=
  ⟨testDump, (testDump).takeReport 0x24 ⟨0, 1#120 <<< 24⟩, ((testDump).takeReport 0x24 ⟨0, 1#120 <<< 24⟩).feedReport 0x24 ⟨0, 1#120 <<< 24⟩, ⟨0, 1#120 <<< 24⟩, 0, 64, rfl, by decide +kernel, rfl, by decide +kernel, by decide +kernel, by decide +kernel, by decide +kernel⟩
theorem test_premises_ServiceCommands_32 : ∃ (s : State) (a : Access) (w : Word),
    (s.servesPriv a = true) ∧ (s.svc = svcTest) :=
  ⟨testState [(F.BLK_STATE, 1)], testHost, 1, by decide +kernel, by decide +kernel⟩
theorem test_premises_ServiceCommands_33 : ∃ (s : State) (a : Access) (w : Word),
    (s.servesPriv a = true) ∧ (s.svc ≠ svcTest) :=
  ⟨testState [(F.BLK_STATE, 2)], testHost, 3, by decide +kernel, by decide +kernel⟩
theorem test_premises_LinkCommands_1 : ∃ (s u : State) (p t : Nat) (l : LinkSt) (g : List Bytes) (rest : List (List Bytes)),
    (u = s.reach t) ∧ (u.link p = some l) ∧ (u.lstate p ≠ lsDown) ∧ (u.ports.powered = true) ∧ (l.resend = g :: rest) :=
  ⟨testLinkS, testLinkS, 0, 0, { newLink 0 with resend := [[]] }, [], [], rfl, by decide +kernel, by decide +kernel, by decide +kernel, by decide +kernel⟩
theorem test_premises_LinkCommands_2 : ∃ (s u v : State) (p t : Nat) (l : LinkSt),
    (u = s.reach t) ∧ (u.link p = some l) ∧ (u.lstate p ≠ lsDown) ∧ (u.ports.powered = true) ∧ (l.resend = []) ∧ (l.sentGroups.length < 64) ∧ (v = (u.fillSlots p t 15).2.inbandLeft p) :=
  ⟨testLink, testLink, (testLink.fillSlots 0 0 15).2.inbandLeft 0, 0, 0, newLink 0, rfl, by decide +kernel, by decide +kernel, by decide +kernel, by decide +kernel, by decide +kernel, rfl⟩
theorem test_premises_LinkCommands_3 : ∃ (s u : State) (p t : Nat) (g : List Bytes) (l : LinkSt) (ctl : Bytes),
    (u = s.reach t) ∧ (u.link p = some l) ∧ (u.lstate p ≠ lsDown) ∧ (u.ports.powered = true) ∧ (ctl = slice (g.headD []) 0 64) ∧ (le ctl 60 4 = crc32c (ctl.take 60)) ∧ (l.rxHeld = none) ∧ (le ctl 0 4 = l.rxNext) :=
  ⟨testLink, testLink, 0, 0, [testGroup], newLink 0, testGroup, rfl, by decide +kernel, by decide +kernel, by decide +kernel, by decide +kernel, by decide +kernel, by decide +kernel, by decide +kernel⟩
theorem test_premises_LinkCommands_4 : ∃ (s u : State) (p t : Nat) (g h : List Bytes) (l : LinkSt) (ctl : Bytes),
    (u = s.reach t) ∧ (u.link p = some l) ∧ (u.lstate p ≠ lsDown) ∧ (u.ports.powered = true) ∧ (ctl = slice (g.headD []) 0 64) ∧ (le ctl 60 4 = crc32c (ctl.take 60)) ∧ (l.rxHeld = some h) ∧ (le ctl 28 4 = crc32c h.tail.flatten) ∧ (le ctl 0 4 = l.rxNext) :=
  ⟨testLinkH, testLinkH, 0, 0, [testGroup], [], { newLink 0 with rxHeld := some [] }, testGroup, rfl, by decide +kernel, by decide +kernel, by decide +kernel, by decide +kernel, by decide +kernel, by decide +kernel, by decide +kernel, by decide +kernel⟩
theorem test_premises_LinkCommands_5 : ∃ (s u : State) (p t : Nat) (g : List Bytes) (l : LinkSt) (ctl : Bytes),
    (u = s.reach t) ∧ (u.link p = some l) ∧ (u.lstate p ≠ lsDown) ∧ (u.ports.powered = true) ∧ (ctl = slice (g.headD []) 0 64) ∧ (le ctl 60 4 ≠ crc32c (ctl.take 60)) ∧ (l.rxHeld = none) :=
  ⟨testLink, testLink, 0, 0, [List.replicate 64 1], newLink 0, List.replicate 64 1, rfl, by decide +kernel, by decide +kernel, by decide +kernel, by decide +kernel, by decide +kernel, by decide +kernel⟩
theorem test_premises_LinkCommands_6 : ∃ (s : State) (p : Nat),
    (s.lstate p ≠ lsDown) :=
  ⟨testLink, 0, by decide +kernel⟩
theorem test_premises_LinkCommands_7 : ∃ (s u v : State) (p t : Nat),
    (u = s.reach t) ∧ (p < u.build.ports) ∧ (u.lstate p = lsDown) ∧ (u.ports.powered = true) ∧ (u.portBarred p = false) ∧ (v = (u.modLink p (fun _ => newLink p)).setLstate p lsHello) :=
  ⟨testBlank, testBlank, (testBlank.modLink 0 (fun _ => newLink 0)).setLstate 0 lsHello, 0, 0, rfl, by decide +kernel, by decide +kernel, by decide +kernel, by decide +kernel, rfl⟩
theorem test_premises_LinkCommands_8 : ∃ (s : State) (p n : Nat) (l : LinkSt) (f : Frame),
    (s.link p = some l) ∧ (l.txq = [f]) ∧ (s.ageLimit f = some n) ∧ (f.since + n ≤ s.nowNs) ∧ (f.cls ≠ 1) ∧ (f.cls ≠ 2) :=
  ⟨testAged, 0, 1000000, { newLink 0 with txq := [⟨0, 0, 0, false, [], 0⟩] }, ⟨0, 0, 0, false, [], 0⟩, by decide +kernel, by decide +kernel, by decide +kernel, by decide +kernel, by decide +kernel, by decide +kernel⟩
theorem test_premises_LinkCommands_9 : ∃ (s u : State) (r : Rx),
    (u = (s.reach r.t).consume r) ∧ (u.ports.inReset = false) ∧ (u.power ≠ 2) ∧ (1 < u.fld F.BRU_STATUS_PHASE) ∧ (u.loaded = true) ∧ ((bit (crAddr r.bytes) 47 && u.hub) = false) ∧ (crPriv r.bytes = false) ∧ (u.preOpen = false) ∧ (u.lnk.ctl.length < 64) ∧ ((u.lnk.ctl.filter (fun y => !y.priv && y.stall = recStall r.bytes)).length < max 1 (u.fld F.LNK_SVC_STALL_OUT)) :=
  ⟨testCtl, ((testCtl).reach 0).consume ⟨0, 0, false, 0, List.replicate 128 0⟩, ⟨0, 0, false, 0, List.replicate 128 0⟩, rfl, by decide +kernel, by decide +kernel, by decide +kernel, by decide +kernel, by decide +kernel, by decide +kernel, by decide +kernel, by decide +kernel, by decide +kernel⟩
theorem test_premises_LinkCommands_10 : ∃ (s u : State) (r : Rx),
    (u = (s.reach r.t).consume r) ∧ (u.ports.inReset = true) :=
  ⟨{ testBlank with ports := initPorts true false }, (({ testBlank with ports := initPorts true false }).reach 0).consume ⟨0, 0, false, 0, List.replicate 128 0⟩, ⟨0, 0, false, 0, List.replicate 128 0⟩, rfl, by decide +kernel⟩
theorem test_premises_LinkCommands_11 : ∃ (s u : State) (r : Rx) (o : CtlOut),
    (u = (s.reach r.t).consume r) ∧ (le r.bytes 20 1 = stOk ∨ le r.bytes 20 1 = stLate) ∧ (u.lnk.out.find? (fun o => o.txn = crTxn r.bytes) = some o) ∧ (o.tray = true) :=
  ⟨testOut, ((testOut).reach 0).consume ⟨0, 0, false, 0, List.replicate 128 0⟩, ⟨0, 0, false, 0, List.replicate 128 0⟩, ⟨0, .host, true, 0⟩, rfl, by decide +kernel, by decide +kernel, by decide +kernel⟩
theorem test_premises_LinkCommands_12 : ∃ (s : State) (txn : Nat) (o : CtlOut),
    (s.lnk.out.find? (fun o => o.txn = txn) = some o) ∧ (o.tray = true) :=
  ⟨testOut, 0, ⟨0, .host, true, 0⟩, by decide +kernel, by decide +kernel⟩
theorem test_premises_LinkCommands_13 : ∃ (s u : State) (a : Access) (addr src p : Nat) (write : Bool) (w : Word),
    (u = s.reach a.t) ∧ (u.serves = true) ∧ (trayAddr addr = true) ∧ (a.src ≠ .xlp) ∧ (u.judge a addr write = .ok) ∧ (u.slotTarget (u.fld F.LNK_TRAY_SEL_SLOT) = some (src, p)) ∧ (u.lstate p = lsUp) :=
  ⟨testTray, testTray, testHost, 0x100000, 0, 0, false, 0, rfl, by decide +kernel, by decide +kernel, by decide +kernel, by decide +kernel, by decide +kernel, by decide +kernel⟩
theorem test_premises_LinkCommands_14 : ∃ (s u : State) (a : Access) (addr : Nat) (write : Bool) (w : Word),
    (u = s.reach a.t) ∧ (u.serves = true) ∧ (trayAddr addr = true) ∧ (a.src ≠ .xlp) ∧ (u.judge a addr write = .ok) ∧ (u.slotTarget (u.fld F.LNK_TRAY_SEL_SLOT) = none) :=
  ⟨testHubT, testHubT, testHost, 0x100000, false, 0, rfl, by decide +kernel, by decide +kernel, by decide +kernel, by decide +kernel, by decide +kernel⟩
theorem test_premises_TopologyCommands_1 : ∃ (s u : State) (r : Rx) (v : State),
    (u = (s.reach r.t).consume r) ∧ (u.lstate r.port ≠ lsDown) ∧ (u.lstate r.port ≠ lsRelay) ∧ (v = ((u.set (F.LNK_PORT_PEER_PEER_ID r.port) (le r.bytes 20 4 % 2 ^ 20)).set (F.LNK_PORT_STATE_PEER_PORT r.port) (le r.bytes 24 1)).modLink r.port (fun (l : LinkSt) => { l with heard := true })) :=
  ⟨testLink, ((testLink).reach 0).consume ⟨0, 0, false, 0, List.replicate 128 0⟩, ⟨0, 0, false, 0, List.replicate 128 0⟩, (((((testLink).reach 0).consume ⟨0, 0, false, 0, List.replicate 128 0⟩).set (F.LNK_PORT_PEER_PEER_ID 0) 0).set (F.LNK_PORT_STATE_PEER_PORT 0) 0).modLink 0 (fun (l : LinkSt) => { l with heard := true }), rfl, by decide +kernel, by decide +kernel, rfl⟩
theorem test_premises_TopologyCommands_2 : ∃ (s u : State) (r : Rx) (v : State),
    (u = (s.reach r.t).consume r) ∧ (u.lstate r.port ≠ lsDown) ∧ (u.lstate r.port ≠ lsRelay) ∧ (v = ((u.set (F.LNK_PORT_PEER_PEER_ID r.port) (le r.bytes 20 4 % 2 ^ 20)).set (F.LNK_PORT_STATE_PEER_PORT r.port) (le r.bytes 24 1)).modLink r.port (fun (l : LinkSt) => { l with heard := true })) ∧ (v.loaded = true) ∧ (v.planMet r.port (v.fld (F.LNK_PORT_PEER_PEER_ID r.port)) (v.fld (F.LNK_PORT_STATE_PEER_PORT r.port)) = false) ∧ (v.swapMate r.port = none) ∧ (v.lstate r.port ≠ lsMiscabled) :=
  ⟨testPlanned, ((testPlanned).reach 0).consume ⟨0, 0, false, 0, List.replicate 128 0⟩, ⟨0, 0, false, 0, List.replicate 128 0⟩, (((((testPlanned).reach 0).consume ⟨0, 0, false, 0, List.replicate 128 0⟩).set (F.LNK_PORT_PEER_PEER_ID 0) 0).set (F.LNK_PORT_STATE_PEER_PORT 0) 0).modLink 0 (fun (l : LinkSt) => { l with heard := true }), rfl, by decide +kernel, by decide +kernel, rfl, by decide +kernel, by decide +kernel, by decide +kernel, by decide +kernel⟩
theorem test_premises_TopologyCommands_3 : ∃ (s v : State),
    (v = s.chainReview) ∧ (v.fld F.LNK_DISC_PERIOD ≠ 0) :=
  ⟨testState [(F.LNK_DISC_PERIOD, 64)], (testState [(F.LNK_DISC_PERIOD, 64)]).chainReview, rfl, by decide +kernel⟩
theorem test_premises_TopologyCommands_4 : ∃ (s u : State) (r : Rx),
    (u = (s.reach r.t).consume r) ∧ (u.hub = false) ∧ (u.loaded = true) ∧ (u.on F.LNK_CTRL_DISC_EN = true) ∧ (u.fld (F.LNK_PORT_FUNC r.port) = 1) ∧ (le r.bytes 17 1 = 0) ∧ (u.lnk.turned = false) :=
  ⟨testChain, ((testChain).reach 0).consume ⟨0, 0, false, 0, List.replicate 128 0⟩, ⟨0, 0, false, 0, List.replicate 128 0⟩, rfl, by decide +kernel, by decide +kernel, by decide +kernel, by decide +kernel, by decide +kernel, by decide +kernel⟩
theorem test_premises_TopologyCommands_5 : ∃ (s u : State) (r : Rx) (e : Nat × Nat),
    (u = (s.reach r.t).consume r) ∧ (u.hub = false) ∧ (le r.bytes 17 1 = 0) ∧ (u.lnk.endA = some e) ∧ (e.1 ≠ r.port) :=
  ⟨{ testBlank with lnk := { initLnk .spoke with endA := some (1, 0) } }, (({ testBlank with lnk := { initLnk .spoke with endA := some (1, 0) } }).reach 0).consume ⟨0, 0, false, 0, List.replicate 128 0⟩, ⟨0, 0, false, 0, List.replicate 128 0⟩, (1, 0), rfl, by decide +kernel, by decide +kernel, by decide +kernel, by decide +kernel⟩
theorem test_premises_TopologyCommands_6 : ∃ (s u : State) (r : Rx) (k : Nat × Nat × Nat × Nat),
    (u = (s.reach r.t).consume r) ∧ (u.hub = true) ∧ (k = (le r.bytes 19 1, le r.bytes 17 1, le r.bytes 18 1, le r.bytes 20 4 % 2 ^ 20)) ∧ (u.children = []) :=
  ⟨testHub0, ((testHub0).reach 0).consume ⟨0, 0, false, 0, List.replicate 128 0⟩, ⟨0, 0, false, 0, List.replicate 128 0⟩, (0, 0, 0, 0), rfl, by decide +kernel, by decide +kernel, by decide +kernel⟩
theorem test_premises_TopologyCommands_7 : ∃ (s : State) (p : Nat),
    (s.sibPort = some p) ∧ (s.hub = true) ∧ (s.injecting 4 = false) :=
  ⟨testHub, 0, by decide +kernel, by decide +kernel, by decide +kernel⟩
theorem test_premises_TopologyCommands_8 : ∃ (s u : State) (r : Rx),
    (u = (s.reach r.t).consume r) ∧ (u.sibPort = some r.port) :=
  ⟨testHub, ((testHub).reach 0).consume ⟨0, 0, false, 0, List.replicate 128 0⟩, ⟨0, 0, false, 0, List.replicate 128 0⟩, rfl, by decide +kernel⟩
theorem test_premises_TopologyCommands_9 : ∃ (s v : State) (e last id : Nat),
    (v = s.reachNs (s.tim.sealNs + 1000 * s.fld F.LNK_TKO_DETECT_US)) ∧ (v.tim.sealedEpoch = some e) ∧ (v.lnk.heartbeat = some (id, last)) ∧ (last < e) ∧ (v.hub = true) ∧ (v.sibUp = true) ∧ (v.on F.LNK_CTRL_TKO_EN = true) ∧ (v.tko = none) :=
  ⟨testDetect, testDetect.reachNs 300000, 5, 3, 9, rfl, by decide +kernel, by decide +kernel, by decide +kernel, by decide +kernel, by decide +kernel, by decide +kernel, by decide +kernel⟩
theorem test_premises_TopologyCommands_10 : ∃ (s v : State) (a : Access) (w : Word),
    (s.servesPriv a = true) ∧ (v = (s.reach a.t).plainWrite 0x090020 w) ∧ (v.hub = true) ∧ (v.sibUp = true) ∧ (v.on F.LNK_CTRL_TKO_EN = true) ∧ (v.tko = none) :=
  ⟨testHub, (testHub.reach 0).plainWrite 0x090020 0, testHost, 0, by decide +kernel, rfl, by decide +kernel, by decide +kernel, by decide +kernel, by decide +kernel⟩
theorem test_premises_TopologyCommands_11 : ∃ (s v : State) (a : Access) (w : Word),
    (s.servesPriv a = true) ∧ (v = (s.reach a.t).plainWrite 0x090020 w) ∧ (v.sibUp = false) :=
  ⟨testBlank, (testBlank.reach 0).plainWrite 0x090020 0, testHost, 0, by decide +kernel, rfl, by decide +kernel⟩
theorem test_premises_TopologyCommands_12 : ∃ (s v : State) (a : Access) (w : Word),
    (s.servesPriv a = true) ∧ (v = (s.reach a.t).plainWrite 0x090020 w) ∧ (v.tko.isSome = true) ∧ (v.sibUp = true) ∧ (v.tim.epoch < v.tkoTarget) :=
  ⟨testTaken, (testTaken.reach 0).plainWrite 0x090020 0, testHost, 0, by decide +kernel, rfl, by decide +kernel, by decide +kernel, by decide +kernel⟩
theorem test_premises_TopologyCommands_13 : ∃ (s u : State) (r : Rx),
    (u = (s.reach r.t).consume r) ∧ (u.sibPort = some r.port) ∧ (le r.bytes 20 4 % 2 ^ 20 = u.ident) ∧ (u.on F.LNK_TKO_RELAYING = false) ∧ (u.hub = true) ∧ (u.on F.LNK_CTRL_TKO_EN = true) :=
  ⟨testHub, ((testHub).reach 0).consume ⟨0, 0, false, 0, List.replicate 128 0⟩, ⟨0, 0, false, 0, List.replicate 128 0⟩, rfl, by decide +kernel, by decide +kernel, by decide +kernel, by decide +kernel, by decide +kernel⟩
theorem test_premises_TopologyCommands_14 : ∃ (s u : State) (r : Rx),
    (u = (s.reach r.t).consume r) ∧ (u.on F.LNK_TKO_RELAYING = true) ∧ (u.sibPort = some r.port) ∧ (le r.bytes 20 4 % 2 ^ 20 = u.ident) :=
  ⟨testRelaying, ((testRelaying).reach 0).consume ⟨0, 0, false, 0, List.replicate 128 0⟩, ⟨0, 0, false, 0, List.replicate 128 0⟩, rfl, by decide +kernel, by decide +kernel, by decide +kernel⟩
theorem test_premises_TopologyCommands_15 : ∃ (s u : State) (r : Rx),
    (u = (s.reach r.t).consume r) ∧ (u.on F.LNK_TKO_RELAYING = false) :=
  ⟨testBlank, ((testBlank).reach 0).consume ⟨0, 0, false, 0, List.replicate 128 0⟩, ⟨0, 0, false, 0, List.replicate 128 0⟩, rfl, by decide +kernel⟩
theorem test_premises_TopologyCommands_16 : ∃ (s u : State) (r : Rx) (y : Bcast) (fresh room : Bool),
    (u = (s.reach r.t).consume r) ∧ (y = (u.lnk.bcast.find? (fun y => y.object = bcObject r.bytes)).getD ⟨bcObject r.bytes, bcTotal r.bytes, [], r.port⟩) ∧ (fresh = y.chunks.all (fun c => c.1 ≠ bcOffset r.bytes)) ∧ (room = decide (u.stagedBytes + (slice r.bytes 64 (bcBytes r.bytes)).length ≤ 1024 * u.fld F.INF_STORE_FREE_KIB)) :=
  ⟨testBlank, ((testBlank).reach 0).consume ⟨0, 0, false, 0, List.replicate 128 0⟩, ⟨0, 0, false, 0, List.replicate 128 0⟩, ⟨0, 0, [], 0⟩, true, true, rfl, by decide +kernel, by decide +kernel, by decide +kernel⟩
theorem test_premises_TopologyCommands_17 : ∃ (s u : State) (r : Rx) (y : Bcast) (k : Nat × Bytes),
    (u = (s.reach r.t).consume r) ∧ (u.lnk.bcast.find? (fun y => y.object = le r.bytes 20 4) = some y) ∧ (y.chunks.find? (fun c => c.1 = le r.bytes 24 4) = some k) :=
  ⟨{ testBlank with lnk := { initLnk .spoke with bcast := [⟨0, 0, [(0, [])], 0⟩] } }, (({ testBlank with lnk := { initLnk .spoke with bcast := [⟨0, 0, [(0, [])], 0⟩] } }).reach 0).consume ⟨0, 0, false, 0, List.replicate 128 0⟩, ⟨0, 0, false, 0, List.replicate 128 0⟩, ⟨0, 0, [(0, [])], 0⟩, (0, []), rfl, by decide +kernel, by decide +kernel⟩
theorem test_premises_TopologyCommands_18 : ∃ (s v : State) (a : Access) (w : Word),
    (s.servesPriv a = true) ∧ (v = (s.reach a.t).plainWrite 0x090034 w) :=
  ⟨testBlank, (testBlank.reach 0).plainWrite 0x090034 0, testHost, 0, by decide +kernel, rfl⟩
theorem test_premises_TopologyCommands_19 : ∃ (s v : State) (a : Access) (w : Word),
    (s.servesPriv a = true) ∧ (v = (s.reach a.t).plainWrite 0x090034 w) ∧ (v.fld F.LNK_SPARE_STATE = 2) ∧ (v.tim.epoch < v.tkoTarget) :=
  ⟨testReady, (testReady.reach 0).plainWrite 0x090034 0, testHost, 0, by decide +kernel, rfl, by decide +kernel, by decide +kernel⟩
theorem test_premises_TopologyCommands_20 : ∃ (s u : State) (r : Rx),
    (u = (s.reach r.t).consume r) ∧ (u.loaded = true) ∧ (u.hub = false) :=
  ⟨testTal initTal, ((testTal initTal).reach 0).consume ⟨0, 0, false, 0, List.replicate 128 0⟩, ⟨0, 0, false, 0, List.replicate 128 0⟩, rfl, by decide +kernel, by decide +kernel⟩
theorem test_premises_TopologyCommands_21 : ∃ (s u : State) (r : Rx),
    (u = (s.reach r.t).consume r) ∧ (u.level ≠ 2) :=
  ⟨testBlank, ((testBlank).reach 0).consume ⟨0, 0, false, 0, List.replicate 128 0⟩, ⟨0, 0, false, 0, List.replicate 128 0⟩, rfl, by decide +kernel⟩
theorem test_premises_TopologyCommands_22 : ∃ (s u : State) (r : Rx) (d : Nat × Nat × Nat),
    (u = (s.reach r.t).consume r) ∧ (u.level = 2) ∧ (u.fld F.LNK_SPARE_CAND_SOURCE = le r.bytes 32 4 % 2 ^ 20) ∧ (u.fld F.LNK_SPARE_STATE = 1 ∨ u.fld F.LNK_SPARE_STATE = 2) ∧ (u.lnk.spareDig.find? (fun d => d.1 = le r.bytes 24 6 && d.2.1 ≠ recSource r.bytes) = some d) ∧ (d.2.2 = le r.bytes 36 8) :=
  ⟨testDig, ((testDig).reach 0).consume ⟨0, 0, false, 0, List.replicate 128 0⟩, ⟨0, 0, false, 0, List.replicate 128 0⟩, (0, 7, 0), rfl, by decide +kernel, by decide +kernel, by decide +kernel, by decide +kernel, by decide +kernel⟩
theorem test_premises_TopologyCommands_23 : ∃ (s v : State) (child row n : Nat),
    (s.lnk.splits.find? (fun x => x.1 = child && x.2.1 = row) = some (child, row, n, false)) ∧ (max 1 (s.fld F.LNK_SPLIT_EPOCHS) ≤ n) ∧ (v = s.setLnk { s.lnk with splits := s.lnk.splits.map (fun x => if x.1 = child && x.2.1 = row then (child, row, n, true) else x) }) :=
  ⟨testSplit, testSplit.setLnk { testSplit.lnk with splits := [(0, 0, 4, true)] }, 0, 0, 4, by decide +kernel, by decide +kernel, rfl⟩
theorem test_premises_SecurityCommands_1 : ∃ (s u : State) (r : Rx) (v : State) (y z : Sess),
    (u = (s.reach r.t).consume r) ∧ (u.keyxRuns r.port = true) ∧ (v = (match u.sessAt r.port (le r.bytes 20 4 % 2 ^ 20) with | none => u.startKeyx r.port (le r.bytes 20 4 % 2 ^ 20) 1 | some y => if !y.formed || y.nextId ≠ y.keyId then u else u.startKeyx r.port (le r.bytes 20 4 % 2 ^ 20) (if r.enc then y.keyId + 1 else 1))) ∧ (v.sessAt r.port (le r.bytes 20 4 % 2 ^ 20) = some y) ∧ (z = { y with peerNonce := slice r.bytes 24 16, peerEph := slice r.bytes 40 96 }) :=
  ⟨testSess, ((testSess).reach 0).consume ⟨0, 0, false, 0, List.replicate 128 0⟩, ⟨0, 0, false, 0, List.replicate 128 0⟩, ((testSess).reach 0).consume ⟨0, 0, false, 0, List.replicate 128 0⟩, testSession, { testSession with peerNonce := zeros 16, peerEph := zeros 96 }, rfl, by decide +kernel, rfl, by decide +kernel, by decide +kernel⟩
theorem test_premises_SecurityCommands_2 : ∃ (s u : State) (r : Rx) (y : Sess),
    (u = (s.reach r.t).consume r) ∧ (u.keyxRuns r.port = true) ∧ (u.sessAt r.port (recSource r.bytes) = some y) :=
  ⟨testSess, ((testSess).reach 0).consume ⟨0, 0, false, 0, List.replicate 128 0⟩, ⟨0, 0, false, 0, List.replicate 128 0⟩, testSession, rfl, by decide +kernel, by decide +kernel⟩
theorem test_premises_SecurityCommands_3 : ∃ (s u : State) (r : Rx) (y : Sess),
    (u = (s.reach r.t).consume r) ∧ (u.keyxRuns r.port = true) ∧ (u.sessAt r.port (recSource r.bytes) = some y) :=
  ⟨testSess, ((testSess).reach 0).consume ⟨0, 0, false, 0, List.replicate 128 0⟩, ⟨0, 0, false, 0, List.replicate 128 0⟩, testSession, rfl, by decide +kernel, by decide +kernel⟩
theorem test_premises_SecurityCommands_4 : ∃ (s : State) (p : Nat) (x : Sess),
    (s.lstate p = lsHello) ∧ (s.lnk.sess = [x]) ∧ (x.port = p) ∧ (x.formed = false) :=
  ⟨testSess, 0, testSession, by decide +kernel, by decide +kernel, by decide +kernel, by decide +kernel⟩
theorem test_premises_SecurityCommands_5 : ∃ (s : State) (p : Nat) (x : Sess),
    (s.lnk.sess = [x]) ∧ (x.port = p) ∧ (x.formed = true) ∧ (x.nextId = x.keyId) ∧ (x.txCtr.any (fun n => 2 ^ 32 ≤ n) = true) :=
  ⟨{ testSess with lnk := { testSess.lnk with sess := [{ testSession with formed := true, nextId := 0, txCtr := [2 ^ 32] }] } }, 0, { testSession with formed := true, nextId := 0, txCtr := [2 ^ 32] }, by decide +kernel, by decide +kernel, by decide +kernel, by decide +kernel, by decide +kernel⟩
theorem test_premises_SecurityCommands_7 : ∃ (s u : State) (r : Rx) (v z : State),
    (u = (s.reach r.t).consume r) ∧ (r.enc = true) ∧ (u.admits 3 r.port r.bytes = true) ∧ (v = u.setSec { u.sec with dkeys := u.sec.dkeys.filter (fun k => k.1 ≠ le r.bytes 16 4) ++ [(le r.bytes 16 4, le r.bytes 24 6, slice r.bytes 32 32)] }) ∧ (z = (if le r.bytes 24 6 ≤ v.tim.epoch && v.domainKeyAt v.tim.epoch = some (slice r.bytes 32 32) then v.dkeyInForce (le r.bytes 16 4) else v)) :=
  ⟨testAdm, ((testAdm).reach 0).consume testAdmRx, testAdmRx, (((testAdm).reach 0).consume testAdmRx).setSec { initSec with dkeys := [(0, 0, zeros 32)] }, ((((testAdm).reach 0).consume testAdmRx).setSec { initSec with dkeys := [(0, 0, zeros 32)] }).dkeyInForce 0, rfl, by decide +kernel, by decide +kernel, rfl, by decide +kernel⟩
theorem test_premises_SecurityCommands_8 : ∃ (s u : State) (r : Rx),
    (u = (s.reach r.t).consume r) ∧ (u.tko = none) ∧ (u.loaded = true) ∧ (u.merging = false) :=
  ⟨testTal initTal, ((testTal initTal).reach 0).consume ⟨0, 0, false, 0, List.replicate 128 0⟩, ⟨0, 0, false, 0, List.replicate 128 0⟩, rfl, by decide +kernel, by decide +kernel, by decide +kernel⟩
theorem test_premises_SecurityCommands_9 : ∃ (s u : State) (r : Rx) (x y : Round),
    (u = (s.reach r.t).consume r) ∧ (u.tko = none) ∧ (u.loaded = true) ∧ (u.merging = true) ∧ (x = u.roundOf (recKey r.bytes)) ∧ ((u.sec.rounds.all (fun y => y.key ≠ recKey r.bytes) && (childFor u.children (recKey r.bytes) r.port).isNone) = false) ∧ (seqOld x.nextSeq (recSeq r.bytes) = false) ∧ (y = { x with recs := [r.bytes], nextSeq := some ((recSeq r.bytes + 1) % 2 ^ 32) }) :=
  ⟨testMerge [], ((testMerge []).reach 0).consume ⟨0, 0, false, 0, List.replicate 128 0⟩, ⟨0, 0, false, 0, List.replicate 128 0⟩, (testMerge []).roundOf 0, { (testMerge []).roundOf 0 with recs := [List.replicate 128 0], nextSeq := some 1 }, rfl, by decide +kernel, by decide +kernel, by decide +kernel, by decide +kernel, by decide +kernel, by decide +kernel, by decide +kernel⟩
theorem test_premises_SecurityCommands_10 : ∃ (s v : State) (j : VerJob) (rest : List VerJob),
    (s.sec.verify = j :: rest) ∧ (v = s.setSec { s.sec with verify := rest }) :=
  ⟨{ testBlank with sec := { initSec with verify := [⟨0, [], 0⟩] } }, testBlank, ⟨0, [], 0⟩, [], by decide +kernel, rfl⟩
theorem test_premises_SecurityCommands_11 : ∃ (s : State) (j : VerJob),
    (s.sec.verify = [j]) ∧ (j.round + max 1 (s.fld F.SEC_CTRL_LAG) ≤ s.sec.roundNo) :=
  ⟨{ testBlank with sec := { initSec with verify := [⟨0, [], 0⟩], roundNo := 1 } }, ⟨0, [], 0⟩, by decide +kernel, by decide +kernel⟩
theorem test_premises_SecurityCommands_12 : ∃ (s : State) (a : Access) (w : Word),
    (s.servesPriv a = true) ∧ (s.fld F.SEC_FLOOR_GEN < w.toNat % 65536) :=
  ⟨testBlank, testHost, 5, by decide +kernel, by decide +kernel⟩
theorem test_premises_SecurityCommands_13 : ∃ (s : State) (a : Access) (w : Word),
    (s.servesPriv a = true) ∧ (w.toNat % 65536 ≤ s.fld F.SEC_FLOOR_GEN) :=
  ⟨testBlank, testHost, 0, by decide +kernel, by decide +kernel⟩
theorem test_premises_SecurityCommands_14 : ∃ (s v : State) (a : Access) (w : Word),
    (s.servesPriv a = true) ∧ (v = (s.reach a.t).plainWrite 0x0B0018 w) ∧ (v.lifecycle ≠ 4) ∧ (bits w.toNat 1 0 < v.debug) :=
  ⟨testState [(F.SEC_STATE_DEBUG, 2)], ((testState [(F.SEC_STATE_DEBUG, 2)]).reach 0).plainWrite 0x0B0018 0, testHost, 0, by decide +kernel, rfl, by decide +kernel, by decide +kernel⟩
theorem test_premises_SecurityCommands_15 : ∃ (s v : State) (a : Access) (w : Word),
    (s.servesPriv a = true) ∧ (v = (s.reach a.t).plainWrite 0x0B0018 w) ∧ (v.lifecycle = 1 ∨ v.lifecycle = 2) ∧ (v.debug < bits w.toNat 1 0) ∧ (bits w.toNat 1 0 < 3) ∧ (bit w.toNat 2 = true) ∧ (v.on F.SEC_DBG_BUSY = false) ∧ (v.on F.SEC_DBG_SRC = false) :=
  ⟨testState [(F.SEC_STATE_LIFECYCLE, 2)], ((testState [(F.SEC_STATE_LIFECYCLE, 2)]).reach 0).plainWrite 0x0B0018 5, testHost, 5, by decide +kernel, rfl, by decide +kernel, by decide +kernel, by decide +kernel, by decide +kernel, by decide +kernel, by decide +kernel⟩
theorem test_premises_SecurityCommands_16 : ∃ (s v : State) (t : Bytes),
    (s.sec.token = some t) ∧ (v = (s.setSec { s.sec with token := none }).set F.SEC_DBG_BUSY 0) :=
  ⟨{ testBlank with sec := { initSec with token := some [] } }, testBlank.set F.SEC_DBG_BUSY 0, [], by decide +kernel, rfl⟩
theorem test_premises_SecurityCommands_17 : ∃ (s : State) (e : Nat),
    (s.sec.notAfter = some e) ∧ (e ≤ s.tim.epoch) :=
  ⟨{ testBlank with sec := { initSec with notAfter := some 0 } }, 0, by decide +kernel, by decide +kernel⟩
theorem test_premises_SecurityCommands_18 : ∃ (s v : State) (a : Access) (w : Word),
    (s.servesPriv a = true) ∧ (v = (s.reach a.t).plainWrite 0x0B0024 w) ∧ (bit w.toNat 0 = true) ∧ (v.on F.SEC_ATT_BUSY = false) :=
  ⟨testBlank, (testBlank.reach 0).plainWrite 0x0B0024 1, testHost, 1, by decide +kernel, rfl, by decide +kernel, by decide +kernel⟩
theorem test_premises_SecurityCommands_19 : ∃ (s : State) (n : Bytes),
    (s.sec.forming = some n) :=
  ⟨{ testBlank with sec := { initSec with forming := some [] } }, [], by decide +kernel⟩
theorem test_premises_ImageCommands_1 : ∃ (s v : State) (a : Access) (w : Word),
    (s.servesPriv a = true) ∧ (v = (s.reach a.t).plainWrite 0x000050 w) ∧ (v.mayStage = true) ∧ (v.imgState = imIdle) ∧ (v.on F.BLK_IMG_CTRL_SRC = false) :=
  ⟨testState [(F.BLK_ROLE, 1), (F.BLK_STATE, 1)], ((testState [(F.BLK_ROLE, 1), (F.BLK_STATE, 1)]).reach 0).plainWrite 0x000050 0, testHost, 0, by decide +kernel, rfl, by decide +kernel, by decide +kernel, by decide +kernel⟩
theorem test_premises_ImageCommands_2 : ∃ (s v : State) (a : Access) (w : Word),
    (s.servesPriv a = true) ∧ (v = (s.reach a.t).plainWrite 0x000050 w) ∧ (v.mayStage = false) :=
  ⟨testBlank, (testBlank.reach 0).plainWrite 0x000050 0, testHost, 0, by decide +kernel, rfl, by decide +kernel⟩
theorem test_premises_ImageCommands_3 : ∃ (s v : State) (a : Access) (w : Word),
    (s.servesPriv a = true) ∧ (v = (s.reach a.t).plainWrite 0x000050 w) ∧ (v.mayStage = true) ∧ (v.imgState = imStaged) ∧ (v.tim.epoch + 1 < v.imgTarget) :=
  ⟨testStaged, (testStaged.reach 0).plainWrite 0x000050 0, testHost, 0, by decide +kernel, rfl, by decide +kernel, by decide +kernel, by decide +kernel⟩
theorem test_premises_ImageCommands_4 : ∃ (s v : State) (a : Access) (w : Word),
    (s.servesPriv a = true) ∧ (v = (s.reach a.t).plainWrite 0x000050 w) ∧ (v.imgState = imStaged) :=
  ⟨testStaged, (testStaged.reach 0).plainWrite 0x000050 0, testHost, 0, by decide +kernel, rfl, by decide +kernel⟩
theorem test_premises_ImageCommands_5 : ∃ (s u : State),
    (s.imgState = imPending) ∧ (s.img.target = s.tim.epoch + 1) ∧ (u = s.reachNs (s.tim.nextNs - 50000)) :=
  ⟨testPend, testPend.reachNs (testPend.tim.nextNs - 50000), by decide +kernel, by decide +kernel, rfl⟩
theorem test_premises_ContinuityCommands_1 : ∃ (s v : State) (a : Access) (w : Word),
    (s.servesPriv a = true) ∧ (v = (s.reach a.t).plainWrite 0x0C0000 w) ∧ (v.con.ckptAt = none) ∧ (v.con.copy = none) ∧ (v.tim.epoch < v.fld F.CON_CKPT_EPOCH_LO + 2 ^ 32 * v.fld F.CON_CKPT_EPOCH_HI_EPOCH) :=
  ⟨testCon, (testCon.reach 0).plainWrite 0x0C0000 0, testHost, 0, by decide +kernel, rfl, by decide +kernel, by decide +kernel, by decide +kernel⟩
theorem test_premises_ContinuityCommands_2 : ∃ (s v : State) (a : Access) (w : Word),
    (s.servesPriv a = true) ∧ (v = (s.reach a.t).plainWrite 0x0C0000 w) ∧ (v.fld F.CON_CKPT_EPOCH_LO + 2 ^ 32 * v.fld F.CON_CKPT_EPOCH_HI_EPOCH ≤ v.tim.epoch) :=
  ⟨testBlank, (testBlank.reach 0).plainWrite 0x0C0000 0, testHost, 0, by decide +kernel, rfl, by decide +kernel⟩
theorem test_premises_ContinuityCommands_3 : ∃ (s : State) (k : Copy),
    (s.con.copy = some k) ∧ (k.trailer = true) ∧ (k.acked = k.data.length) ∧ (k.held = false) :=
  ⟨{ testBlank with con := { initCon with copy := some ⟨0, 0, [], [], 0, 0, true, [], false, 0⟩ } }, ⟨0, 0, [], [], 0, 0, true, [], false, 0⟩, by decide +kernel, by decide +kernel, by decide +kernel, by decide +kernel⟩
theorem test_premises_ContinuityCommands_4 : ∃ (s v : State) (a : Access) (w : Word),
    (s.servesPriv a = true) ∧ (v = (s.reach a.t).plainWrite 0x0C0000 w) ∧ (v.con.ckptAt.isSome = true ∨ v.con.copy.isSome = true) :=
  ⟨testAsked, (testAsked.reach 0).plainWrite 0x0C0000 0, testHost, 0, by decide +kernel, rfl, by decide +kernel⟩
theorem test_premises_ContinuityCommands_5 : ∃ (s v : State) (a : Access) (w : Word),
    (s.servesPriv a = true) ∧ (v = (s.reach a.t).plainWrite 0x0C0000 w) ∧ (v.fld F.CON_RST_STAT_STATE ≠ 1) ∧ (v.svc = svcBringup) ∧ (v.fld F.BRU_STATUS_PHASE = 5) :=
  ⟨testState [(F.BRU_STATUS_PHASE, 5)], ((testState [(F.BRU_STATUS_PHASE, 5)]).reach 0).plainWrite 0x0C0000 0, testHost, 0, by decide +kernel, rfl, by decide +kernel, by decide +kernel, by decide +kernel⟩
theorem test_premises_ContinuityCommands_6 : ∃ (s v : State) (a : Access) (w : Word),
    (s.servesPriv a = true) ∧ (v = (s.reach a.t).plainWrite 0x0C0000 w) ∧ (v.fld F.CON_RST_STAT_STATE ≠ 1) ∧ (v.svc = svcTest ∨ v.svc = svcService) :=
  ⟨testState [(F.BLK_STATE, 2)], ((testState [(F.BLK_STATE, 2)]).reach 0).plainWrite 0x0C0000 0, testHost, 0, by decide +kernel, rfl, by decide +kernel, by decide +kernel⟩
theorem test_premises_ContinuityCommands_7 : ∃ (s v : State) (b : Bytes) (err : Bool),
    (s.con.fetched = some (b, err)) ∧ (v = s.setCon { s.con with fetched := none }) :=
  ⟨{ testBlank with con := { initCon with fetched := some ([], true) } }, testBlank, [], true, by decide +kernel, rfl⟩
theorem test_premises_ContinuityCommands_8 : ∃ (s v : State) (a : Access) (w : Word),
    (s.servesPriv a = true) ∧ (v = (s.reach a.t).plainWrite 0x0C0028 w) :=
  ⟨testBlank, (testBlank.reach 0).plainWrite 0x0C0028 0, testKiosk, 0, by decide +kernel, rfl⟩
theorem test_premises_ContinuityCommands_9 : ∃ (s u : State) (p : Nat),
    (s.con.kiosk.waiting.contains p = true) ∧ (u = s.reachNs (s.con.kiosk.startNs + 1000 * s.fld F.CON_KSK_STAT_START_US)) :=
  ⟨testKioskW, testKioskW.reachNs 0, 0, by decide +kernel, rfl⟩
theorem test_premises_ContinuityCommands_10 : ∃ (s : State) (p : Nat),
    (s.con.kioskLoad = false) ∧ (s.con.kioskStage = false) :=
  ⟨testBlank, 0, by decide +kernel, by decide +kernel⟩
theorem test_premises_ContinuityCommands_11 : ∃ (s v : State) (a : Access) (w : Word),
    (s.servesPriv a = true) ∧ (v = (s.reach a.t).plainWrite 0x0C0020 w) ∧ (v.svc = svcTest) :=
  ⟨testState [(F.BLK_STATE, 1)], ((testState [(F.BLK_STATE, 1)]).reach 0).plainWrite 0x0C0020 0, testHost, 0, by decide +kernel, rfl, by decide +kernel⟩
theorem test_premises_ContinuityCommands_12 : ∃ (s v : State) (a : Access) (w : Word),
    (s.servesPriv a = true) ∧ (v = (s.reach a.t).plainWrite 0x0C0020 w) ∧ (v.svc = svcService) ∧ ((s.reach a.t).operatorAccess a = false) :=
  ⟨testState [(F.BLK_STATE, 2)], ((testState [(F.BLK_STATE, 2)]).reach 0).plainWrite 0x0C0020 0, testHost, 0, by decide +kernel, rfl, by decide +kernel, by decide +kernel⟩
theorem test_premises_ContinuityCommands_13 : ∃ (s v : State) (a : Access) (w : Word),
    (s.servesPriv a = true) ∧ (v = (s.reach a.t).plainWrite 0x0C0020 w) :=
  ⟨testBlank, (testBlank.reach 0).plainWrite 0x0C0020 0, testHost, 0, by decide +kernel, rfl⟩
theorem test_premises_ContinuityCommands_14 : ∃ (s u v : State) (i : Nat),
    (s.fiNext = some i) ∧ (s.on F.CON_FI_CTRL_ARMED = true) ∧ (s.fiEpoch i = s.tim.epoch) ∧ (u = s.reachNs (s.tim.openNs + 1000 * s.fld (F.CON_FI_C_OFFSET_US i))) ∧ (v = (u.setCon { u.con with fiDone := u.con.fiDone ++ [i] }).fiShow) :=
  ⟨testFi, testFi.reachNs 0, testFi.setCon { testFi.con with fiDone := [0] }, 0, by decide +kernel, by decide +kernel, by decide +kernel, rfl, rfl⟩
theorem test_premises_ContinuityCommands_15 : ∃ (s u : State) (i : Inject),
    (s.con.inject = some i) ∧ (i.active = true) ∧ (u = s.reachNs i.untilNs) ∧ (i.cls ≠ 4) :=
  ⟨{ testBlank with con := { initCon with inject := some ⟨2, 0, 0, 0, true, false⟩ } }, ({ testBlank with con := { initCon with inject := some ⟨2, 0, 0, 0, true, false⟩ } } : State).reachNs 0, ⟨2, 0, 0, 0, true, false⟩, by decide +kernel, by decide +kernel, rfl, by decide +kernel⟩
end

/-! The rules of bytes and of the judgement of accesses (R5, R46): O26 and O10. -/

namespace Sys2Proof.Machine

/-! ### Little-endian fields (R5) -/

@[simp] theorem toLE_length (n v : Nat) : (toLE n v).length = n := by
  induction n generalizing v with
  | zero => rfl
  | succ n ih => simp [toLE, ih]

/-- The bytes behind a field of `n` bytes do not count in it. -/
theorem leHead_toLE_append (n v : Nat) (post : Bytes) : leHead n (toLE n v ++ post) = v % 256 ^ n := by
  induction n generalizing v with
  | zero => simp [leHead, Nat.mod_one]
  | succ n ih =>
    calc leHead (n + 1) (toLE (n + 1) v ++ post) = v % 256 + 256 * (v / 256 % 256 ^ n) := by simp [toLE, leHead, ih]
      _ = v % 256 ^ (n + 1) := by rw [Nat.pow_succ', Nat.mod_mul]

theorem le_append_toLE (pre post : Bytes) (n v : Nat) : le (pre ++ toLE n v ++ post) pre.length n = v % 256 ^ n := by
  rw [le, List.append_assoc, List.drop_left, leHead_toLE_append]

/-- Settles O26: reading a field back, by induction on its width, wherever in the record it stands. -/
theorem littleEndian : Obligations.LittleEndian := by
  unfold Obligations.LittleEndian
  refine ⟨fun n v => ⟨toLE_length n v, ?_⟩, le_append_toLE⟩
  simpa using le_append_toLE [] [] n v

/-! ### The order of the error codes (R46) -/

theorem judge_unaligned (s : State) (a : Access) (addr : Nat) (wr : Bool) (h4 : addr % 4 ≠ 0) : s.judge a addr wr = .decode 1 := by
  simp only [State.judge, if_pos h4]

theorem judge_unmapped (s : State) (a : Access) (addr : Nat) (wr : Bool) (h4 : addr % 4 = 0) (hm : s.mapped addr = false) :
    s.judge a addr wr = .decode 2 := by
  simp [State.judge, h4, hm]

theorem judge_write_readOnly (s : State) (a : Access) (addr : Nat) (h4 : addr % 4 = 0) (hm : s.mapped addr = true)
    (hro : inRanges roWindows addr = true) : s.judge a addr true = .decode 4 := by
  simp [State.judge, h4, hm, hro]

/-- A write where writes are possible is denied to an access that is not privileged, before HOLD or a switch can have it retried (R21). -/
theorem judge_write_unprivileged (s : State) (a : Access) (addr : Nat) (h4 : addr % 4 = 0) (hm : s.mapped addr = true)
    (hro : inRanges roWindows addr = false) (ht : trayAddr addr = false) (hp : privileged a = false) : s.judge a addr true = .denied 2 := by
  simp [State.judge, h4, hm, hro, ht, hp]

/-- A privileged read outside the Ledger's pages is never denied: it waits for HOLD (R469) and for a switch of its window (R406) alone. -/
theorem judge_read_privileged (s : State) (a : Access) (addr : Nat) (h4 : addr % 4 = 0) (hm : s.mapped addr = true)
    (hp : privileged a = true) (hl : ledgerAddr addr = false) :
    s.judge a addr false = if (s.power = 2 ∧ holdServes addr = false) ∨ s.switching addr = true then .retry else .ok := by
  simp [State.judge, h4, hm, hp, hl]

/-- Settles O10: one lemma about the judgement for each code, in the order of R46. -/
theorem errorOrder : Obligations.ErrorOrder :=
  ⟨judge_unaligned, judge_unmapped, judge_write_readOnly, judge_write_unprivileged, judge_read_privileged⟩

end Sys2Proof.Machine

/-! The register file at power-up of the Spoke (R7, R479): O6. -/

namespace Sys2Proof.Machine

/-! ### The register file at power-up (R7, R479) -/

/-- The fields that power-up sets beside the constants of the Reset column: build figures, and fields that RESET_N keeps. -/
def powerPuts (b : Build) : List (Fld × Nat) := [
  (F.BLK_BUILD_LANES, b.lanes), (F.BLK_BUILD_LINK_PORTS, b.ports), (F.BLK_BUILD_KIOSK_CORES, b.kioskCores), (F.INF_CAPS_MAX_DEPTH, 10),
  (F.INF_STORE_FREE_KIB, match b with | .spoke => 2048 | .hub => 32768),
  (F.TIM_GM_RANK, 7), (F.TIM_UPSTREAM_PORT0, 127), (F.TIM_UPSTREAM_PORT1, 127), (F.TIM_UPSTREAM_PORT2, 127), (F.TIM_UPSTREAM_PORT3, 127),
  (F.TIM_STATUS_UP_PORT, 127), (F.TIM_SEAL_LAG_LAG_US, 20), (F.LED_CFG_KEEP, 8192), (F.BRU_RETRY, 5000)]

theorem powerRegs_eq (b : Build) : powerRegs b = (powerPuts b).foldl (fun m p => putField m p.1 p.2) (resetRegs b []) := by
  cases b <;> simp only [powerRegs, buildRegs, powerPuts, List.foldl_cons, List.foldl_nil, putField]

theorem reset_regs : State.reset.regs = powerRegs .spoke := by
  simp only [State.reset, State.powerOn]

/-- Writing fields leaves the bits of a word that none of them holds. -/
theorem get_foldl_putField_apart (g : Fld) (a : Nat) (ps : List (Fld × Nat)) (m : Regs)
    (h : ∀ p ∈ ps, p.1.addr = a → p.1.hi < g.lo ∨ g.hi < p.1.lo) :
    g.get (regRead (ps.foldl (fun m p => putField m p.1 p.2) m) a) = g.get (regRead m a) := by
  induction ps generalizing m with
  | nil => rfl
  | cons p ps ih =>
    rw [List.foldl_cons, ih _ fun q hq => h q (List.mem_cons_of_mem _ hq)]
    by_cases ha : p.1.addr = a
    · rw [putField, ha, regRead_regWrite_same, Fld.get_put_disjoint _ _ _ _ (h p (List.mem_cons_self ..) ha)]
    · rw [putField, regRead_regWrite_ne _ _ (Ne.symm ha)]

/-- Constants laid over a file that already shows `w` at an address leave `w` there, when none of them has another word for it. -/
theorem regRead_foldl_or_same (a : Nat) (w : Word) (cs : List (Nat × Word)) (m : Regs) (hm : regRead m a = w)
    (h : ∀ p ∈ cs, p.1 = a → p.2 = w) : regRead (cs.foldl (fun m p => regWrite m p.1 (regRead m p.1 ||| p.2)) m) a = w := by
  induction cs generalizing m with
  | nil => exact hm
  | cons p cs ih =>
    refine ih _ ?_ fun q hq => h q (List.mem_cons_of_mem _ hq)
    by_cases ha : p.1 = a
    · simp [ha, hm, h p (List.mem_cons_self ..) ha]
    · rw [regRead_regWrite_ne _ _ (Ne.symm ha), hm]

/-- Constants laid over a file that shows 0 at an address leave there the one word that they have for it. -/
theorem regRead_foldl_or_zero (a : Nat) (w : Word) (cs : List (Nat × Word)) (m : Regs) (hm : regRead m a = 0)
    (hw : w = 0 ∨ (a, w) ∈ cs) (h : ∀ p ∈ cs, p.1 = a → p.2 = w) :
    regRead (cs.foldl (fun m p => regWrite m p.1 (regRead m p.1 ||| p.2)) m) a = w := by
  induction cs generalizing m with
  | nil => exact hm.trans (hw.resolve_right List.not_mem_nil).symm
  | cons p cs ih =>
    have hcs : ∀ q ∈ cs, q.1 = a → q.2 = w := fun q hq => h q (List.mem_cons_of_mem _ hq)
    by_cases ha : p.1 = a
    · exact regRead_foldl_or_same a w cs _ (by simp [ha, hm, h p (List.mem_cons_self ..) ha]) hcs
    · refine ih _ (by rw [regRead_regWrite_ne _ _ (Ne.symm ha), hm]) ?_ hcs
      exact hw.imp_right fun hmem => (List.mem_cons.1 hmem).resolve_left fun e => ha (by rw [← e])

/-- An address of an array's words that the build has. -/
def RegRow.holds (b : Build) (r : RegRow) (a : Nat) : Bool :=
  r.base ≤ a && a ≤ r.base + r.stride * (synthCount b r - 1) && (a - r.base) % r.stride = 0

theorem RegRow.holds_element (b : Build) (r : RegRow) {i : Nat} (hi : i < synthCount b r) : r.holds b (r.base + r.stride * i) = true := by
  have : r.stride * i ≤ r.stride * (synthCount b r - 1) := Nat.mul_le_mul_left _ (by omega)
  simp [RegRow.holds, this]

/-! ### A row's word at reset: each constant in its own bits -/

/-- The constant of a Reset entry that is one (R7). -/
def Rst.constant : Rst → Option Nat
  | .val v => some v
  | _ => none

/-- A word with what one field of its row adds at reset. -/
def resetField (w : Word) (f : RegField) : Word := f.rst.constant.elim w (f.fld.put w)

theorem resetWord_eq (fs : List RegField) : resetWord fs = fs.foldl resetField 0 := by
  have step : (fun w (f : RegField) => match f.rst with | .val v => f.fld.put w v | _ => w) = resetField := by
    funext w f
    unfold resetField
    cases f.rst <;> rfl
  rw [← step]; rfl

theorem get_resetField_apart (g : Fld) (w : Word) (f : RegField) (h : f.fld.hi < g.lo ∨ g.hi < f.fld.lo) : g.get (resetField w f) = g.get w := by
  unfold resetField
  cases f.rst.constant with
  | none => rfl
  | some v => exact Fld.get_put_disjoint _ _ _ _ h

theorem get_foldl_resetField_apart (g : Fld) (fs : List RegField) (w : Word) (h : ∀ f ∈ fs, f.fld.hi < g.lo ∨ g.hi < f.fld.lo) :
    g.get (fs.foldl resetField w) = g.get w := by
  induction fs generalizing w with
  | nil => rfl
  | cons f fs ih =>
    rw [List.foldl_cons, ih _ fun x hx => h x (List.mem_cons_of_mem _ hx), get_resetField_apart g w f (h f (List.mem_cons_self ..))]

/-- Among fields that share no bit, each that has a constant shows it, whatever stood there before. -/
theorem get_foldl_resetField (fs : List RegField) (w : Word) (hp : fs.Pairwise fun f g => g.fld.hi < f.fld.lo ∨ f.fld.hi < g.fld.lo)
    {f : RegField} (hf : f ∈ fs) (h32 : f.fld.hi < 32) {v : Nat} (hv : f.rst.constant = some v) (hw : v < 2 ^ f.fld.width) :
    f.fld.get (fs.foldl resetField w) = v := by
  induction fs generalizing w with
  | nil => cases hf
  | cons g fs ih =>
    obtain ⟨hg, hfs⟩ := List.pairwise_cons.1 hp
    rcases List.mem_cons.1 hf with rfl | hf
    · rw [List.foldl_cons, get_foldl_resetField_apart _ _ _ hg, resetField, hv]
      exact (Fld.get_put_same _ _ _ h32).trans (Nat.mod_eq_of_lt hw)
    · exact ih _ hfs hf

/-! ### What the map's tables show

The fields of a row share no bit and each constant fits its field; a constant that lies in a row is the row's own; and power-up sets no bit
of a field that has a constant in the Reset column. -/

theorem regTable_fields_apart : ∀ r ∈ regTable, r.fields.Pairwise fun f g => g.fld.hi < f.fld.lo ∨ f.fld.hi < g.fld.lo := by
  decide +kernel

theorem regTable_fields_fit : ∀ r ∈ regTable, ∀ f ∈ r.fields, f.fld.hi < 32 ∧ ∀ v ∈ f.rst.constant, v < 2 ^ f.fld.width := by
  decide +kernel

theorem resetConsts_in_row : ∀ r ∈ regTable, ∀ p ∈ resetConsts .spoke, r.holds .spoke p.1 = true → p.2 = resetWord r.fields := by
  decide +kernel

theorem powerPuts_apart : ∀ r ∈ regTable, ∀ f ∈ r.fields, f.rst.constant.isSome = true →
    ∀ p ∈ powerPuts .spoke, r.holds .spoke p.1.addr = true → p.1.hi < f.fld.lo ∨ f.fld.hi < p.1.lo := by
  decide +kernel

theorem get_resetWord {r : RegRow} (hr : r ∈ regTable) {f : RegField} (hf : f ∈ r.fields) {v : Nat} (hv : f.rst.constant = some v) :
    f.fld.get (resetWord r.fields) = v := by
  obtain ⟨h32, hw⟩ := regTable_fields_fit r hr f hf
  rw [resetWord_eq, get_foldl_resetField _ _ (regTable_fields_apart r hr) hf h32 hv (hw v hv)]

/-- A row with a constant that is not 0 puts it at each of its words. -/
theorem mem_resetConsts (b : Build) {r : RegRow} (hr : r ∈ regTable) {i : Nat} (hi : i < synthCount b r) (h : resetWord r.fields ≠ 0) :
    (r.base + r.stride * i, resetWord r.fields) ∈ resetConsts b :=
  List.mem_flatMap.2 ⟨r, hr, by rw [if_neg h]; exact List.mem_map.2 ⟨i, List.mem_range.2 hi, rfl⟩⟩

/-- Every word of the Spoke's map starts as the constants of its row's Reset column, before power-up adds what the column does not give. -/
theorem regRead_resetRegs_nil {r : RegRow} (hr : r ∈ regTable) {i : Nat} (hi : i < synthCount .spoke r) :
    regRead (resetRegs .spoke []) (r.base + r.stride * i) = resetWord r.fields := by
  refine regRead_foldl_or_zero _ _ _ [] rfl ?_ fun p hp ha => resetConsts_in_row r hr p hp (ha ▸ r.holds_element .spoke hi)
  exact or_iff_not_imp_left.2 (mem_resetConsts .spoke hr hi)

/-- At power-up of the Spoke a field with a constant in the Reset column holds it, at every word of its array, in the windows too. -/
theorem get_powerRegs {r : RegRow} (hr : r ∈ regTable) {f : RegField} (hf : f ∈ r.fields) {v : Nat} (hv : f.rst.constant = some v)
    {i : Nat} (hi : i < synthCount .spoke r) : f.fld.get (regRead (powerRegs .spoke) (r.base + r.stride * i)) = v := by
  have apart : ∀ p ∈ powerPuts .spoke, p.1.addr = r.base + r.stride * i → p.1.hi < f.fld.lo ∨ f.fld.hi < p.1.lo :=
    fun p hp ha => powerPuts_apart r hr f hf (by simp [hv]) p hp (ha ▸ r.holds_element .spoke hi)
  rw [powerRegs_eq, get_foldl_putField_apart _ _ _ _ apart, regRead_resetRegs_nil hr hi, get_resetWord hr hf hv]

/-- Settles O6: the constants by `get_powerRegs`, and the four values that other rules state read from the file at reset. -/
theorem resetColumn : Obligations.ResetColumn := by
  unfold Obligations.ResetColumn
  refine ⟨fun r hr _ f hf v hv i hi => ?_, ?_, ?_, ?_, ?_⟩
  · rw [State.word, reset_regs, get_powerRegs hr hf (by rw [hv]; rfl) hi]
  all_goals decide +kernel

end Sys2Proof.Machine

/-! Accesses that the block serves and allows (R6, R70, R481): O33. -/

namespace Sys2Proof.Machine

/-! ### One-bit fields of a word with bits forced to 1 -/

theorem Fld.get_oneBit (f : Fld) (w : Word) (h : f.hi = f.lo) : f.get w = (w.getLsbD f.lo).toNat := by
  apply Nat.eq_of_testBit_eq
  intro i
  rw [Fld.get_testBit, Nat.testBit_bool_toNat, Fld.width, h, Nat.add_sub_cancel_left]
  cases i <;> simp

theorem Fld.get_or_forced (f : Fld) (w m : Word) (h : f.hi = f.lo) (hm : m.getLsbD f.lo = true) : f.get (w ||| m) = 1 := by
  rw [f.get_oneBit _ h, BitVec.getLsbD_or, hm, Bool.or_true]; rfl

theorem Fld.get_or_unforced (f : Fld) (w m : Word) (h : f.hi = f.lo) (hm : m.getLsbD f.lo = false) : f.get (w ||| m) = f.get w := by
  rw [f.get_oneBit _ h, f.get_oneBit _ h, BitVec.getLsbD_or, hm, Bool.or_false]

/-! ### The Kiosk mailbox (R481) -/

section Mailbox

variable (s : State) (a : Access) (w : Word)

/-- A post leaves the host's message waiting, whether or not one waited before. -/
theorem h2kPost_full : s.h2kPost.fld F.KSK_MBOX_H2K_FULL = 1 := by
  unfold State.h2kPost
  split
  · next h => rw [fld_set _ _ _ _ (by decide)]; simpa [State.on] using h
  · rw [State.fld_set_same _ _ _ (by decide)]; rfl

theorem h2kTaken_full (hk : a.src = .kioskM) : (s.h2kTaken a).fld F.KSK_MBOX_H2K_FULL = 0 := by
  rw [State.h2kTaken, if_pos hk, State.fld_set_same _ _ _ (by decide)]; rfl

theorem k2hPost_full (hk : a.src = .kioskM) : (s.k2hPost a).fld F.KSK_MBOX_K2H_FULL = 1 := by
  rw [State.k2hPost, if_pos hk, State.fld_set_same _ _ _ (by decide)]; rfl

theorem k2hPost_h2kFull : (s.k2hPost a).fld F.KSK_MBOX_H2K_FULL = s.fld F.KSK_MBOX_H2K_FULL := by
  unfold State.k2hPost
  split
  · exact fld_set _ _ _ _ (by decide)
  · rfl

/-- K2H_POST acts last and leaves H2K_FULL, so a write with H2K_POST = 1 leaves the host's message waiting. -/
theorem mboxWrite_post (h : F.KSK_MBOX_H2K_POST.get w = 1) : (s.mboxWrite a w).fld F.KSK_MBOX_H2K_FULL = 1 := by
  simp only [State.mboxWrite, h, if_true]
  split
  · rw [k2hPost_h2kFull, h2kPost_full]
  · rw [h2kPost_full]

/-- A write by Kiosk machine mode with H2K_TAKEN = 1 and no post leaves no host message waiting. -/
theorem mboxWrite_taken (hk : a.src = .kioskM) (ht : F.KSK_MBOX_H2K_TAKEN.get w = 1) (hp : F.KSK_MBOX_H2K_POST.get w = 0) :
    (s.mboxWrite a w).fld F.KSK_MBOX_H2K_FULL = 0 := by
  simp only [State.mboxWrite, ht, hp, if_true, Nat.zero_ne_one, if_false]
  split
  · rw [k2hPost_h2kFull, h2kTaken_full _ _ hk]
  · rw [h2kTaken_full _ _ hk]

theorem mboxWrite_k2hPost (hk : a.src = .kioskM) (h : F.KSK_MBOX_K2H_POST.get w = 1) : (s.mboxWrite a w).fld F.KSK_MBOX_K2H_FULL = 1 := by
  simp only [State.mboxWrite, h, if_true]
  exact k2hPost_full _ _ hk

@[simp] theorem mboxWrite_powered : (s.mboxWrite a w).ports.powered = s.ports.powered := by
  simp only [State.mboxWrite, State.h2kTaken, State.h2kPost, State.k2hPost]
  split_ifs <;> rfl

end Mailbox

/-! ### Accesses that are served and allowed -/

/-- A read of a group's first word captures the group and answers that word (R70). -/
theorem readValue_first (s : State) (a : Access) (addr : Nat) (h : groupOf addr = some (addr, 0)) :
    s.readValue a addr = ((s.groupWords addr).headD 0, s.capture a addr (s.groupWords addr)) := by
  simp [State.readValue, h]

theorem registerRead_allowed (s : State) (a : Access) (addr : Nat) (hs : s.serves = true) (hj : s.judge a addr false = .ok)
    (ht : trayAddr addr = false) :
    s.registerRead a addr = ((s.reach a.t).readValue a addr).2.answer a .ok ((s.reach a.t).readValue a addr).1 := by
  simp only [State.registerRead, ht, Bool.false_eq_true, if_false, guardRead_allowed _ _ _ _ hs hj]

theorem exec_registerRead_allowed (s : State) (a : Access) (addr : Nat) (hs : s.serves = true) (hj : s.judge a addr false = .ok)
    (ht : trayAddr addr = false) (hg : groupOf addr = none) :
    exec (.registerRead a addr) s = .next (State.settle ((s.reach a.t).answer a .ok ((s.reach a.t).readWord addr))) := by
  rw [exec_registerRead, execRegisterRead, registerRead_allowed s a addr hs hj ht]
  simp only [State.readValue, hg, done]

theorem exec_pairLoCapture_allowed (s : State) (a : Access) (addr : Nat) (hs : s.serves = true) (hj : s.judge a addr false = .ok)
    (ha : addr = 0x010044 ∨ addr = 0x01004C ∨ addr = 0x010054 ∨ addr = 0x010064) :
    exec (.pairLoCapture a addr) s = .next (State.settle
      (((s.reach a.t).capture a addr ((s.reach a.t).groupWords addr)).answer a .ok (((s.reach a.t).groupWords addr).headD 0))) := by
  have ht : trayAddr addr = false := by rcases ha with rfl | rfl | rfl | rfl <;> decide
  have hg : groupOf addr = some (addr, 0) := by rcases ha with rfl | rfl | rfl | rfl <;> decide
  rw [exec_pairLoCapture, execPairLoCapture, registerRead_allowed s a addr hs hj ht, readValue_first _ _ _ hg]
  rfl

/-- What a served and allowed capture of a group leaves: the words kept for the source, and the first of them answered. -/
theorem done_guardRead_capture (s : State) (a : Access) (base : Nat) (ws : State → List Word) (hs : s.serves = true)
    (hj : s.judge a base false = .ok) :
    done (s.guardRead a base fun u => ((ws u).headD 0, u.capture a base (ws u)))
      = .next (State.settle (((s.reach a.t).capture a base (ws (s.reach a.t))).answer a .ok ((ws (s.reach a.t)).headD 0))) := by
  rw [guardRead_allowed _ _ _ _ hs hj]
  rfl

theorem exec_registerWrite_allowed (s : State) (a : Access) (addr : Nat) (w : Word) (hs : s.serves = true) (hj : s.judge a addr true = .ok)
    (ht : trayAddr addr = false) :
    exec (.registerWrite a addr w) s = .next (State.settle ((((s.reach a.t).regEffect a addr w).markExpert addr).answer a .ok 0)) := by
  simp only [exec_registerWrite, execRegisterWrite, State.registerWrite, ht, Bool.false_eq_true, if_false, guardWrite_allowed _ _ _ _ hs hj, done]

/-- A privileged write of KSK_MBOX that the block serves: the effect of the word, and the field `f` of the mailbox as that effect leaves it. -/
theorem done_guardWrite_mbox (s : State) (a : Access) (w : Word) (f : Fld) (v : Nat) (hs : s.servesPriv a = true) (hf : f.addr = 0x0D0040)
    (hv : ((s.reach a.t).mboxWrite a w).fld f = v) :
    ∃ t, done (s.guardWrite a 0x0D0040 fun u => u.mboxWrite a w) = .next t
      ∧ t = State.settle (((s.reach a.t).mboxWrite a w).answer a .ok 0) ∧ t.fld f = v := by
  obtain ⟨hp, -, -, -⟩ := (servesPriv_iff s a).1 hs
  have hpow : (((s.reach a.t).mboxWrite a w).answer a .ok 0).ports.powered = true := by simp [State.answer, hp]
  refine ⟨_, ?_, rfl, ?_⟩
  · rw [guardWrite_ok s a _ _ hs (by decide) (by decide), markExpert_id _ _ (by decide)]; rfl
  · rw [settle_fld _ hpow f (by rw [hf]; decide) (by rw [hf]; decide), answer_fld, hv]

theorem exec_clrMinRate_allowed (s : State) (a : Access) (hs : s.servesPriv a = true) :
    exec (.clrMinRate a) s = .next (State.settle (((s.reach a.t).set F.BLK_SPEED_MIN_RATE 0xFFF).answer a .ok 0)) := by
  rw [exec_clrMinRate, execClrMinRate, guardWrite_ok s a _ _ hs (by decide) (by decide), markExpert_id _ _ (by decide)]
  rfl

/-- Settles O33: reads and writes by what the judgement allows, captures by `done_guardRead_capture`, and the mailbox commands by the bit
that each forces in its word. -/
theorem accessCommands : Obligations.AccessCommands := by
  unfold Obligations.AccessCommands
  refine ⟨exec_registerRead_allowed, ?_, exec_pairLoCapture_allowed, ?_, ?_, ?_, ?_, ?_, ?_, exec_registerWrite_allowed, ?_, ?_, ?_,
    exec_clrMinRate_allowed⟩
  · intro s a hs hj
    exact done_guardRead_capture s a _ State.nowWords hs hj
  · intro s a ctr hs hj hc
    rw [exec_counterWindowCapture, execCounterWindowCapture, if_pos hc]
    exact done_guardRead_capture s a _ (fun u => u.ctrWords ctr) hs hj
  · intro s a metric hs hj hm
    rw [exec_sealedSumCapture, execSealedSumCapture, if_pos hm]
    exact done_guardRead_capture s a _ (fun u => u.sumWords metric) hs hj
  · intro s a cls hs hj hc
    rw [exec_classLineCapture, execClassLineCapture, if_pos hc]
    exact done_guardRead_capture s a _ (fun u => (u.led.line cls).words) hs hj
  · intro s a i hs hj hi
    rw [exec_ledgerEntryCapture, execLedgerEntryCapture, if_pos hi]
    exact done_guardRead_capture s a _ (fun u => u.entryWords (u.ledWinPos i)) hs hj
  · intro s a hs hj
    exact done_guardRead_capture s a _ (fun u => wordsOf 16 u.led.mirror) hs hj
  · intro s a cell hs hj hc
    rw [exec_optableCapture, execOptableCapture, if_pos hc, ← reach_word s a.t, ← reach_word s a.t]
    exact done_guardRead_capture s a _ (fun u => [u.word (0x5A0000 + 8 * cell), u.word (0x5A0004 + 8 * cell)]) hs hj
  · intro s a w hs
    exact done_guardWrite_mbox s a _ _ _ hs rfl (mboxWrite_post _ a _ (Fld.get_or_forced _ w _ rfl rfl))
  · intro s a w hs hk hp
    exact done_guardWrite_mbox s a _ _ _ hs rfl
      (mboxWrite_taken _ a _ hk (Fld.get_or_forced _ w _ rfl rfl) (by rw [Fld.get_or_unforced _ w _ rfl rfl, hp]))
  · intro s a w hs hk
    exact done_guardWrite_mbox s a _ _ _ hs rfl (mboxWrite_k2hPost _ a _ hk (Fld.get_or_forced _ w _ rfl rfl))

end Sys2Proof.Machine

/-! Saturating counts (R31), the reads of a Stall (R130, R138), refused accesses (R21, R46): O17, O12 and O11. -/

namespace Sys2Proof.Machine

/-! ### Counts that saturate (R31, R34, R61) -/

/-- One more in a field: its value moves by 1 up to the field's largest value, which fits the field. -/
theorem fld_inc_same (s : State) (f : Fld) (h : f.hi < 32) : (s.inc f).fld f = min (s.fld f + 1) f.max := by
  have hfit : min f.max (s.fld f + 1) < 2 ^ f.width := by
    have hmax : f.max < 2 ^ f.width := Nat.sub_lt (Nat.two_pow_pos _) Nat.one_pos
    omega
  rw [State.inc, State.add, State.fld_set_same _ _ _ h, Nat.mod_eq_of_lt hfit, Nat.min_comm]

/-- Settles O17: the field itself by `fld_inc_same`, every other by `fld_inc`; the rest of the state is not written. -/
theorem countersSaturate : Obligations.CountersSaturate := by
  unfold Obligations.CountersSaturate
  intro s f g hhi _
  exact ⟨fld_inc_same s f hhi, fld_inc s f g, rfl⟩

/-! ### What an access that is not privileged may read (R130, R138) -/

/-- The windows of counters (grant bit 0) and of the catalogue and the sealed sums (grant bit 1). -/
def UserWindow (addr b : Nat) : Prop :=
  (0x200000 ≤ addr ∧ addr ≤ 0x4FFFFF ∧ b = 0) ∨ (0x500000 ≤ addr ∧ addr ≤ 0x503FFF ∧ b = 1) ∨
    (0x510000 ≤ addr ∧ addr ≤ 0x51FFFF ∧ b = 1)

theorem UserWindow.grantBit {addr b : Nat} (h : UserWindow addr b) : grantBit addr = some b := by
  unfold UserWindow at h
  unfold Machine.grantBit
  grind

theorem UserWindow.mapped {addr b : Nat} (h : UserWindow addr b) (s : State) : s.mapped addr = true := by
  have hw : inRanges mapWindows addr = true := by
    unfold UserWindow at h
    simp [inRanges, mapWindows]
    omega
  simp [State.mapped, hw]

theorem UserWindow.not_privOnly {addr b : Nat} (h : UserWindow addr b) : inRanges privOnly addr = false := by
  unfold UserWindow at h
  simp [inRanges, privOnly]
  omega

theorem UserWindow.not_holdServes {addr b : Nat} (h : UserWindow addr b) : holdServes addr = false := by
  unfold UserWindow at h
  simp [holdServes]
  omega

/-- The three conditions of R130 in their order. -/
theorem judgeUserRead_window {addr b : Nat} (h : UserWindow addr b) (s : State) (a : Access) :
    s.judgeUserRead a addr =
      if s.svc ≠ svcService then .denied 1
      else if bit (s.grant a.stall.toNat).toNat b = false then .denied 3
      else if (s.ownerAt addr).1 ≠ a.stall.toNat ∧ (s.ownerAt addr).2 = false then .denied 2 else .ok := by
  simp only [State.judgeUserRead, h.not_privOnly, h.grantBit]
  grind

/-- A read by an access that is not privileged: what the window's rules allow still waits for HOLD (R469) and a switch (R406). -/
theorem judge_read_unprivileged (s : State) (a : Access) (addr : Nat) (h4 : addr % 4 = 0) (hm : s.mapped addr = true)
    (hp : privileged a = false) :
    s.judge a addr false =
      if s.judgeUserRead a addr = .ok then if (s.power = 2 ∧ holdServes addr = false) ∨ s.switching addr = true then .retry else .ok
      else s.judgeUserRead a addr := by
  cases hv : s.judgeUserRead a addr <;> simp [State.judge, h4, hm, hp, hv]

/-- Settles O12: the three conditions by `judgeUserRead_window`, and HOLD and a switch by `judge_read_unprivileged`. -/
theorem userReads : Obligations.UserReads := by
  unfold Obligations.UserReads
  intro s a addr b h4 hp (h : UserWindow addr b)
  rw [judge_read_unprivileged s a addr h4 (h.mapped s) hp, judgeUserRead_window h]
  simp only [h.not_holdServes, and_true]
  split_ifs <;> simp_all

/-! ### Refused accesses (R21, R24, R31, R46, R61) -/

section Refusals

variable (s : State) (a : Access) (addr : Nat)

theorem guardRead_refused (f : State → Word × State) (hs : s.serves = true) (hj : s.judge a addr false ≠ .ok) :
    s.guardRead a addr f = (s.reach a.t).refuse a (s.judge a addr false) := by
  simp only [State.guardRead, reach_serves, hs, reach_judge]
  cases hv : s.judge a addr false <;> simp_all

/-- A refused write has no effect of its own, but that a refused write of BLK_STATE_REQ is also a refused request. -/
theorem guardWrite_refused (f : State → State) (hs : s.serves = true) (hj : s.judge a addr true ≠ .ok)
    (hq : addr ≠ 0x14 ∨ ∀ c, s.judge a addr true ≠ .denied c) :
    s.guardWrite a addr f = (s.reach a.t).refuse a (s.judge a addr true) := by
  simp only [State.guardWrite, reach_serves, hs, reach_judge]
  cases hv : s.judge a addr true <;> simp_all

theorem guardWrite_refusedRequest (f : State → State) {c : Nat} (hs : s.serves = true) (hj : s.judge a 0x14 true = .denied c) :
    s.guardWrite a 0x14 f = (((s.reach a.t).set F.BLK_STATE_REQ_REFUSED 1).inc F.BLK_STATE_REFUSALS).refuse a (.denied c) := by
  simp [State.guardWrite, hs, hj]

theorem guardRead_unserved (f : State → Word × State) (hs : s.serves = false) : s.guardRead a addr f = s.reach a.t := by
  simp [State.guardRead, hs]

theorem guardWrite_unserved (f : State → State) (hs : s.serves = false) : s.guardWrite a addr f = s.reach a.t := by
  simp [State.guardWrite, hs]

theorem exec_registerRead_guard (ht : trayAddr addr = false) :
    exec (.registerRead a addr) s = .next (s.guardRead a addr fun u => u.readValue a addr).settle := by
  simp [exec_registerRead, execRegisterRead, State.registerRead, ht, done]

theorem exec_registerWrite_guard (w : Word) (ht : trayAddr addr = false) :
    exec (.registerWrite a addr w) s = .next (s.guardWrite a addr fun u => u.regEffect a addr w).settle := by
  simp [exec_registerWrite, execRegisterWrite, State.registerWrite, ht, done]

theorem exec_registerRead_refused {v : Verdict} (ht : trayAddr addr = false) (hs : s.serves = true) (hj : s.judge a addr false = v)
    (hv : v ≠ .ok) : exec (.registerRead a addr) s = .next ((s.reach a.t).refuse a v).settle := by
  subst hj
  rw [exec_registerRead_guard s a addr ht, guardRead_refused s a addr _ hs hv]

theorem exec_registerWrite_refused (w : Word) {v : Verdict} (ht : trayAddr addr = false) (hs : s.serves = true)
    (hj : s.judge a addr true = v) (hv : v ≠ .ok) (hq : addr ≠ 0x14 ∨ ∀ c, v ≠ .denied c) :
    exec (.registerWrite a addr w) s = .next ((s.reach a.t).refuse a v).settle := by
  subst hj
  rw [exec_registerWrite_guard s a addr w ht, guardWrite_refused s a addr _ hs hv hq]

end Refusals

/-- Settles O11: a refused access is `State.refuse` of its verdict, and a block that cannot answer only reaches the access's time. -/
theorem refusedAccess : Obligations.RefusedAccess := by
  unfold Obligations.RefusedAccess
  refine ⟨?_, ?_, ?_, ?_, ?_, ?_, ?_, ?_⟩
  · intro s a addr c ht hs hj
    exact exec_registerRead_refused s a addr ht hs hj (by simp)
  · intro s a addr c w ht hs hj
    exact exec_registerWrite_refused s a addr w ht hs hj (by simp) (by simp)
  · intro s a addr c ht hs hj
    exact exec_registerRead_refused s a addr ht hs hj (by simp)
  · intro s a addr c w ht hne hs hj
    exact exec_registerWrite_refused s a addr w ht hs hj (by simp) (.inl hne)
  · intro s a c w hs hj
    rw [exec_registerWrite_guard s a 0x14 w (by decide), guardWrite_refusedRequest s a _ hs hj]
    rfl
  · intro s a addr ht hs hj
    exact exec_registerRead_refused s a addr ht hs hj (by simp)
  · intro s a addr w ht hs hj
    exact exec_registerWrite_refused s a addr w ht hs hj (by simp) (by simp)
  · intro s a addr w ht hs
    rw [exec_registerRead_guard s a addr ht, exec_registerWrite_guard s a addr w ht, guardRead_unserved s a addr _ hs,
      guardWrite_unserved s a addr _ hs]
    exact ⟨rfl, rfl⟩

end Sys2Proof.Machine

/-! The clearing commands and the clearing words of the block region (R32, R66): O34 and O28. -/

namespace Sys2Proof.Machine

/-! ### Clearing rows (R32, R66 and the other clearing words) -/

/-- What `clears_of` asks of the register and of what is cleared: a plain register that is never marked, and nothing in a word that shows levels. -/
def clearsSafely (addr : Nat) (ws : List Nat) (fs : List Fld) : Bool :=
  plainAddr addr && decide (addr < 0x200000) && expertMask addr == 0 && ws.all (fun w => w != 0x44 && w != 0x1000C)
    && fs.all (fun f => decide (f.hi < 32) && f.addr != 0x44 && f.addr != 0x1000C)

theorem clears_of_safe {i : Access → Instr} {ws fs addr} {clr : State → State} (hexec : ∀ a s, exec (i a) s = done (s.guardWrite a addr clr))
    (hclr : ∀ s, clr s = s.zeroed ws fs) (h : clearsSafely addr ws fs = true) : Clears i ws fs := by
  simp only [clearsSafely, Bool.and_eq_true, decide_eq_true_eq, beq_iff_eq] at h
  obtain ⟨⟨⟨⟨hp, hl⟩, hm⟩, hw⟩, hf⟩ := h
  exact clears_of hexec hclr hp hl hm hw hf

/-- Settles O34: each row sets its words and fields to 0 at a register of its own, and `clears_of` says what that leaves. -/
theorem clearingCommands : Obligations.ClearingCommands := by
  unfold Obligations.ClearingCommands
  and_intros
  all_goals exact clears_of_safe (fun _ _ => rfl) (fun _ => by simp only [State.zeroed, List.foldl]; rfl) (by decide +kernel)

/-! ### The clearing words of the block region (R32, R66) -/

theorem bit_toNat (w : Word) (k : Nat) : bit w.toNat k = w.getLsbD k := by
  rw [bit, BitVec.getLsbD, Nat.testBit_eq_decide_div_mod_eq]

theorem word_ite (c : Prop) [Decidable c] (s t : State) (b : Nat) : (if c then s else t).word b = if c then s.word b else t.word b :=
  apply_ite (fun u : State => u.word b) c s t

theorem ports_ite (c : Prop) [Decidable c] (s t : State) : (if c then s else t).ports = if c then s.ports else t.ports :=
  apply_ite State.ports c s t

theorem fld_ite (c : Prop) [Decidable c] (s t : State) (f : Fld) : (if c then s else t).fld f = if c then s.fld f else t.fld f :=
  apply_ite (fun u : State => u.fld f) c s t

section Clearing

variable (s : State) (b : Nat) (f : Fld) (w : Word)

theorem clearWords_ports (ws : List Nat) : (s.clearWords ws).ports = s.ports := by
  have h : s.clearWords ws = { s with regs := (s.clearWords ws).regs } := zeroed_frame s ws []
  rw [h]

theorem clrDeny_word : s.clrDeny.word b = if b = 0x20 then 0 else s.word b := by
  simp [State.clrDeny, clearWords_word]

theorem clrRegerr_word : s.clrRegerr.word b = if b = 0x2C then 0 else s.word b := by
  simp [State.clrRegerr, clearWords_word]

theorem clrLaneWait_word_lane {i : Nat} (hi : i < 128) : s.clrLaneWait.word (0x100 + 4 * i) = 0 := by
  rw [State.clrLaneWait, clearWords_word, if_pos (List.mem_map.2 ⟨i, List.mem_range.2 hi, rfl⟩)]

theorem clrLaneWait_word_ne (h : ∀ i, i < 128 → b ≠ 0x100 + 4 * i) : s.clrLaneWait.word b = s.word b := by
  rw [State.clrLaneWait, clearWords_word, if_neg]
  simp only [List.mem_map, List.mem_range, not_exists, not_and]
  exact fun i hi he => h i hi he.symm

theorem clrState_word_ne (h : b ≠ 0x10) : s.clrState.word b = s.word b := State.word_set_ne _ _ _ _ h

theorem clrTileFault_word_ne (h : b ≠ 0x28) : s.clrTileFault.word b = s.word b := State.word_set_ne _ _ _ _ h

theorem clrMinRate_word_ne (h : b ≠ 0x30) : s.clrMinRate.word b = s.word b := State.word_set_ne _ _ _ _ h

theorem clrDeny_fld (h : f.addr ≠ 0x20) : s.clrDeny.fld f = s.fld f :=
  State.fld_of_word (by rw [clrDeny_word, if_neg h])

theorem clrRegerr_fld (h : f.addr ≠ 0x2C) : s.clrRegerr.fld f = s.fld f :=
  State.fld_of_word (by rw [clrRegerr_word, if_neg h])

theorem clrLaneWait_fld (h : f.addr < 0x100) : s.clrLaneWait.fld f = s.fld f :=
  State.fld_of_word (clrLaneWait_word_ne s _ fun i _ => by omega)

theorem regEffect_clears (a : Access) (addr : Nat) (hb : s.absentAt addr = false) (hc : (clearsOf addr).isEmpty = false) :
    s.regEffect a addr w = s.clearBits addr w := by
  simp [State.regEffect, hb, hc]

/-- What a write of BLK_CTR_CLR does, bit by bit. -/
theorem regEffect_ctrClr (a : Access) : s.regEffect a 0x24 w =
    let s := if w.getLsbD 0 then s.clrDeny else s
    let s := if w.getLsbD 1 then s.clrLaneWait else s
    let s := if w.getLsbD 2 then s.clrState else s
    if w.getLsbD 3 then s.clrTileFault else s := by
  rw [regEffect_clears s w a _ (by simp [State.absentAt]) (by decide)]
  simp [State.clearBits, clearsOf, List.range_succ, bit_toNat]

theorem regEffect_portClr (a : Access) : s.regEffect a 0x40 w =
    let s := if w.getLsbD 0 then s.clrRegerr else s
    if w.getLsbD 1 then s.clrMinRate else s := by
  rw [regEffect_clears s w a _ (by simp [State.absentAt]) (by decide)]
  simp [State.clearBits, clearsOf, List.range_succ, bit_toNat]

end Clearing

/-- A privileged write of a register below the windows: answered OK, and its effect is what reads back once the pins have settled. -/
theorem exec_registerWrite_plain (s : State) (a : Access) (addr : Nat) (w : Word) (hs : s.servesPriv a = true) (hp : plainAddr addr = true)
    (hl : addr < 0x200000) (hm : expertMask addr = 0) (hpow : ((s.reach a.t).regEffect a addr w).ports.powered = true) :
    ∃ t, exec (.registerWrite a addr w) s = .next t ∧ t.ports.answer = some ⟨a.src, .ok, 0⟩ ∧
      (∀ b, b ≠ 0x44 → b ≠ 0x1000C → t.word b = ((s.reach a.t).regEffect a addr w).word b) ∧
      (∀ f : Fld, f.addr ≠ 0x44 → f.addr ≠ 0x1000C → t.fld f = ((s.reach a.t).regEffect a addr w).fld f) := by
  have ht : trayAddr addr = false := by
    simp only [plainAddr, Bool.and_eq_true, Bool.not_eq_true'] at hp
    obtain ⟨⟨-, ht⟩, -⟩ := hp
    exact ht
  obtain ⟨u, hu⟩ : ∃ u, u = (s.reach a.t).regEffect a addr w := ⟨_, rfl⟩
  rw [← hu] at hpow ⊢
  have hpow' : (u.answer a .ok 0).ports.powered = true := hpow
  refine ⟨(u.answer a .ok 0).settle, ?_, ?_, fun b h1 h2 => ?_, fun f h1 h2 => ?_⟩
  · rw [exec_registerWrite_guard s a addr w ht, guardWrite_ok s a addr _ hs hp hl, markExpert_id _ _ hm, hu]
  · obtain ⟨-, -, hans, -⟩ := settle_ports _ hpow'
    rw [hans]; rfl
  · exact settle_word _ hpow' b h1 h2
  · rw [settle_fld _ hpow' f h1 h2, answer_fld]

theorem ctrClr_ports (s : State) (a : Access) (w : Word) : (s.regEffect a 0x24 w).ports = s.ports := by
  simp [regEffect_ctrClr, ports_ite, State.clrDeny, State.clrLaneWait, State.clrState, State.clrTileFault, clearWords_ports]

theorem portClr_ports (s : State) (a : Access) (w : Word) : (s.regEffect a 0x40 w).ports = s.ports := by
  simp [regEffect_portClr, ports_ite, State.clrRegerr, State.clrMinRate, clearWords_ports]

/-- A word that none of the four clearings names stays. -/
theorem ctrClr_word_ne (s : State) (a : Access) (w : Word) (b : Nat) (h1 : b ≠ 0x20) (h2 : ∀ i, i < 128 → b ≠ 0x100 + 4 * i) (h3 : b ≠ 0x10)
    (h4 : b ≠ 0x28) : (s.regEffect a 0x24 w).word b = s.word b := by
  simp [regEffect_ctrClr, word_ite, clrDeny_word, h1, clrLaneWait_word_ne _ b h2, clrState_word_ne _ b h3, clrTileFault_word_ne _ b h4]

theorem ctrClr_word_deny (s : State) (a : Access) (w : Word) :
    (s.regEffect a 0x24 w).word 0x20 = if w.getLsbD 0 then 0 else s.word 0x20 := by
  have hl : ∀ u : State, u.clrLaneWait.word 0x20 = u.word 0x20 := fun u => clrLaneWait_word_ne u _ fun i _ => by omega
  simp [regEffect_ctrClr, word_ite, clrDeny_word, hl, clrState_word_ne, clrTileFault_word_ne]

theorem ctrClr_word_lane (s : State) (a : Access) (w : Word) {i : Nat} (hi : i < 128) :
    (s.regEffect a 0x24 w).word (0x100 + 4 * i) = if w.getLsbD 1 then 0 else s.word (0x100 + 4 * i) := by
  have hd : 0x100 + 4 * i ≠ 0x20 := by omega
  have hs : 0x100 + 4 * i ≠ 0x10 := by omega
  have ht : 0x100 + 4 * i ≠ 0x28 := by omega
  simp [regEffect_ctrClr, word_ite, clrDeny_word, hd, clrLaneWait_word_lane _ hi, clrState_word_ne _ _ hs, clrTileFault_word_ne _ _ ht]

/-- A field of the low words that CLR_STATE and CLR_TILE_FAULT do not name stays, BLK_DENY apart. -/
theorem ctrClr_fld_other (s : State) (a : Access) (w : Word) (f : Fld)
    (h : f.addr < 0x44 ∧ f.addr ≠ 0x20 ∧ (f.addr ≠ 0x10 ∨ 23 < f.lo ∨ f.hi < 16) ∧ (f.addr ≠ 0x28 ∨ 15 < f.lo)) :
    (s.regEffect a 0x24 w).fld f = s.fld f := by
  obtain ⟨hlow, hdeny, hstate, htile⟩ := h
  simp [regEffect_ctrClr, fld_ite, clrDeny_fld _ f hdeny, clrLaneWait_fld _ f (by omega), State.clrState, State.clrTileFault,
    fld_set _ F.BLK_STATE_REFUSALS f 0 hstate, fld_set _ F.BLK_TILE_FAULT_COUNT f 0 (htile.imp_right .inl)]

theorem ctrClr_refusals (s : State) (a : Access) (w : Word) :
    (s.regEffect a 0x24 w).fld F.BLK_STATE_REFUSALS = if w.getLsbD 2 then 0 else s.fld F.BLK_STATE_REFUSALS := by
  simp [regEffect_ctrClr, fld_ite, clrDeny_fld, clrLaneWait_fld, State.clrState, State.clrTileFault, State.fld_set_same, fld_set]

theorem ctrClr_tileFaults (s : State) (a : Access) (w : Word) :
    (s.regEffect a 0x24 w).fld F.BLK_TILE_FAULT_COUNT = if w.getLsbD 3 then 0 else s.fld F.BLK_TILE_FAULT_COUNT := by
  simp [regEffect_ctrClr, fld_ite, clrDeny_fld, clrLaneWait_fld, State.clrState, State.clrTileFault, State.fld_set_same, fld_set]

theorem portClr_word_ne (s : State) (a : Access) (w : Word) (b : Nat) (h1 : b ≠ 0x2C) (h2 : b ≠ 0x30) :
    (s.regEffect a 0x40 w).word b = s.word b := by
  simp [regEffect_portClr, word_ite, clrRegerr_word, h1, clrMinRate_word_ne _ b h2]

theorem portClr_word_regerr (s : State) (a : Access) (w : Word) :
    (s.regEffect a 0x40 w).word 0x2C = if w.getLsbD 0 then 0 else s.word 0x2C := by
  simp [regEffect_portClr, word_ite, clrRegerr_word, clrMinRate_word_ne]

theorem portClr_minRate (s : State) (a : Access) (w : Word) :
    (s.regEffect a 0x40 w).fld F.BLK_SPEED_MIN_RATE = if w.getLsbD 1 then 0xFFF else s.fld F.BLK_SPEED_MIN_RATE := by
  simp [regEffect_portClr, fld_ite, clrRegerr_fld, State.clrMinRate, State.fld_set_same, Fld.width]

theorem portClr_fld_other (s : State) (a : Access) (w : Word) (f : Fld) (h1 : f.addr ≠ 0x2C) (h2 : 23 < f.lo ∨ f.hi < 12) :
    (s.regEffect a 0x40 w).fld f = s.fld f := by
  simp [regEffect_portClr, fld_ite, clrRegerr_fld _ f h1, State.clrMinRate, fld_set _ F.BLK_SPEED_MIN_RATE f _ (.inr h2)]

/-- Settles O28: the write's effect by `exec_registerWrite_plain`, each word and field of it by the lemma that says which bit clears it. -/
theorem clearingWords : Obligations.ClearingWords := by
  unfold Obligations.ClearingWords
  refine ⟨fun s a w hs => ?_, fun s a w hs => ?_⟩ <;> obtain ⟨hpow, -, -, -⟩ := (servesPriv_iff s a).1 hs
  · obtain ⟨t, ht, hans, hw, hf⟩ := exec_registerWrite_plain s a 0x24 w hs (by decide) (by decide) (by decide)
      (by rw [ctrClr_ports, reach_ports, hpow])
    refine ⟨t, ht, ?_, fun i hi => ?_, ?_, ?_, ?_, ?_, ?_, hans, fun b hd hl hst htf ha htim => ?_⟩
    · rw [hw _ (by decide) (by decide), ctrClr_word_deny, reach_word]
    · rw [hw _ (by omega) (by omega), ctrClr_word_lane _ _ _ hi, reach_word]
    · rw [hf _ (by decide) (by decide), ctrClr_refusals, reach_fld]
    · rw [hf _ (by decide) (by decide), ctrClr_tileFaults, reach_fld]
    · rw [hf _ (by decide) (by decide), ctrClr_fld_other _ _ _ _ (by decide), reach_fld]
    · rw [State.svc, hf _ (by decide) (by decide), ctrClr_fld_other _ _ _ _ (by decide), reach_fld]; rfl
    · rw [hf _ (by decide) (by decide), ctrClr_fld_other _ _ _ _ (by decide), reach_fld]
    · rw [hw _ ha htim, ctrClr_word_ne _ _ _ _ hd hl hst htf, reach_word]
  · obtain ⟨t, ht, hans, hw, hf⟩ := exec_registerWrite_plain s a 0x40 w hs (by decide) (by decide) (by decide)
      (by rw [portClr_ports, reach_ports, hpow])
    refine ⟨t, ht, ?_, ?_, ?_, ?_, hans, fun b hr hsp ha htim => ?_⟩
    · rw [hw _ (by decide) (by decide), portClr_word_regerr, reach_word]
    · rw [hf _ (by decide) (by decide), portClr_minRate, reach_fld]
    · rw [hf _ (by decide) (by decide), portClr_fld_other _ _ _ _ (by decide) (by decide), reach_fld]
    · rw [hf _ (by decide) (by decide), portClr_fld_other _ _ _ _ (by decide) (by decide), reach_fld]
    · rw [hw _ ha htim, portClr_word_ne _ _ _ _ hr hsp, reach_word]

end Sys2Proof.Machine

/-! What the block holds at reset (R69, R89, R301), and commands of the service state, the crossbar and the ports: O7 and O31. -/

namespace Sys2Proof.Machine

/-! ### The parts at reset (R22, R69, R89, R301, R370) -/

/-- Service state, bring-up phase and role stand at 0 in the register file at power-up (R22, R370). -/
theorem reset_state_fields : State.reset.fld F.BLK_STATE = 0 ∧ State.reset.fld F.BRU_STATUS_PHASE = 0 ∧ State.reset.fld F.BLK_ROLE = 0 := by
  decide +kernel

/-- Settles O7: the three register fields from the file at power-up, every other part as `State.powerOn` builds it. -/
theorem resetParts : Obligations.ResetParts := by
  unfold Obligations.ResetParts
  obtain ⟨hsvc, hphase, hrole⟩ := reset_state_fields
  have hloaded : State.reset.loaded = false := by simp [State.loaded, hrole]
  exact ⟨rfl, rfl, rfl, rfl, hsvc, hphase, hloaded, rfl, rfl, rfl, rfl, rfl, rfl, rfl, rfl, rfl, rfl, rfl, rfl⟩

/-- Among the routes that ask for a lane, one alone that is no alarm route and whose tiles work is granted, and none waits (R9, R34). -/
theorem laneGrants_single (s : State) (lane i : Nat) (x : Route) (hl : lane < s.build.lanes) (hx : s.img.tabs.routes[i]? = some x)
    (hlane : x.lane = lane) (halarm : x.alarm = false) (hsrc : s.tileDown x.src = false) (hdst : s.tileDown x.dst = false)
    (hg : s.bru.grants = []) :
    s.laneGrants lane [i] = (s.setBru { s.bru with grants := [(lane, i)] }).add (F.BLK_LANE_WAIT lane) 0 := by
  simp [State.laneGrants, hx, hlane, halarm, hsrc, hdst, hg, sortBy, insertBy, List.eraseDups_cons, hl]

/-- A tile that no route of the image uses is only isolated, counted and logged (R17, R18). -/
theorem hangTile_unrouted (s : State) (x : Nat) (ht : (tileOf s.build x).isSome = true) (hd : s.tileDown x = false)
    (hk : tileKind s.build x ≠ tkLedger) (hb : s.svc ≠ svcBringup) (hr : s.routed.contains x = false) :
    s.hangTile x = ((((s.setBru { s.bru with hung := s.bru.hung ++ [x], faults := s.bru.faults ++ [x] }).inc F.BLK_TILE_FAULT_COUNT).set
      F.BLK_TILE_FAULT_LAST_TILE x).log 0x02 0 x s.watchdog).alert 0 := by
  obtain ⟨u, hu⟩ : ∃ u, u = ((((s.setBru { s.bru with hung := s.bru.hung ++ [x], faults := s.bru.faults ++ [x] }).inc
    F.BLK_TILE_FAULT_COUNT).set F.BLK_TILE_FAULT_LAST_TILE x).log 0x02 0 x s.watchdog).alert 0 := ⟨_, rfl⟩
  have hbuild : u.build = s.build := by simp [hu]
  have hsvc : u.svc = s.svc := by simp [State.svc, hu, fld_alert, fld_log, fld_set, fld_inc]
  have hrouted : u.routed = s.routed := by simp [State.routed, hu]
  have hwatch : (s.setBru { s.bru with hung := s.bru.hung ++ [x], faults := s.bru.faults ++ [x] }).watchdog = s.watchdog := by
    simp [State.watchdog]
  have hsome : (tileOf s.build x).isNone = false := by simpa using ht
  simp only [State.hangTile, hsome, hd, hwatch, ← hu, hbuild, hk, hsvc, hb, hrouted, hr]
  simp

/-! ### Ports (R43, R44, R48, R49) -/

theorem portStall_tally (s : State) (ho : s.tal.asked.isSome = true) (hs : s.ports.stallSub = []) :
    s.portStall 1 0 = (((s.setPorts { s.ports with stallSub := [(1, 0)] }).set F.BLK_PORT_FAULT_STALLED
      (s.fld F.BLK_PORT_FAULT_STALLED ||| 2)).log 0x03 0 129 s.portTimeout).alert 0 := by
  have htimeout : ∀ (p : PortSt) (v : Nat), ((s.setPorts p).set F.BLK_PORT_FAULT_STALLED v).portTimeout = s.portTimeout := by
    intro p v
    simp [State.portTimeout, fld_set]
  simp [State.portStall, State.outstanding, stallKey, ho, hs, htimeout]

/-- A break of the phase order on the Host Register Port discards nothing beyond the access (R49). -/
theorem phaseBreak_hostRegister (s : State) :
    s.phaseBreak 0 0 = (((s.set F.BLK_PORT_FAULT_PROTO (s.fld F.BLK_PORT_FAULT_PROTO ||| 1)).log 0x04 0 128 0).alert 0).unstall 0 0 := by
  simp [State.phaseBreak, State.discardTransfer, stallKey]

/-- With no floor set a window only reports its rate and the least rate since the last clear (R56). -/
theorem speedWindow_noFloor (s : State) (rate : Nat) (hf : s.fld F.BLK_SPEED_FLOOR = 0) :
    s.speedWindow rate = (s.set F.BLK_SPEED_RATE rate).set F.BLK_SPEED_MIN_RATE (min rate (s.fld F.BLK_SPEED_MIN_RATE)) := by
  simp [State.speedWindow, fld_set, hf]

theorem hostWritten_plan (s : State) (ok : Bool) (x : HWrite) (rest : List HWrite) (hw : s.ports.hwrites = x :: rest) (ho : x.owner = .plan) :
    s.hostWritten ok = ((s.unstall 4 0).setPorts { (s.unstall 4 0).ports with hwrites := rest }).planWritten ok x.last := by
  simp [State.hostWritten, hw, ho]

/-- Sixteen bytes join a fetch that still wants more than these (R43). -/
theorem bootRx_more (s : State) (d : BitVec 128) (j : Job) (rest : List Job) (hst : s.ports.bootStalled = false) (hj : s.ports.jobs = j :: rest)
    (hk : j.kind ≠ .dump) (hmore : j.got.length + 16 < j.want) :
    s.bootRx (toLE 16 d.toNat) false = (s.unstall 5 0).setPorts { (s.unstall 5 0).ports with
      jobs := { j with addr := j.addr + 16, got := j.got ++ toLE 16 d.toNat } :: rest } := by
  simp [State.bootRx, hst, hj, hk, Nat.not_le.2 hmore]

theorem tck_rising_idle (s : State) (tms tdi : Bool) (hp : s.testPort = true) (ht : s.ports.tap = 1) :
    s.tck true tms tdi = s.setPorts { s.ports with tap := if tms then 2 else 1 } := by
  cases tms <;> simp [State.tck, State.tckRise, hp, ht, tapNext]

/-! ### Service state (R23, R24) -/

/-- The privileged request for TEST from SERVICE waits for the next boundary (R23). -/
theorem exec_stateRequest_test (s : State) (a : Access) (w : Word) (hs : s.servesPriv a = true) (hpend : s.on F.BLK_STATE_PEND_VALID = false)
    (hsvc : s.svc = svcService) (ht : F.BLK_STATE_REQ_TARGET.get w = svcTest) :
    exec (.stateRequest a w) s = .next (State.settle
      ((((s.reach a.t).set F.BLK_STATE_PEND_TARGET svcTest).set F.BLK_STATE_PEND_VALID 1).answer a .ok 0)) := by
  have heffect : (s.reach a.t).stateRequest w = (s.reach a.t).pendState svcTest := by
    simp [State.stateRequest, hpend, hsvc, ht, svcBringup, svcTest, svcService]
  rw [exec_stateRequest, execStateRequest, guardWrite_ok s a _ _ hs (by decide) (by decide), markExpert_id _ _ (by decide), heffect]
  rfl

theorem recoveryDone_met (s : State) (hs : s.svc = svcRecovery) (hm : s.recoveryMet = true) :
    s.recoveryDone = s.setBru { s.bru with recDone := true } := by
  simp [State.recoveryDone, hs, hm]

/-- Settles O31: each command's meaning by its `exec_` equation, its effect by the lemma about the operation it names. -/
theorem blockCommands : Obligations.BlockCommands := by
  unfold Obligations.BlockCommands
  refine ⟨exec_stateRequest_test, ?_, ?_, ?_, ?_, ?_, ?_, ?_, ?_, ?_, ?_⟩
  · intro s hs hm
    rw [exec_recoveryComplete, execRecoveryComplete, recoveryDone_met s hs hm]; rfl
  · intro s lane i x hl hx hlane halarm hsrc hdst hg
    rw [exec_routeHandshake, execRouteHandshake, laneGrants_single s lane i x hl hx hlane halarm hsrc hdst hg]; rfl
  · intro s t x ht hd hk hb hr
    have hd' : (s.reach t).tileDown x = false := by simpa [State.tileDown] using hd
    have hr' : (s.reach t).routed.contains x = false := by simpa [State.routed] using hr
    rw [exec_tileHung, execTileHung, hangTile_unrouted (s.reach t) x (by simpa using ht) hd' (by simpa using hk) (by simpa using hb) hr']
    simp [State.watchdog, done]
  · intro s ho hst
    rw [exec_portStallTimeout, execPortStallTimeout, portStall_tally s ho hst]; rfl
  · intro s t _
    rw [exec_phaseOrderBreak, execPhaseOrderBreak, phaseBreak_hostRegister, reach_fld]; rfl
  · intro s rate hf
    rw [exec_speedWindow, execSpeedWindow, speedWindow_noFloor s _ hf]; rfl
  · intro s t x rest hw ho
    rw [exec_hostMemoryWriteDone, execHostMemoryWriteDone, hostWritten_plan (s.reach t) _ x rest (by rw [reach_ports, hw]) ho]; rfl
  · intro s t d j rest hst hj hk hmore
    have h := bootRx_more (s.reach t) d j rest (by rw [reach_ports, hst]) (by rw [reach_ports, hj]) hk hmore
    rw [exec_bootReadResponse, execBootReadResponse]
    simp only [ne_eq, not_true_eq_false, decide_false, h, done]
  · intro s t hr
    simp [exec_issueGateReq, execIssueGateReq, State.issueReq, hr, done]
  · intro s tms tdi hp ht
    rw [exec_tckEdge, execTckEdge, tck_rising_idle s tms tdi hp ht]; rfl

end Sys2Proof.Machine

/-! What a step leaves at the pins (R39, R60, R96, R468): O3, O4, O5 and O27. -/

namespace Sys2Proof.Machine

/-! ### Every command has its effect, and then the block settles (R46, R479) -/

/-- No arm of the dispatch refuses or faults: each is `done` of the state that its command's definition gives. -/
theorem exec_settles (i : Instr) (s : State) : ∃ u : State, exec i s = .next u.settle := by
  cases i <;> exact ⟨_, rfl⟩

theorem step_settles (s : State) : ∃ u : State, step s = .next u.settle := by
  unfold step
  cases s.pending with
  | nil => exact ⟨s.idle, rfl⟩
  | cons c rest => exact exec_settles c (s.tail rest)

/-- Settles O3: a step settles, whichever command is at the front of the queue. -/
theorem everyCommandCompletes : Obligations.EveryCommandCompletes := by
  unfold Obligations.EveryCommandCompletes
  intro s
  obtain ⟨u, hu⟩ := step_settles s
  exact ⟨u.settle, hu⟩

/-! ### Settling in two parts: the fields that show levels, then the pins -/

/-- The state with a field at a value, written only where it differs, as settling writes the fields that show levels. -/
def State.hold (s : State) (f : Fld) (v : Nat) : State := if s.fld f = v then s else s.set f v

theorem hold_cases (s : State) (f : Fld) (v : Nat) : (s.fld f = v ∧ s.hold f v = s) ∨ s.hold f v = s.set f v := by
  by_cases h : s.fld f = v <;> simp [State.hold, h]

theorem hold_fld_same (s : State) (f : Fld) (v : Nat) (hf : f.hi < 32) (hv : v < 2 ^ f.width) : (s.hold f v).fld f = v := by
  obtain ⟨h, he⟩ | he := hold_cases s f v
  · rw [he, h]
  · rw [he, State.fld_set_same s f v hf, Nat.mod_eq_of_lt hv]

theorem hold_fld (s : State) (f g : Fld) (v : Nat) (h : g.addr ≠ f.addr ∨ f.hi < g.lo ∨ g.hi < f.lo) : (s.hold f v).fld g = s.fld g := by
  obtain ⟨-, he⟩ | he := hold_cases s f v
  · rw [he]
  · rw [he, fld_set s f g v h]

@[simp] theorem hold_inForce (s : State) (f : Fld) (v : Nat) : (s.hold f v).inForce = s.inForce := by unfold State.hold; split <;> rfl
@[simp] theorem hold_tim (s : State) (f : Fld) (v : Nat) : (s.hold f v).tim = s.tim := by unfold State.hold; split <;> rfl
@[simp] theorem hold_ports (s : State) (f : Fld) (v : Nat) : (s.hold f v).ports = s.ports := by unfold State.hold; split <;> rfl
theorem setPorts_hold (s : State) (p : PortSt) (f : Fld) (v : Nat) : (s.setPorts p).hold f v = (s.hold f v).setPorts p := by
  simp only [State.hold, setPorts_fld]; split <;> rfl

/-- The register part of settling: PENDING holds the levels (R39), and ASYM_MISSING shows the ports used for time (R96). -/
def State.showLevels (s : State) : State :=
  let u := s.hold F.BLK_ALERT_PENDING (s.fld F.BLK_ALERT_PENDING ||| s.levels)
  u.hold F.TIM_STATUS_ASYM_MISSING u.asymMissing

/-- The pin part of settling: ALERT_N (R39) and the test port (R60). -/
def State.showPins (s : State) : State :=
  s.setPorts { (if s.testPort then s.ports else s.ports.tapReset) with
    alertN := s.fld F.BLK_ALERT_PENDING &&& s.fld F.BLK_ALERT_EN != 0 }

theorem settle_powered (s : State) (h : s.ports.powered = true) : s.settle = s.showLevels.showPins := by
  simp only [State.settle, h, Bool.not_true, Bool.false_eq_true, if_false]
  rfl

theorem settle_unpowered (s : State) (h : s.ports.powered = false) : s.settle = s.off := by simp [State.settle, h]

theorem off_powered (s : State) : s.off.ports.powered = false := rfl

theorem off_off (s : State) : s.off.off = s.off := rfl

/-! ### What levels, ASYM_MISSING and the test port depend on -/

/-- Every field outside BLK_ALERT and ASYM_MISSING reads as before. -/
theorem showLevels_fld (s : State) (g : Fld) (h1 : g.addr ≠ 0x44) (h2 : g.addr ≠ 0x1000C ∨ 16 < g.lo ∨ g.hi < 16) :
    s.showLevels.fld g = s.fld g := by
  simp only [State.showLevels]
  rw [hold_fld _ _ _ _ h2, hold_fld _ _ _ _ (Or.inl h1)]

theorem levels_lt (s : State) : s.levels < 2 ^ 14 := by
  unfold State.levels
  split <;> split <;> split <;> decide

theorem showLevels_levels (s : State) : s.showLevels.levels = s.levels := by
  have hact : s.showLevels.act F.SVC_CTRL_ALERT_EN = s.act F.SVC_CTRL_ALERT_EN := by simp [State.act, State.showLevels]
  simp [State.levels, State.on, hact, showLevels_fld]

theorem hold_asymMissing (s : State) (f : Fld) (v : Nat) (h : f.addr < 0x11008) : (s.hold f v).asymMissing = s.asymMissing := by
  have hv : ∀ p, (s.hold f v).fld (F.TIM_ASYM_EXT_VALID p) = s.fld (F.TIM_ASYM_EXT_VALID p) := fun p =>
    hold_fld s f _ v (Or.inl (by dsimp; omega))
  simp only [State.asymMissing, State.on, hold_tim, hv]

theorem showLevels_asymMissing (s : State) : s.showLevels.asymMissing = s.asymMissing := by
  simp only [State.showLevels]
  rw [hold_asymMissing _ _ _ (by decide), hold_asymMissing _ _ _ (by decide)]

theorem asymMissing_lt (s : State) : s.asymMissing < 2 := by
  unfold State.asymMissing b2n
  split <;> decide

theorem showLevels_pending (s : State) : s.showLevels.fld F.BLK_ALERT_PENDING = s.fld F.BLK_ALERT_PENDING ||| s.levels := by
  simp only [State.showLevels]
  rw [hold_fld _ _ _ _ (Or.inl (by decide)), hold_fld_same _ _ _ (by decide) (Nat.or_lt_two_pow (s.fld_lt _) (levels_lt s))]

theorem showLevels_asym (s : State) : s.showLevels.fld F.TIM_STATUS_ASYM_MISSING = s.asymMissing := by
  simp only [State.showLevels]
  rw [hold_fld_same _ _ _ (by decide) (asymMissing_lt _), hold_asymMissing _ _ _ (by decide)]

theorem showLevels_testPort (s : State) : s.showLevels.testPort = s.testPort := by
  simp [State.testPort, showLevels_fld]

@[simp] theorem showLevels_ports (s : State) : s.showLevels.ports = s.ports := by simp [State.showLevels]

/-- The registers that settling leaves are those that `showLevels` leaves; it changes pins besides. -/
theorem settle_regs (s : State) (h : s.ports.powered = true) : s.settle.regs = s.showLevels.regs := by
  rw [settle_powered s h]; rfl

theorem settle_levels (s : State) (h : s.ports.powered = true) : s.settle.levels = s.levels := by
  rw [settle_powered s h, ← showLevels_levels s]; rfl

theorem settle_asymMissing (s : State) (h : s.ports.powered = true) : s.settle.asymMissing = s.asymMissing := by
  rw [settle_powered s h, ← showLevels_asymMissing s]; rfl

theorem settle_testPort (s : State) (h : s.ports.powered = true) : s.settle.testPort = s.testPort := by
  rw [settle_powered s h, ← showLevels_testPort s]; rfl

/-! ### The pins agree with the registers once the block has settled -/

theorem settle_pending_field (s : State) (h : s.ports.powered = true) :
    s.settle.fld F.BLK_ALERT_PENDING = s.fld F.BLK_ALERT_PENDING ||| s.levels := by
  rw [State.fld_congr (settle_regs s h), showLevels_pending]

theorem settle_asym_field (s : State) (h : s.ports.powered = true) : s.settle.fld F.TIM_STATUS_ASYM_MISSING = s.asymMissing := by
  rw [State.fld_congr (settle_regs s h), showLevels_asym]

theorem settle_alertN (s : State) (h : s.ports.powered = true) :
    s.settle.ports.alertN = (s.settle.fld F.BLK_ALERT_PENDING &&& s.settle.fld F.BLK_ALERT_EN != 0) := by
  rw [settle_powered s h]; rfl

/-- A test port that may not work is in reset once the block has settled (R60). -/
theorem settle_testPort_closed (s : State) (h : s.ports.powered = true) (ht : s.testPort = false) :
    s.settle.ports.tdo = false ∧ s.settle.ports.tap = 0 ∧ s.settle.ports.tapIr = none := by
  rw [settle_powered s h]
  simp [State.showPins, showLevels_testPort, ht, PortSt.tapReset]

theorem settle_pinsAgree (s : State) : s.settle.PinsAgree := by
  unfold State.PinsAgree
  cases h : s.ports.powered with
  | false =>
    rw [settle_unpowered s h]
    exact ⟨fun hp => absurd hp (by simp [off_powered]), fun _ => (off_off s).symm⟩
  | true =>
    have hlevels : s.settle.fld F.BLK_ALERT_PENDING ||| s.settle.levels = s.settle.fld F.BLK_ALERT_PENDING := by
      rw [settle_pending_field s h, settle_levels s h, Nat.or_assoc, Nat.or_self]
    have hasym : s.settle.fld F.TIM_STATUS_ASYM_MISSING = s.settle.asymMissing := by
      rw [settle_asym_field s h, settle_asymMissing s h]
    obtain ⟨hpow, -⟩ := settle_ports s h
    refine ⟨fun _ => ⟨settle_alertN s h, hlevels, hasym, fun ht => ?_⟩, fun hoff => ?_⟩
    · exact settle_testPort_closed s h (by rw [← settle_testPort s h, ht])
    · rw [hpow] at hoff; cases hoff

/-- Settles O4: a step settles (`step_settles`), and a settled block's pins agree with its registers. -/
theorem pinsAgreeKept : Obligations.PinsAgreeKept := by
  unfold Obligations.PinsAgreeKept
  intro s t hst
  obtain ⟨u, hu⟩ := step_settles s
  obtain rfl : u.settle = t := Host.Outcome.next.inj (hu.symm.trans hst)
  exact settle_pinsAgree u

/-! ### At reset (R381) -/

theorem reset_level_fields :
    State.reset.fld F.BLK_ALERT_PENDING = 0 ∧ State.reset.fld F.TIM_STATUS_ASYM_MISSING = 0 ∧ State.reset.levels = 0 := by
  decide +kernel

/-- Settles O5: no bit is pending and no level lasts in the register file at power-up, and the pins are as `initPorts` gives them. -/
theorem resetPinsAgree : Obligations.ResetPinsAgree := by
  unfold Obligations.ResetPinsAgree State.PinsAgree
  obtain ⟨hpending, hasym, hlevels⟩ := reset_level_fields
  refine ⟨⟨fun _ => ⟨?_, ?_, hasym, fun _ => ⟨rfl, rfl, rfl⟩⟩, fun hoff => absurd hoff (by decide)⟩, rfl, hlevels⟩
  · rw [hpending, Nat.zero_and]; rfl
  · rw [hpending, hlevels]; rfl

/-! ### A closed test port (R60, R438) -/

theorem testPort_iff (s : State) :
    s.testPort = true ↔ s.fld F.BLK_POWER_STATE < 2 ∧ (s.lifecycle = 0 ∨ (s.lifecycle = 3 ∧ s.debug = 2)) := by
  simp [State.testPort, State.lifecycle, State.debug]

theorem showLevels_setPorts (s : State) (p : PortSt) : (s.setPorts p).showLevels = s.showLevels.setPorts p := by
  have hlevels : (s.setPorts p).levels = s.levels := rfl
  have hasym : ∀ u : State, (u.setPorts p).asymMissing = u.asymMissing := fun _ => rfl
  simp only [State.showLevels, setPorts_fld, hlevels, setPorts_hold, hasym]

/-- Settling a block whose test port is closed does the same whether or not the test logic is in reset already. -/
theorem settle_tapReset (s : State) (ht : s.testPort = false) : (s.setPorts s.ports.tapReset).settle = s.settle := by
  cases h : s.ports.powered with
  | false =>
    rw [settle_unpowered s h, settle_unpowered (s.setPorts s.ports.tapReset) h]; rfl
  | true =>
    have hclosed : (s.showLevels.setPorts s.ports.tapReset).testPort = false := (showLevels_testPort s).trans ht
    have hclosed' : s.showLevels.testPort = false := (showLevels_testPort s).trans ht
    rw [settle_powered s h, settle_powered (s.setPorts s.ports.tapReset) h, showLevels_setPorts]
    simp only [State.showPins, hclosed, hclosed', Bool.false_eq_true, if_false, setPorts_ports, showLevels_ports, setPorts_fld]
    rfl

theorem tck_closed (s : State) (rising tms tdi : Bool) (ht : s.testPort = false) : s.tck rising tms tdi = s.setPorts s.ports.tapReset := by
  simp [State.tck, ht]

/-- Settles O27: the port's condition by its definition, an edge by `tck_closed`, and what every step leaves by the pins' invariant. -/
theorem testPortClosed : Obligations.TestPortClosed := by
  unfold Obligations.TestPortClosed
  refine ⟨testPort_iff, ?_, ?_⟩
  · intro s rising tms tdi ht
    rw [exec_tckEdge, execTckEdge, tck_closed s rising tms tdi ht, done, settle_tapReset s ht]
  · intro s t hst hpow ht
    obtain ⟨hpins, -⟩ := pinsAgreeKept s t hst
    obtain ⟨-, -, -, hclosed⟩ := hpins hpow
    exact hclosed ht

end Sys2Proof.Machine

/-! Resets by RESET_N and in-band, and the reset records of neighbours (R50, R381, R383, R385, R387): O30. -/

namespace Sys2Proof.Machine

/-! ### RESET_N (R50, R381, R383) -/

theorem settle_resetLow (s : State) (h : s.ports.powered = true) : s.settle.ports.resetLow = s.ports.resetLow := by
  rw [settle_powered s h]
  simp only [State.showPins, setPorts_ports, showLevels_ports]
  split <;> rfl

theorem resetLow_high (s : State) (h : s.ports.resetLow = false) :
    s.resetLow = (s.setPorts { s.ports with resetLow := true }).assertReset 1 := by
  simp [State.resetLow, h]

/-- After a reset asserts no wave req is raised (R378). -/
theorem afterReset_gates (b : BruSt) (id : Nat) : ∀ g ∈ (b.afterReset id).gates, g.req = false := by
  intro g hg
  obtain ⟨x, -, rfl⟩ := List.mem_map.1 hg
  rfl

theorem resetHigh_low (s : State) (sel : Bool) (hlow : s.ports.resetLow = true) (hdue : s.bru.inbandDue = false) :
    s.resetHigh sel = (s.setPorts { s.ports with resetLow := false, bootSel := sel, bootSampled := true }).leaveReset := by
  simp [State.resetHigh, hlow, hdue]

/-- HELD_RESET goes out on every port that is UP once RESET_N has been held for HELD_MS (R383). -/
theorem heldBeacon_low (s u : State) (hlow : s.ports.resetLow = true) (hu : u = s.reachNs (s.ports.resetAt / 8 + 1000000 * s.heldMs)) :
    s.heldBeacon = (u.mgmtEach u.upPorts 10 [(20, toLE 4 u.ident), (24, toLE 4 u.heldMs), (28, toLE 2 (s.fld F.BRU_RESET_COUNT))]).set
      F.BRU_RESET_HELD 1 := by
  simp [State.heldBeacon, hlow, hu]

/-- What asserting RESET_N leaves: the host side and the parts that R381 lists as they start, the Ledger, the record chain and the epoch
as they were. -/
theorem exec_resetNAssert_parts (s : State) (t : Nat) (hhigh : s.ports.resetLow = false) (hckpt : s.con.ckptAt = none)
    (hcopy : s.con.copy = none) (hctl : s.lnk.ctl = []) :
    ∃ n, exec (.resetNAssert t) s = .next n ∧ n.ports.resetLow = true ∧ n.ports.inReset = true ∧ n.ports.jobs = [] ∧ n.ports.hwrites = []
        ∧ n.ports.gateHeld = false ∧ n.img = initImg ∧ n.scl = initScl ∧ n.red = initRed ∧ n.inf = initInf ∧ n.srv = initSrv ∧ n.tko = none
        ∧ (∀ g ∈ n.bru.gates, g.req = false) ∧ n.led = s.led ∧ n.sec.prevChain = s.sec.prevChain ∧ n.tim.epoch = s.tim.epoch
        ∧ n.build = s.build ∧ n.pending = s.pending := by
  obtain ⟨hports, himg, -, hscl, hred, htko, -, hinf, hsrv, hled, hbru, hsec, htim, hbuild, hpending, -⟩ :=
    assertReset_parts ((s.reach t).setPorts { s.ports with resetLow := true }) 1 (by simp [hckpt]) (by simp [hcopy]) (by simp [hctl])
  obtain ⟨u, hu⟩ : ∃ u, u = ((s.reach t).setPorts { s.ports with resetLow := true }).assertReset 1 := ⟨_, rfl⟩
  rw [← hu] at hports himg hscl hred htko hinf hsrv hled hbru hsec htim hbuild hpending
  have hupow : u.ports.powered = true := by rw [hports]; rfl
  obtain ⟨-, hin, -, -, hjobs, hwrites, hgate, -⟩ := settle_ports u hupow
  refine ⟨u.settle, ?_, ?_⟩
  · rw [exec_resetNAssert, execResetNAssert, resetLow_high _ (by rw [reach_ports, hhigh]), reach_ports, ← hu]; rfl
  · rw [settle_resetLow u hupow, hin, hjobs, hwrites, hgate, hports]
    refine ⟨rfl, rfl, rfl, rfl, rfl, ?_⟩
    rw [settle_img u hupow, settle_scl u hupow, settle_red u hupow, settle_inf u hupow, settle_srv u hupow, settle_tko u hupow,
      settle_bru u hupow, settle_led u hupow, settle_sec u hupow, settle_tim u hupow, settle_build u hupow, settle_pending u hupow,
      himg, hscl, hred, hinf, hsrv, htko, hbru, hled, hsec, htim, hbuild, hpending]
    exact ⟨rfl, rfl, rfl, rfl, rfl, rfl, afterReset_gates _ _, by simp, by simp [SecSt.afterReset], by simp, by simp, by simp⟩

/-! ### In-band reset (R385) -/

theorem inbandMac_congr {s t : State} (h : t.bru = s.bru) (b : Bytes) : t.inbandMac b = s.inbandMac b := by
  simp only [State.inbandMac, State.rstKey, State.fuseBytes, State.fuseWord, h]

/-- An INBAND_RESET that names the unit, with the MAC that its key gives and a later NONCE, is accepted: it is counted, its NONCE is kept and
logged, and the block is reset, to be released 1 µs later. -/
theorem inbandRx_accepted (s u : State) (x : Rx) (hin : s.ports.inReset = false) (hen : s.on F.BRU_BOOT_CFG_INBAND_EN = true)
    (hid : le x.bytes 20 4 % 2 ^ 20 = s.ident) (hmac : slice x.bytes 32 16 = s.inbandMac x.bytes) (hnonce : s.nonce < le x.bytes 24 8)
    (hcad : s.on F.TIM_STATUS_CADENCE_ADOPTED = false)
    (hu : u = (((s.inc F.BRU_INBAND_STAT_ACCEPTED).setPair F.BRU_NONCE_LO F.BRU_NONCE_HI (le x.bytes 24 8)).bruEvent
      0x3B 0 x.port 0).assertReset 2) :
    s.inbandRx x = u.setBru { u.bru with inbandDue := true } := by
  simp only [State.inbandRx, hin, hen, hid, hmac, hcad, Nat.not_le.2 hnonce]
  simp [hu]

theorem inbandOver_due (s : State) (hdue : s.bru.inbandDue = true) (hhigh : s.ports.resetLow = false) :
    s.inbandOver = ((s.reach (s.ports.resetAt + 8000)).setBru { s.bru with inbandDue := false }).leaveReset := by
  simp [State.inbandOver, hdue, hhigh]

/-! ### The reset records of neighbours (R383, R387) -/

/-- A unit that runs no takeover has one node. -/
theorem eachNode_noTakeover (s : State) (f : State → State) (h : (f s).tko = none) : s.eachNode f = f s := by
  simp [State.eachNode, State.asTakeover, h]

theorem heldRx_noTakeover (s : State) (x : Rx) (h : s.tko = none) :
    s.heldRx x = ((s.modLink x.port (fun l => { l with heldReset := true })).markAbsent (peerKey x.bytes)).bruEvent 0x3A 1 x.port
      (le x.bytes 24 4) := by
  unfold State.heldRx
  rw [eachNode_noTakeover _ _ (by simp [State.markAbsent, h])]

theorem uplinks_congr {s t : State} (hb : t.build = s.build) (hr : t.regs = s.regs) : t.uplinks = s.uplinks := by
  unfold State.uplinks
  rw [hb]
  simp only [State.fld_congr hr]

/-- A RESET_NOTICE from below, on a unit that runs no takeover. -/
theorem noticeRx_below (s : State) (x : Rx) (h : s.tko = none) (hup : s.uplinks.contains x.port = false) :
    s.noticeRx x = ((s.modLink x.port (fun l => { l with heldReset := false })).setSec
        { s.sec with rounds := s.sec.rounds.map (fun r => if r.key = peerKey x.bytes then { r with chain := none } else r) }).setRed
        { s.red with absentKeys := s.red.absentKeys.filter (fun k => k.1 ≠ peerKey x.bytes) } := by
  have hup' : ∀ (g : LinkSt → LinkSt) (q : SecSt) (r : RedSt), (((s.modLink x.port g).setSec q).setRed r).uplinks = s.uplinks :=
    fun _ _ _ => uplinks_congr rfl rfl
  unfold State.noticeRx
  simp only [eachNode_noTakeover, setRed_tko, setSec_tko, modLink_tko, h, setSec_red, modLink_red, modLink_sec, hup', hup, Bool.false_and,
    Bool.false_eq_true, if_false]

/-! ### Sending an in-band reset (R385) -/

theorem lstate_congr {s t : State} (hr : t.regs = s.regs) (p : Nat) : t.lstate p = s.lstate p := State.fld_congr hr _

/-- A port that is UP carries link-management records (R347, R354). -/
theorem carries_linkMgmt (s : State) (p : Nat) (hl : s.loaded = true) (hs : s.lstate p = lsUp) : s.carries p 2 0x52 = true := by
  simp [State.carries, hl, hs, lsUp, lsDown, lsMiscabled, lsHello]

/-- What a write of BRU_INBAND with SEND = 1 leaves, with the port named UP: BUSY is 1, the count has moved on, and of what it reads nothing
else changed. -/
theorem inbandSend_up (s : State) (w : Word) (hw : F.BRU_INBAND_SEND.get w = 1) (hl : s.loaded = true)
    (hs : s.lstate (s.fld F.BRU_INBAND_TGT_PORT) = lsUp) :
    (s.inbandSend w).fld F.BRU_INBAND_BUSY = 1 ∧ (s.inbandSend w).bru.inbandCount = (s.bru.inbandCount + 1) % 65536
      ∧ (s.inbandSend w).ports = s.ports ∧ (s.inbandSend w).led = s.led ∧ (s.inbandSend w).build = s.build
      ∧ (s.inbandSend w).pending = s.pending := by
  have hcarries : ∀ (b : BruSt) (l : List (Nat × Bytes)),
      (((s.setBru b).linkMgmt 11 l).2).carries (s.fld F.BRU_INBAND_TGT_PORT) 2 0x52 = true := by
    intro b l
    exact carries_linkMgmt _ _ (by simpa [State.loaded] using hl) ((lstate_congr rfl _).trans hs)
  simp only [State.inbandSend, hw, hcarries]
  simp [State.fld_set_same, Fld.width]

theorem exec_inbandSend_up (s : State) (a : Access) (w : Word) (hs : s.servesPriv a = true) (hw : F.BRU_INBAND_SEND.get w = 1)
    (hl : s.loaded = true) (hup : s.lstate (s.fld F.BRU_INBAND_TGT_PORT) = lsUp) :
    ∃ n, exec (.inbandSend a w) s = .next n ∧ n.fld F.BRU_INBAND_BUSY = 1 ∧ n.bru.inbandCount = (s.bru.inbandCount + 1) % 65536
        ∧ n.ports.answer = some ⟨a.src, .ok, 0⟩ ∧ n.led = s.led ∧ n.build = s.build ∧ n.pending = s.pending := by
  obtain ⟨u, hu⟩ : ∃ u, u = (s.reach a.t).plainWrite 0x0A0028 w := ⟨_, rfl⟩
  have hport : u.fld F.BRU_INBAND_TGT_PORT = s.fld F.BRU_INBAND_TGT_PORT := by
    rw [hu, fld_plainWrite _ _ _ _ (by decide), reach_fld]
  have hstate : ∀ p, u.lstate p = s.lstate p := by
    intro p
    rw [hu, State.lstate, fld_plainWrite _ _ _ _ (by dsimp; omega), reach_fld]; rfl
  have hloaded : u.loaded = true := by
    rw [hu, State.loaded, fld_plainWrite _ _ _ _ (by decide), reach_fld]; exact hl
  obtain ⟨hbusy, hcount, hports, hled, hbuild, hpending⟩ := inbandSend_up u w hw hloaded (by rw [hport, hstate, hup])
  obtain ⟨hpowered, -, -, -⟩ := (servesPriv_iff s a).1 hs
  have hpow : ((u.inbandSend w).answer a .ok 0).ports.powered = true := by
    simp only [State.answer, hports]
    simp [hu, hpowered]
  obtain ⟨-, -, hanswer, -⟩ := settle_ports _ hpow
  refine ⟨((u.inbandSend w).answer a .ok 0).settle, ?_, ?_, ?_, ?_, ?_, ?_, ?_⟩
  · rw [exec_inbandSend, execInbandSend, guardWrite_ok s a _ _ hs (by decide) (by decide), markExpert_id _ _ (by decide), ← hu]; rfl
  · rw [settle_fld _ hpow _ (by decide) (by decide), answer_fld, hbusy]
  · rw [settle_bru _ hpow, answer_bru, hcount, hu]; simp
  · rw [hanswer]; rfl
  · rw [settle_led _ hpow, answer_led, hled, hu]; simp
  · rw [settle_build _ hpow, answer_build, hbuild, hu]; simp
  · rw [settle_pending _ hpow, answer_pending, hpending, hu]; simp

/-- Settles O30: each command's meaning by its `exec_` equation, its effect by the lemma about the operation it names. -/
theorem resetCommands : Obligations.ResetCommands := by
  unfold Obligations.ResetCommands
  refine ⟨?_, ?_, ?_, ?_, ?_, ?_, ?_, exec_inbandSend_up⟩
  · intro s t _ hhigh hckpt hcopy hctl
    exact exec_resetNAssert_parts s t hhigh hckpt hcopy hctl
  · intro s t sel hlow hdue
    rw [exec_resetNRelease, execResetNRelease, resetHigh_low _ sel (by rw [reach_ports, hlow]) (by rw [reach_bru, hdue]),
      reach_ports]; rfl
  · intro s hlow
    rw [exec_resetHeldBeacon, execResetHeldBeacon, heldBeacon_low s _ hlow rfl]; rfl
  · intro s r hin hen hid hmac hnonce hcad
    rw [exec_inbandReset, execInbandReset, inbandRx_accepted ((s.reach r.t).consume r) _ r (by simpa using hin) (by simpa [State.on] using hen)
      hid (hmac.trans (inbandMac_congr (by simp) _).symm) (by simpa [State.nonce, State.pair] using hnonce) (by simpa [State.on] using hcad) rfl]
    rfl
  · intro s hdue hhigh
    rw [exec_inbandResetRelease, execInbandResetRelease, inbandOver_due s hdue hhigh]; rfl
  · intro s r htko
    rw [exec_heldReset, execHeldReset, heldRx_noTakeover _ r (by simpa using htko)]; rfl
  · intro s r htko hup
    have hup' : ((s.reach r.t).consume r).uplinks = s.uplinks := uplinks_congr (by simp) (by simp)
    rw [exec_resetNotice, execResetNotice, noticeRx_below _ r (by simpa using htko) (by rw [hup', hup])]
    simp [done]

end Sys2Proof.Machine

/-! The step that passes with no command waiting (R68, R350), and writes of the Cadence period (R90): O2 and O14. -/

namespace Sys2Proof.Machine

/-! ### One edge of TB_REF (R68) -/

theorem sext_bounds (n v : Nat) : -(2 ^ n : Int) ≤ 2 * sext n v ∧ 2 * sext n v < 2 ^ n := by
  have hlt : v % 2 ^ n < 2 ^ n := Nat.mod_lt _ (Nat.two_pow_pos n)
  have hcast : ((2 ^ n : Nat) : Int) = 2 ^ n := by push_cast; rfl
  simp only [sext]
  generalize (2 : Int) ^ n = m at hcast
  split <;> omega

theorem slewStep_bounds (left : Int) : -(2 ^ 48 / 5000) ≤ slewStep left ∧ slewStep left ≤ 2 ^ 48 / 5000 := by
  simp only [slewStep, clampI]; omega

theorem add_ofInt_ne_self (x : BitVec 112) (i : Int) (h0 : 0 < i) (h1 : i < 2 ^ 112) : x + BitVec.ofInt 112 i ≠ x := by
  intro h
  have hz := congrArg BitVec.toNat (BitVec.add_right_eq_self.1 h)
  simp only [BitVec.toNat_ofInt, BitVec.toNat_ofNat] at hz
  omega

theorem tick_stopped (s : State) (h : s.on F.TIM_STATUS_TBREF_LOST = true) : s.tick = s := by simp [State.tick, h]

theorem tick_frame (s : State) : s.tick = s.setTim s.tick.tim := by unfold State.tick; split <;> rfl

/-- An edge moves the counter by at most two units of 1 ns: RATE and the slew are fractions of it, so it never moves by 0. -/
theorem tick_now_ne (s : State) (hp : s.ports.powered = true) (hl : s.on F.TIM_STATUS_TBREF_LOST = false) :
    s.tim.now ≠ s.tick.tim.now := by
  obtain ⟨hr0, hr1⟩ := sext_bounds 29 (s.fld F.TIM_RATE_RATE_PPT)
  obtain ⟨hd0, hd1⟩ := slewStep_bounds s.tim.slew
  simp only [State.tick, hp, hl, Bool.not_true, Bool.or_self, Bool.false_eq_true, if_false]
  refine (add_ofInt_ne_self _ _ ?_ ?_).symm <;> rw [State.rate] <;> omega

/-! ### An idle step (R350) -/

theorem step_idle (s : State) (h : s.pending = []) : step s = done (s.tick.serveControl) := by simp [step, h, State.idle]

theorem serveControl_none (s : State) (h : s.lnk.ctl = []) : s.serveControl = s := by
  have hnext : s.nextRequest = none := by simp [State.nextRequest, h, sortBy]
  simp [State.serveControl, hnext]

/-- Settles O2: with no Control request queued an idle step is the edge alone, which moves the counter unless TB_REF is lost. -/
theorem idleStep : Obligations.IdleStep := by
  unfold Obligations.IdleStep
  refine ⟨step_idle, ?_, ?_⟩
  · intro s hpend hlost hctl
    rw [step_idle s hpend, tick_stopped s hlost, serveControl_none s hctl, done]
  · intro s hpend hpow hlost hctl
    have hframe := tick_frame s
    have hpow' : s.tick.ports.powered = true := by rw [hframe]; exact hpow
    have hctl' : s.tick.lnk.ctl = [] := by rw [hframe]; exact hctl
    have htim : s.tick.settle.tim = s.tick.tim := settle_tim _ hpow'
    refine ⟨s.tick.settle, ?_, ?_, ?_⟩
    · rw [step_idle s hpend, serveControl_none _ hctl', done]
    · have hsettle := settle_frame _ hpow'
      rw [htim]
      generalize s.tick.settle = t at hsettle ⊢
      rw [hframe] at hsettle
      exact hsettle
    · rw [htim]; exact tick_now_ne s hpow hlost

/-! ### Writes of PERIOD_US (R90) -/

theorem reach_moves_now (s : State) (t : Nat) : ∃ n, s.reach t = s.setTim { s.tim with now := n } := by
  unfold State.reach
  split
  · exact ⟨_, rfl⟩
  · split <;> exact ⟨_, rfl⟩

@[simp] theorem reach_cadenceSource (s : State) (t : Nat) : (s.reach t).cadenceSource = s.cadenceSource := by simp [State.cadenceSource]

theorem periodWrite_inRange (s : State) (w : Word) (hsrc : s.cadenceSource = true) (hlo : 100 ≤ F.TIM_EPOCH_PERIOD_PERIOD_US.get w)
    (hhi : F.TIM_EPOCH_PERIOD_PERIOD_US.get w ≤ 1000000) :
    s.periodWrite w = (s.set F.TIM_EPOCH_PERIOD_PERIOD_US (F.TIM_EPOCH_PERIOD_PERIOD_US.get w)).setTim
      { s.tim with periodSoon := some (2, 1000 * F.TIM_EPOCH_PERIOD_PERIOD_US.get w) } := by
  simp only [State.periodWrite, hsrc, hlo, hhi]
  rfl

theorem periodWrite_outOfRange (s : State) (w : Word) (hsrc : s.cadenceSource = true)
    (hbad : F.TIM_EPOCH_PERIOD_PERIOD_US.get w < 100 ∨ 1000000 < F.TIM_EPOCH_PERIOD_PERIOD_US.get w) :
    s.periodWrite w = s.set F.TIM_STATUS_PERIOD_BAD 1 := by
  have hout : ¬ (100 ≤ F.TIM_EPOCH_PERIOD_PERIOD_US.get w ∧ F.TIM_EPOCH_PERIOD_PERIOD_US.get w ≤ 1000000) := by omega
  simp [State.periodWrite, hsrc, hout]

theorem periodWrite_elsewhere (s : State) (w : Word) (hsrc : s.cadenceSource = false) : s.periodWrite w = s := by
  simp [State.periodWrite, hsrc]

theorem exec_periodWrite_allowed (s : State) (a : Access) (w : Word) (hs : s.servesPriv a = true) :
    exec (.periodWrite a w) s = .next ((((s.reach a.t).periodWrite w).markExpert 0x010040).answer a .ok 0).settle := by
  rw [exec_periodWrite, execPeriodWrite, guardWrite_ok s a _ _ hs (by decide) (by decide), done]

theorem exec_periodWrite_denied (s : State) (a : Access) (w : Word) (hs : s.serves = true) (hp : privileged a = false) :
    exec (.periodWrite a w) s = .next ((s.reach a.t).refuse a (.denied 2)).settle := by
  have hj := judge_write_unprivileged s a 0x010040 (by decide) (by rw [State.mapped]; rfl) (by decide) (by decide) hp
  rw [exec_periodWrite, execPeriodWrite, guardWrite_refused s a _ _ hs (by simp [hj]) (Or.inl (by decide)), hj, done]

/-- Settles O14: the write is allowed or denied by its privilege (R21), and `State.periodWrite` tells the three cases of R90 apart. -/
theorem periodWrites : Obligations.PeriodWrites := by
  unfold Obligations.PeriodWrites
  refine ⟨?_, ?_, ?_, exec_periodWrite_denied⟩
  · intro s a w hs hsrc hlo hhi
    rw [exec_periodWrite_allowed s a w hs, periodWrite_inRange _ w (by simpa using hsrc) hlo hhi]
    rfl
  · intro s a w hs hsrc hbad
    rw [exec_periodWrite_allowed s a w hs, periodWrite_outOfRange _ w (by simpa using hsrc) hbad]
  · intro s a w hs hsrc
    rw [exec_periodWrite_allowed s a w hs, periodWrite_elsewhere _ w (by simpa using hsrc)]

end Sys2Proof.Machine

/-! The counter, the servo, time over XLP, masters and backups (R68 to R84): O35. -/

namespace Sys2Proof.Machine

/-! ### What settling, a preserved page and the servo's own writes leave as they are -/

/-- Settling shows its levels in BLK_ALERT and in ASYM_MISSING alone. -/
theorem settle_fld_apart (s : State) (h : s.ports.powered = true) (g : Fld) (h1 : g.addr ≠ 0x44)
    (h2 : g.addr ≠ 0x1000C ∨ 16 < g.lo ∨ g.hi < 16) : s.settle.fld g = s.fld g := by
  rw [State.fld_congr (settle_regs s h), showLevels_fld s g h1 h2]

/-- A field of the Time region (0x010000 to 0x01FFFF, R479). -/
abbrev Fld.InTime (g : Fld) : Prop := 0x10000 ≤ g.addr ∧ g.addr < 0x20000

theorem Fld.InTime.ne_above {g : Fld} (h : g.InTime) {a : Nat} (ha : 0x20000 ≤ a) : g.addr ≠ a := by
  obtain ⟨-, hlt⟩ := h; omega

theorem Fld.InTime.ne_below {g : Fld} (h : g.InTime) {a : Nat} (ha : a < 0x10000) : g.addr ≠ a := by
  obtain ⟨hle, -⟩ := h; omega

section TimeFields

variable {g : Fld} (hg : g.InTime)
include hg

theorem fld_set_above (s : State) (f : Fld) (v : Nat) (hf : 0x20000 ≤ f.addr) : (s.set f v).fld g = s.fld g :=
  fld_set s f g v (Or.inl (hg.ne_above hf))

theorem gateServe_fld (s : State) : s.gateServe.fld g = s.fld g := by
  simp only [State.gateServe]
  split
  · split <;> simp [fld_set_above hg]
  · simp [fld_set_above hg]

/-- Abandoning a checkpoint writes words of the Ledger, of continuity, of model store and of the gate, and BLK_ALERT. -/
theorem abandon_fld (s : State) (c : Nat) : (s.abandon c).fld g = s.fld g := by
  have halert : g.addr ≠ 0x44 := hg.ne_below (by decide)
  have hlost : g.addr ≠ 0x70014 ∧ g.addr ≠ 0x44 := ⟨hg.ne_above (by decide), halert⟩
  simp [State.abandon, gateServe_fld hg, fld_alertIf _ _ _ g halert, fld_log _ _ _ _ _ g hlost, State.inc, State.add, State.raiseTo,
    State.freeShadows, fld_set_above hg]

theorem touch_fld (s : State) (k n : Nat) : (s.touch k n).fld g = s.fld g := by
  unfold State.touch
  split
  · rfl
  · dsimp only
    split
    · rfl
    · split
      · exact abandon_fld hg s 4
      · simp [fld_set_above hg]

end TimeFields

@[simp] theorem gateServe_powered (s : State) : s.gateServe.ports.powered = s.ports.powered := by
  unfold State.gateServe; dsimp only; split
  · split <;> rfl
  · rfl

@[simp] theorem abandon_powered (s : State) (c : Nat) : (s.abandon c).ports.powered = s.ports.powered := by simp [State.abandon]

@[simp] theorem touch_powered (s : State) (k n : Nat) : (s.touch k n).ports.powered = s.ports.powered := by
  unfold State.touch; split
  · rfl
  · dsimp only; split
    · rfl
    · split
      · exact abandon_powered s 4
      · rfl

/-! ### The servo (R68, R76) -/

theorem setServo_eq (s : State) (v : Nat) :
    s.setServo v = (s.set F.TIM_STATUS_SERVO v).setTim { s.tim with worst := worseServo s.tim.worst v } := rfl

theorem setServo_fld_apart (s : State) (v : Nat) (g : Fld) (h : g.addr ≠ 0x1000C ∨ 2 < g.lo) : (s.setServo v).fld g = s.fld g := by
  rw [setServo_eq, setTim_fld]
  exact fld_set s F.TIM_STATUS_SERVO g v (h.imp_right Or.inl)

theorem setServo_servo (s : State) (v : Nat) (h : v < 8) : (s.setServo v).servo = v := by
  rw [State.servo, setServo_eq, setTim_fld, State.fld_set_same _ _ _ (by decide)]
  exact Nat.mod_eq_of_lt h

theorem setRate_fld_apart (s : State) (r : Int) (g : Fld) (hg : g.InTime) (h : g.addr ≠ 0x10014) : (s.setRate r).fld g = s.fld g := by
  rw [State.setRate, fld_set _ F.TIM_RATE_RATE_PPT g _ (Or.inl h), touch_fld hg]

@[simp] theorem setRate_tim (s : State) (r : Int) : (s.setRate r).tim = s.tim := by simp [State.setRate]

@[simp] theorem setRate_powered (s : State) (r : Int) : (s.setRate r).ports.powered = s.ports.powered := by simp [State.setRate]

theorem setRate_zero (s : State) : (s.setRate 0).fld F.TIM_RATE_RATE_PPT = 0 := by
  rw [State.setRate, State.fld_set_same _ _ _ (by decide)]; rfl

/-- HOLDOVER is a rate of its own and the servo's state. -/
theorem enterHoldover_eq (s : State) :
    s.enterHoldover = (({ s with free := s.free + 1 }).setRate (Config.holdoverRate s.free s.rate)).setServo svHoldover := rfl

theorem enterHoldover_servo (s : State) : s.enterHoldover.servo = svHoldover := by
  rw [enterHoldover_eq, setServo_servo _ _ (by decide)]

theorem enterHoldover_status (s : State) (g : Fld) (ha : g.addr = 0x1000C) (hlo : 2 < g.lo) : s.enterHoldover.fld g = s.fld g := by
  rw [enterHoldover_eq, setServo_fld_apart _ _ _ (Or.inr hlo), setRate_fld_apart _ _ _ (by simp [Fld.InTime, ha]) (by simp [ha])]
  rfl

theorem enterHoldover_tim (s : State) : s.enterHoldover.tim = { s.tim with worst := worseServo s.tim.worst svHoldover } := by
  simp [enterHoldover_eq, setServo_eq]

@[simp] theorem enterHoldover_powered (s : State) : s.enterHoldover.ports.powered = s.ports.powered := by
  simp [enterHoldover_eq, setServo_eq]

/-! ### TB_REF (R81) and the intervals (R73) -/

theorem reachNs_moves_now (s : State) (ns : Nat) : ∃ n, s.reachNs ns = s.setTim { s.tim with now := n } := reach_moves_now s _

/-- With no withholding of Sync injected (CLASS 7 of R455), a LOCKED unit sends Sync on each port below it. -/
theorem syncInterval_locked (s u : State) (hinj : s.injecting 7 = false)
    (hu : u = s.reachNs (s.tim.lastSyncTx + 1000 * 2 ^ clampN 3 10 (s.fld F.TIM_SYNC_CFG_LOG_SYNC))) (hlock : s.servo = svLocked) :
    s.syncInterval = (let v := u.setTim { u.tim with lastSyncTx := u.nowNs }
      let z := v.timeDown.foldl (fun s p => s.sendSync p) v
      z.setTim { z.tim with ptpSeq := (z.tim.ptpSeq + 1) % 2 ^ 16 }) := by
  have hinj' : (u.setTim { u.tim with lastSyncTx := u.nowNs }).injecting 7 = false := by
    rw [← hinj]; simp [hu, State.injecting, State.injected]
  have hlock' : (u.setTim { u.tim with lastSyncTx := u.nowNs }).servo = svLocked := by rw [← hlock]; simp [hu, State.servo]
  simp only [State.setTim] at hinj' hlock'
  simp [State.syncInterval, ← hu, hinj', hlock', State.setTim]

theorem pdelayInterval_noPort (s u : State) (hu : u = s.reachNs (s.tim.lastPdTx + 1000 * 2 ^ clampN 6 14 (s.fld F.TIM_SYNC_CFG_LOG_PDELAY)))
    (hports : s.timePorts = []) :
    s.pdelayInterval = u.setTim { u.tim with lastPdTx := u.nowNs, pdSeq := (u.tim.pdSeq + 1) % 2 ^ 16 } := by
  obtain ⟨n, hn⟩ := reachNs_moves_now s (s.tim.lastPdTx + 1000 * 2 ^ clampN 6 14 (s.fld F.TIM_SYNC_CFG_LOG_PDELAY))
  have hports' : (u.setTim { u.tim with lastPdTx := u.nowNs }).timePorts = [] := by rw [← hports, hu, hn]; rfl
  simp only [State.pdelayInterval, ← hu, hports']
  rfl

/-- A port already used for time and with a valid entry is used again without a mark (R74). -/
theorem useTimePort_known (s : State) (p : Nat) (hused : s.tim.used.contains p = true) (hvalid : s.on (F.TIM_ASYM_EXT_VALID p) = true) :
    s.useTimePort p = s := by
  simp only [State.useTimePort, hvalid, hused, if_true]

@[simp] theorem timeRec_tim (s : State) (m : Bytes) (k n : Nat) : (s.timeRec m k n).2.tim = s.tim := rfl

@[simp] theorem timeRec_ports (s : State) (m : Bytes) (k n : Nat) : (s.timeRec m k n).2.ports = s.ports := rfl

/-- On one known time port an interval starts one exchange, under the unit's next peer-delay sequenceId. -/
theorem pdelayInterval_onePort (s : State) (p : Nat) (hports : s.timePorts = [p]) (hused : s.tim.used.contains p = true)
    (hvalid : s.on (F.TIM_ASYM_EXT_VALID p) = true) :
    s.pdelayInterval.ports = s.ports ∧ s.pdelayInterval.tim.pdSeq = (s.tim.pdSeq + 1) % 2 ^ 16
      ∧ ∃ x ∈ s.pdelayInterval.tim.pdelay, x.port = p ∧ x.seq = s.tim.pdSeq ∧ x.t2 = none := by
  obtain ⟨n, hn⟩ := reachNs_moves_now s (s.tim.lastPdTx + 1000 * 2 ^ clampN 6 14 (s.fld F.TIM_SYNC_CFG_LOG_PDELAY))
  obtain ⟨v, hv⟩ : ∃ v, v = s.setTim { s.tim with now := n, lastPdTx := (s.setTim { s.tim with now := n }).nowNs } := ⟨_, rfl⟩
  have hv' : (s.setTim { s.tim with now := n }).setTim { s.tim with now := n, lastPdTx := (s.setTim { s.tim with now := n }).nowNs } = v := by
    rw [hv]; rfl
  have hports' : v.timePorts = [p] := by rw [← hports, hv]; rfl
  have hknown : v.useTimePort p = v := useTimePort_known v p (by rw [hv]; exact hused) (by rw [hv]; exact hvalid)
  simp only [State.pdelayInterval, hn, setTim_tim, hv', hports', List.foldl_cons, List.foldl_nil, hknown]
  simp [hv]

/-! ### Peer delay (R73, R75) -/

theorem pdelayResp_one (s : State) (x : Rx) (d : Pdelay) (hd : s.tim.pdelay = [d]) (hport : d.port = x.port)
    (hseq : d.seq = ptpSeqId x.bytes) :
    s.pdelayResp x = s.setTim { s.tim with pdelay := [{ d with t2 := some (ptpStamp x), t4 := s.ingress x.port x.t }] } := by
  simp [State.pdelayResp, hd, hport, hseq, State.setTim]

/-- The mean delay that an exchange gives, in the units of MEAN_DELAY and within them (R75). -/
def meanDelay (t1 t2 t3 t4 : Int) : Nat := (clampI 0 (2 ^ 24 - 1) (((t4 - t1) - (t3 - t2)) / 2 / 8192)).toNat

theorem meanDelay_lt (t1 t2 t3 t4 : Int) : meanDelay t1 t2 t3 t4 < 2 ^ 24 := by simp only [meanDelay, clampI]; omega

theorem pdelayFollow_one (s : State) (x : Rx) (t1 t2 t4 : Int) (hd : s.tim.pdelay = [⟨x.port, ptpSeqId x.bytes, t1, some t2, t4⟩]) :
    s.pdelayFollow x = (s.set (F.TIM_ASYM_DELAY_MEAN_DELAY x.port) (meanDelay t1 t2 (ptpStamp x) t4)).setTim
      { s.tim with measured := x.port :: s.tim.measured.filter (fun p => p ≠ x.port), pdelay := [] } := by
  simp [State.pdelayFollow, hd, State.setTim, meanDelay]

/-! ### The port that the unit follows (R83) -/

theorem bestPort_noneHeard (s : State) (h : s.tim.heard = []) : s.bestPort = none := by
  simp only [State.bestPort, h, List.find?_nil]
  induction s.upstreams with
  | nil => rfl
  | cons p ps ih => exact ih

theorem bestPort_single (s : State) (h : Heard) (hup : s.upstreams = [h.port]) (hheard : s.tim.heard = [h]) : s.bestPort = some h := by
  simp [State.bestPort, hup, hheard]

theorem upstreams_congr {s t : State} (hb : t.build = s.build) (hf : ∀ g : Fld, g.addr = 0x1002C → t.fld g = s.fld g) :
    t.upstreams = s.upstreams := by
  unfold State.upstreams
  rw [hb, hf _ rfl, hf _ rfl, hf _ rfl, hf _ rfl]

@[simp] theorem useTimePort_build (s : State) (p : Nat) : (s.useTimePort p).build = s.build := by
  unfold State.useTimePort; dsimp only; split <;> split <;> rfl

@[simp] theorem useTimePort_ports (s : State) (p : Nat) : (s.useTimePort p).ports = s.ports := by
  unfold State.useTimePort; dsimp only; split <;> split <;> rfl

/-- Using a port for time notes the port, and a missing entry in ASYM_MISSING alone (R74). -/
theorem useTimePort_tim (s : State) (p : Nat) : ∃ l, (s.useTimePort p).tim = { s.tim with used := l } := by
  unfold State.useTimePort; dsimp only; split <;> split <;> exact ⟨_, rfl⟩

theorem useTimePort_fld (s : State) (p : Nat) (g : Fld) (h : g.addr ≠ 0x1000C ∨ 16 < g.lo ∨ g.hi < 16) :
    (s.useTimePort p).fld g = s.fld g := by
  have hset : (s.set F.TIM_STATUS_ASYM_MISSING 1).fld g = s.fld g := fld_set s F.TIM_STATUS_ASYM_MISSING g 1 h
  unfold State.useTimePort; dsimp only
  split <;> split
  · rfl
  · rfl
  · exact hset
  · exact hset

/-- What the correction of an arrival reads: the latencies and the asymmetry of its port (R74). -/
theorem ingress_congr {s t : State} (h : ∀ g : Fld, 0x11000 ≤ g.addr → t.fld g = s.fld g) (p n : Nat) : t.ingress p n = s.ingress p n := by
  have hlat := h (F.TIM_ASYM_LAT_RX_LAT p) (Nat.le_add_right _ _)
  have hdelay := h (F.TIM_ASYM_EXT_EXT_DELAY p) (by dsimp; omega)
  have hmode := h (F.TIM_ASYM_EXT_EXT_MODE p) (by dsimp; omega)
  have hvalid := h (F.TIM_ASYM_EXT_VALID p) (by dsimp; omega)
  simp only [State.ingress, State.extHalf, State.on, hlat, hdelay, hmode, hvalid]
  rfl

/-- The state of a unit that has turned to a port, from its Sync: the port, the rank and the source of the time. -/
theorem follow_some (s : State) (h : Heard) (hp : h.port < 96) (hr : h.rank < 8) :
    (s.follow (some h)).fld F.TIM_STATUS_UP_PORT = h.port ∧ (s.follow (some h)).fld F.TIM_STATUS_GM_RANK = h.rank
      ∧ (∃ l, (s.follow (some h)).tim = { s.tim with used := l, gmSource := h.source })
      ∧ (∀ g : Fld, g.addr ≠ 0x1000C ∨ g.hi < 6 → (s.follow (some h)).fld g = s.fld g)
      ∧ (s.follow (some h)).ports = s.ports := by
  obtain ⟨u, hu⟩ : ∃ u, u = (s.set F.TIM_STATUS_UP_PORT h.port).set F.TIM_STATUS_GM_RANK h.rank := ⟨_, rfl⟩
  have hfollow : s.follow (some h) = (u.useTimePort h.port).setTim { (u.useTimePort h.port).tim with gmSource := h.source } := by
    rw [hu]; rfl
  rw [hfollow]
  refine ⟨?_, ?_, ?_, ?_, ?_⟩
  · rw [setTim_fld, useTimePort_fld _ _ _ (by decide), hu, fld_set _ _ _ _ (by decide), State.fld_set_same _ _ _ (by decide)]
    exact Nat.mod_eq_of_lt (Nat.lt_trans hp (by decide))
  · rw [setTim_fld, useTimePort_fld _ _ _ (by decide), hu, State.fld_set_same _ _ _ (by decide)]
    exact Nat.mod_eq_of_lt hr
  · obtain ⟨l, hl⟩ := useTimePort_tim u h.port
    exact ⟨l, by rw [setTim_tim, hl, hu]; rfl⟩
  · intro g hg
    rw [setTim_fld, useTimePort_fld _ _ _ (by omega), hu, fld_set _ F.TIM_STATUS_GM_RANK g _ (by dsimp; omega),
      fld_set _ F.TIM_STATUS_UP_PORT g _ (by dsimp; omega)]
  · rw [setTim_ports, useTimePort_ports, hu]; rfl

/-- The state in which a unit that accepts a Sync chooses its port (R83, R84): no longer acting, with the Sync heard. -/
def State.heardSync (s : State) (x : Rx) : State :=
  (s.set F.TIM_STATUS_ACTING_GM 0).setTim
    { s.tim with
      everSync := true
      heard := ⟨x.port, s.nowNs, gmRankOf x.bytes, gmSourceOf x.bytes⟩ :: s.tim.heard.filter (fun h => h.port ≠ x.port)
      gmQuiet := if gmRankOf x.bytes < s.fld F.TIM_GM_RANK then s.nowNs else s.tim.gmQuiet }

theorem heardSync_fld (s : State) (x : Rx) (g : Fld) (h : g.addr ≠ 0x1000C ∨ 5 < g.lo ∨ g.hi < 5) :
    (s.heardSync x).fld g = s.fld g := by
  rw [State.heardSync, setTim_fld]
  exact fld_set s F.TIM_STATUS_ACTING_GM g 0 h

/-- A Sync on a ranked port, at a unit that is not acting: the unit chooses its port afresh, and the Sync of the port it follows waits for
its Follow_Up; the first one takes the servo out of FREE. -/
theorem syncRx_accepted (s : State) (x : Rx) (hcont : s.upstreams.contains x.port = true) (hact : s.on F.TIM_STATUS_ACTING_GM = false) :
    s.syncRx x =
      let u := (s.heardSync x).follow (s.heardSync x).bestPort
      if (s.heardSync x).bestPort.map (fun h => h.port) = some x.port then
        let v := if u.servo = svFree then (u.setServo svAcquire).setTim { (u.setServo svAcquire).tim with samples := [] } else u
        v.setTim { v.tim with
          syncRx := (x.port, ptpSeqId x.bytes, v.ingress x.port x.t, rxCorr x) :: v.tim.syncRx.filter (fun y => y.1 ≠ x.port) }
      else u := by
  refine (if_neg (by simp only [hcont]; decide)).trans ((if_neg ?_).trans rfl)
  exact fun h => Bool.false_ne_true (hact.symm.trans (Bool.and_eq_true_iff.1 h).1)

theorem syncRx_followed (s v : State) (x : Rx) (h : Heard) (hcont : s.upstreams.contains x.port = true)
    (hact : s.on F.TIM_STATUS_ACTING_GM = false) (hbest : (s.heardSync x).bestPort = some h) (hport : h.port = x.port)
    (hv : v = (s.heardSync x).follow (some h)) (hservo : v.servo ≠ svFree) :
    s.syncRx x = v.setTim { v.tim with
      syncRx := (x.port, ptpSeqId x.bytes, v.ingress x.port x.t, rxCorr x) :: v.tim.syncRx.filter (fun y => y.1 ≠ x.port) } := by
  simp only [syncRx_accepted s x hcont hact, hbest, ← hv, Option.map_some, hport, hservo, if_true, if_false]

/-- A Sync on the one ranked port of a LOCKED unit that has heard no other: it is followed, and waits for its Follow_Up. -/
theorem syncRx_locked (s : State) (x : Rx) (hup : s.upstreams = [x.port]) (hact : s.on F.TIM_STATUS_ACTING_GM = false)
    (hheard : s.tim.heard = []) (hlock : s.servo = svLocked) (hp : x.port < 96) :
    (s.syncRx x).fld F.TIM_STATUS_UP_PORT = x.port ∧ (s.syncRx x).fld F.TIM_STATUS_GM_RANK = gmRankOf x.bytes
      ∧ (s.syncRx x).servo = svLocked ∧ (s.syncRx x).tim.gmSource = gmSourceOf x.bytes ∧ (s.syncRx x).tim.everSync = true
      ∧ (s.syncRx x).tim.syncRx = (x.port, ptpSeqId x.bytes, s.ingress x.port x.t, rxCorr x) :: s.tim.syncRx.filter (fun y => y.1 ≠ x.port)
      ∧ (s.syncRx x).ports = s.ports := by
  have hups : (s.heardSync x).upstreams = [x.port] := by
    rw [← hup]; exact upstreams_congr rfl (fun g hg => heardSync_fld s x g (Or.inl (by rw [hg]; decide)))
  have hbest := bestPort_single (s.heardSync x) ⟨x.port, s.nowNs, gmRankOf x.bytes, gmSourceOf x.bytes⟩ hups (by simp [State.heardSync, hheard])
  obtain ⟨hport, hrank, ⟨l, htim⟩, hfld, hports⟩ := follow_some (s.heardSync x) ⟨x.port, s.nowNs, gmRankOf x.bytes, gmSourceOf x.bytes⟩
    hp (Nat.mod_lt _ (by decide))
  obtain ⟨v, hv⟩ : ∃ v, v = (s.heardSync x).follow (some ⟨x.port, s.nowNs, gmRankOf x.bytes, gmSourceOf x.bytes⟩) := ⟨_, rfl⟩
  rw [← hv] at hport hrank htim hfld hports
  have hservo : v.servo = svLocked := by
    rw [← hlock, State.servo, hfld _ (by decide), heardSync_fld _ _ _ (by decide)]; rfl
  have hing : v.ingress x.port x.t = s.ingress x.port x.t :=
    ingress_congr (fun g hg => (hfld g (by omega)).trans (heardSync_fld s x g (by omega))) _ _
  rw [syncRx_followed s v x _ (by simp [hup]) hact hbest rfl hv (by rw [hservo]; decide), hing]
  refine ⟨hport, hrank, hservo, ?_, ?_, ?_, hports⟩ <;> rw [setTim_tim, htim] <;> rfl

/-- The state in which a unit whose port has fallen silent chooses again (R83): at the end of the loss time, with what is live still heard. -/
def State.dropPort (s : State) (h : Heard) : State :=
  let u := s.reachNs (h.at_ + s.lossNs)
  u.setTim { u.tim with
    heard := u.tim.heard.filter (fun x => x.port ≠ h.port && u.nowNs < x.at_ + u.lossNs)
    syncRx := u.tim.syncRx.filter (fun y => y.1 ≠ h.port) }

/-- With no port left, a unit that is LOCKED and not acting goes to HOLDOVER (R76). -/
theorem syncLoss_noPort (s : State) (h : Heard) (hfind : s.tim.heard.find? (fun h => h.port = s.fld F.TIM_STATUS_UP_PORT) = some h)
    (hbest : (s.dropPort h).bestPort = none) (hact : ((s.dropPort h).follow none).on F.TIM_STATUS_ACTING_GM = false)
    (hlock : ((s.dropPort h).follow none).servo = svLocked) : s.syncLoss = ((s.dropPort h).follow none).enterHoldover := by
  simp only [State.dropPort, State.setTim] at hbest hact hlock ⊢
  simp only [State.syncLoss, hfind, hbest, hact, hlock, Bool.false_eq_true, if_false, if_true]
  rfl

/-- The only port that delivers Sync falls silent at a LOCKED unit: it follows none and holds its rate. -/
theorem syncLoss_lastPort (s : State) (h : Heard) (hheard : s.tim.heard = [h]) (hport : h.port = s.fld F.TIM_STATUS_UP_PORT)
    (hact : s.on F.TIM_STATUS_ACTING_GM = false) (hlock : s.servo = svLocked) :
    s.syncLoss = ((s.dropPort h).set F.TIM_STATUS_UP_PORT 0x7F).enterHoldover ∧ (s.dropPort h).tim.heard = [] := by
  obtain ⟨n, hn⟩ := reachNs_moves_now s (h.at_ + s.lossNs)
  have hlive : (s.dropPort h).tim.heard = [] := by simp [State.dropPort, hn, hheard]
  have hfld : ∀ g : Fld, g.addr ≠ 0x1000C ∨ 15 < g.lo ∨ g.hi < 9 → ((s.dropPort h).follow none).fld g = s.fld g := by
    intro g hg
    rw [State.follow, fld_set _ F.TIM_STATUS_UP_PORT g _ hg, State.dropPort, setTim_fld, reachNs_fld]
  refine ⟨syncLoss_noPort s h (by simp [hheard, hport]) (bestPort_noneHeard _ hlive) ?_ ?_, hlive⟩
  · rw [← hact, State.on, hfld _ (by decide)]; rfl
  · rw [← hlock, State.servo, hfld _ (by decide)]; rfl

/-! ### Masters and backups (R82, R84) -/

/-- GM_LOSS at the master that has never heard Sync, and at a backup that is LOCKED or in HOLDOVER (R84). -/
theorem gmLoss_acts (s : State) (hact : s.on F.TIM_STATUS_ACTING_GM = false)
    (hrank : s.fld F.TIM_GM_RANK = 0 ∧ s.tim.everSync = false ∨
      0 < s.fld F.TIM_GM_RANK ∧ s.fld F.TIM_GM_RANK < 7 ∧ (s.servo = svLocked ∨ s.servo = svHoldover)) :
    s.gmLoss = (s.reachNs (s.tim.gmQuiet + 1000 * s.fld F.TIM_SYNC_CFG_GM_LOSS_US)).actGm := by
  obtain ⟨n, hn⟩ := reachNs_moves_now s (s.tim.gmQuiet + 1000 * s.fld F.TIM_SYNC_CFG_GM_LOSS_US)
  have hact' : (s.setTim { s.tim with now := n }).on F.TIM_STATUS_ACTING_GM = false := hact
  have hservo : (s.setTim { s.tim with now := n }).servo = s.servo := rfl
  simp only [State.gmLoss, hn, hact', hservo]
  obtain ⟨h0, hever⟩ | ⟨hpos, hlt, hs⟩ := hrank
  · simp [h0, hever]
  · have hs' : (s.servo = svLocked || s.servo = svHoldover) = true := by simpa using hs
    simp [Nat.ne_of_gt hpos, hlt, hs']

/-- In TEST or RECOVERY, at a unit that is not acting grandmaster, a relock takes the servo to FREE (R82). -/
theorem relock_allowed (s : State) (hsvc : s.svc = svcTest ∨ s.svc = svcRecovery) (hact : s.on F.TIM_STATUS_ACTING_GM = false) :
    s.relock = (((s.setServo svFree).setRate 0).set F.TIM_STATUS_UP_PORT 0x7F).setTim
      { (s.setServo svFree).tim with samples := [], refusedRun := 0, syncRx := [], heard := [] } := by
  have hsvc' : (s.svc = svcTest || s.svc = svcRecovery) = true := by simpa using hsvc
  simp [State.relock, hsvc', hact, State.setTim]

theorem gmResume_master (s : State) (h : s.fld F.TIM_GM_RANK = 0) : s.gmResume = s.actGm := by simp [State.gmResume, h]

theorem adjust_slews (s : State) (w : Word) (hact : s.on F.TIM_STATUS_ACTING_GM = true) (hlim : (w.toInt.natAbs : Int) * 65536 ≤ s.jumpLimit) :
    s.adjust w = s.setTim { s.tim with slew := s.tim.slew + w.toInt * 2 ^ 48 } := by
  simp only [State.adjust, hact, hlim]
  rfl

theorem adjust_refused (s : State) (w : Word) (h : s.on F.TIM_STATUS_ACTING_GM = false ∨ s.jumpLimit < (w.toInt.natAbs : Int) * 65536) :
    s.adjust w = s.refuseJump w.toInt.natAbs 0x7F 1 := by
  rw [State.adjust]
  refine if_neg fun hc => ?_
  obtain ⟨hact, hlim⟩ := Bool.and_eq_true_iff.1 hc
  obtain hact' | hlim' := h
  · exact Bool.false_ne_true (hact'.symm.trans hact)
  · exact absurd (of_decide_eq_true hlim) (Int.not_le.2 hlim')

/-! ### Offset samples (R75, R76) -/

/-- A sample in ACQUIRE before the sixteenth: it shows in TIM_OFFSET and is kept. -/
theorem followUp_sample (s : State) (x : Rx) (tr cor off : Int) (hsync : s.tim.syncRx = [(x.port, ptpSeqId x.bytes, tr, cor)])
    (hact : s.on F.TIM_STATUS_ACTING_GM = false) (hmeas : s.tim.measured.contains x.port = true) (hservo : s.servo = svAcquire)
    (hlen : s.tim.samples.length < 15)
    (hoff : off = tr - (ptpNs x.bytes : Int) * 65536 - ((s.fld (F.TIM_ASYM_DELAY_MEAN_DELAY x.port) : Int) * 8192 + s.asym x.port)
      - (cor + rxCorr x)) :
    s.followUp x = ((s.set F.TIM_OFFSET (twos 32 (off / 8192))).setTim
      { s.tim with syncRx := [], samples := s.tim.samples ++ [(s.nowNs, off)] }, false) := by
  have hfind : s.tim.syncRx.find? (fun y => y.1 = x.port && y.2.1 = ptpSeqId x.bytes) = some (x.port, ptpSeqId x.bytes, tr, cor) := by
    simp [hsync]
  have hdone : s.tim.syncRx.filter (fun y => y.1 ≠ x.port) = [] := by simp [hsync]
  have hgate : (s.on F.TIM_STATUS_ACTING_GM || !s.tim.measured.contains x.port) = false := by rw [hact, hmeas]; rfl
  have hlen' : ¬ 16 ≤ (s.tim.samples ++ [(s.nowNs, off)]).length := by rw [List.length_append, List.length_singleton]; omega
  subst hoff
  unfold State.followUp
  rw [hfind]
  refine (if_neg fun h => Bool.false_ne_true (hgate.symm.trans h)).trans ((if_pos hservo).trans ((if_neg hlen').trans ?_))
  simp only [hdone]
  rfl

theorem followUpAll_unstepped (s u : State) (x : Rx) (h : s.followUp x = (u, false)) : s.followUpAll x = u := by
  simp [State.followUpAll, h]

/-! ### Time commands -/

theorem exec_pdelayInterval_onePort (s : State) (p : Nat) (hpow : s.ports.powered = true) (hports : s.timePorts = [p])
    (hused : s.tim.used.contains p = true) (hvalid : s.on (F.TIM_ASYM_EXT_VALID p) = true) :
    ∃ t, exec .pdelayInterval s = .next t ∧ t.tim.pdSeq = (s.tim.pdSeq + 1) % 2 ^ 16
      ∧ ∃ x ∈ t.tim.pdelay, x.port = p ∧ x.seq = s.tim.pdSeq ∧ x.t2 = none := by
  obtain ⟨hkept, hseq, hstarted⟩ := pdelayInterval_onePort s p hports hused hvalid
  have htim : s.pdelayInterval.settle.tim = s.pdelayInterval.tim := settle_tim _ (by rw [hkept, hpow])
  exact ⟨s.pdelayInterval.settle, by rw [exec_pdelayInterval, execPdelayInterval, done], by rw [htim, hseq], by rw [htim]; exact hstarted⟩

theorem exec_sync_locked (s : State) (r : Rx) (hpow : s.ports.powered = true) (hup : s.upstreams = [r.port])
    (hact : s.on F.TIM_STATUS_ACTING_GM = false) (hheard : s.tim.heard = []) (hlock : s.servo = svLocked) (hp : r.port < 96) :
    ∃ t, exec (.sync r) s = .next t ∧ t.fld F.TIM_STATUS_UP_PORT = r.port ∧ t.fld F.TIM_STATUS_GM_RANK = gmRankOf r.bytes
      ∧ t.tim.gmSource = gmSourceOf r.bytes ∧ t.tim.everSync = true ∧ t.servo = svLocked
      ∧ t.tim.syncRx = (r.port, ptpSeqId r.bytes, s.ingress r.port r.t, rxCorr r) :: s.tim.syncRx.filter (fun y => y.1 ≠ r.port) := by
  obtain ⟨n, hn⟩ := reach_moves_now s r.t
  obtain ⟨hport, hrank, hservo, hsource, hever, hwaits, hports⟩ :=
    syncRx_locked ((s.setTim { s.tim with now := n }).consume r) r hup hact hheard hlock hp
  have hset : (((s.setTim { s.tim with now := n }).consume r).syncRx r).ports.powered = true := by rw [hports]; exact hpow
  refine ⟨(((s.setTim { s.tim with now := n }).consume r).syncRx r).settle, ?_, ?_, ?_, ?_, ?_, ?_, ?_⟩
  · rw [exec_sync, execSync, hn, done]
  · rw [settle_fld_apart _ hset _ (by decide) (by decide), hport]
  · rw [settle_fld_apart _ hset _ (by decide) (by decide), hrank]
  · rw [settle_tim _ hset, hsource]
  · rw [settle_tim _ hset, hever]
  · rw [State.servo, settle_fld_apart _ hset _ (by decide) (by decide)]; exact hservo
  · rw [settle_tim _ hset, hwaits]; rfl

theorem exec_followUp_sample (s : State) (r : Rx) (tr cor off : Int) (hsync : s.tim.syncRx = [(r.port, ptpSeqId r.bytes, tr, cor)])
    (hact : s.on F.TIM_STATUS_ACTING_GM = false) (hmeas : s.tim.measured.contains r.port = true) (hservo : s.servo = svAcquire)
    (hlen : s.tim.samples.length < 15) (hpow : s.ports.powered = true)
    (hoff : off = tr - (ptpNs r.bytes : Int) * 65536 - ((s.fld (F.TIM_ASYM_DELAY_MEAN_DELAY r.port) : Int) * 8192 + s.asym r.port)
      - (cor + rxCorr r)) :
    ∃ t, exec (.followUp r) s = .next t ∧ t.fld F.TIM_OFFSET = twos 32 (off / 8192) ∧ t.servo = svAcquire
      ∧ t.tim.samples = s.tim.samples ++ [((s.reach r.t).nowNs, off)] ∧ t.tim.syncRx = [] := by
  obtain ⟨n, hn⟩ := reach_moves_now s r.t
  obtain ⟨u, hu⟩ : ∃ u, u = (s.setTim { s.tim with now := n }).consume r := ⟨_, rfl⟩
  have hfollow := followUpAll_unstepped u _ r (followUp_sample u r tr cor off (by rw [hu]; exact hsync) (by rw [hu]; exact hact)
    (by rw [hu]; exact hmeas) (by rw [hu]; exact hservo) (by rw [hu]; exact hlen) (by rw [hu]; exact hoff))
  have hset : (u.followUpAll r).ports.powered = true := by rw [hfollow, hu]; exact hpow
  have htim : (u.followUpAll r).settle.tim = { u.tim with syncRx := [], samples := u.tim.samples ++ [(u.nowNs, off)] } := by
    rw [settle_tim _ hset, hfollow]; rfl
  have hlt : twos 32 (off / 8192) < 2 ^ 32 := by simp only [twos]; omega
  refine ⟨(u.followUpAll r).settle, ?_, ?_, ?_, ?_, ?_⟩
  · rw [exec_followUp, execFollowUp, hn, ← hu, done]
  · rw [settle_fld_apart _ hset _ (by decide) (by decide), hfollow, setTim_fld, State.fld_set_same _ _ _ (by decide)]
    exact Nat.mod_eq_of_lt hlt
  · rw [State.servo, settle_fld_apart _ hset _ (by decide) (by decide), hfollow, setTim_fld, fld_set _ _ _ _ (by decide), ← hservo, hu]; rfl
  · rw [htim, hn, hu]; rfl
  · rw [htim]

theorem exec_pdelayRespFollowUp_one (s : State) (r : Rx) (t1 t2 t4 : Int)
    (hd : s.tim.pdelay = [⟨r.port, ptpSeqId r.bytes, t1, some t2, t4⟩]) (hpow : s.ports.powered = true) :
    ∃ t, exec (.pdelayRespFollowUp r) s = .next t
      ∧ t.fld (F.TIM_ASYM_DELAY_MEAN_DELAY r.port) = (clampI 0 (2 ^ 24 - 1) (((t4 - t1) - (ptpStamp r - t2)) / 2 / 8192)).toNat
      ∧ t.tim.measured.contains r.port = true ∧ t.tim.pdelay = [] := by
  obtain ⟨n, hn⟩ := reach_moves_now s r.t
  obtain ⟨u, hu⟩ : ∃ u, u = (s.setTim { s.tim with now := n }).consume r := ⟨_, rfl⟩
  have hfollow := pdelayFollow_one u r t1 t2 t4 (by rw [hu]; exact hd)
  have hset : (u.pdelayFollow r).ports.powered = true := by rw [hfollow, hu]; exact hpow
  refine ⟨(u.pdelayFollow r).settle, ?_, ?_, ?_, ?_⟩
  · rw [exec_pdelayRespFollowUp, execPdelayRespFollowUp, hn, ← hu, done]
  · rw [settle_fld_apart _ hset _ (by dsimp; omega) (by dsimp; omega), hfollow, setTim_fld, State.fld_set_same _ _ _ (by show 23 < 32; decide)]
    exact Nat.mod_eq_of_lt (meanDelay_lt t1 t2 (ptpStamp r) t4)
  · rw [settle_tim _ hset, hfollow, setTim_tim]; simp
  · rw [settle_tim _ hset, hfollow, setTim_tim]

theorem exec_syncPortLoss_lastPort (s : State) (h : Heard) (hpow : s.ports.powered = true) (hheard : s.tim.heard = [h])
    (hport : h.port = s.fld F.TIM_STATUS_UP_PORT) (hact : s.on F.TIM_STATUS_ACTING_GM = false) (hlock : s.servo = svLocked) :
    ∃ t, exec .syncPortLoss s = .next t ∧ t.servo = svHoldover ∧ t.fld F.TIM_STATUS_UP_PORT = 0x7F ∧ t.tim.heard = [] := by
  obtain ⟨hloss, hlive⟩ := syncLoss_lastPort s h hheard hport hact hlock
  have hset : s.syncLoss.ports.powered = true := by rw [hloss, enterHoldover_powered]; simp [State.dropPort, hpow]
  refine ⟨s.syncLoss.settle, ?_, ?_, ?_, ?_⟩
  · rw [exec_syncPortLoss, execSyncPortLoss, done]
  · rw [State.servo, settle_fld_apart _ hset _ (by decide) (by decide), hloss]; exact enterHoldover_servo _
  · rw [settle_fld_apart _ hset _ (by decide) (by decide), hloss, enterHoldover_status _ _ rfl (by decide),
      State.fld_set_same _ _ _ (by decide)]
    rfl
  · rw [settle_tim _ hset, hloss, enterHoldover_tim, set_tim]; exact hlive

theorem exec_relock_allowed (s : State) (a : Access) (w : Word) (hs : s.servesPriv a = true) (hsvc : s.svc = svcTest ∨ s.svc = svcRecovery)
    (hact : s.on F.TIM_STATUS_ACTING_GM = false) :
    ∃ t, exec (.relock a w) s = .next t ∧ t.servo = svFree ∧ t.fld F.TIM_RATE_RATE_PPT = 0 ∧ t.fld F.TIM_STATUS_UP_PORT = 0x7F
      ∧ t.tim.samples = [] ∧ t.tim.syncRx = [] ∧ t.tim.heard = [] ∧ t.tim.refusedRun = 0 ∧ t.ports.answer = some ⟨a.src, .ok, 0⟩ := by
  obtain ⟨u, hu⟩ : ∃ u, u = (s.reach a.t).plainWrite 0x010010 w := ⟨_, rfl⟩
  have hfld : ∀ g : Fld, g.addr ≠ 0x010010 → u.fld g = s.fld g := by
    intro g hg
    rw [hu, fld_plainWrite _ _ _ _ hg, reach_fld]
  have hrelock := relock_allowed u (by simpa only [State.svc, hfld F.BLK_STATE (by decide)] using hsvc)
    (by rw [State.on, hfld _ (by decide)]; exact hact)
  obtain ⟨v, hv⟩ : ∃ v, v = (u.relock.markExpert 0x010010).answer a .ok 0 := ⟨_, rfl⟩
  have hset : v.ports.powered = true := by
    obtain ⟨hpow, -, -, -⟩ := (servesPriv_iff s a).1 hs
    have hrelocked : u.relock.ports.powered = u.ports.powered := by simp [hrelock, setServo_eq]
    rw [hv, State.answer, markExpert_ports, hrelocked, hu, plainWrite_ports, reach_ports, hpow]
  have htim : v.settle.tim = { (u.setServo svFree).tim with samples := [], refusedRun := 0, syncRx := [], heard := [] } := by
    rw [settle_tim _ hset, hv, answer_tim, markExpert_tim, hrelock]; rfl
  have hregs : ∀ g : Fld, g.InTime → g.addr ≠ 0x1000C ∨ 16 < g.lo ∨ g.hi < 16 → v.settle.fld g = u.relock.fld g := by
    intro g hg hlevel
    rw [settle_fld_apart _ hset _ (hg.ne_below (by decide)) hlevel, hv, answer_fld, fld_markExpert _ _ _ (hg.ne_below (by decide))]
  refine ⟨v.settle, ?_, ?_, ?_, ?_, by rw [htim], by rw [htim], by rw [htim], by rw [htim], ?_⟩
  · rw [exec_relock, execRelock, guardWrite_ok s a _ _ hs (by decide) (by decide), ← hu, ← hv, done]
  · rw [State.servo, hregs _ (by decide) (by decide), hrelock, setTim_fld, fld_set _ _ _ _ (by decide),
      setRate_fld_apart _ _ _ (by decide) (by decide)]
    exact setServo_servo u svFree (by decide)
  · rw [hregs _ (by decide) (by decide), hrelock, setTim_fld, fld_set _ _ _ _ (by decide), setRate_zero]
  · rw [hregs _ (by decide) (by decide), hrelock, setTim_fld, State.fld_set_same _ _ _ (by decide)]; rfl
  · obtain ⟨-, -, hanswer, -⟩ := settle_ports v hset
    rw [hanswer, hv]; rfl

/-- Settles O35: each command's meaning by its `exec_` equation, its effect by the lemma about the operation it names. -/
theorem timeCommands : Obligations.TimeCommands := by
  unfold Obligations.TimeCommands
  refine ⟨?_, ?_, ?_, ?_, exec_pdelayInterval_onePort, exec_sync_locked, exec_followUp_sample, ?_, ?_, ?_, ?_, ?_,
    exec_relock_allowed, ?_, ?_, ?_⟩
  · intro s hlost
    rw [exec_tbrefLost, execTbrefLost, State.tbrefLost, hlost]; rfl
  · intro s
    rfl
  · intro s u hinj hu hlock
    rw [exec_syncInterval, execSyncInterval, syncInterval_locked s u hinj hu hlock, done]
  · intro s u hu hports
    rw [exec_pdelayInterval, execPdelayInterval, pdelayInterval_noPort s u hu hports, done]
  · intro s r
    obtain ⟨n, hn⟩ := reach_moves_now s r.t
    rw [exec_pdelayReq, execPdelayReq, hn]; rfl
  · intro s r d hd hport hseq
    obtain ⟨n, hn⟩ := reach_moves_now s r.t
    rw [exec_pdelayResp, execPdelayResp, hn, pdelayResp_one ((s.setTim { s.tim with now := n }).consume r) r d hd hport hseq]; rfl
  · intro s r t1 t2 t4 hd hpow _
    exact exec_pdelayRespFollowUp_one s r t1 t2 t4 hd hpow
  · intro s h hpow _ hheard hport hact hlock
    exact exec_syncPortLoss_lastPort s h hpow hheard hport hact hlock
  · intro s hact hrank
    rw [exec_gmLoss, execGmLoss, gmLoss_acts s hact hrank, done]
  · intro s a w hs hrank
    rw [exec_gmResume, execGmResume, guardWrite_ok s a _ _ hs (by decide) (by decide),
      gmResume_master _ (by rw [fld_plainWrite _ _ _ _ (by decide), reach_fld, hrank]), done]
  · intro s a w hs hact hlim
    rw [exec_timAdj, execTimAdj, guardWrite_ok s a _ _ hs (by decide) (by decide), markExpert_id _ _ (by decide),
      adjust_slews _ w (by rw [reach_on, hact]) (by simpa [State.jumpLimit] using hlim), reach_tim]
    rfl
  · intro s a w hs h
    rw [exec_timAdj, execTimAdj, guardWrite_ok s a _ _ hs (by decide) (by decide), markExpert_id _ _ (by decide),
      adjust_refused _ w (by simpa [State.jumpLimit] using h), done]

end Sys2Proof.Machine

/-! The Cadence and PULSE_OUT (R88 to R94, R146, R484): O36. -/

namespace Sys2Proof.Machine

/-! ### The schedule (R88, R89, R91, R146, R484) -/

theorem exec_sealLagWrite_allowed (s : State) (a : Access) (w : Word) (hs : s.servesPriv a = true) :
    exec (.sealLagWrite a w) s = .next (State.settle
      ((((s.reach a.t).set F.TIM_SEAL_LAG_LAG_US (clampN 5 500 (F.TIM_SEAL_LAG_LAG_US.get w))).markExpert 0x01005C).answer a .ok 0)) := by
  rw [exec_sealLagWrite, execSealLagWrite, guardWrite_ok s a _ _ hs (by decide) (by decide), State.lagWrite, done]

/-- In mode 1 an edge is stamped and moves no boundary (R97). -/
theorem syncEdge_stampOnly (s : State) (t : Nat) (hmode : s.fld F.TIM_CTRL_SYNC_MODE = 1) (hin : s.ports.inReset = false) :
    s.syncEdge t = ((s.setPair F.TIM_SYNC_LAST_LO F.TIM_SYNC_LAST_HI (t / 8)).ckptEdge).seqAll 3 t := by
  simp [State.syncEdge, State.syncIn, hmode, hin]

theorem boundary_scheduled (s : State) (hlost : s.on F.TIM_STATUS_TBREF_LOST = false) (hpow : s.ports.powered = true) :
    s.boundary = (s.reachNs s.tim.nextNs).turnEpoch s.tim.nextNs (s.tim.adopt.getD (s.tim.epoch + 1))
      (s.tim.pulled.getD (s.tim.nextNs + s.tim.nextPeriod)) false false := by
  simp [State.boundary, hlost, hpow]

theorem sealDue_closed (s : State) (cl : Closed) (hcl : s.tim.closed = some cl) (hlost : s.on F.TIM_STATUS_TBREF_LOST = false) :
    s.sealDue = (s.reachNs (cl.closeNs + 1000 * cl.lag)).sealNow := by
  simp [State.sealDue, hcl, hlost]

/-! ### Adopting a Cadence (R88, R89) -/

/-- The state in which a unit judges an announcement: passed on to the ports below it, its own apart (R88). -/
def State.relayAnnouncement (s : State) (x : Rx) : State := s.sendEach (s.timeDown.filter (fun p => p ≠ x.port)) 1 x.bytes

/-- A LOCKED unit that has adopted no Cadence takes one from the port it follows, with the boundary it names still ahead. -/
theorem announcement_adopts (s : State) (x : Rx) (hup : s.fld F.TIM_STATUS_UP_PORT = x.port) (hport : x.port ≠ 0x7F)
    (hsrc : s.cadenceSource = false) (hnew : s.on F.TIM_STATUS_CADENCE_ADOPTED = false) (hlock : s.servo = svLocked)
    (hahead : s.nowNs < le x.bytes 32 8) :
    s.announcement x = ⟨(((s.relayAnnouncement x).set F.TIM_STATUS_CADENCE_ADOPTED 1).set F.TIM_EPOCH_PERIOD_PERIOD_US (le x.bytes 40 4)).setTim
      { s.tim with nextNs := le x.bytes 32 8, adopt := some (le x.bytes 16 6 + 1), period := 1000 * le x.bytes 40 4, pulled := none }, false⟩ := by
  have htim : (s.relayAnnouncement x).tim = s.tim := by simp [State.relayAnnouncement]
  have hnow : (s.relayAnnouncement x).nowNs = s.nowNs := by rw [State.nowNs, htim]; rfl
  have htakes : (!(if s.fld F.TIM_STATUS_UP_PORT = 0x7F then s.upstreams.contains x.port else decide (x.port = s.fld F.TIM_STATUS_UP_PORT))
      || s.cadenceSource) = false := by simp [hup, hport, hsrc]
  have hnew' : (!(s.relayAnnouncement x).on F.TIM_STATUS_CADENCE_ADOPTED) = true := by
    simpa [State.relayAnnouncement, State.on] using hnew
  have hlock' : (s.relayAnnouncement x).servo = svLocked := by rw [← hlock]; simp [State.relayAnnouncement, State.servo]
  have hadopts : (decide ((s.relayAnnouncement x).servo = svLocked) && decide ((s.relayAnnouncement x).nowNs < le x.bytes 32 8)) = true := by
    rw [hlock', hnow, decide_eq_true hahead]; rfl
  refine (if_neg fun h => Bool.false_ne_true (htakes.symm.trans h)).trans ((if_pos hnew').trans ((if_pos hadopts).trans ?_))
  rw [← htim]
  rfl

theorem announced_open (s u : State) (x : Rx) (h : s.announcement x = ⟨u, false⟩) : s.announced x = u := by simp [State.announced, h]

theorem exec_cadenceAnnouncement_adopts (s : State) (r : Rx) (hup : s.fld F.TIM_STATUS_UP_PORT = r.port) (hport : r.port ≠ 0x7F)
    (hsrc : s.cadenceSource = false) (hnew : s.on F.TIM_STATUS_CADENCE_ADOPTED = false) (hlock : s.servo = svLocked)
    (hpow : s.ports.powered = true) (hahead : (s.reach r.t).nowNs < le r.bytes 32 8) (hper : le r.bytes 40 4 < 2 ^ 20) :
    ∃ t, exec (.cadenceAnnouncement r) s = .next t ∧ t.fld F.TIM_STATUS_CADENCE_ADOPTED = 1
      ∧ t.fld F.TIM_EPOCH_PERIOD_PERIOD_US = le r.bytes 40 4 ∧ t.tim.nextNs = le r.bytes 32 8 ∧ t.tim.adopt = some (le r.bytes 16 6 + 1)
      ∧ t.tim.period = 1000 * le r.bytes 40 4 ∧ t.tim.epoch = s.tim.epoch := by
  obtain ⟨n, hn⟩ := reach_moves_now s r.t
  obtain ⟨u, hu⟩ : ∃ u, u = (s.setTim { s.tim with now := n }).consume r := ⟨_, rfl⟩
  have hadopt := announced_open u _ r (announcement_adopts u r (by rw [hu]; exact hup) hport (by rw [hu]; exact hsrc)
    (by rw [hu]; exact hnew) (by rw [hu]; exact hlock) (by rw [hn] at hahead; rw [hu]; exact hahead))
  have hset : (u.announced r).ports.powered = true := by rw [hadopt, hu]; simp [State.relayAnnouncement, hpow]
  have htim : (u.announced r).settle.tim = { u.tim with
      nextNs := le r.bytes 32 8, adopt := some (le r.bytes 16 6 + 1), period := 1000 * le r.bytes 40 4, pulled := none } := by
    rw [settle_tim _ hset, hadopt, setTim_tim]
  refine ⟨(u.announced r).settle, ?_, ?_, ?_, by rw [htim], by rw [htim], by rw [htim], by rw [htim, hu]; rfl⟩
  · rw [exec_cadenceAnnouncement, execCadenceAnnouncement, hn, ← hu, done]
  · rw [settle_fld_apart _ hset _ (by decide) (by decide), hadopt, setTim_fld, fld_set _ _ _ _ (by decide), State.fld_set_same _ _ _ (by decide)]
    rfl
  · rw [settle_fld_apart _ hset _ (by decide) (by decide), hadopt, setTim_fld, State.fld_set_same _ _ _ (by decide)]
    exact Nat.mod_eq_of_lt hper

/-! ### PULSE_OUT (R93, R94) -/

/-- The word of a channel's controls is a plain register with no image-set field. -/
theorem pulseCtrl_plain {k : Nat} (hk : k < 8) : plainAddr (0x012014 + 32 * k) = true ∧ expertMask (0x012014 + 32 * k) = 0 := by
  revert k; decide

/-- A privileged write of a channel's controls has the effect of its command and no other. -/
theorem guardWrite_pulseCtrl (s : State) (a : Access) (k : Nat) (f : State → State) (hs : s.servesPriv a = true) (hk : k < 8) :
    s.guardWrite a (0x012014 + 32 * k) f = (f (s.reach a.t)).answer a .ok 0 := by
  obtain ⟨hplain, hmask⟩ := pulseCtrl_plain hk
  rw [guardWrite_ok s a _ _ hs hplain (by omega), markExpert_id _ _ hmask]

theorem exec_pulseArm_allowed (s : State) (a : Access) (k : Nat) (w : Word) (hs : s.servesPriv a = true) (hk : k < 8) :
    exec (.pulseArm a k w) s =
      .next ((((s.reach a.t).plainWrite (0x012014 + 32 * k) (w ||| 1#32)).pulseArm k).answer a .ok 0).settle := by
  rw [exec_pulseArm, execPulseArm, if_pos hk, guardWrite_pulseCtrl s a k _ hs hk, done]

theorem exec_pulseDisarm_allowed (s : State) (a : Access) (k : Nat) (w : Word) (hs : s.servesPriv a = true) (hk : k < 8) :
    exec (.pulseDisarm a k w) s =
      .next ((((s.reach a.t).plainWrite (0x012014 + 32 * k) (w &&& ~~~(1#32))).pulseDisarm k).answer a .ok 0).settle := by
  rw [exec_pulseDisarm, execPulseDisarm, if_pos hk, guardWrite_pulseCtrl s a k _ hs hk, done]

/-- A schedule that a channel can keep (R93). -/
theorem pulseArm_starts (s : State) (k : Nat) (hw : 2 ≤ s.fld (F.TIM_PULSE_WIDTH k))
    (hper : s.fld (F.TIM_PULSE_PERIOD k) = 0
      ∨ 8 ≤ s.fld (F.TIM_PULSE_PERIOD k) ∧ s.fld (F.TIM_PULSE_WIDTH k) + 2 ≤ s.fld (F.TIM_PULSE_PERIOD k))
    (hidle : (s.pulse k).trailing = none) : s.pulseArm k = s.startPulse k := by
  refine (if_neg ?_).trans (if_neg ?_)
  · simp only [Bool.or_eq_true, Bool.and_eq_true, decide_eq_true_eq]
    omega
  · rw [hidle]; decide

theorem pulseArm_narrow (s : State) (k : Nat) (hw : s.fld (F.TIM_PULSE_WIDTH k) < 2) :
    s.pulseArm k = (s.set (F.TIM_PULSE_CTRL_BADCFG k) 1).set (F.TIM_PULSE_CTRL_ARM k) 0 := by
  simp [State.pulseArm, hw]

theorem pulseDisarm_idle (s : State) (k : Nat) (hidle : (s.pulse k).trailing = none) :
    s.pulseDisarm k = s.setPulse k { s.pulse k with armed := false, next := none } := by
  simp [State.pulseDisarm, hidle]

theorem pulseEdge_due (s : State) (k n : Nat) (hnext : (s.pulse k).next = some n) (hlost : s.on F.TIM_STATUS_TBREF_LOST = false) :
    s.pulseEdge k = (s.reachNs n).pulseFire k n := by
  simp [State.pulseEdge, hnext, hlost]

theorem pulseTrail_ends (s : State) (k n : Nat) (htrail : (s.pulse k).trailing = some n) (hrearm : (s.pulse k).rearm = false) :
    s.pulseTrail k = (s.reachNs n).setPulse k { s.pulse k with
      trailing := none, pin := s.pulseLevel k false, armed := (s.pulse k).armed && !(s.pulse k).stopping, stopping := false, rearm := false } := by
  have hlevel : (s.reachNs n).pulseLevel k false = s.pulseLevel k false := by simp [State.pulseLevel, State.on]
  simp [State.pulseTrail, htrail, hrearm, hlevel]

/-- The channel's own controls do not hold its width and its period. -/
theorem fld_pulseCtrl_write (s : State) (t k : Nat) (w : Word) (g : Fld) (hg : g.addr = 0x01200C + 32 * k ∨ g.addr = 0x012008 + 32 * k) :
    ((s.reach t).plainWrite (0x012014 + 32 * k) w).fld g = s.fld g := by
  rw [fld_plainWrite _ _ _ _ (by omega), reach_fld]

@[simp] theorem reach_pulse (s : State) (t k : Nat) : (s.reach t).pulse k = s.pulse k := by
  obtain ⟨n, hn⟩ := reach_moves_now s t
  rw [hn]; rfl

theorem exec_pulseArm_narrow (s : State) (a : Access) (k : Nat) (w : Word) (hs : s.servesPriv a = true) (hk : k < 8)
    (hw : s.fld (F.TIM_PULSE_WIDTH k) < 2) :
    ∃ t, exec (.pulseArm a k w) s = .next t ∧ t.fld (F.TIM_PULSE_CTRL_BADCFG k) = 1 ∧ t.fld (F.TIM_PULSE_CTRL_ARM k) = 0
      ∧ t.tim.pulses = s.tim.pulses := by
  obtain ⟨u, hu⟩ : ∃ u, u = (((s.reach a.t).plainWrite (0x012014 + 32 * k) (w ||| 1#32)).pulseArm k).answer a .ok 0 := ⟨_, rfl⟩
  have harm : u = (((((s.reach a.t).plainWrite (0x012014 + 32 * k) (w ||| 1#32)).set (F.TIM_PULSE_CTRL_BADCFG k) 1).set
      (F.TIM_PULSE_CTRL_ARM k) 0).answer a .ok 0) := by
    rw [hu, pulseArm_narrow _ k (by rw [fld_pulseCtrl_write s a.t k _ _ (Or.inl rfl)]; exact hw)]
  obtain ⟨hpow, -, -, -⟩ := (servesPriv_iff s a).1 hs
  have hset : u.ports.powered = true := by simp [harm, State.answer, hpow]
  obtain ⟨n, hn⟩ := reach_moves_now s a.t
  have hctrl : ∀ g : Fld, g.addr = 0x012014 + 32 * k → u.settle.fld g = u.fld g := fun g hg =>
    settle_fld_apart u hset g (by omega) (Or.inl (by omega))
  refine ⟨u.settle, ?_, ?_, ?_, ?_⟩
  · rw [exec_pulseArm_allowed s a k w hs hk, hu]
  · rw [hctrl _ rfl, harm, answer_fld, fld_set _ _ _ _ (Or.inr (Or.inl (by show 0 < 5; decide))), State.fld_set_same _ _ _ (by show 5 < 32; decide)]
    rfl
  · rw [hctrl _ rfl, harm, answer_fld, State.fld_set_same _ _ _ (by show 0 < 32; decide)]; rfl
  · rw [settle_tim _ hset, harm, hn]; rfl

/-- Settles O36: each command's meaning by its `exec_` equation, its effect by the lemma about the operation it names. -/
theorem cadenceCommands : Obligations.CadenceCommands := by
  unfold Obligations.CadenceCommands
  refine ⟨?_, ?_, exec_sealLagWrite_allowed, exec_cadenceAnnouncement_adopts, ?_, ?_, ?_, ?_, exec_pulseArm_narrow, ?_, ?_, ?_⟩
  · intro s a w hs hsrc hlo hhi
    rw [exec_periodWrite_allowed s a w hs, periodWrite_inRange _ w (by simpa using hsrc) hlo hhi, markExpert_id _ _ (by decide)]
    rfl
  · intro s a w hs hsrc hbad
    rw [exec_periodWrite_allowed s a w hs, periodWrite_outOfRange _ w (by simpa using hsrc) hbad, markExpert_id _ _ (by decide)]
  · intro s n hmode hin
    rw [exec_syncInEdge, execSyncInEdge, syncEdge_stampOnly _ n (by rw [reach_fld, hmode]) (by rw [reach_ports, hin]), done]
  · intro s hlost hpow
    rw [exec_epochBoundary, execEpochBoundary, boundary_scheduled s hlost hpow, done]
  · intro s cl hcl hlost
    rw [exec_seal, execSeal, sealDue_closed s cl hcl hlost, done]
  · intro s a k w hs hk hw hper hidle
    have hpulse : ((s.reach a.t).plainWrite (0x012014 + 32 * k) (w ||| 1#32)).pulse k = s.pulse k := reach_pulse s a.t k
    have hwidth := fld_pulseCtrl_write s a.t k (w ||| 1#32) (F.TIM_PULSE_WIDTH k) (Or.inl rfl)
    have hperiod := fld_pulseCtrl_write s a.t k (w ||| 1#32) (F.TIM_PULSE_PERIOD k) (Or.inr rfl)
    rw [exec_pulseArm_allowed s a k w hs hk, pulseArm_starts ((s.reach a.t).plainWrite (0x012014 + 32 * k) (w ||| 1#32)) k
      (by rw [hwidth]; exact hw) (by rw [hwidth, hperiod]; exact hper) (by rw [hpulse]; exact hidle)]
  · intro s a k w hs hk hidle
    have hpulse : ((s.reach a.t).plainWrite (0x012014 + 32 * k) (w &&& ~~~(1#32))).pulse k = s.pulse k := reach_pulse s a.t k
    rw [exec_pulseDisarm_allowed s a k w hs hk, pulseDisarm_idle _ k (by rw [hpulse]; exact hidle), hpulse]
  · intro s k n hnext hlost
    rw [exec_pulseEdge, execPulseEdge, pulseEdge_due s k n hnext hlost, done]
  · intro s k n htrail hrearm
    rw [exec_pulseTrailingEdge, execPulseTrailingEdge, pulseTrail_ends s k n htrail hrearm, done]

end Sys2Proof.Machine

/-! The Tally, run-ahead tickets, samples, host reports and Scales (R106 to R129, R138 to R147, R306 to R308): O37. -/

namespace Sys2Proof.Machine

/-! ### What reaching a time, an ack and a write of the Tally's store leave as they are -/

theorem collects_congr {s t : State} (hl : t.loaded = s.loaded) (hp : t.power = s.power) (hr : t.ports.inReset = s.ports.inReset) :
    t.collects = s.collects := by
  simp [State.collects, hl, hp, hr]

@[simp] theorem reach_loaded (s : State) (t : Nat) : (s.reach t).loaded = s.loaded := by simp [State.loaded]

@[simp] theorem reach_collects (s : State) (t : Nat) : (s.reach t).collects = s.collects :=
  collects_congr (reach_loaded s t) (reach_power s t) (by simp)

@[simp] theorem reach_closed (s : State) (t : Nat) : (s.reach t).tim.closed = s.tim.closed := by rw [reach_tim]

@[simp] theorem unstall_inReset (s : State) (g k : Nat) : (s.unstall g k).ports.inReset = s.ports.inReset := by
  unfold State.unstall; dsimp only; split <;> rfl

@[simp] theorem unstall_collects (s : State) (g k : Nat) : (s.unstall g k).collects = s.collects :=
  collects_congr (by rw [State.loaded, fld_unstall _ _ _ _ (by decide)]; rfl) (fld_unstall _ _ _ _ (by decide)) (unstall_inReset s g k)

@[simp] theorem setTal_collects (s : State) (x : TalSt) : (s.setTal x).collects = s.collects := rfl

/-- What the Tally holds of a counter depends on its list of counters alone. -/
theorem ctr_congr {s t : State} (h : t.tal.ctrs = s.tal.ctrs) (id : Nat) : t.ctr id = s.ctr id := by simp [State.ctr, h]

/-! ### Sweep, bracket and readings (R108, R111, R112, R114, R118) -/

theorem sweepStart_starts (s : State) (hrun : s.tallyRuns = true) (hen : s.act F.TAL_CTRL_SWEEP_EN = 1) (hidle : s.tal.sweepAt = none) :
    s.sweepStart = (s.setTal { s.tal with sweepAt := some 0, passStart := s.nowNs }).askNext := by
  simp [State.sweepStart, hrun, hen, hidle]

theorem prepass_starts (s u : State) (hu : u = s.reachNs (s.tim.nextNs - s.prepassNs)) (hrun : u.tallyRuns = true)
    (hen : u.act F.TAL_CTRL_BRACKET_EN = 1) (hnew : u.tal.preDone = false) :
    s.prepass = (u.setTal { u.tal with bracket := u.tal.bracket ++ u.bracketList, preDone := true }).askNext := by
  simp [State.prepass, ← hu, hrun, hen, hnew]

/-- The state in which the response of the counter addressed is checked: its ack has arrived and no read is outstanding. -/
def State.answered (s : State) (t : Nat) : State :=
  ((s.reach t).unstall 1 0).setTal { (s.reach t).tal with asked := none }

theorem answered_eq (s : State) (t : Nat) : s.answered t = ((s.reach t).unstall 1 0).setTal { s.tal with asked := none } := by
  rw [State.answered, reach_tal]

theorem answered_ctr (s : State) (t id : Nat) : (s.answered t).ctr id = s.ctr id := ctr_congr (by rw [answered_eq]; rfl) id

/-- The words of the station map lie above the stall bits of the host ports. -/
theorem answered_fld_map (s : State) (t : Nat) (f : Fld) (h : 0x400000 ≤ f.addr) : (s.answered t).fld f = s.fld f := by
  rw [answered_eq, setTal_fld, fld_unstall _ _ _ _ (by omega), reach_fld]

theorem answered_tallyRuns (s : State) (t : Nat) : (s.answered t).tallyRuns = s.tallyRuns := by simp [State.answered, State.tallyRuns]

/-- A sweep's response is checked, and the next read is addressed. -/
theorem tallyRead_swept (s : State) (t id value gen status : Nat) (hask : s.tal.asked = some (0, id)) (hrun : s.tallyRuns = true) :
    s.tallyRead t value gen status = ((s.answered t).takeReading id t value gen status).1.askNext := by
  have hask' : (s.reach t).tal.asked = some (0, id) := by rw [reach_tal, hask]
  have hruns : ¬ (!(s.answered t).tallyRuns) = true := by rw [answered_tallyRuns, hrun]; decide
  simp only [State.tallyRead, hask']
  exact if_neg hruns

/-- A response with FAULT is counted and gives no reading (R108). -/
theorem takeReading_fault (s : State) (id t value gen status : Nat) (hf : bit status stFault = true) :
    s.takeReading id t value gen status = ((s.putCtr { s.ctr id with status := status }).inc F.TAL_STN_STAT_FAULT, false) := by
  simp [State.takeReading, hf]

/-- A clean response under the map's GEN extends a counter that is not a sampling one (R114). -/
theorem takeReading_extends (s : State) (id t value gen status : Nat) (hf : bit status stFault = false)
    (hn : bit status stNotCounting = false) (hg : gen = s.fld (F.MAP_A_GEN id)) (hm : s.ctrMode id = 0) :
    s.takeReading id t value gen status =
      ((s.putCtr { s.ctr id with status := status }).extendCtr { s.ctr id with status := status, gen := gen } t value status, true) := by
  have hg' : gen = (s.putCtr { s.ctr id with status := status }).fld (F.MAP_A_GEN id) := hg
  have hm' : (s.putCtr { s.ctr id with status := status }).ctrMode id = 0 := hm
  simp [State.takeReading, hf, hn, ← hg', hm']

theorem genStuck_tells (s : State) (id : Nat) (hfour : 4 ≤ (s.ctr id).mmEpochs) (hnew : (s.ctr id).mmTold = false) :
    s.genStuck id = (((s.putCtr { s.ctr id with mmTold := true }).inc F.TAL_GEN_STAT_STUCK).log 0x10 0 id 0).alertIf F.TAL_CTRL_ALERT_EN 2 := by
  simp [State.genStuck, hfour, hnew]

/-! ### Map writes (R109) -/

theorem mapWrite_open (s : State) (id : Nat) (w : Word) (h : s.tim.closed = none) : s.mapWrite id w = s.mapApply id w := by
  simp [State.mapWrite, h]

theorem mapWrite_held (s : State) (id : Nat) (w : Word) (h : s.tim.closed.isSome = true) :
    s.mapWrite id w = s.setTal { s.tal with held := s.tal.held ++ [(id, w)] } := by
  simp [State.mapWrite, h]

theorem exec_mapEntryWrite_allowed (s : State) (a : Access) (id : Nat) (w : Word) (hs : s.serves = true)
    (hj : s.judge a (0x400000 + 8 * id) true = .ok) (hid : id < 131072) :
    exec (.mapEntryWrite a id w) s =
      .next ((((s.reach a.t).mapWrite id w).markExpert (0x400000 + 8 * id)).answer a .ok 0).settle := by
  rw [exec_mapEntryWrite, execMapEntryWrite, if_pos hid, guardWrite_allowed s a _ _ hs hj, done]

/-! ### Reports on the Service Port (R306 to R308) -/

theorem reach_typeKnown (s : State) (t n : Nat) : (s.reach t).typeKnown n = s.typeKnown n := by
  simp [State.typeKnown, State.hostFields]

theorem reportArrives_queued (s : State) (typ : Byte) (r : Report) (hpow : s.ports.powered = true) (hin : s.ports.inReset = false)
    (hroom : s.srv.fifo.length < 256) (hknown : s.typeKnown typ.toNat = true) :
    s.reportArrives typ r = (s.reach r.t).setSrv { s.srv with fifo := s.srv.fifo ++ [(typ, r)] } := by
  simp [State.reportArrives, hpow, hin, Nat.not_le.2 hroom, reach_typeKnown, hknown]

/-- A lost report of any other type leaves no mark of its own. -/
theorem markLost_unmarked (s : State) (n : Nat) (r : Report) (hdig : digestType n = false) (hpc : n ≠ 0x21) (hsam : n ≠ 0x13) :
    s.markLost n r = s := by
  have htap : n ≠ 0x26 := by rintro rfl; exact absurd hdig (by decide)
  simp [State.markLost, htap, hpc, hsam]

theorem reportArrives_dropped (s : State) (typ : Byte) (r : Report) (hpow : s.ports.powered = true) (hin : s.ports.inReset = false)
    (hfull : 256 ≤ s.srv.fifo.length) (hdig : digestType typ.toNat = false) (hpc : typ ≠ 0x21) (hsam : typ ≠ 0x13) :
    s.reportArrives typ r = (s.reach r.t).inc F.SVC_DROP_OTHER := by
  have hmark := markLost_unmarked ((s.reach r.t).inc F.SVC_DROP_OTHER) typ.toNat r hdig
    (fun h => hpc (BitVec.eq_of_toNat_eq h)) (fun h => hsam (BitVec.eq_of_toNat_eq h))
  simp [State.reportArrives, hpow, hin, hfull, hdig, hmark]

/-! ### Run-ahead tickets (R123 to R126) -/

/-- The first post of all is accepted on a target that R123 permits, and its delta counts from its stamp. -/
theorem raPost_first (s : State) (t ticket id delta : Nat) (k : EvtInfo) (hpres : s.on (F.MAP_A_PRESENT id) = true)
    (hmode : s.ctrMode id = 2) (hevt : s.evtInfo (s.fld (F.MAP_A_EVENT id)) = some k) (hpost : k.postOk = true)
    (hen : s.act F.TAL_CTRL_RA_EN = 1) (hnone : s.tal.tickets = []) (hempty : s.tal.entryCount = 0) (hopen : s.tim.closed = none) :
    s.raPost t ticket id delta =
      (let c := s.ctr id
       let v := s.putCtr { c with ext := (c.ext + delta) % 2 ^ 64, ts := some t, vOpen := some (c.vOpen.getD 0) }
       ((v.setTal { v.tal with tickets := [⟨ticket, [⟨id, delta, s.tim.epoch, false, false⟩], 0⟩] }).inc F.TAL_RA_POSTED).raCount) := by
  have htickets : ¬ raTickets s.build ≤ 0 := by cases s.build <;> decide
  have hentries : ¬ raEntries s.build ≤ 0 := by cases s.build <;> decide
  have hpend : s.pendB = none := by simp [State.pendB, hopen]
  simp [State.raPost, hpres, hmode, hevt, hpost, hen, hnone, hempty, hopen, htickets, hentries, hpend]

theorem raCommit_known (s : State) (n : Nat) (h : s.tal.tickets.any (fun k => k.num = n) = true) :
    s.raCommit n = ((s.setTal { s.tal with tickets := s.tal.tickets.filter (fun k => k.num ≠ n) }).inc F.TAL_RA_COMMITTED).raCount :=
  if_pos h

theorem raCancel_known (s : State) (n : Nat) (h : s.tal.tickets.any (fun k => k.num = n) = true) :
    s.raCancel n = ((s.cancelTicket n 1).2.inc F.TAL_RA_CANCELLED).retractOwn (s.cancelTicket n 1).1 :=
  if_pos h

theorem raExpire_due (s : State) (n : Nat) (k : Ticket) (hk : s.tal.tickets.find? (fun x => x.num = n) = some k) (hage : s.raTimeout ≤ k.age) :
    s.raExpire n = (((s.cancelTicket n 2).2.inc F.TAL_RA_EXPIRED).log 0x11 0 n k.entries.length).retractOwn (s.cancelTicket n 2).1 := by
  simp [State.raExpire, hk, Nat.not_lt.2 hage]

/-! ### Samples (R128) and values (R146, R147) -/

/-- A sample stamped in the open epoch and below its limit counts for its counter and leaves a record; an event that the catalogue does not
list has no skid. -/
theorem sampleRx_open (s : State) (r : Report) (id : Nat) (hid : id = repCtr r 0x13 0 1) (hpres : s.on (F.MAP_A_PRESENT id) = true)
    (hmode : s.ctrMode id = 1) (hen : s.act F.TAL_CTRL_SAMPLE_EN ≠ 0) (hbank : s.bankAt r.t = some false)
    (hroom : s.tal.sampled < s.fld F.TAL_SAMPLE_CFG_MAX_PER_EPOCH) (hevt : s.evtInfo (s.fld (F.MAP_A_EVENT id)) = none) :
    s.sampleRx r =
      (let v := s.putCtr { s.ctr id with samples := (s.ctr id).samples + 1 }
       let z := v.setTal { v.tal with sampled := s.tal.sampled + 1 }
       let x := z.originateBare 0x32 4 1 (z.fld (F.MAP_B_OWNER id)) (r.t / 8) [(16, toLE 8 (rf r 0x13 3)), (24, toLE 2 (rf r 0x13 2)),
         (26, toLE 2 (z.fld (F.MAP_A_EVENT id))), (28, toLE 4 (rf r 0x13 0 + 4096 * rf r 0x13 1)), (32, toLE 2 0), (34, toLE 2 0), (36, toLE 1 0)]
       x.2.toRoute F.TRC_ROUTE_SAMPLE x.1) := by
  obtain ⟨v, hv⟩ : ∃ v, v = s.putCtr { s.ctr id with samples := (s.ctr id).samples + 1 } := ⟨_, rfl⟩
  have hevt' : (v.setTal { v.tal with sampled := s.tal.sampled + 1 }).evtInfo (v.fld (F.MAP_A_EVENT id)) = none := by rw [hv]; exact hevt
  simp [State.sampleRx, ← hid, hpres, hmode, hen, hbank, Nat.not_le.2 hroom, ← hv, hevt']

theorem scalesTake_banked (s : State) (v : MetricValue) (closing : Bool) (hcol : s.collects = true) (hm : v.metric < 1024)
    (hen : s.act F.SCL_CTRL_ACC_EN ≠ 0) (hbank : s.bankAt v.t = some closing) :
    s.scalesTake v = s.putRaw closing v.metric v.raw.toNat (tsNs (v.t / 8)) v.tag.toNat v.flags 0 0 := by
  simp [State.scalesTake, hcol, Nat.not_le.2 hm, hen, hbank]

/-- A value of an epoch already sealed folds into the open bank, and is marked late (R147). -/
theorem scalesTake_folded (s : State) (v : MetricValue) (hcol : s.collects = true) (hm : v.metric < 1024)
    (hen : s.act F.SCL_CTRL_ACC_EN ≠ 0) (hbank : s.bankAt v.t = none) (hfold : s.act F.SCL_CTRL_LATE_MODE ≠ 1) :
    s.scalesTake v =
      (s.inc F.SCL_LATE_STAT_FOLDED).putRaw false v.metric v.raw.toNat (tsNs (v.t / 8)) v.tag.toNat (v.flags ||| mfLateIn) 0 0 := by
  simp [State.scalesTake, hcol, Nat.not_le.2 hm, hen, hbank, hfold]

/-- Settles O37: each command's meaning by its `exec_` equation, its effect by the lemma about the operation it names. -/
theorem tallyCommands : Obligations.TallyCommands := by
  unfold Obligations.TallyCommands
  refine ⟨?_, ?_, ?_, ?_, ?_, ?_, ?_, ?_, ?_, ?_, ?_, ?_, ?_, ?_, ?_, ?_, ?_⟩
  · intro s hrun hen hidle
    rw [exec_sweepPassStart, execSweepPassStart, sweepStart_starts s hrun hen hidle, done]
  · intro s u hu hrun hen hnew
    rw [exec_bracketPrepass, execBracketPrepass, prepass_starts s u hu hrun hen hnew, done]
  · intro s u t id value gen status c hask hrun hu hf hn hg hm _ hc
    have hgen : gen.toNat = (s.answered t).fld (F.MAP_A_GEN id) := by
      rw [hg, answered_fld_map _ _ _ (Nat.le_add_right _ _)]
    have hmode : (s.answered t).ctrMode id = 0 := (answered_fld_map _ _ _ (Nat.le_add_right _ _)).trans hm
    rw [exec_tallyReadResponse, execTallyReadResponse, tallyRead_swept s t id _ _ _ hask hrun,
      takeReading_extends _ id t _ _ _ hf hn hgen hmode, answered_ctr, ← hc, answered_eq, ← hu, done]
  · intro s t id value gen status hask hrun hf
    rw [exec_tallyReadResponse, execTallyReadResponse, tallyRead_swept s t id _ _ _ hask hrun,
      takeReading_fault _ id t _ _ _ hf, answered_ctr, answered_eq, done]
  · intro s id hfour hnew
    rw [exec_genStuck, execGenStuck, genStuck_tells s id hfour hnew, done]
  · intro s a id w hs hj hid hopen
    rw [exec_mapEntryWrite_allowed s a id w hs hj hid, mapWrite_open _ id w (by rw [reach_closed, hopen])]
  · intro s a id w hs hj hid hclosed
    rw [exec_mapEntryWrite_allowed s a id w hs hj hid, mapWrite_held _ id w (by rw [reach_closed, hclosed]), reach_tal]
  · intro s t typ body hpow hin hroom hknown
    rw [exec_serviceReportArrival, execServiceReportArrival, reportArrives_queued s typ ⟨t, body⟩ hpow hin hroom hknown, done]
  · intro s t typ body hpow hin hfull hdig hpc hsam
    rw [exec_serviceReportArrival, execServiceReportArrival, reportArrives_dropped s typ ⟨t, body⟩ hpow hin hfull hdig hpc hsam, done]
  · intro s u r id k hu hid hpres hmode hevt hpost hen hnone hempty hopen
    rw [exec_raPost, execRaPost, ← hu, ← hid, raPost_first u _ _ id _ k hpres hmode hevt hpost hen hnone hempty hopen, done]
  · intro s u r hu hk
    rw [exec_raCommit, execRaCommit, ← hu, raCommit_known u _ hk, done]
  · intro s u r hu hk
    rw [exec_raCancel, execRaCancel, ← hu, raCancel_known u _ hk, done]
  · intro s k hk hage
    rw [exec_raTicketExpiry, execRaTicketExpiry, raExpire_due s _ k hk hage, done]
  · intro s u r id c hu hid hpres hmode hen hbank hroom hevt hc
    rw [exec_sample, execSample, ← hu, sampleRx_open u r id hid hpres hmode hen hbank hroom hevt, ← hc, done]
  · intro s typ r hdecl
    rw [exec_hostReport, execHostReport, hdecl]
    rfl
  · intro s v closing hcol hm hen hbank
    rw [exec_scalesValue, execScalesValue, scalesTake_banked s v closing hcol hm hen hbank, done]
  · intro s v hcol hm hen hbank hfold
    rw [exec_scalesValue, execScalesValue, scalesTake_folded s v hcol hm hen hbank hfold, done]

end Sys2Proof.Machine

/-! LB12 codes, exact merges and extreme sets of Scales (R141, R144, R145, R150, R162): O18, O19 and O20. -/

namespace Sys2Proof.Machine

/-! ### LB12 codes (R141) -/

theorem lb12_neg (q : Int) (h : q < 0) : lb12 q = 1 := by simp [lb12, h, h.ne]

section Lb12

variable {q : Nat} (hq : 1 ≤ q)
include hq

theorem lb12_pos : lb12 q = (q.log2 + 1) * 64 + (if 6 ≤ q.log2 then q / 2 ^ (q.log2 - 6) % 64 else q * 2 ^ (6 - q.log2) % 64) := by
  have h0 : q ≠ 0 := by omega
  have hneg : ¬ (q : Int) < 0 := by omega
  simp [lb12, h0, hneg]

theorem lb12_div : lb12 q / 64 = q.log2 + 1 := by
  have h := lb12_pos hq
  split at h <;> omega

theorem lb12_ge : 0x40 ≤ lb12 q := by
  have h := lb12_div hq
  omega

theorem lb12_lt (hlt : q < 2 ^ 63) : lb12 q < 0x1000 := by
  have hdiv := lb12_div hq
  have hlog : q.log2 < 63 := (Nat.log2_lt (by omega)).2 hlt
  omega

/-- From 64 up the seven leading bits of `q` are a one and the six bits of its code. -/
theorem lb12_wide (hp : 6 ≤ q.log2) : q / 2 ^ (q.log2 - 6) = 64 + lb12 q % 64 := by
  have hpos : 0 < 2 ^ (q.log2 - 6) := Nat.two_pow_pos _
  have hlo : 64 ≤ q / 2 ^ (q.log2 - 6) := by
    rw [Nat.le_div_iff_mul_le hpos, show 64 = 2 ^ 6 from rfl, ← Nat.pow_add, Nat.add_sub_cancel' hp]
    exact Nat.log2_self_le (Nat.one_le_iff_ne_zero.1 hq)
  have hhi : q / 2 ^ (q.log2 - 6) < 128 := by
    rw [Nat.div_lt_iff_lt_mul hpos, show 128 = 2 ^ 7 from rfl, ← Nat.pow_add, show 7 + (q.log2 - 6) = q.log2 + 1 by omega]
    exact Nat.lt_log2_self
  have hcode := lb12_pos hq
  rw [if_pos hp] at hcode
  omega

/-- Below 64 `q`, shifted until its leading one is bit 6, is that one and the six bits of its code. -/
theorem lb12_narrow (hp : q.log2 < 6) : q * 2 ^ (6 - q.log2) = 64 + lb12 q % 64 := by
  have hlo : 64 ≤ q * 2 ^ (6 - q.log2) := by
    calc 64 = 2 ^ q.log2 * 2 ^ (6 - q.log2) := by rw [← Nat.pow_add, Nat.add_sub_cancel' hp.le]
      _ ≤ q * 2 ^ (6 - q.log2) := Nat.mul_le_mul_right _ (Nat.log2_self_le (Nat.one_le_iff_ne_zero.1 hq))
  have hhi : q * 2 ^ (6 - q.log2) < 128 := by
    calc q * 2 ^ (6 - q.log2) < 2 ^ (q.log2 + 1) * 2 ^ (6 - q.log2) := Nat.mul_lt_mul_of_pos_right Nat.lt_log2_self (Nat.two_pow_pos _)
      _ = 128 := by rw [← Nat.pow_add, show q.log2 + 1 + (6 - q.log2) = 7 by omega]
  have hcode := lb12_pos hq
  rw [if_neg (by omega)] at hcode
  omega

/-- A code of the narrow kind gives `q` back whole. -/
theorem lb12_narrow_low (hp : q.log2 < 6) : 2 ^ q.log2 + lb12 q % 64 * 2 ^ q.log2 / 64 = q := by
  have hpow : 2 ^ (6 - q.log2) * 2 ^ q.log2 = 64 := by rw [← Nat.pow_add, Nat.sub_add_cancel hp.le]
  have hmul : 64 * q = 64 * 2 ^ q.log2 + lb12 q % 64 * 2 ^ q.log2 := by
    rw [← Nat.add_mul, ← lb12_narrow hq hp, Nat.mul_assoc, hpow, Nat.mul_comm]
  omega

end Lb12

/-- The least value with the code of `q`. -/
def codeLow (q : Nat) : Nat := if 6 ≤ q.log2 then 2 ^ q.log2 + (lb12 q % 64) * 2 ^ (q.log2 - 6) else q

section CodeLow

variable {q : Nat} (hq : 1 ≤ q)
include hq

theorem codeLow_wide (hp : 6 ≤ q.log2) : codeLow q = 2 ^ (q.log2 - 6) * (q / 2 ^ (q.log2 - 6)) := by
  have hpow : 2 ^ q.log2 = 64 * 2 ^ (q.log2 - 6) := by rw [show 64 = 2 ^ 6 from rfl, ← Nat.pow_add, Nat.add_sub_cancel' hp]
  rw [codeLow, if_pos hp, lb12_wide hq hp, hpow, ← Nat.add_mul, Nat.mul_comm]

theorem codeLow_le : codeLow q ≤ q := by
  by_cases hp : 6 ≤ q.log2
  · rw [codeLow_wide hq hp]
    exact Nat.mul_div_le _ _
  · rw [codeLow, if_neg hp]

theorem lt_codeLow_add (hp : 6 ≤ q.log2) : q < codeLow q + 2 ^ (q.log2 - 6) := by
  rw [codeLow_wide hq hp]
  exact Nat.lt_mul_div_succ q (Nat.two_pow_pos _)

theorem codeValue_lb12 : codeValue (lb12 q) = (codeLow q : Int) + (if 7 ≤ q.log2 then 2 ^ (q.log2 - 7) else 0) := by
  have hge : ¬ lb12 q < 0x40 := by
    have h := lb12_ge hq
    omega
  have hlow : (if 6 ≤ q.log2 then 2 ^ q.log2 + lb12 q % 64 * 2 ^ (q.log2 - 6) else 2 ^ q.log2 + lb12 q % 64 * 2 ^ q.log2 / 64) = codeLow q := by
    by_cases hp : 6 ≤ q.log2
    · simp only [codeLow, if_pos hp]
    · simp only [codeLow, if_neg hp, lb12_narrow_low hq (by omega)]
  simp only [codeValue, if_neg hge, lb12_div hq, Nat.add_sub_cancel, hlow]
  push_cast
  rfl

/-- The representative value is the middle of its bucket of 2^(p−6) values, or `q` itself where a bucket holds one value. -/
theorem codeValue_lb12_near : 128 * (codeValue (lb12 q) - q) ≤ 2 ^ q.log2 ∧ 128 * (q - codeValue (lb12 q)) ≤ 2 ^ q.log2 := by
  have hle := codeLow_le hq
  rw [codeValue_lb12 hq]
  by_cases hp : 7 ≤ q.log2
  · have hlt := lt_codeLow_add hq (by omega)
    obtain ⟨k, hk⟩ : ∃ k, q.log2 = k + 7 := ⟨q.log2 - 7, by omega⟩
    simp only [hk, show k + 7 - 6 = k + 1 by omega, Nat.add_sub_cancel, if_pos (Nat.le_add_left 7 k), pow_succ] at hlt ⊢
    have hcast : ((2 ^ k : Nat) : Int) = 2 ^ k := by push_cast; rfl
    generalize (2 : Int) ^ k = z at hcast ⊢
    omega
  · have heq : codeLow q = q := by
      by_cases hp6 : q.log2 = 6
      · have hlt := lt_codeLow_add hq hp6.ge
        rw [hp6] at hlt
        omega
      · rw [codeLow, if_neg (by omega)]
    simp [heq, hp]

end CodeLow

/-- Settles O18: the code's parts by `lb12_pos`, its representative value by `codeValue_lb12`, the distance by `codeValue_lb12_near`. -/
theorem lb12Codes : Obligations.Lb12Codes := by
  unfold Obligations.Lb12Codes
  refine ⟨rfl, lb12_neg, fun q hq => ?_⟩
  exact ⟨lb12_pos hq, lb12_ge hq, lb12_lt hq, Nat.log2_self_le (Nat.one_le_iff_ne_zero.1 hq), ⟨codeValue_lb12 hq, codeLow_le hq, lt_codeLow_add hq⟩,
    codeValue_lb12_near hq⟩

/-! ### Merged sections (R144, R150, R162) -/

theorem countAdd_of_lt {c n : Nat} (h : c + n < 2 ^ 48) : countAdd c n = (c + n, false) := if_neg (by omega)

theorem countAdd_of_le {c n : Nat} (h : 2 ^ 48 ≤ c + n) : countAdd c n = (2 ^ 48 - 1, true) := if_pos h

theorem countAdd_comm (c n : Nat) : countAdd c n = countAdd n c := by rw [countAdd, countAdd, Nat.add_comm]

theorem bit_or (x y k : Nat) : bit (x ||| y) k = (bit x k || bit y k) := by
  simp only [bit, ← Nat.testBit_eq_decide_div_mod_eq, Nat.testBit_or]

/-- METHOD of two merged sections: 7 is that of a section that nothing has entered. -/
def mergeMethod (a b : Nat) : Nat := if a = 7 then b else if b = 7 then a else max a b

theorem mergeMethod_comm (a b : Nat) : mergeMethod a b = mergeMethod b a := by
  simp only [mergeMethod]
  split_ifs <;> omega

theorem mergeMethod_assoc (a b c : Nat) : mergeMethod (mergeMethod a b) c = mergeMethod a (mergeMethod b c) := by
  simp only [mergeMethod]
  split_ifs <;> omega

/-- The merged section overflows, or one that it is merged from has. -/
def mergeOvf (a b : Sect) : Bool := (countAdd a.count b.count).2 || bit a.flags 11 || bit b.flags 11

theorem mergeOvf_comm (a b : Sect) : mergeOvf a b = mergeOvf b a := by
  simp only [mergeOvf, countAdd_comm a.count, Bool.or_assoc, Bool.or_comm (bit a.flags 11)]

theorem mergeOvf_of_lt {a b : Sect} (hcount : a.count + b.count < 2 ^ 48) (ha : bit a.flags 11 = false) (hb : bit b.flags 11 = false) :
    mergeOvf a b = false := by
  simp [mergeOvf, countAdd_of_lt hcount, ha, hb]

section MergeFields

variable (d : MetricDef) (o n : Nat) (a b : Sect)

theorem mergeSect_count : (mergeSect d o n a b).1.count = (countAdd a.count b.count).1 := rfl

theorem mergeSect_sum : (mergeSect d o n a b).1.sum = if mergeOvf a b then Config.sumOvf n a.metric else a.sum + b.sum := rfl

theorem mergeSect_sumsq : (mergeSect d o n a b).1.sumsq = if mergeOvf a b then Config.sumsqOvf n a.metric else a.sumsq + b.sumsq := rfl

theorem mergeSect_method : (mergeSect d o n a b).1.method = mergeMethod a.method b.method := rfl

theorem mergeSect_skew : (mergeSect d o n a b).1.skew = max a.skew b.skew := rfl

theorem mergeSect_flags_ovf (h : mergeOvf a b = true) : bit (mergeSect d o n a b).1.flags 11 = true := by
  have hflags : (mergeSect d o n a b).1.flags =
      a.flags ||| b.flags ||| (if mergeOvf a b then mfOvf else 0) ||| (if (mergeSect d o n a b).2 = 0 then 0 else mfClamped) := rfl
  have hbit : bit mfOvf 11 = true := by decide
  simp [hflags, h, bit_or, hbit]

end MergeFields

/-- Settles O19: each field of the merged section is an operation of its own, exact below the limit, commutative and associative. -/
theorem exactMerge : Obligations.ExactMerge := by
  unfold Obligations.ExactMerge
  refine ⟨?_, ?_, ?_, ?_⟩
  · intro d o n a b hcount ha hb
    simp [mergeSect_count, mergeSect_sum, mergeSect_sumsq, mergeSect_skew, countAdd_of_lt hcount, mergeOvf_of_lt hcount ha hb]
  · intro d o n a b hm
    simp only [mergeSect_count, mergeSect_sum, mergeSect_sumsq, mergeSect_method, mergeSect_skew]
    rw [countAdd_comm, mergeOvf_comm, hm, Int.add_comm, Nat.add_comm, mergeMethod_comm, Nat.max_comm]
    simp only [and_self]
  · intro d o n a b c hcount
    have hab : a.count + b.count < 2 ^ 48 := by omega
    have hbc : b.count + c.count < 2 ^ 48 := by omega
    have hassoc : a.count + (b.count + c.count) < 2 ^ 48 := by omega
    simp only [mergeSect_count, mergeSect_method, mergeSect_skew, countAdd_of_lt hab, countAdd_of_lt hbc, countAdd_of_lt hcount,
      countAdd_of_lt hassoc, mergeMethod_assoc, Nat.max_assoc, Nat.add_assoc, and_self]
  · intro d o n a b hcount
    exact ⟨by rw [mergeSect_count, countAdd_of_le hcount], mergeSect_flags_ovf d o n a b (by simp [mergeOvf, countAdd_of_le hcount])⟩

/-! ### Extreme sets (R145, R162) -/

/-- The offset of a TS_NS from the epoch's opening tells 32-bit values apart. -/
theorem tsKey_inj {o a b : Nat} (ha : a < 2 ^ 32) (hb : b < 2 ^ 32) (h : tsKey o a = tsKey o b) : a = b := by
  simp only [tsKey, sext] at h
  omega

/-- What an entry is ranked by: its value, then its time, SOURCE and TAG; the largest set takes values in descending order. -/
def rankKey (largest : Bool) (o : Nat) (e : XEnt) : Int ×ₗ Int ×ₗ Nat ×ₗ Nat :=
  toLex (if largest then -e.q else e.q, toLex (tsKey o e.ts, toLex (e.src, e.tag)))

/-- A set of extreme entries is held in the order of its ranking (R145). -/
abbrev Ranked (largest : Bool) (o : Nat) (xs : List XEnt) : Prop := xs.Pairwise (fun a b => ranksBefore largest o a b = true)

section Ranking

variable {largest : Bool} {o : Nat}

theorem tieBefore_iff (a b : XEnt) : tieBefore o a b = true ↔
    toLex (tsKey o a.ts, toLex (a.src, a.tag)) < toLex (tsKey o b.ts, toLex (b.src, b.tag)) := by
  simp only [Prod.Lex.toLex_lt_toLex, tieBefore]
  generalize tsKey o a.ts = ta
  generalize tsKey o b.ts = tb
  by_cases ht : ta = tb
  · by_cases hs : a.src = b.src <;> simp [ht, hs]
  · simp [ht]

theorem ranksBefore_iff (a b : XEnt) : ranksBefore largest o a b = true ↔ rankKey largest o a < rankKey largest o b := by
  rw [rankKey, rankKey, Prod.Lex.toLex_lt_toLex, ← tieBefore_iff, ranksBefore]
  by_cases hq : a.q = b.q
  · simp [hq]
  · cases largest <;> simp [hq]

theorem rankKey_inj {a b : XEnt} (ha : a.ts < 2 ^ 32) (hb : b.ts < 2 ^ 32) (h : rankKey largest o a = rankKey largest o b) : a = b := by
  have hts : tsKey o a.ts = tsKey o b.ts → a.ts = b.ts := tsKey_inj ha hb
  simp only [rankKey, EmbeddingLike.apply_eq_iff_eq, Prod.mk.injEq] at h
  obtain ⟨hq, hkey, hsrc, htag⟩ := h
  have hq' : a.q = b.q := by cases largest <;> simpa using hq
  cases a; cases b
  simp_all

/-- Two different entries of 32-bit times are ranked one way or the other. -/
theorem ranksBefore_of_not {x y : XEnt} (hx : x.ts < 2 ^ 32) (hy : y.ts < 2 ^ 32) (hne : y ≠ x) (h : ¬ ranksBefore largest o x y = true) :
    ranksBefore largest o y x = true := by
  rw [ranksBefore_iff] at h ⊢
  exact lt_of_le_of_ne (not_lt.1 h) (fun heq => hne (rankKey_inj hy hx heq))

theorem ranksBefore_trans {a b c : XEnt} (hab : ranksBefore largest o a b = true) (hbc : ranksBefore largest o b c = true) :
    ranksBefore largest o a c = true := by
  rw [ranksBefore_iff] at hab hbc ⊢
  exact hab.trans hbc

/-- A ranked list is settled by its entries. -/
theorem ranked_eq_of_mem_iff {xs ys : List XEnt} (hxs : Ranked largest o xs) (hys : Ranked largest o ys) (h : ∀ z, z ∈ xs ↔ z ∈ ys) : xs = ys := by
  simp only [Ranked, ranksBefore_iff] at hxs hys
  have : Std.Irrefl (fun a b : XEnt => rankKey largest o a < rankKey largest o b) := ⟨fun _ => lt_irrefl _⟩
  have : Std.Antisymm (fun a b : XEnt => rankKey largest o a < rankKey largest o b) := ⟨fun _ _ hab hba => absurd hba (lt_asymm hab)⟩
  exact hxs.eq_of_mem_iff hys h

theorem mem_rankIn (x z : XEnt) (xs : List XEnt) : z ∈ rankIn largest o x xs ↔ z = x ∨ z ∈ xs := by
  induction xs with
  | nil => simp [rankIn]
  | cons y ys ih =>
    rw [rankIn]
    split
    next heq => simp [heq]
    next =>
      split
      · simp
      · simp [ih, or_left_comm]

theorem rankIn_ts {x : XEnt} {xs : List XEnt} (hx : x.ts < 2 ^ 32) (hts : ∀ z ∈ xs, z.ts < 2 ^ 32) :
    ∀ z ∈ rankIn largest o x xs, z.ts < 2 ^ 32 := by
  simp only [mem_rankIn, forall_eq_or_imp]
  exact ⟨hx, hts⟩

theorem rankIn_ranked {x : XEnt} {xs : List XEnt} (hx : x.ts < 2 ^ 32) (hts : ∀ z ∈ xs, z.ts < 2 ^ 32)
    (hxs : Ranked largest o xs) : Ranked largest o (rankIn largest o x xs) := by
  induction xs with
  | nil => simp [rankIn]
  | cons y ys ih =>
    obtain ⟨hy, hys⟩ := List.forall_mem_cons.1 hts
    obtain ⟨hhead, htail⟩ := List.pairwise_cons.1 hxs
    rw [rankIn]
    split
    next => exact hxs
    next hne =>
      split
      next hbefore => exact List.pairwise_cons.2 ⟨List.forall_mem_cons.2 ⟨hbefore, fun z hz => ranksBefore_trans hbefore (hhead z hz)⟩, hxs⟩
      next hafter =>
        refine List.pairwise_cons.2 ⟨fun z hz => ?_, ih hys htail⟩
        obtain rfl | hz := (mem_rankIn x z ys).1 hz
        · exact ranksBefore_of_not hx hy hne hafter
        · exact hhead z hz

/-- What ranks behind the first `n` entries never comes back among them. -/
theorem take_rankIn_take (y : XEnt) (n : Nat) (xs : List XEnt) :
    (rankIn largest o y (xs.take n)).take n = (rankIn largest o y xs).take n := by
  induction xs generalizing n with
  | nil => simp
  | cons z zs ih =>
    cases n with
    | zero => simp
    | succ n =>
      rw [List.take_succ_cons, rankIn, rankIn]
      split
      next => simp [List.take_take]
      next =>
        split
        · cases n <;> simp [List.take_take]
        · simp [ih]

theorem rankIn_comm {x y : XEnt} {xs : List XEnt} (hx : x.ts < 2 ^ 32) (hy : y.ts < 2 ^ 32) (hts : ∀ z ∈ xs, z.ts < 2 ^ 32)
    (hxs : Ranked largest o xs) :
    rankIn largest o y (rankIn largest o x xs) = rankIn largest o x (rankIn largest o y xs) := by
  have hyx := rankIn_ranked hy (rankIn_ts hx hts) (rankIn_ranked hx hts hxs)
  have hxy := rankIn_ranked hx (rankIn_ts hy hts) (rankIn_ranked hy hts hxs)
  refine ranked_eq_of_mem_iff hyx hxy fun z => ?_
  simp only [mem_rankIn, or_left_comm]

theorem addExtreme_addExtreme (x y : XEnt) (xs : List XEnt) :
    addExtreme largest o (addExtreme largest o xs x) y = (rankIn largest o y (rankIn largest o x xs)).take 8 :=
  take_rankIn_take y 8 _

theorem addExtreme_ranked {x : XEnt} {xs : List XEnt} (hx : x.ts < 2 ^ 32) (hts : ∀ z ∈ xs, z.ts < 2 ^ 32)
    (hxs : Ranked largest o xs) : Ranked largest o (addExtreme largest o xs x) :=
  (rankIn_ranked hx hts hxs).take

end Ranking

/-- Settles O20: entries commute in the uncut ranked list, and cutting to eight commutes with putting an entry in. -/
theorem extremesOrderFree : Obligations.ExtremesOrderFree := by
  unfold Obligations.ExtremesOrderFree
  intro largest o xs x y hx hy hts _ hxs
  refine ⟨?_, List.length_take_le _ _, addExtreme_ranked hx hts hxs⟩
  rw [addExtreme_addExtreme, addExtreme_addExtreme, rankIn_comm hx hy hts hxs]

end Sys2Proof.Machine

/-! Reduction: summaries, late bundles, retractions, the straggler search's records, acknowledgements and Derailleur commits (R162 to R186):
O38. -/

namespace Sys2Proof.Machine

/-! ### What leaves the node as it is -/

/-- On a unit that runs no takeover a child's record goes to the unit's one node. -/
theorem atNode_noTakeover (s : State) (key port : Nat) (f : State → State) (h : s.tko = none) : s.atNode key port f = f s := by
  simp [State.atNode, h]

@[simp] theorem setRed_isRoot (s : State) (x : RedSt) : (s.setRed x).isRoot = s.isRoot := rfl

@[simp] theorem setRed_level (s : State) (x : RedSt) : (s.setRed x).level = s.level := rfl

@[simp] theorem setSec_level (s : State) (x : SecSt) : (s.setSec x).level = s.level := rfl

@[simp] theorem setSec_children (s : State) (x : SecSt) : (s.setSec x).children = s.children := rfl

/-- Joining its sender's round touches the chain's own store alone (R426). -/
theorem hashRec_setSec (s : State) (b : Bytes) : ∃ x, s.hashRec b = s.setSec x := by
  unfold State.hashRec
  dsimp only
  split
  · exact ⟨s.sec, rfl⟩
  · split
    · exact ⟨s.sec, rfl⟩
    · exact ⟨_, rfl⟩

@[simp] theorem hashRec_level (s : State) (b : Bytes) : (s.hashRec b).level = s.level := by
  obtain ⟨x, hx⟩ := hashRec_setSec s b
  rw [hx, setSec_level]

@[simp] theorem hashRec_children (s : State) (b : Bytes) : (s.hashRec b).children = s.children := by
  obtain ⟨x, hx⟩ := hashRec_setSec s b
  rw [hx, setSec_children]

/-! ### A node that does not merge passes records on upward (R161, R189) -/

section Relayed

variable {s : State} (hload : s.loaded = true) (hmerge : s.merging = false)
include hload hmerge

theorem childSummary_relayed (x : Rx) (parts : List Bytes) :
    s.childSummary x parts = (x.bytes :: parts).foldl (fun s b => s.sendUp 3 b) s := by
  simp [State.childSummary, hload, hmerge]

theorem bundleRx_relayed (x : Rx) (recs : List Bytes) : s.bundleRx x recs = (x.bytes :: recs).foldl (fun s b => s.sendUp 3 b) s := by
  simp [State.bundleRx, hload, hmerge]

theorem sourceRx_relayed (x : Rx) : s.sourceRx x = s.sendUp 3 x.bytes := by simp [State.sourceRx, hload, hmerge]

end Relayed

/-! ### A merge point hashes a record into its sender's round and takes it (R162, R171 to R173, R180, R185) -/

section Merged

variable {s : State} (hload : s.loaded = true) (hmerge : s.merging = true)
include hload hmerge

theorem childSummary_merged (x : Rx) (parts : List Bytes) (k : Child)
    (hchild : childFor (s.kidsAt (le x.bytes 16 6)) (recKey x.bytes) x.port = some k) :
    s.childSummary x parts = ((x.bytes :: parts).foldl State.hashRec (s.openRound (recKey x.bytes))).takeSummary ⟨x.bytes, parts⟩ x.port k
      (recKey x.bytes) none := by
  simp [State.childSummary, hload, hmerge, hchild]

theorem contributorRx_merged (x : Rx) :
    s.contributorRx x = (let v := s.hashRec x.bytes
      v.setRed { v.red with maps := (le x.bytes 16 6, recKey x.bytes, mapSlots x.bytes) :: v.red.maps.filter (fun m =>
        !(m.1 = le x.bytes 16 6 && m.2.1 = recKey x.bytes) && v.tim.epoch ≤ m.1 + v.lateWindow + 1) }) := by
  simp [State.contributorRx, hload, hmerge]

theorem stragglerRx_merged (x : Rx) :
    s.stragglerRx x = (let v := s.hashRec x.bytes
      v.setRed { v.red with
        lists := (le x.bytes 16 6, readRanks x.bytes) :: v.red.lists.filter (fun l => v.tim.epoch ≤ l.1 + v.lateWindow + 1) }) := by
  simp [State.stragglerRx, hload, hmerge]

/-- Above a Chain head, the values of a source that the child table does not hold are kept under the record's own key. -/
theorem sourceRx_unlisted (x : Rx) (hlevel : s.level ≠ 1) (hchild : childFor s.children (recKey x.bytes) x.port = none) :
    s.sourceRx x = (let v := s.hashRec x.bytes
      let y : SrcVals := ⟨recSource x.bytes, le x.bytes 16 6, readValues x.bytes, recKey x.bytes, v.mergeStarted (le x.bytes 16 6)⟩
      v.setRed { v.red with vals := y :: v.red.vals.filter (fun y => !(y.src = recSource x.bytes && y.epoch = le x.bytes 16 6)
        && v.tim.epoch ≤ y.epoch + v.lateWindow + 1) }) := by
  simp [State.sourceRx, hload, hmerge, hchild, hlevel]

theorem retractionRx_merged (x : Rx) :
    s.retractionRx x = (let q := (s.hashRec x.bytes).retraction x.bytes (some x.port)
      if q.1 then q.2.sendUp 3 x.bytes else q.2) := by
  simp [State.retractionRx, hload, hmerge]

end Merged

/-- A retraction within the late window waits for the merge of its epoch and goes no further (R173). -/
theorem retraction_waits (s : State) (b : Bytes) (port : Option Nat) (hwindow : s.tim.epoch - le b 16 6 ≤ s.lateWindow)
    (hstart : s.mergeStarted (le b 16 6) = false) :
    s.retraction b port = (false, (s.setRed { s.red with retr := s.red.retr ++ [(le b 16 6, b)] }).inc F.RED_CORR_STAT_APPLIED) := by
  simp [State.retraction, Nat.not_lt.2 hwindow, hstart]

/-! ### Late bundles (R169, R428) -/

/-- The source values that a bundle carries are kept, marked as late. -/
def State.keepLateVals (s : State) (recs : List Bytes) (key : Nat) : State :=
  s.setRed { s.red with
    vals := (recs.filter (fun b => recKind b = 0x25)).map (fun b => ⟨recSource b, le b 16 6, readValues b, key, true⟩) ++ s.red.vals }

/-- A tray node scores what a late bundle brought, and queues its CHILD rows (R179, R234). -/
def State.scoreBundle (s : State) (epoch key : Nat) : State :=
  (s.red.vals.filter (fun y => y.epoch = epoch && y.late && y.fromKey = key)).foldl (fun (z : State) y =>
    (if z.act F.RED_CTRL_STRAG_EN = 1 then z.scoreLate epoch y.src y.entries else z).childRows epoch y.src y.entries
      (((s.inf.past.find? (fun p => p.1 = epoch)).map (fun p => p.2)).getD []) true) s

/-- A bundle within the late window goes on upward and is retained; one outside it is counted (R169). -/
def State.passBundle (s : State) (x : Rx) (recs : List Bytes) (k : Child) (head : Bytes) : State :=
  let epoch := le x.bytes 16 6
  if s.lateWindow = 0 || s.lateWindow < s.tim.epoch - epoch then s.inc F.RED_LATE_STAT_EXPIRED
  else
    let z := s.setRed { s.red with lateKeys := ((epoch, recKey head) :: s.red.lateKeys).take 8192 }
    let o := z.retainUp epoch (recSeq x.bytes) (le head 46 2) (x.bytes :: recs) (x.bytes :: recs) [(k.key, x.port, recSeq x.bytes)] z.uplinks
    if o.level ≠ 2 then o else o.scoreBundle epoch (recKey head)

/-- A bundle passed on by a child, for an epoch whose merge has started, at a node that is not the root: checked on its own round (R428). -/
theorem bundleRx_late (s : State) (x : Rx) (recs : List Bytes) (k : Child) (head : Bytes) (hload : s.loaded = true)
    (hmerge : s.merging = true) (hchild : bundleChild s.children (recKey x.bytes) x.port = some k) (hexcl : k.excl = false)
    (hmaker : childFor s.children (recKey x.bytes) x.port = none) (hhead : recs.find? (fun b => recKind b = 0x20) = some head)
    (hlate : s.mergeStarted (le x.bytes 16 6) = true) (hroot : s.isRoot = false) :
    s.bundleRx x recs =
      if s.bundleFault recs = 0 then (s.keepLateVals recs (recKey head)).passBundle x recs k head
      else if s.bundleFault recs = 1 then s.chainFail F.SEC_CHAIN_STAT_GAP (le x.bytes 24 4) 5
      else if s.bundleFault recs = 2 then s.chainFail F.SEC_CHAIN_STAT_HASH_FAIL (le x.bytes 24 4) 5
      else s.chainFail F.SEC_CHAIN_STAT_SIG_FAIL (le x.bytes 24 4) 6 := by
  simp only [State.bundleRx, hload, hmerge, hchild, hexcl, hmaker, hhead, Option.isSome_none, Bool.not_true, Bool.false_eq_true,
    if_false, hlate, setRed_isRoot, hroot, Bool.or_self]
  match s.bundleFault recs with
  | 0 => rfl
  | 1 => rfl
  | 2 => rfl
  | _ + 3 => rfl

/-! ### Merges (R162, R167) -/

theorem mergeDeadline_due (s : State) (m : MergeSt) (hold : s.oldestMerge (fun m => !m.started) = some m) (hmerge : s.merging = true)
    (hinj : s.injecting 4 = false) :
    s.mergeDeadline = (s.reachNs (m.sealNs + 1000 * max 1 (s.fld F.RED_WAIT_WAIT_US))).startMerge m.epoch := by
  simp [State.mergeDeadline, hold, hmerge, hinj]

theorem mergeComplete_running (s : State) (m : MergeSt) (hinj : s.injecting 4 = false)
    (hold : s.oldestMerge (fun m => m.started && !m.complete) = some m) :
    s.mergeComplete = (s.modMerge m.epoch (fun m => { m with complete := true })).forwardIfDone m.epoch := by
  simp [State.mergeComplete, hinj, hold]

/-! ### References, acknowledgements and Derailleur commits (R174, R177, R186) -/

/-- Below the nodes that pass references down, a reference record is kept and goes no further. -/
theorem referenceRx_kept (s : State) (x : Rx) (hlevel : s.level < 3) :
    s.referenceRx x = s.keepRefs (le x.bytes 16 6) ((List.range (le x.bytes 22 2)).map (fun i =>
      (le x.bytes (32 + 24 * i) 2 % 1024, sext 64 (le x.bytes (40 + 24 * i) 8), sext 64 (le x.bytes (48 + 24 * i) 8)))) :=
  if_neg (Nat.not_le.2 hlevel)

/-- What was kept alone, and is acknowledged, is freed; a record that contained no child is acknowledged to none (R174). -/
theorem epochAck_only (s : State) (b : Bytes) (x : Retained) (hkept : s.red.retained = [x]) (hepoch : x.epoch = le b 24 6)
    (hseq : x.seq = le b 32 4) (hkids : x.kids = []) : s.epochAck b = s.setRed { s.red with retained := [] } := by
  simp [State.epochAck, hkept, hepoch, hseq, hkids, eraseFirst, State.ackKids]

theorem exec_derailleurCommit_allowed (s : State) (a : Access) (w : Word) (hs : s.servesPriv a = true) :
    exec (.derailleurCommit a w) s = .next ((((s.reach a.t).plainWrite 0x040040 w).drlCommit).answer a .ok 0).settle := by
  rw [exec_derailleurCommit, execDerailleurCommit, guardWrite_ok s a _ _ hs (by decide) (by decide), markExpert_id _ _ (by decide), done]

/-- The epoch that the commit's registers name (R193). -/
def State.drlEpoch (s : State) : Nat := s.fld F.RED_DRL_EPOCH_LO + 2 ^ 32 * s.fld F.RED_DRL_EPOCH_HI

/-- The write that commits does not touch the epoch named. -/
theorem drlEpoch_written (s : State) (t : Nat) (w : Word) : ((s.reach t).plainWrite 0x040040 w).drlEpoch = s.drlEpoch := by
  simp only [State.drlEpoch]
  rw [fld_plainWrite _ _ _ _ (by decide), fld_plainWrite _ _ _ _ (by decide), reach_fld, reach_fld]

theorem drlCommit_future (s : State) (h : s.tim.epoch < s.drlEpoch) :
    s.drlCommit = (s.setRed { s.red with drlTarget := some s.drlEpoch }).set F.RED_DRL_CTRL_PENDING 1 :=
  if_neg (Nat.not_le.2 h)

theorem drlCommit_late (s : State) (h : s.drlEpoch ≤ s.tim.epoch) : s.drlCommit = s.set F.RED_DRL_CTRL_LATE 1 := if_pos h

/-- Settles O38: each command's meaning by its `exec_` equation, its effect by the lemma about the operation it names. -/
theorem reductionCommands : Obligations.ReductionCommands := by
  unfold Obligations.ReductionCommands
  refine ⟨?_, ?_, ?_, ?_, ?_, ?_, ?_, ?_, ?_, ?_, ?_, ?_, ?_, ?_, ?_⟩
  · intro s u r parts k hu htko hload hmerge hchild
    rw [exec_childSummary, execChildSummary, ← hu, atNode_noTakeover _ _ _ _ htko, childSummary_merged hload hmerge r parts k hchild, done]
  · intro s u r parts hu htko hload hmerge
    rw [exec_childSummary, execChildSummary, ← hu, atNode_noTakeover _ _ _ _ htko, childSummary_relayed hload hmerge, done]
  · intro s m hold hmerge hinj
    rw [exec_mergeDeadline, execMergeDeadline, State.eachNode, mergeDeadline_due s m hold hmerge hinj, done]
  · intro s m hinj hold
    rw [exec_mergeComplete, execMergeComplete, State.eachNode, mergeComplete_running s m hinj hold, done]
  · intro s u r recs hu htko hload hmerge
    rw [exec_lateBundle, execLateBundle, ← hu, atNode_noTakeover _ _ _ _ htko, bundleRx_relayed hload hmerge, done]
  · intro s u r recs k head hu htko hload hmerge hchild hexcl hmaker hhead hlate hroot
    rw [exec_lateBundle, execLateBundle, ← hu, atNode_noTakeover _ _ _ _ htko,
      bundleRx_late u r recs k head hload hmerge hchild hexcl hmaker hhead hlate hroot, done]
    rfl
  · intro s u r hu htko hload hmerge
    rw [exec_contributorRecord, execContributorRecord, ← hu, atNode_noTakeover _ _ _ _ htko, contributorRx_merged hload hmerge, done]
  · intro s u r hu htko hload hmerge hwindow hstart
    rw [exec_retractionRecord, execRetractionRecord, ← hu, atNode_noTakeover _ _ _ _ htko, retractionRx_merged hload hmerge,
      retraction_waits _ _ _ hwindow hstart, done]
    rfl
  · intro s u r hu htko hload hmerge
    rw [exec_sourceValueRecord, execSourceValueRecord, ← hu, atNode_noTakeover _ _ _ _ htko, sourceRx_relayed hload hmerge, done]
  · intro s u r hu htko hload hmerge hlevel hchild
    rw [exec_sourceValueRecord, execSourceValueRecord, ← hu, atNode_noTakeover _ _ _ _ htko,
      sourceRx_unlisted hload hmerge r hlevel hchild, done]
  · intro s u r hu htko hload hmerge
    rw [exec_stragglerRecord, execStragglerRecord, ← hu, atNode_noTakeover _ _ _ _ htko, stragglerRx_merged hload hmerge, done]
  · intro s u r hu htko hlevel
    have hkept := referenceRx_kept u r hlevel
    rw [exec_referenceRecord, execReferenceRecord, ← hu, eachNode_noTakeover _ _ (by rw [hkept]; exact htko), hkept, done]
    rfl
  · intro s u r x hu htko hretained hepoch hseq hkids
    have hfreed := epochAck_only u r.bytes x hretained hepoch hseq hkids
    rw [exec_epochAck, execEpochAck, ← hu, eachNode_noTakeover _ _ (by rw [hfreed]; exact htko), hfreed, done]
  · intro s a w hs hfuture
    rw [exec_derailleurCommit_allowed s a w hs, drlCommit_future _ (by rw [drlEpoch_written, plainWrite_tim, reach_epoch]; exact hfuture),
      drlEpoch_written, plainWrite_red, reach_red]
    rfl
  · intro s a w hs hpast
    rw [exec_derailleurCommit_allowed s a w hs, drlCommit_late _ (by rw [drlEpoch_written, plainWrite_tim, reach_epoch]; exact hpast)]

end Sys2Proof.Machine

/-! Inference, model slots and the Crier: scored rows, budgets, model commands, detectors and alarms (R197 to R243). What the forwarding of a
merge leaves stands first: O39. -/

namespace Sys2Proof.Machine

/-! ### The takeover's node, which the forwarding of a merge leaves as it is

CHILD_BUDGET_EXPIRY has its effect on each node of the unit (R359), so on a unit that runs no takeover its effect is the own node's alone
only when forwarding a merge brings no second node about: each operation on the way leaves that part of the state. -/

/-- A fold whose step keeps the takeover's node keeps it, wherever in what is folded the state stands. -/
theorem foldl_part_tko {α β : Type} (state : β → State) {f : β → α → β} (h : ∀ p x, (state (f p x)).tko = (state p).tko) (l : List α) (p : β) :
    (state (l.foldl f p)).tko = (state p).tko :=
  List.foldlRecOn (motive := fun q => (state q).tko = (state p).tko) l f rfl fun q hq x _ => (h q x).trans hq

theorem foldl_tko {α : Type} {f : State → α → State} (h : ∀ s x, (f s x).tko = s.tko) (l : List α) (s : State) :
    (l.foldl f s).tko = s.tko := foldl_part_tko id h l s

/-! #### Records and merges -/

@[simp] theorem setBank_tko (s : State) (closing : Bool) (b : List Sect) : (s.setBank closing b).tko = s.tko := rfl
@[simp] theorem sectFlags_tko (s : State) (closing : Bool) (m fl : Nat) : (s.sectFlags closing m fl).tko = s.tko := rfl
@[simp] theorem showSlot_tko (s : State) (n : Nat) : (s.showSlot n).tko = s.tko := by simp [State.showSlot]
@[simp] theorem modSlot_tko (s : State) (n : Nat) (f : Slot → Slot) : (s.modSlot n f).tko = s.tko := by simp [State.modSlot]
@[simp] theorem modMerge_tko (s : State) (epoch : Nat) (f : MergeSt → MergeSt) : (s.modMerge epoch f).tko = s.tko := rfl
@[simp] theorem fresh_tko (s : State) : s.fresh.2.tko = s.tko := rfl
@[simp] theorem chained_tko (s : State) (recs : List Bytes) : (s.chained recs).tko = s.tko := rfl
@[simp] theorem headLeaves_tko (s : State) (head : Bytes) : (s.headLeaves head).tko = s.tko := rfl
@[simp] theorem formSummary_tko (s : State) (h : HeadInfo) (b : List Sect) : (s.formSummary h b).2.tko = s.tko := rfl
@[simp] theorem leaveSummary_tko (s : State) (h : HeadInfo) (b : List Sect) : (s.leaveSummary h b).2.tko = s.tko := rfl
@[simp] theorem noteHead_tko (s : State) (epoch seq : Nat) : (s.noteHead epoch seq).tko = s.tko := rfl
@[simp] theorem sealRound_tko (s : State) (epoch : Nat) : (s.sealRound epoch).2.tko = s.tko := rfl
@[simp] theorem closeRound_tko (s : State) (epoch : Nat) (recs : List Bytes) : (s.closeRound epoch recs).2.2.tko = s.tko := rfl
@[simp] theorem keepRefs_tko (s : State) (epoch : Nat) (es : List (Nat × Int × Int)) : (s.keepRefs epoch es).tko = s.tko := rfl
@[simp] theorem putStat_tko (s : State) (x : SrcStat) : (s.putStat x).tko = s.tko := rfl
@[simp] theorem fixRef_tko (s : State) (epoch m : Nat) (r : Int × Int) : (s.fixRef epoch m r).tko = s.tko := rfl

@[simp] theorem originate_tko (s : State) (kind cls flits stall ts : Nat) (body : List (Nat × Bytes)) :
    (s.originate kind cls flits stall ts body).2.tko = s.tko := by
  by_cases h : cls = 3 <;> simp [State.originate, State.originateBy, h]

@[simp] theorem contributor_tko (s : State) (epoch seq : Nat) (slots : List Nat) : (s.contributor epoch seq slots).2.tko = s.tko :=
  originate_tko ..
@[simp] theorem sourceValues_tko (s : State) (epoch seq : Nat) (vals : List (Nat × Nat × Int)) : (s.sourceValues epoch seq vals).2.tko = s.tko :=
  originate_tko ..
@[simp] theorem stragRecord_tko (s : State) (epoch seq : Nat) (rs : List Rank) : (s.stragRecord epoch seq rs).2.tko = s.tko := originate_tko ..
@[simp] theorem refRecord_tko (s : State) (epoch seq : Nat) (secs : List Sect) : (s.refRecord epoch seq secs).2.2.tko = s.tko :=
  originate_tko ..

@[simp] theorem sendUp3_tko (s : State) (ups : List Nat) (recs : List Bytes) : (s.sendUp3 ups recs).tko = s.tko := by
  unfold State.sendUp3
  split
  · exact foldl_tko (fun s b => sendPeer_tko s _ _ b) _ _
  · rfl

@[simp] theorem refDown_tko (s : State) (b : Bytes) : (s.refDown b).tko = s.tko := foldl_tko (fun s _ => sendPeer_tko s _ _ b) _ _

@[simp] theorem ackKids_tko (s : State) (epoch : Nat) (kids : List (Nat × Nat × Nat)) : (s.ackKids epoch kids).tko = s.tko := by
  unfold State.ackKids
  refine foldl_tko (fun z k => ?_) kids s
  simp only [send_tko, linkMgmt_tko]

@[simp] theorem mergeIn_tko (s : State) (openNs : Nat) (acc : List Sect) (x : Sect) : (s.mergeIn openNs acc x).2.tko = s.tko := by
  unfold State.mergeIn
  split
  · rfl
  · dsimp only
    split <;> simp

@[simp] theorem mergeSects_tko (s : State) (openNs : Nat) (acc xs : List Sect) : (s.mergeSects openNs acc xs).2.tko = s.tko :=
  foldl_part_tko Prod.snd (fun p x => mergeIn_tko p.2 _ _ x) _ _

@[simp] theorem mergeChild_tko (s : State) (h : HeadInfo) (secs : List Sect) (x : Summary) (counts : Bool) :
    (s.mergeChild h secs x counts).2.2.tko = s.tko := by
  unfold State.mergeChild
  dsimp only
  split <;> simp

@[simp] theorem mergeAll_tko (s : State) (m : MergeSt) (own : List Sect) : (s.mergeAll m own).2.2.2.tko = s.tko := by
  have step (l : List Arrival) (p : HeadInfo × List Sect × State) (counts : Arrival → Bool) :
      (l.foldl (fun (p : HeadInfo × List Sect × State) a => p.2.2.mergeChild p.1 p.2.1 a.sum (counts a)) p).2.2.tko = p.2.2.tko :=
    foldl_part_tko (fun p => p.2.2) (fun p a => mergeChild_tko p.2.2 _ _ a.sum _) l p
  simp only [State.mergeAll, step]

@[simp] theorem trimRetained_tko (n : Nat) (s : State) : (State.trimRetained n s).tko = s.tko := by
  induction n generalizing s with
  | zero => rfl
  | succ n ih =>
    unfold State.trimRetained
    dsimp only
    split
    · rfl
    · rw [ih]; rfl

@[simp] theorem retainUp_tko (s : State) (epoch seq pgen : Nat) (send keep : List Bytes) (kids : List (Nat × Nat × Nat)) (ups : List Nat) :
    (s.retainUp epoch seq pgen send keep kids ups).tko = s.tko := by
  simp only [State.retainUp]
  split_ifs <;> simp

@[simp] theorem republish_tko (s : State) (epoch : Nat) (h : HeadInfo) (secs : List Sect) (slots : List Nat) :
    (s.republish epoch h secs slots).tko = s.tko := by
  simp only [State.republish]
  split_ifs <;> simp

@[simp] theorem lateMerge_tko (s : State) (a : Arrival) : (s.lateMerge a).tko = s.tko := by
  unfold State.lateMerge
  split
  · dsimp only
    split_ifs <;> simp
  · rfl

@[simp] theorem showRanks_tko (s : State) (rs : List Rank) : (s.showRanks rs).tko = s.tko := by
  unfold State.showRanks
  exact foldl_tko (fun z _ => foldl_tko (fun z _ => setWord_tko z _ _) _ z) _ s

/-! #### The trace port: blocks, buffers and the sequencers -/

@[simp] theorem modPan_tko (s : State) (k : Nat) (f : Pan → Pan) : (s.modPan k f).tko = s.tko := rfl
@[simp] theorem modChan_tko (s : State) (c : Nat) (f : Chan → Chan) : (s.modChan c f).tko = s.tko := rfl
@[simp] theorem setPanState_tko (s : State) (k v : Nat) : (s.setPanState k v).tko = s.tko := rfl
@[simp] theorem badCmd_tko (s : State) (k : Nat) : (s.badCmd k).tko = s.tko := rfl
@[simp] theorem hwrite_tko (s : State) (w : HWrite) : (s.hwrite w).tko = s.tko := rfl

@[simp] theorem closeBlock_tko (s : State) (k flags : Nat) : (s.closeBlock k flags).tko = s.tko := by
  simp only [State.closeBlock]
  split
  · rfl
  · split <;> rfl

@[simp] theorem closeEarly_tko (s : State) (k : Nat) (last : Bool) : (s.closeEarly k last).tko = s.tko := by
  unfold State.closeEarly
  split <;> simp

@[simp] theorem openBlock_tko (s : State) (k : Nat) : (s.openBlock k).tko = s.tko := by
  unfold State.openBlock
  split <;> rfl

/-- Room for a packet is made by closing the open block at most. -/
theorem roomFor_tko {s u : State} {k n : Nat} (h : s.roomFor k n = some u) : u.tko = s.tko := by
  unfold State.roomFor at h
  split at h
  · cases h; rfl
  · split_ifs at h <;> cases h <;> simp

@[simp] theorem formSync_tko (s : State) (k : Nat) : (s.formSync k).tko = s.tko := by
  simp only [State.formSync]
  split
  · rfl
  · split
    case h_1 => rfl
    case h_2 u hroom => split <;> simp [roomFor_tko hroom]

theorem putPkt_tko {s u : State} {k : Nat} {x : Pkt} (h : s.putPkt k x = some u) : u.tko = s.tko := by
  obtain ⟨v, hroom, rfl⟩ := Option.map_eq_some_iff.1 h
  simp [roomFor_tko hroom]

@[simp] theorem drainAux_tko (k n : Nat) (s : State) : (State.drainAux k n s).tko = s.tko := by
  induction n generalizing s with
  | zero => rfl
  | succ n ih =>
    unfold State.drainAux
    split
    · rfl
    · split
      · rfl
      · split
        case h_1 => rfl
        case h_2 u hput => dsimp only; rw [ih]; split <;> simp [putPkt_tko hput]

@[simp] theorem drain_tko (s : State) (k : Nat) : (s.drain k).tko = s.tko := by
  simp only [State.drain, drainAux_tko, formSync_tko]
  split <;> simp

@[simp] theorem insertOn_tko (s : State) (k typ payload t : Nat) (conts chans : List Nat) :
    (s.insertOn k typ payload t conts chans).tko = s.tko := by
  unfold State.insertOn
  split
  · rfl
  · split <;> simp

@[simp] theorem closeBuffer_tko (s : State) (k : Nat) (last : Bool) : (s.closeBuffer k last).tko = s.tko := by
  simp only [State.closeBuffer]
  split
  · rfl
  · split_ifs <;> simp

@[simp] theorem stopCheck_tko (s : State) (k : Nat) : (s.stopCheck k).tko = s.tko := by
  simp only [State.stopCheck]
  split <;> simp

@[simp] theorem panStop_tko (s : State) (k : Nat) : (s.panStop k).tko = s.tko := by
  simp only [State.panStop]
  split_ifs <;> simp

@[simp] theorem fetchDesc_tko (s : State) (k addr : Nat) : (s.fetchDesc k addr).tko = s.tko := by
  unfold State.fetchDesc
  split <;> rfl

@[simp] theorem openBuffer_tko (s : State) (k addr : Nat) (raw : Bytes) : (s.openBuffer k addr raw).tko = s.tko := by
  simp only [State.openBuffer]
  split_ifs <;> simp

@[simp] theorem panExhausted_tko (s : State) (k : Nat) : (s.panExhausted k).tko = s.tko := by simp [State.panExhausted]

@[simp] theorem nextBuffer_tko (s : State) (k : Nat) : (s.nextBuffer k).tko = s.tko := by
  simp only [State.nextBuffer]
  split
  · rfl
  · split
    · exact panExhausted_tko s k
    · split <;> simp

@[simp] theorem flushBuffer_tko (s : State) (k : Nat) : (s.flushBuffer k).tko = s.tko := by
  simp only [State.flushBuffer]
  split
  · split
    · split_ifs <;> simp
    · rfl
  · rfl

@[simp] theorem flushCheck_tko (s : State) : s.flushCheck.tko = s.tko := by
  simp only [State.flushCheck]
  split
  · rfl
  · split <;> rfl

@[simp] theorem flushStreams_tko (s : State) (ks : List Nat) (closeBuf : Bool) : (s.flushStreams ks closeBuf).tko = s.tko := by
  simp only [State.flushStreams, flushCheck_tko]
  refine (foldl_tko (fun s k => ?_) _ _).trans rfl
  split <;> simp

@[simp] theorem seqEnter_tko (s : State) (q st t : Nat) : (s.seqEnter q st t).tko = s.tko := by
  have insert (ks : List Nat) (u : State) (g : State → Nat → List Nat) :
      (ks.foldl (fun z k => z.insertOn k 0xFA (q + 4 * st) t [] (g z k)) u).tko = u.tko := foldl_tko (fun z k => insertOn_tko z k ..) ks u
  have sync (ks : List Nat) (u : State) :
      (ks.foldl (fun z k => (z.modPan k (fun p => { p with syncWanted := true })).formSync k) u).tko = u.tko :=
    foldl_tko (fun z k => (formSync_tko _ k).trans (modPan_tko z k _)) ks u
  have stop (ks : List Nat) (u : State) : (ks.foldl (fun z k => z.panStop k) u).tko = u.tko := foldl_tko (fun z k => panStop_tko z k) ks u
  simp only [State.seqEnter]
  simp only [apply_ite State.tko, insert, sync, stop, flushStreams_tko, setTrc_tko, inc_tko, set_tko, ite_self]

@[simp] theorem seqItem_tko (s : State) (q t : Nat) (fires : Nat → Bool) : (s.seqItem q t fires).tko = s.tko := by
  simp only [State.seqItem]
  split_ifs <;> simp

@[simp] theorem seqEvent_tko (s : State) (q code t : Nat) : (s.seqEvent q code t).tko = s.tko := by
  unfold State.seqEvent
  split <;> simp

@[simp] theorem seqAll_tko (s : State) (code t : Nat) : (s.seqAll code t).tko = s.tko := foldl_tko (fun s q => seqEvent_tko s q code t) _ s

/-! #### Alarms, findings, detectors and the straggler search -/

@[simp] theorem alarmOut_tko (s : State) (bs : Bytes) : (s.alarmOut bs).tko = s.tko := by
  simp only [State.alarmOut, sendEach_tko]
  split <;> simp

@[simp] theorem ownAlarmOf_tko (s : State) (kind ns stall : Nat) (limited : Bool) (body : List (Nat × Bytes)) :
    (s.ownAlarmOf kind ns stall limited body).tko = s.tko := by
  simp only [State.ownAlarmOf]
  split_ifs <;> simp

@[simp] theorem ownAlarm_tko (s : State) (ns stall : Nat) (limited : Bool) (body : List (Nat × Bytes)) :
    (s.ownAlarm ns stall limited body).tko = s.tko := ownAlarmOf_tko ..

@[simp] theorem finding_tko (s : State) (ns epoch kind subject other ref va vb : Nat) :
    (s.finding ns epoch kind subject other ref va vb).tko = s.tko := by
  unfold State.finding
  exact ownAlarmOf_tko ..

@[simp] theorem unpaired_tko (s : State) (b : Bytes) : (s.unpaired b).tko = s.tko := by simp [State.unpaired]

@[simp] theorem judgePair_tko (s : State) (a b : Bytes) : (s.judgePair a b).tko = s.tko := by
  simp only [State.judgePair]
  split_ifs <;> simp

@[simp] theorem digestTake_tko (s : State) (b : Bytes) : (s.digestTake b).tko = s.tko := by
  unfold State.digestTake
  split
  · simp
  · split <;> simp

@[simp] theorem ownDigests_tko (s : State) (epoch : Nat) : (s.ownDigests epoch).2.tko = s.tko := by
  refine (foldl_part_tko Prod.snd (fun p d => ?_) _ _).trans rfl
  exact originate_tko p.2 ..

@[simp] theorem detStep_tko (s : State) (d v epoch ns stall rowSeq : Nat) (asks : Bool) :
    (s.detStep d v epoch ns stall rowSeq asks).tko = s.tko := by
  simp only [State.detStep]
  split_ifs <;> simp

@[simp] theorem detEpoch_tko (s : State) (epoch : Nat) (bank : List Sect) : (s.detEpoch epoch bank).tko = s.tko := by
  unfold State.detEpoch
  split
  · rfl
  · refine foldl_tko (fun s y => ?_) _ s
    split
    · rfl
    · refine foldl_tko (fun s d => ?_) _ s
      split
      · rfl
      · split <;> simp

@[simp] theorem takeOwn_tko (s : State) (m : MergeSt) : (s.takeOwn m).2.tko = s.tko := by
  unfold State.takeOwn
  split <;> simp

@[simp] theorem judgeStrag_tko (s : State) (p : StragPar) (epoch ns : Nat) (x : SrcStat) (z : Int) :
    (s.judgeStrag p epoch ns x z).tko = s.tko := by
  simp only [State.judgeStrag]
  split_ifs <;> simp

@[simp] theorem quiet_tko (s : State) (p : StragPar) (epoch ns : Nat) (x : SrcStat) : (s.quiet p epoch ns x).tko = s.tko := judgeStrag_tko ..

@[simp] theorem scoreSource_tko (s : State) (p : StragPar) (epoch ns src m : Nat) (ref : Option (Int × Int)) (v : Option (Nat × Int)) :
    (s.scoreSource p epoch ns src m ref v).2.tko = s.tko := by
  unfold State.scoreSource
  split
  · split <;> simp
  · exact quiet_tko ..

@[simp] theorem search_tko (s : State) (m : MergeSt) (tray : List Sect) : (s.search m tray).2.tko = s.tko := by
  simp only [State.search]
  refine foldl_part_tko Prod.snd (fun p k => ?_) _ _
  refine (foldl_part_tko Prod.snd (fun q src => ?_) _ _).trans ?_
  · exact scoreSource_tko q.2 ..
  dsimp only
  split <;> simp

/-! #### A merge that leaves, and rows over their budget -/

@[simp] theorem mergeForward_tko (s : State) (epoch : Nat) : (s.mergeForward epoch).tko = s.tko := by
  have merged (as : List Arrival) (u : State) : (as.foldl (fun z a => z.lateMerge a) u).tko = u.tko :=
    foldl_tko (fun z a => lateMerge_tko z a) as u
  have taken (ds : List Bytes) (u : State) : (ds.foldl (fun z b => z.digestTake b) u).tko = u.tko :=
    foldl_tko (fun z b => digestTake_tko z b) ds u
  unfold State.mergeForward
  split
  · rfl
  · split
    · rfl
    · simp [apply_ite State.tko, apply_ite Prod.snd, merged, taken]

@[simp] theorem forwardIfDone_tko (s : State) (epoch : Nat) : (s.forwardIfDone epoch).tko = s.tko := by
  unfold State.forwardIfDone
  split
  · split <;> simp
  · rfl

/-- Rows that overran mark score sections, slots and counters. -/
@[simp] theorem overrun_tko (s : State) (kind epoch : Nat) : (s.overrun kind epoch).tko = s.tko := by
  have marks (os : List OutEnt) (u : State) : (os.foldl (fun z o => z.sectFlags true o.metric mfIncomplete) u).tko = u.tko :=
    foldl_tko (fun z o => sectFlags_tko z true o.metric _) os u
  simp only [State.overrun]
  split
  · rfl
  · rw [foldl_tko]
    · split <;> rfl
    · intro u y
      split <;> split <;> simp [marks]

/-! ### Slots (R224, R237) -/

theorem insertBy_perm {α : Type} (key : α → Nat) (x : α) (l : List α) : (insertBy key x l).Perm (x :: l) := by
  induction l with
  | nil => exact .refl _
  | cons y ys ih =>
    unfold insertBy
    split
    · exact (ih.cons y).trans (.swap x y ys)
    · exact .refl _

theorem sortBy_perm {α : Type} (key : α → Nat) (l : List α) : (sortBy key l).Perm l := by
  have sorted (l acc : List α) : (l.foldl (fun acc x => insertBy key x acc) acc).Perm (l ++ acc) := by
    induction l generalizing acc with
    | nil => exact .refl _
    | cons x l ih => exact (ih _).trans (((insertBy_perm key x acc).append_left l).trans List.perm_middle)
  simpa [sortBy] using sorted l []

/-- The one element of a list that satisfies `p` is the one found. -/
theorem find?_unique {α : Type} {p : α → Bool} {l : List α} {x : α} (hx : x ∈ l) (hp : p x = true) (hone : ∀ y ∈ l, p y = true → y = x) :
    l.find? p = some x := by
  cases hf : l.find? p with
  | none => exact absurd hp (List.find?_eq_none.1 hf x hx)
  | some y => rw [hone y (List.mem_of_find?_eq_some hf) (List.find?_some hf)]

theorem slot_congr {s t : State} (h : t.inf.slots = s.inf.slots) (n : Nat) : t.slot n = s.slot n := by simp [State.slot, h]

theorem slot_num (s : State) (n : Nat) : (s.slot n).num = n := by
  unfold State.slot
  cases h : s.inf.slots.find? (fun x => x.num = n) with
  | none => rfl
  | some x => simpa using List.find?_some h

/-- The words of a slot's window and of INF_STORE hold no part of the slot. -/
@[simp] theorem showSlot_inf (s : State) (n : Nat) : (s.showSlot n).inf = s.inf := by simp [State.showSlot]

@[simp] theorem showSlot_ports (s : State) (n : Nat) : (s.showSlot n).ports = s.ports := by simp [State.showSlot]

@[simp] theorem modSlot_ports (s : State) (n : Nat) (f : Slot → Slot) : (s.modSlot n f).ports = s.ports := by simp [State.modSlot]

theorem slot_modSlot_same (s : State) (n : Nat) (f : Slot → Slot) (h : (f (s.slot n)).num = n) : (s.modSlot n f).slot n = f (s.slot n) := by
  have hperm := sortBy_perm (fun y : Slot => y.num) (f (s.slot n) :: s.inf.slots.filter (fun y => y.num ≠ n))
  have hfound : (s.modSlot n f).inf.slots.find? (fun x => x.num = n) = some (f (s.slot n)) := by
    refine find?_unique (hperm.mem_iff.2 (List.mem_cons_self ..)) (by simpa using h) fun y hy hnum => ?_
    rcases List.mem_cons.1 (hperm.mem_iff.1 hy) with rfl | hrest
    · rfl
    · simp_all
  rw [State.slot, hfound, Option.getD_some]

/-! ### Scored rows (R212, R216, R239) -/

/-- What freeing a retiring version can do: nothing, or take the version's image away. -/
theorem retire_cases (s : State) (n : Nat) :
    s.retire n = s ∨ s.retire n = s.modSlot n (fun x => { x with old := none, keepUntil := none }) := by
  unfold State.retire
  dsimp only
  cases (s.slot n).old with
  | none => exact .inl rfl
  | some im => exact ite_eq_or_eq ..

@[simp] theorem retire_rows (s : State) (n : Nat) : ((s.retire n).slot n).rows = (s.slot n).rows := by
  obtain h | h := retire_cases s n
  · rw [h]
  · rw [h, slot_modSlot_same s n _ (slot_num s n)]

@[simp] theorem retire_ports (s : State) (n : Nat) : (s.retire n).ports = s.ports := by
  obtain h | h := retire_cases s n
  · rw [h]
  · rw [h, modSlot_ports]

/-- The row of a slot that comes first is of a version that the slot no longer holds: it is dropped, and counted as stale (R239). -/
theorem rowDone_dropped (s : State) (n : Nat) (err : StoreErr) (x : Row) (rest : List Row) (hrows : (s.slot n).rows = x :: rest)
    (hkind : x.kind = 0) (hgen : x.gen ≠ (s.slot n).gen) (hold : x.gen ≠ (s.slot n).oldGen) :
    s.rowDone n err = ((s.modSlot n (fun x => { x with rows := rest })).staleRow).retire n := by
  simp [State.rowDone, hrows, hkind, hgen, hold]

/-- What a dropped row leaves: the rows behind it. -/
theorem dropped_rows (s : State) (n : Nat) (rest : List Row) :
    ((((s.modSlot n (fun x => { x with rows := rest })).staleRow).retire n).slot n).rows = rest := by
  have hstale : ((s.modSlot n (fun x => { x with rows := rest })).staleRow).slot n = (s.modSlot n (fun x => { x with rows := rest })).slot n :=
    slot_congr (by simp [State.staleRow]) n
  rw [retire_rows, hstale, slot_modSlot_same s n _ (slot_num s n)]

/-- With no fault injected, a STREAM row that is scored lets no summary leave (R234). -/
theorem rowScored_stream (s : State) (n : Nat) (err : StoreErr) (x : Row) (rest : List Row) (hrows : (s.slot n).rows = x :: rest)
    (hinj : s.con.inject = none) (hkind : x.kind = 0) : s.rowScored n err = s.rowDone n err := by
  simp [State.rowScored, hrows, State.injected, hinj, hkind]

theorem exec_rowScored_dropped (s : State) (n : Nat) (x : Row) (rest : List Row) (hpow : s.ports.powered = true)
    (hrows : (s.slot n).rows = x :: rest) (hinj : s.con.inject = none) (hkind : x.kind = 0) (hgen : x.gen ≠ (s.slot n).gen)
    (hold : x.gen ≠ (s.slot n).oldGen) : ∃ t, exec (.rowScored n .none) s = .next t ∧ (t.slot n).rows = rest := by
  have hdone : s.rowScored n .none = ((s.modSlot n (fun x => { x with rows := rest })).staleRow).retire n := by
    rw [rowScored_stream s n _ x rest hrows hinj hkind, rowDone_dropped s n _ x rest hrows hkind hgen hold]
  have hpow' : (((s.modSlot n (fun x => { x with rows := rest })).staleRow).retire n).ports.powered = true := by
    rw [retire_ports]; exact hpow
  refine ⟨_, rfl, ?_⟩
  rw [hdone, slot_congr (congrArg InfSt.slots (settle_inf _ hpow')), dropped_rows]

/-! ### Budgets (R234, R235) -/

theorem epochBudget_due (s : State) (m : MergeSt) (h : s.oldestMerge (fun m => !m.ready) = some m) :
    s.epochBudget = ((s.reachNs (m.sealNs + 1000 * s.fld F.INF_BUDGET_EPOCH_US)).overrun 1 m.epoch).ownReady m.epoch := by
  simp [State.epochBudget, h]

theorem childBudget_due (s : State) (m : MergeSt) (h : s.oldestMerge (fun m => m.started && !m.sent) = some m) :
    s.childBudget = (((s.reachNs (m.startNs + 1000 * s.fld F.INF_BUDGET_CHILD_US)).overrun 2 m.epoch).modMerge m.epoch
      (fun m => { m with childOver := true })).forwardIfDone m.epoch := by
  simp [State.childBudget, h]

@[simp] theorem childBudget_tko (s : State) : s.childBudget.tko = s.tko := by
  unfold State.childBudget
  split
  · simp
  · rfl

/-! ### STREAM rows (R197, R215) -/

@[simp] theorem reach_slot (s : State) (t n : Nat) : (s.reach t).slot n = s.slot n := slot_congr (by rw [reach_inf]) n

@[simp] theorem reach_act (s : State) (t : Nat) (f : Fld) : (s.reach t).act f = s.act f := by simp [State.act]

@[simp] theorem reach_infers (s : State) (t : Nat) : (s.reach t).infers = s.infers := by simp [State.infers]

@[simp] theorem reach_ident (s : State) (t : Nat) : (s.reach t).ident = s.ident := by simp [State.ident]

/-- Which epoch a stamp is of does not hang on the time counter. -/
@[simp] theorem reach_epochOf (s : State) (t n : Nat) : (s.reach t).epochOf n = s.epochOf n := by
  obtain ⟨now, hnow⟩ := reach_moves_now s t
  rw [hnow]; rfl

@[simp] theorem reach_metricDef (s : State) (t : Nat) (closing : Bool) (m : Nat) : (s.reach t).metricDef closing m = s.metricDef closing m := by
  obtain ⟨now, hnow⟩ := reach_moves_now s t
  rw [hnow]; rfl

/-- A STREAM row of a slot that is not suspended waits for its pipeline when fewer than 64 wait. -/
theorem streamRow_queued (s : State) (n t : Nat) (report : List (Nat × Nat × Int)) (im : Bytes) (g : Nat) (hinf : s.infers = true)
    (hen : s.act F.INF_CTRL_STREAM_EN ≠ 0) (hsus : (s.slot n).suspended = false) (hver : (s.slot n).version (s.epochOf t) = (g, some im))
    (hkind : mKind im = 0) (hroom : ((s.slot n).rows.filter (fun r => r.kind = 0)).length < 64) :
    s.streamRow n t report
      = s.queueRow n im ⟨0, s.epochOf t, t, s.nowNs, rowInputs im ⟨s.scl.bank, s.inf.last, report, []⟩, s.ident, g, false⟩ := by
  simp [State.streamRow, hinf, hen, hsus, hver, hkind, Nat.not_le.2 hroom]

/-! ### Detectors (R217, R223) -/

theorem exec_driftReset_allowed (s : State) (a : Access) (d : Nat) (w : Word) (hs : s.serves = true)
    (hj : s.judge a (0x560010 + 32 * d) true = .ok) (hd : d < 512) :
    exec (.driftReset a d w) s =
      .next (((((s.reach a.t).plainWrite (0x560010 + 32 * d) w).detReset d).markExpert (0x560010 + 32 * d)).answer a .ok 0).settle := by
  rw [exec_driftReset, execDriftReset, if_pos hd, guardWrite_allowed s a _ _ hs hj, done]

/-! ### Model slots: loading, checking and committing (R232, R235, R237, R246) -/

/-- A privileged write of INF_MDL_CTRL has the effect of its operation, and is no expert write. -/
theorem guardWrite_mdl (s : State) (a : Access) (f : State → State) (hs : s.servesPriv a = true) :
    s.guardWrite a 0x050040 f = (f (s.reach a.t)).answer a .ok 0 := by
  rw [guardWrite_ok s a _ _ hs (by decide) (by decide), markExpert_id _ _ (by decide)]

/-- With no load under way and the source in host memory, LOAD orders the image fetched. -/
theorem mdlLoad_fetches (s : State) (hidle : s.fld F.INF_MDL_STAT_LOAD_STATE = 0) (hsrc : s.on F.INF_MDL_CTRL_SRC = false) :
    s.mdlLoad = (let v := s.set F.INF_MDL_STAT_SLOT s.mdlSlot
      let j : Job := ⟨.model s.mdlSlot, v.pair F.INF_MDL_SRC_LO F.INF_MDL_SRC_HI / 16 * 16, v.fld F.INF_MDL_LEN_LENGTH, [], true⟩
      (v.setPorts { v.ports with jobs := v.ports.jobs ++ [j] }).set F.INF_MDL_STAT_LOAD_STATE 1) := by
  have hsrc' : (s.set F.INF_MDL_STAT_SLOT s.mdlSlot).on F.INF_MDL_CTRL_SRC = false := by
    rw [State.on, State.fld_set_other _ _ _ _ (by decide)]; exact hsrc
  simp [State.mdlLoad, hidle, hsrc']

/-- An image with no cause against it is staged; a checkpoint gives way when the store is short of it (R448). -/
theorem mdlChecked_staged (s u : State) (n : Nat) (b : Bytes) (err : Bool) (hfetched : s.inf.fetched = some (n, b, err))
    (hu : u = s.setInf { s.inf with fetched := none }) (hcause : u.modelCause n b err = 0) :
    s.mdlChecked = (let v := if storeKib u.build < u.usedKib + u.shadowKib + mKib b then u.abandon 2 else u
      ((v.modSlot n (fun x => { x with next := some b, target := none })).set F.INF_MDL_STAT_LOAD_STATE 3).set F.INF_MDL_STAT_DONE 1) := by
  simp [State.mdlChecked, hfetched, ← hu, hcause]

/-- An image with a cause against it is rejected under that cause. -/
theorem mdlChecked_rejected (s u : State) (n : Nat) (b : Bytes) (err : Bool) (hfetched : s.inf.fetched = some (n, b, err))
    (hu : u = s.setInf { s.inf with fetched := none }) (hcause : u.modelCause n b err ≠ 0) :
    s.mdlChecked = ((if u.modelCause n b err = 1 then u.authReject n 1 else u).mdlReject n (u.modelCause n b err)).set
      F.INF_MDL_STAT_LOAD_STATE 0 := by
  simp [State.mdlChecked, hfetched, ← hu, hcause]

/-- A version staged for the running catalogue takes its target epoch. -/
theorem mdlCommit_pending (s : State) (hnext : (s.slot s.mdlSlot).next.isSome = true) (hfuture : s.tim.epoch < s.mdlTarget)
    (hcat : (s.slot s.mdlSlot).next.map mCatId = some (s.fld F.SCL_CAT_ID)) :
    s.mdlCommit = (s.modSlot s.mdlSlot (fun x => { x with target := some s.mdlTarget, suspended := false, suspendNext := false })).set
      F.INF_MDL_STAT_LOAD_STATE 4 := by
  obtain ⟨im, him⟩ := Option.isSome_iff_exists.1 hnext
  have hcat' : mCatId im = s.fld F.SCL_CAT_ID := by simpa [him] using hcat
  simp [State.mdlCommit, him, Nat.not_le.2 hfuture, hcat']

/-- A target epoch that has opened is refused under cause 9. -/
theorem mdlCommit_late (s : State) (hnext : (s.slot s.mdlSlot).next.isSome = true) (hpast : s.mdlTarget ≤ s.tim.epoch) :
    s.mdlCommit = s.mdlReject s.mdlSlot 9 := by
  obtain ⟨im, him⟩ := Option.isSome_iff_exists.1 hnext
  simp [State.mdlCommit, him, hpast]

theorem mdlUnload_pending (s : State) (hcur : (s.slot s.mdlSlot).cur.isSome = true) (hfuture : s.tim.epoch < s.mdlTarget) :
    s.mdlUnload = s.modSlot s.mdlSlot (fun x => { x with unload := some s.mdlTarget }) := by
  simp [State.mdlUnload, Option.isNone_iff_eq_none, Option.isSome_iff_ne_none.1 hcur, Nat.not_le.2 hfuture]

theorem mdlAbort_staged (s : State) (hnext : (s.slot s.mdlSlot).next.isSome = true) :
    s.mdlAbort = (s.set F.INF_MDL_STAT_LOAD_STATE 0).modSlot s.mdlSlot (fun x => { x with next := none, target := none, unload := none }) := by
  simp [State.mdlAbort, hnext, Option.isSome_iff_ne_none.1 hnext]

theorem mdlResume_suspended (s : State) (hsus : (s.slot s.mdlSlot).suspended = true) :
    s.mdlResume = s.modSlot s.mdlSlot (fun x => { x with resume := true }) := if_pos hsus

/-! ### The Crier (R243) -/

theorem alarmRx_seen (s : State) (b : Bytes) (h : s.crier.seen.any (fun p => p.1 = recIdent b && s.tim.epoch ≤ p.2 + 1) = true) :
    s.alarmRx b = s.inc F.INF_CRIER_STAT_DUP := if_pos h

/-- An alarm not seen before goes on by the first usable upward port, with its copies. -/
theorem alarmRx_forwarded (s : State) (b : Bytes) (p : Nat)
    (hnew : s.crier.seen.any (fun p => p.1 = recIdent b && s.tim.epoch ≤ p.2 + 1) = false) (hup : s.upNow = some p) :
    s.alarmRx b = (let v := s.setCrier { s.crier with seen := (recIdent b, s.tim.epoch) :: s.crier.seen }
      (v.sendPeer p 0 b).sendEach (v.sendPeer p 0 b).alarmCopies 0 b) := by
  have hup' : (s.setCrier { s.crier with seen := (recIdent b, s.tim.epoch) :: s.crier.seen }).upNow = some p := hup
  rw [State.alarmRx, hnew]
  simp [State.alarmOut, hup, hup']

/-- Settles O39: each command's meaning by its `exec_` equation, its effect by the lemma about the operation it names. -/
theorem modelCommands : Obligations.ModelCommands := by
  unfold Obligations.ModelCommands
  refine ⟨?_, ?_, ?_, ?_, ?_, ?_, ?_, ?_, ?_, ?_, ?_, ?_, ?_, ?_, ?_⟩
  · intro s n err x rest hrows hinj hkind _
    rw [exec_rowScored, execRowScored, rowScored_stream s n err x rest hrows hinj hkind, done]
  · intro s n x rest hpow hrows hinj _ hkind hgen hold
    exact exec_rowScored_dropped s n x rest hpow hrows hinj hkind hgen hold
  · intro s m hold
    rw [exec_epochBudgetExpiry, execEpochBudgetExpiry, epochBudget_due s m hold, done]
  · intro s m htko hold
    rw [exec_childBudgetExpiry, execChildBudgetExpiry, eachNode_noTakeover _ _ (by rw [childBudget_tko, htko]), childBudget_due s m hold, done]
  · intro s n t v im q g hinf hen hsus hfix hver hkind hroom
    rw [exec_streamTrigger, execStreamTrigger]
    simp only [reach_metricDef, hfix]
    rw [streamRow_queued (s.reach t) n t _ im g (by simpa using hinf) (by simpa using hen) (by simpa using hsus) (by simpa using hver) hkind
      (by simpa using hroom), done]
    simp only [reach_epochOf, reach_scl, reach_inf, reach_ident]
  · intro s a d w hs hj hd
    rw [exec_driftReset_allowed s a d w hs hj hd, State.detReset]
  · intro s u a w hs hu hidle hsrc
    rw [exec_modelLoad, execModelLoad, guardWrite_mdl s a _ hs, State.mdlWrite, ← hu, mdlLoad_fetches u hidle hsrc, done]
  · intro s u n b err hfetched hu
    rw [exec_modelFetchComplete, execModelFetchComplete, done]
    by_cases hcause : u.modelCause n b err = 0
    · rw [mdlChecked_staged s u n b err hfetched hu hcause, if_pos hcause]
    · rw [mdlChecked_rejected s u n b err hfetched hu hcause, if_neg hcause]
  · intro s u a w hs hu hnext hfuture hcat
    rw [exec_modelCommit, execModelCommit, guardWrite_mdl s a _ hs, State.mdlWrite, ← hu, mdlCommit_pending u hnext hfuture hcat, done]
  · intro s u a w hs hu hnext hpast
    rw [exec_modelCommit, execModelCommit, guardWrite_mdl s a _ hs, State.mdlWrite, ← hu, mdlCommit_late u hnext hpast, done]
  · intro s u a w hs hu hcur hfuture
    rw [exec_modelUnload, execModelUnload, guardWrite_mdl s a _ hs, State.mdlWrite, ← hu, mdlUnload_pending u hcur hfuture, done]
  · intro s u a w hs hu hnext
    rw [exec_modelAbort, execModelAbort, guardWrite_mdl s a _ hs, State.mdlWrite, ← hu, mdlAbort_staged u hnext, done]
  · intro s u a w hs hu hsus
    rw [exec_modelResume, execModelResume, guardWrite_mdl s a _ hs, State.mdlWrite, ← hu, mdlResume_suspended u hsus, done]
  · intro s u r hu hseen
    rw [exec_alarmRecord, execAlarmRecord, ← hu, alarmRx_seen u r.bytes hseen, done]
  · intro s u r p hu hnew hup
    rw [exec_alarmRecord, execAlarmRecord, ← hu, alarmRx_forwarded u r.bytes p hnew hup, done]

end Sys2Proof.Machine

/-! Trace at the ingress, sequencers, the codec and the Pannier streams (R254 to R271): O40. -/

namespace Sys2Proof.Machine

/-! ### Packets at the Trace Ingress (R253, R254, R271) -/

/-- A packet comes to a channel that is open to it: capture runs, the channel is enabled and withholds nothing, the TYPE is a tile's (R253). -/
structure State.OpenTo (s : State) (c : Nat) (p : Pkt) : Prop where
  onChan : p.chan = c
  serves : s.serves = true
  collects : s.collects = true
  enabled : s.on F.TRC_CTRL_EN = true
  chanEnabled : s.on (F.TRC_CHAN_EN c) = true
  goodType : badType p.typ = false
  unstalled : (s.chan c).stalled = none

/-- A head word with as many continuation words as its LEN says is a packet; packets withheld before may then find room. -/
theorem exec_tracePacket_whole (s : State) (n c : Nat) (head : BitVec 64) (conts : List (BitVec 64)) (p : Pkt) (hc : c < 16)
    (hlen : conts.length = bits head.toNat 63 60) (hp : p = ⟨c, n, head.toNat :: conts.map (fun w => w.toNat), false⟩) :
    exec (.tracePacket n c head conts) s = .next (((s.reach n).tracePacket p).release).settle := by
  rw [exec_tracePacket, execTracePacket, if_pos (by simp [hc, hlen]), ← hp, done]

/-- Without capture, or on a channel that is off, a packet is filtered (R254). -/
theorem tracePacket_off (s : State) (c : Nat) (p : Pkt) (hp : p.chan = c) (hs : s.serves = true)
    (hoff : s.collects = false ∨ s.on F.TRC_CTRL_EN = false ∨ s.on (F.TRC_CHAN_EN c) = false) :
    s.tracePacket p = s.inc (F.TRC_CHAN_STAT_FILT c) := by
  subst hp
  rcases hoff with h | h | h <;> simp [State.tracePacket, hs, h]

theorem tracePacket_fits {s : State} {c : Nat} {p : Pkt} (ho : s.OpenTo c p) (hfit : s.pktFits p = true) :
    s.tracePacket p = s.acceptPkt p := by
  obtain ⟨rfl, hs, hcol, hen, hch, htyp, hst⟩ := ho
  simp [State.tracePacket, hs, hcol, hen, hch, htyp, hst, hfit]

/-- Without room a packet is withheld on a channel that may stall and is not discarding, and is dropped on any other (R271). -/
theorem tracePacket_full {s : State} {c : Nat} {p : Pkt} (ho : s.OpenTo c p) (hfull : s.pktFits p = false) :
    s.tracePacket p = if s.on (F.TRC_CHAN_STALL_EN c) && !(s.chan c).discarding then
      (s.inc (F.TRC_CHAN_STAT_STALL_STALLS c)).modChan c (fun ch => { ch with stalled := some p, stalledNs := s.nowNs })
    else s.dropPkt p := by
  obtain ⟨rfl, hs, hcol, hen, hch, htyp, hst⟩ := ho
  simp [State.tracePacket, hs, hcol, hen, hch, htyp, hst, hfull]

/-- A packet withheld up to STALL_LIMIT_US is dropped, and the channel discards until its FIFO is half empty (R271). -/
theorem stallTimeout_withheld (s : State) (c : Nat) (p : Pkt) (hst : (s.chan c).stalled = some p) (hlim : s.fld F.TRC_LIMITS_STALL_LIMIT_US ≠ 0) :
    s.stallTimeout c = (let u := (s.reachNs ((s.chan c).stalledNs + 1000 * s.fld F.TRC_LIMITS_STALL_LIMIT_US)).inc (F.TRC_CHAN_STAT_STALL_STALL_TIMEOUTS c)
      (u.modChan c (fun ch => { ch with stalled := none, discarding := true })).dropPkt p) := by
  simp [State.stallTimeout, hst, hlim]

/-! ### Blocks and the codec (R260 to R262) -/

theorem blockAge_open (s : State) (k : Nat) (b : Block) (hb : (s.pan k).block = some b) (hus : s.fld F.TRC_LIMITS_FLUSH_US ≠ 0) :
    s.blockAge k = ((s.reachNs (b.openedNs + 1000 * s.fld F.TRC_LIMITS_FLUSH_US)).closeEarly k false).drain k := by
  simp [State.blockAge, hb, hus]

/-- A closed block that is not coded yet becomes the frame under the stream's BLOCK_SEQ, which then moves on. -/
theorem blockCoded_closed (s : State) (k : Nat) (b : Block) (hb : (s.pan k).closed = some b) (hf : (s.pan k).frame = none) :
    s.blockCoded k = (let u := (s.wrapInc (F.TRC_PAN_BLOCK_SEQ k)).modPan k (fun p => { p with
        frame := some (b.toFrame k (s.fld (F.TRC_PAN_BLOCK_SEQ k))), origBytes := p.origBytes + b.size })
      (u.set (F.TRC_PAN_ORIG_KIB k) ((u.pan k).origBytes / 1024)).push k) := by
  simp [State.blockCoded, hb, hf]

/-! ### Commands of a stream (R266, R270) -/

theorem streams_le (b : Build) : streams b ≤ 64 := by cases b <;> decide

/-- A privileged write of TRC_FLUSH or TRC_SYNC is no expert write. -/
theorem guardWrite_traceCtrl (s : State) (a : Access) (addr : Nat) (f : State → State) (hs : s.servesPriv a = true)
    (haddr : addr = 0x060004 ∨ addr = 0x060008) : s.guardWrite a addr f = (f (s.reach a.t)).answer a .ok 0 := by
  obtain ⟨hplain, hlow, hmask⟩ : plainAddr addr = true ∧ addr < 0x200000 ∧ expertMask addr = 0 := by
    rcases haddr with rfl | rfl <;> decide
  rw [guardWrite_ok s a addr _ hs hplain hlow, markExpert_id _ _ hmask]

/-- An allowed write of the CMD word of a stream of the build has the effect of its command; withheld packets may then find room. -/
theorem guardWrite_panCmd (s u : State) (a : Access) (k : Nat) (w : Word) (f : State → State) (hs : s.serves = true)
    (hj : s.judge a (0x06100C + 64 * k) true = .ok) (hk : k < streams s.build) (hu : u = (s.reach a.t).plainWrite (0x06100C + 64 * k) w) :
    s.guardWrite a (0x06100C + 64 * k) (fun s => s.panCmd k w f) = ((f u).release.markExpert (0x06100C + 64 * k)).answer a .ok 0 := by
  have hk' : k < streams ((s.reach a.t).plainWrite (0x06100C + 64 * k) w).build := by simpa using hk
  rw [guardWrite_allowed s a _ _ hs hj, State.panCmd, if_pos hk', hu]

theorem panStart_busy (s : State) (k : Nat) (h : s.panState k = paRun ∨ s.panState k = paWait ∨ s.panState k = paExhausted) :
    s.panStart k = s.badCmd k := by
  simp [State.panStart, or_assoc, h]

theorem panStart_idle (s : State) (k : Nat) (hrun : s.panState k ≠ paRun) (hwait : s.panState k ≠ paWait)
    (hexh : s.panState k ≠ paExhausted) : s.panStart k = ((s.modPan k (fun p => { p with ringed := false })).atHead k).drain k := by
  simp [State.panStart, hrun, hwait, hexh]

theorem panAppend_exhausted (s : State) (k : Nat) (h : s.panState k = paExhausted) : s.panAppend k = s.atHead k := if_pos h

theorem panAppend_other (s : State) (k : Nat) (h : s.panState k ≠ paExhausted) : s.panAppend k = s.badCmd k := if_neg h

/-- A STOP closes the open block as the last one while a block is open or a frame is on its way. -/
theorem panStop_closesBlock (s : State) (k : Nat) (hpend : s.on (F.TRC_PAN_STAT_STOP_PENDING k) = false)
    (hst : s.panState k = paRun ∨ s.panState k = paWait ∨ s.panState k = paExhausted)
    (hheld : (s.pan k).block.isSome = true ∨ (s.pan k).frame.isSome = true) :
    s.panStop k = ((s.set (F.TRC_PAN_STAT_STOP_PENDING k) 1).closeEarly k true).stopCheck k := by
  have hpan : (s.set (F.TRC_PAN_STAT_STOP_PENDING k) 1).pan k = s.pan k := rfl
  have hnot : ((s.pan k).block.isNone && (s.pan k).frame.isNone) = false := by
    rcases hheld with h | h <;> simp [← Option.not_isSome, h]
  simp [State.panStop, hpend, or_assoc, hst, hpan, hnot]

/-- A poll in WAIT reads the next descriptor of the chain again. -/
theorem panPoll_waiting (s : State) (k addr : Nat) (hk : k < streams s.build) (hst : s.panState k = paWait)
    (hnext : (s.pan k).nextAddr = some addr) :
    s.panPoll k = (s.reachNs ((s.pan k).pollNs + 1000 * max 1 (s.fld F.TRC_LIMITS_POLL_US))).fetchDesc k addr := by
  have hpan (t : Nat) : (s.reachNs t).pan k = s.pan k := by simp [State.pan]
  simp [State.panPoll, hk, hst, hpan, hnext]

/-- Settles O40: each command's meaning by its `exec_` equation, its effect by the lemma about the operation it names. -/
theorem traceCommands : Obligations.TraceCommands := by
  unfold Obligations.TraceCommands
  refine ⟨?_, ?_, ?_, ?_, ?_, ?_, ?_, ?_, ?_, ?_, ?_, ?_, ?_, ?_, ?_, ?_, ?_, ?_⟩
  · intro s u n c head conts p hc hlen hu hp hs hcol hen hch htyp hst hfit
    rw [exec_tracePacket_whole s n c head conts p hc hlen hp, ← hu, tracePacket_fits ⟨by rw [hp], hs, hcol, hen, hch, htyp, hst⟩ hfit]
  · intro s u n c head conts p hc hlen hu hp hs hoff
    rw [exec_tracePacket_whole s n c head conts p hc hlen hp, ← hu, tracePacket_off u c p (by rw [hp]) hs hoff]
  · intro s u n c head conts p hc hlen hu hp hs hcol hen hch htyp hst hfull hstall hdisc
    rw [exec_tracePacket_whole s n c head conts p hc hlen hp, ← hu, tracePacket_full ⟨by rw [hp], hs, hcol, hen, hch, htyp, hst⟩ hfull,
      if_pos (by simp [hstall, hdisc])]
  · intro s u n c head conts p hc hlen hu hp hs hcol hen hch htyp hst hfull hstall
    rw [exec_tracePacket_whole s n c head conts p hc hlen hp, ← hu, tracePacket_full ⟨by rw [hp], hs, hcol, hen, hch, htyp, hst⟩ hfull,
      if_neg (by simp [hstall])]
  · intro s c p hst hlim
    rw [exec_traceStallTimeout, execTraceStallTimeout, stallTimeout_withheld s c p hst hlim, done]
  · intro s q n hq hn
    rw [exec_seqTimeEvent, execSeqTimeEvent, if_pos hq, ← hn, done]
  · intro s a q w hs hj hq
    rw [exec_seqFire, execSeqFire, if_pos hq, guardWrite_allowed s a _ _ hs hj, State.seqFire, done]
  · intro s a q w hs hj hq
    rw [exec_seqRestart, execSeqRestart, if_pos hq, guardWrite_allowed s a _ _ hs hj, State.seqRestart, done,
      plainWrite_trc, reach_trc]
  · intro s k b hb hus
    rw [exec_blockAgeExpiry, execBlockAgeExpiry, blockAge_open s k b hb hus, done]
  · intro s k b hb hf
    rw [exec_blockCoded, execBlockCoded, blockCoded_closed s k b hb hf, done]
  · intro s a w hs
    rw [exec_traceFlush, execTraceFlush, guardWrite_traceCtrl s a _ _ hs (.inl rfl), State.traceFlush, done]
  · intro s a w hs
    rw [exec_traceSync, execTraceSync, guardWrite_traceCtrl s a _ _ hs (.inr rfl), State.traceSync, done]
  · intro s u a k w hs hj hk hu hrun hwait hexh
    rw [exec_pannierStart, execPannierStart, if_pos (hk.trans_le (streams_le _)), guardWrite_panCmd s u a k w _ hs hj hk hu,
      panStart_idle u k hrun hwait hexh, done]
  · intro s u a k w hs hj hk hu hst
    rw [exec_pannierStart, execPannierStart, if_pos (hk.trans_le (streams_le _)), guardWrite_panCmd s u a k w _ hs hj hk hu,
      panStart_busy u k hst, done]
  · intro s u a k w hs hj hk hu hexh
    rw [exec_pannierAppend, execPannierAppend, if_pos (hk.trans_le (streams_le _)), guardWrite_panCmd s u a k w _ hs hj hk hu,
      panAppend_exhausted u k hexh, done]
  · intro s u a k w hs hj hk hu hother
    rw [exec_pannierAppend, execPannierAppend, if_pos (hk.trans_le (streams_le _)), guardWrite_panCmd s u a k w _ hs hj hk hu,
      panAppend_other u k hother, done]
  · intro s u a k w hs hj hk hu hpend hst hheld
    rw [exec_pannierStop, execPannierStop, if_pos (hk.trans_le (streams_le _)), guardWrite_panCmd s u a k w _ hs hj hk hu,
      panStop_closesBlock u k hpend hst hheld, done]
  · intro s k addr hk hst hnext
    rw [exec_pannierPoll, execPannierPoll, panPoll_waiting s k addr hk hst hnext, done]

end Sys2Proof.Machine

/-! The Ledger: its class table, the fold stage, the queue, writes and their read-back (R286 to R289, R291, R296, R297): O16 and O41. -/

namespace Sys2Proof.Machine

/-! ### The class table (R289, R291) -/

theorem line_congr {l m : LedSt} (h : l.lines = m.lines) (c : Nat) : l.line c = m.line c := by simp [LedSt.line, h]

theorem line_cls (l : LedSt) (c : Nat) : (l.line c).cls = c := by
  unfold LedSt.line
  cases hx : l.lines.find? (fun x => x.cls = c) with
  | none => rfl
  | some x => simpa using List.find?_some hx

/-- Replacing the line of a class leaves the line of every other. -/
theorem line_setLine (l : LedSt) (x : LLine) (c : Nat) : (l.setLine x).line c = if c = x.cls then x else l.line c := by
  unfold LedSt.line LedSt.setLine
  split
  case isTrue h => simp [h]
  case isFalse h =>
    have hskip : (l.lines.filter (fun y => y.cls ≠ x.cls)).find? (fun y => y.cls = c) = l.lines.find? (fun y => y.cls = c) := by
      rw [List.find?_filter]
      congr 1
      funext y
      by_cases hy : y.cls = c <;> simp [hy, h]
    rw [List.find?_cons_of_neg (by simpa using Ne.symm h), hskip]

/-- Counting an event replaces the line of its class by one whose TOTAL is one more; a first count, set apart by the model, comes to the same. -/
theorem count_eq_setLine (l : LedSt) (e : LEvt) :
    ∃ y, l.count e = l.setLine y ∧ y.cls = e.cls ∧ y.total = ((l.line e.cls).total + 1) % 2 ^ 64 := by
  unfold LedSt.count
  dsimp only
  split
  case isTrue hzero => exact ⟨_, rfl, line_cls l e.cls, by simp [hzero]⟩
  case isFalse => exact ⟨_, rfl, line_cls l e.cls, rfl⟩

theorem count_total_same (l : LedSt) (e : LEvt) : ((l.count e).line e.cls).total = ((l.line e.cls).total + 1) % 2 ^ 64 := by
  obtain ⟨y, hcount, hcls, htotal⟩ := count_eq_setLine l e
  rw [hcount, line_setLine, if_pos hcls.symm, htotal]

theorem count_line_ne (l : LedSt) (e : LEvt) {c : Nat} (h : c ≠ e.cls) : (l.count e).line c = l.line c := by
  obtain ⟨y, hcount, hcls, -⟩ := count_eq_setLine l e
  rw [hcount, line_setLine, if_neg (hcls ▸ h)]

/-- Losing an event counts in LOST of its class; no TOTAL moves. -/
theorem loseEvent_total (s : State) (e : LEvt) (c : Nat) : ((s.loseEvent e).led.line c).total = (s.led.line c).total := by
  have hlines : (s.loseEvent e).led.lines
      = (s.led.setLine { s.led.line e.cls with lost := sat32 ((s.led.line e.cls).lost + 1) }).lines := rfl
  rw [line_congr hlines, line_setLine]
  split
  case isTrue h => rw [h]; simp only [line_cls]
  case isFalse => rfl

/-- A loss that becomes an event counts in class 0x28 alone (R289). -/
theorem noteLoss_line (s : State) {c : Nat} (h : c ≠ 0x28) : s.noteLoss.led.line c = s.led.line c := by
  unfold State.noteLoss
  split
  case h_1 => rfl
  case h_2 lost at_ _ =>
    dsimp only
    split
    case isTrue => rw [alertIf_led]; exact count_line_ne s.led ⟨0x28, 0, 0, lost, at_⟩ h
    case isFalse => rfl

/-! ### An event that is raised (R289, R297) -/

/-- The event as the Ledger keeps it: VALUE saturates at 16 bits (R284), SUBJECT has 32. -/
def LEvt.kept (e : LEvt) : LEvt := { e with val := min e.val 0xFFFF, subj := e.subj % 2 ^ 32 }

/-- The state in which the class table has counted an event. -/
def State.counted (s : State) (e : LEvt) : State :=
  { s.setCon { s.con with sevEpoch := if 5 ≤ severity e.cls then some s.tim.epoch else s.con.sevEpoch } with led := s.led.count e }

/-- Outside MIRROR_ONLY an event is counted first; then it waits for the fold stage, or is lost behind one of its class. -/
theorem raiseEvent_counted (s : State) (e : LEvt) (hstate : s.led.state ≠ 2) :
    s.raiseEvent e = if (s.counted e.kept).led.held.any (fun h => h.cls = e.cls) then ((s.counted e.kept).loseEvent e.kept).noteLoss
      else (s.counted e.kept).setLed { (s.counted e.kept).led with held := (s.counted e.kept).led.held ++ [e.kept] } := if_neg hstate

theorem raiseEvent_mirrorOnly (s : State) (e : LEvt) (hstate : s.led.state = 2) : s.raiseEvent e = s.mirrorEvent e.kept := if_pos hstate

theorem raiseEvent_total (s : State) (e : LEvt) {c : Nat} (hstate : s.led.state ≠ 2) (hc : c ≠ 0x28) :
    ((s.raiseEvent e).led.line c).total = ((s.led.count e.kept).line c).total := by
  rw [raiseEvent_counted s e hstate]
  split
  case isTrue => rw [noteLoss_line _ hc, loseEvent_total]; rfl
  case isFalse => rfl

theorem mirrorEvent_lost (s : State) (e : LEvt) :
    (s.mirrorEvent e).fld F.LED_LOST_EVENTS = min (s.fld F.LED_LOST_EVENTS + 1) F.LED_LOST_EVENTS.max := by
  have hregs : (s.mirrorEvent e).regs = ((s.inc F.LED_LOST_EVENTS).set F.LED_LOST_LAST_CLASS e.cls).regs := rfl
  rw [State.fld_congr hregs, fld_set _ _ _ _ (by decide), fld_inc_same _ _ (by decide)]

/-- Settles O16: outside MIRROR_ONLY by what counting does to the class table, in MIRROR_ONLY by what the mirror takes. -/
theorem eventsCounted : Obligations.EventsCounted := by
  unfold Obligations.EventsCounted
  refine ⟨?_, ?_, ?_⟩
  · intro s e hstate hloss
    rw [raiseEvent_total s e hstate hloss]
    exact count_total_same s.led e.kept
  · intro s e c hstate hc hloss
    rw [raiseEvent_total s e hstate hloss, count_line_ne s.led e.kept hc]
  · intro s e hstate
    rw [raiseEvent_mirrorOnly s e hstate]
    exact ⟨rfl, mirrorEvent_lost s e.kept⟩

/-! ### The fold stage and the queue (R286, R289) -/

@[simp] theorem gateServe_inReset (s : State) : s.gateServe.ports.inReset = s.ports.inReset := by
  unfold State.gateServe; dsimp only; split
  · split <;> rfl
  · rfl

@[simp] theorem touch_inReset (s : State) (k n : Nat) : (s.touch k n).ports.inReset = s.ports.inReset := by
  have habandon : (s.abandon 4).ports.inReset = s.ports.inReset := by simp [State.abandon]
  unfold State.touch; split
  · rfl
  · dsimp only; split
    · rfl
    · split
      · exact habandon
      · rfl

section Fold

variable {s u : State} {e : LEvt} (hold : oldestEvt s.led.held = some e) (hin : s.ports.inReset = false)
  (hu : u = (s.setLed { s.led with held := eraseFirst (fun h => h == e) s.led.held }).touch 1 (64 * e.cls))
include hold hin hu

theorem ledFold_folds {x : LSlot} (hmatch : u.led.match_ e = some x) : s.ledFold = u.foldInto x e := by
  have hin' : u.ports.inReset = false := by rw [hu, touch_inReset, setLed_ports, hin]
  simp [State.ledFold, hold, ← hu, hin', hmatch]

/-- An event that repeats no open entry goes to the mirror, joins the queue, or is lost. -/
theorem ledFold_queues (hmatch : u.led.match_ e = none) :
    s.ledFold = if u.led.state = 2 then u.mirrorEvent e
      else if u.led.queue.length < 16 then (u.setLed { u.led with queue := u.led.queue ++ [e] }).noteLoss
      else u.loseEvent e := by
  have hin' : u.ports.inReset = false := by rw [hu, touch_inReset, setLed_ports, hin]
  simp [State.ledFold, hold, ← hu, hin', hmatch]

end Fold

section QueueTake

variable {s : State} {e : LEvt} {rest : List LEvt} (hin : s.ports.inReset = false) (hwriting : s.led.writing = none) (hdue : s.led.due = [])
  (hqueue : s.led.queue = e :: rest)
include hin hwriting hdue hqueue

theorem ledTake_opens (hmatch : s.led.match_ e = none) (hstate : s.led.state ≠ 2) (hroom : s.led.slots.length < 8) :
    s.ledTake = ((s.setLed { s.led with queue := rest }).openEntry e).noteLoss := by
  simp [State.ledTake, hin, hwriting, hdue, hqueue, hmatch, hstate, hroom]

theorem ledTake_folds {x : LSlot} (hmatch : s.led.match_ e = some x) :
    s.ledTake = ((s.setLed { s.led with queue := rest }).foldInto x e).noteLoss := by
  simp [State.ledTake, hin, hwriting, hdue, hqueue, hmatch]

/-- With no slot free the event goes on waiting. -/
theorem ledTake_evicts {x : LSlot} (hmatch : s.led.match_ e = none) (hstate : s.led.state ≠ 2) (hfull : 8 ≤ s.led.slots.length)
    (hold : oldestSlot s.led.slots = some x) :
    s.ledTake = (s.setLed (s.led.close x.ent.seq flEvicted)).inc F.LED_FOLD_EVICTIONS := by
  simp [State.ledTake, hin, hwriting, hdue, hqueue, hmatch, hstate, Nat.not_lt.2 hfull, hold]

end QueueTake

/-! ### Entries written, read back and closed (R286, R287, R288, R296) -/

theorem ledWrite_due (s u : State) (q : Nat) (rest : List Nat) (x : LSlot) (hin : s.ports.inReset = false) (hwriting : s.led.writing = none)
    (hstate : s.led.state ≠ 2) (hdue : s.led.due = q :: rest) (hslot : s.led.slots.find? (fun y => y.ent.seq = q) = some x)
    (hu : u = s.touch 1 (4096 + 32 * x.ent.pos)) :
    s.ledWrite = u.setLed { u.led.putSram x.ent.pos x.ent with due := rest, writing := some x.ent } := by
  simp [State.ledWrite, hin, hwriting, hstate, hdue, hslot, ← hu]

/-- The state in which the outcome of a read-back is taken: no write is under way, and no fault is left to force. -/
def State.writeOver (s : State) : State := (s.setLed { s.led with writing := none }).setCon { s.con with failRead := false }

/-- What a read-back that no injected fault forces does with the entry written. -/
def State.readBack (s : State) (w : LEntry) : Readback → State
  | .ok => s.ledMerge w
  | .single => (s.inc F.LED_FAULT_CORRECTED).ledMerge w
  | .double => (s.ledMerge { w with isOpen := true }).ledRetire w 1
  | .verify => (s.ledMerge { w with isOpen := true }).ledRetire w 2

theorem exec_ledgerReadback_unforced (s : State) (r : Readback) (w : LEntry) (hwriting : s.led.writing = some w)
    (hforce : s.con.failRead = false) : exec (.ledgerReadback r) s = .next (s.writeOver.readBack w r).settle := by
  rw [exec_ledgerReadback, execLedgerReadback, done]
  cases r <;> simp [State.ledReadback, hwriting, hforce, State.readBack, State.writeOver]

theorem ledIdle_open (s : State) (q : Nat) (x : LSlot) (hslot : s.led.slots.find? (fun y => y.ent.seq = q) = some x)
    (hopen : x.closing = false) :
    s.ledIdle q = (let u := s.reachNs (max x.ent.last x.shadow.last + s.foldNs)
      u.setLed (u.led.close q 0)) := by
  simp [State.ledIdle, hslot, hopen]

/-- Settles O41: each command's meaning by its `exec_` equation, its effect by the lemma about the operation it names. -/
theorem ledgerCommands : Obligations.LedgerCommands := by
  unfold Obligations.LedgerCommands
  refine ⟨?_, ?_, ?_, ?_, ?_, ?_, ?_, ?_, ?_, ?_⟩
  · intro s u e hold hin hu
    rw [exec_ledgerFold, execLedgerFold, done]
    cases hmatch : u.led.match_ e with
    | some x => rw [ledFold_folds hold hin hu hmatch]
    | none => rw [ledFold_queues hold hin hu hmatch]
  · intro s e rest hin hwriting hdue hqueue hmatch hstate hroom
    rw [exec_ledgerQueueTake, execLedgerQueueTake, ledTake_opens hin hwriting hdue hqueue hmatch hstate hroom, done]
  · intro s e rest x hin hwriting hdue hqueue hmatch
    rw [exec_ledgerQueueTake, execLedgerQueueTake, ledTake_folds hin hwriting hdue hqueue hmatch, done]
  · intro s e rest x hin hwriting hdue hqueue hmatch hstate hfull hold
    rw [exec_ledgerQueueTake, execLedgerQueueTake, ledTake_evicts hin hwriting hdue hqueue hmatch hstate hfull hold, done]
  · intro s u q rest x hin hwriting hstate hdue hslot hu
    rw [exec_ledgerEntryWrite, execLedgerEntryWrite, ledWrite_due s u q rest x hin hwriting hstate hdue hslot hu, done]
  · intro s u e hwriting hforce hu
    rw [exec_ledgerReadback_unforced s _ e hwriting hforce, hu]; rfl
  · intro s u e hwriting hforce hu
    rw [exec_ledgerReadback_unforced s _ e hwriting hforce, hu]; rfl
  · intro s u e hwriting hforce hu
    rw [exec_ledgerReadback_unforced s _ e hwriting hforce, hu]; rfl
  · intro s u e hwriting hforce hu
    rw [exec_ledgerReadback_unforced s _ e hwriting hforce, hu]; rfl
  · intro s q x hslot hopen
    rw [exec_ledgerFoldTimeout, execLedgerFoldTimeout, ledIdle_open s q x hslot hopen, done]

end Sys2Proof.Machine

/-! Bring-up: the supply, fuse load, the image, known-answer runs, wave gates and market open (R301, R370 to R380, R468): O29. -/

namespace Sys2Proof.Machine

/-! ### The supply and BOOT_SEL (R468) -/

theorem exec_powerOff_off (s : State) : exec .powerOff s = .next s.off := by
  rw [exec_powerOff, execPowerOff, done, settle_unpowered _ rfl]; rfl

/-! ### Fuse load (R371) -/

@[simp] theorem reach_phase (s : State) (t : Nat) : (s.reach t).phase = s.phase := by simp [State.phase]

/-- A word in its turn that does not end its section is kept, and the word after it is read next. -/
theorem fuseRx_inSection (s : State) (a x : Nat) (d : Word) (hphase : s.phase = phFuse) (hgot : s.bru.fuseGot = some x)
    (hturn : fuseAfter x = some a) (hnext : s.bru.fuseNext = some a) (hmid : a ≠ fuseEnd (fuseSect a)) :
    s.fuseRx d 0 = (s.unstall 6 0).setBru { s.bru with
      fuse := (a, d) :: s.bru.fuse.filter (fun x => x.1 ≠ a), fuseGot := some a, fuseNext := fuseAfter a } := by
  have hphase' : (s.unstall 6 0).phase = phFuse := by rw [State.phase, fld_unstall _ _ _ _ (by decide)]; exact hphase
  simp [State.fuseRx, hnext, hgot, hturn, hphase', hmid]

/-! ### The image (R374) -/

theorem authReject_ports (s : State) (subj detail : Nat) : (s.authReject subj detail).ports = s.ports := by
  unfold State.authReject; dsimp only; split <;> simp

/-- A rejected object is counted in the security region and told; BRU_STATUS stands. -/
theorem authReject_fld_status (s : State) (subj detail : Nat) (g : Fld) (h : g.addr = 0x0A0000) : (s.authReject subj detail).fld g = s.fld g := by
  have hlost : g.addr ≠ 0x70014 ∧ g.addr ≠ 0x44 := by omega
  unfold State.authReject
  dsimp only
  rw [fld_secFail _ _ _ _ hlost]
  split <;> exact fld_inc _ _ _ (.inl (by rw [h]; decide))

theorem authReject_fromBcast (s : State) (subj detail : Nat) : (s.authReject subj detail).fromBcast = s.fromBcast := by
  rw [State.fromBcast, State.on, authReject_ports, authReject_fld_status _ _ _ _ rfl]; rfl

/-- An image read at the Boot Read Port is loaded and KAT begins, or the attempt fails under the cause found. -/
theorem imageChecked_fetched (s v : State) (b : Bytes) (hphase : s.phase = phImage) (hport : s.fromBcast = false)
    (hfetched : s.img.fetched = some b) (hv : v = s.setImg { s.img with fetched := none, fetchErr := false }) :
    s.imageChecked = if s.imageCause b s.img.fetchErr = 0 then (v.loadImage b).setPhase phKat
      else (if s.imageCause b s.img.fetchErr = 2 then v.authReject 0 0 else v).failAttempt (s.imageCause b s.img.fetchErr) := by
  have hchecked : s.imageChecked = s.bringupChecked b s.img.fetchErr := by
    simp [State.imageChecked, hphase, hport, hfetched]
  have hv' : v.fromBcast = false := by rw [hv]; exact hport
  rw [hchecked, State.bringupChecked, ← hv]
  dsimp only
  split
  · rfl
  · split <;> simp [authReject_fromBcast, hv']

theorem bcastWait_image (s : State) (hphase : s.phase = phImage) (hbcast : s.fromBcast = true) :
    s.bcastWait = (s.reachNs (s.bru.phaseAt + 1000000 * s.fld F.BRU_BOOT_CFG_BCAST_WAIT_MS)).halt 3 := by
  simp [State.bcastWait, hphase, hbcast]

/-! ### Known-answer runs (R375) -/

theorem reroute_none (s : State) (h : s.routed.filter (fun t => s.bru.hidden.contains t) = []) : s.reroute = (true, s) := by
  rw [State.reroute, h]; rfl

/-- With no failure and no hidden tile on a route every unit has passed and WAVES begins. -/
theorem katDone_passed (s : State) (hphase : s.phase = phKat) (hroutes : s.routed.filter (fun t => s.bru.hidden.contains t) = []) :
    s.katDone [] = (s.add F.BRU_KAT_PASSED s.katUnits.length).startWaves := by
  have hreroute : (s.add F.BRU_KAT_PASSED s.katUnits.length).reroute = (true, s.add F.BRU_KAT_PASSED s.katUnits.length) :=
    reroute_none _ hroutes
  have hnone (u : Nat) : (hiddenWith s.build u).any (fun _ => false) = false := List.any_eq_false.2 (by simp)
  simp [State.katDone, hphase, hnone, hreroute]

theorem katAsk_starts (s : State) (w : Word) (hrun : F.BRU_KAT_REQ_RUN.get w = 1) (hsvc : s.svc = svcTest)
    (hidle : s.on F.BRU_KAT_REQ_BUSY = false) (htile : (tileOf s.build (F.BRU_KAT_REQ_TILE.get w)).isSome = true) :
    s.katAsk w = (s.setBru { s.bru with katTile := some (F.BRU_KAT_REQ_TILE.get w) }).set F.BRU_KAT_REQ_BUSY 1 := by
  simp [State.katAsk, hrun, hsvc, hidle, Option.isSome_iff_ne_none.1 htile]

theorem katOne_passed (s : State) (x : Nat) (htile : s.bru.katTile = some x) (hsvc : s.svc ≠ svcRecovery) :
    s.katOne true = (((s.setBru { s.bru with katTile := none }).set F.BRU_KAT_REQ_BUSY 0).set F.BRU_KAT_REQ_PASS 1).inc F.BRU_KAT_PASSED := by
  have hsvc' : (((s.setBru { s.bru with katTile := none }).set F.BRU_KAT_REQ_BUSY 0).set F.BRU_KAT_REQ_PASS 1).svc ≠ svcRecovery := by
    rw [State.svc, fld_set _ _ _ _ (by decide), fld_set _ _ _ _ (by decide)]; exact hsvc
  simp [State.katOne, htile, b2n, hsvc']

/-! ### Wave gates (R376, R378) -/

theorem gate_congr {s t : State} (h : t.bru = s.bru) (g : Nat) : t.gate g = s.gate g := by rw [State.gate, h]; rfl

@[simp] theorem reach_gate (s : State) (t g : Nat) : (s.reach t).gate g = s.gate g := gate_congr (reach_bru s t) g

theorem putGate_wavesDown (s : State) (x : Gate) : (s.putGate x).bru.wavesDown = s.bru.wavesDown := rfl

theorem waveFall_idle (s : State) (h : s.bru.wavesDown = false) : s.waveFall = s := by simp [State.waveFall, h]

theorem gateAck_rises (s : State) (g : Nat) (hreq : (s.gate g).req = true) (hack : (s.gate g).acked = false) (hdown : s.bru.wavesDown = false) :
    s.gateAck g = (s.unstall 7 g).putGate { s.gate g with acked := true, ackNs := s.nowNs } := by
  have hgo : ¬ (!(s.gate g).req || (s.gate g).acked) = true := by simp [hreq, hack]
  exact (if_neg hgo).trans (waveFall_idle _ (by rw [putGate_wavesDown, unstall_bru, hdown]))

theorem gateSettle_settles (s : State) (g : Nat) (hack : (s.gate g).acked = true) (hreq : (s.gate g).req = true)
    (hset : (s.gate g).settled = false) :
    s.gateSettle g = ((s.reachNs ((s.gate g).ackNs + 1000 * s.fld (F.BRU_WAVE_SETTLE_US g))).putGate
      { s.gate g with settled := true, charged := false }).waveGo := by
  simp [State.gateSettle, hack, hreq, hset]

theorem gateFall_falls (s : State) (g : Nat) (hreq : (s.gate g).req = false) (hack : (s.gate g).acked = true) :
    s.gateFall g = ((s.putGate { s.gate g with acked := false }).waveFall).waveGo := by
  simp [State.gateFall, hreq, hack]

/-! ### Commands of BRU_CTRL (R376, R380) -/

/-- A privileged write of BRU_CTRL or BRU_KAT_REQ is no expert write. -/
theorem guardWrite_bringup (s : State) (a : Access) (addr : Nat) (f : State → State) (hs : s.servesPriv a = true)
    (haddr : addr = 0x0A0004 ∨ addr = 0x0A0048) : s.guardWrite a addr f = (f (s.reach a.t)).answer a .ok 0 := by
  obtain ⟨hplain, hlow, hmask⟩ : plainAddr addr = true ∧ addr < 0x200000 ∧ expertMask addr = 0 := by
    rcases haddr with rfl | rfl <;> decide
  rw [guardWrite_ok s a addr _ hs hplain hlow, markExpert_id _ _ hmask]

theorem marketAsk_ready (s : State) (hphase : s.phase = phReady) (hsvc : s.svc = svcBringup) :
    s.marketAsk = s.setBru { s.bru with marketWanted := true } := by
  simp [State.marketAsk, hphase, hsvc]

theorem retry_kat (s : State) (hphase : s.phase = phHalted) (hkat : s.bru.haltPhase = phKat) : s.retry = s.set F.BRU_STATUS_PHASE phKat := by
  simp [State.retry, hphase, hkat, phFuse, phImage, phKat, phWaves, phHostfw]

/-- A write of BRU_CTRL leaves the phase and the service state to its commands. -/
theorem plainWrite_ctrl_phase (s : State) (w : Word) : (s.plainWrite 0x0A0004 w).phase = s.phase := fld_plainWrite _ _ _ _ (by decide)

theorem plainWrite_ctrl_svc (s : State) (w : Word) : (s.plainWrite 0x0A0004 w).svc = s.svc := fld_plainWrite _ _ _ _ (by decide)

/-- Settles O29: each command's meaning by its `exec_` equation, its effect by the lemma about the operation it names. -/
theorem bringUpCommands : Obligations.BringUpCommands := by
  unfold Obligations.BringUpCommands
  refine ⟨?_, exec_powerOff_off, ?_, ?_, ?_, ?_, ?_, ?_, ?_, ?_, ?_, ?_, ?_, ?_, ?_, ?_, ?_⟩
  · intro s low sel hoff
    rw [exec_powerUp, execPowerUp, if_neg (by simp [hoff]), done]
  · intro s level hnew hhigh
    rw [exec_bootSelSample, execBootSelSample, if_neg (by simp [hnew, hhigh]), done]
  · intro s t a x d hphase hgot hturn hnext hmid
    rw [exec_fuseReadResponse, execFuseReadResponse, fuseRx_inSection (s.reach t) a x d (by simpa using hphase) (by simpa using hgot) hturn
      (by simpa using hnext) hmid, reach_bru, done]
  · intro s v b hphase hport hfetched hv
    rw [exec_imageChecked, execImageChecked, imageChecked_fetched s v b hphase hport hfetched hv, done]
  · intro s hphase hbcast
    rw [exec_bcastWaitExpiry, execBcastWaitExpiry, bcastWait_image s hphase hbcast, done]
  · intro s hphase hroutes
    rw [exec_katDone, execKatDone, katDone_passed s hphase hroutes, done]
  · intro s t g hreq hack hdown
    rw [exec_waveGateAck, execWaveGateAck, gateAck_rises (s.reach t) g (by simpa using hreq) (by simpa using hack) (by simpa using hdown),
      reach_gate, done]
  · intro s g hack hreq hset
    rw [exec_waveSettle, execWaveSettle, gateSettle_settles s g hack hreq hset, done]
  · intro s t g hreq hack
    rw [exec_waveGateAckFall, execWaveGateAckFall, gateFall_falls (s.reach t) g (by simpa using hreq) (by simpa using hack), reach_gate, done]
  · intro s hready
    rw [exec_marketOpenOccurs, execMarketOpenOccurs, State.marketOpens, if_pos hready, done]
  · intro s a w hs hopen hoff hon hretry hphase hsvc
    rw [exec_marketOpen, execMarketOpen, guardWrite_bringup s a _ _ hs (.inl rfl), done]
    simp [State.bruWrite, hopen, hoff, hon, hretry, marketAsk_ready, plainWrite_ctrl_phase, plainWrite_ctrl_svc, hphase, hsvc]
  · intro s a w hs hopen hoff hon hretry
    rw [exec_wavesOff, execWavesOff, guardWrite_bringup s a _ _ hs (.inl rfl), done]
    simp [State.bruWrite, hopen, hoff, hon, hretry, State.wavesOff]
  · intro s a w hs hopen hoff hon hretry
    rw [exec_wavesOn, execWavesOn, guardWrite_bringup s a _ _ hs (.inl rfl), done]
    simp [State.bruWrite, hopen, hoff, hon, hretry, State.wavesOn]
  · intro s a w hs hopen hoff hon hretry hphase hkat
    rw [exec_retry, execRetry, guardWrite_bringup s a _ _ hs (.inl rfl), done]
    simp [State.bruWrite, hopen, hoff, hon, hretry, retry_kat, plainWrite_ctrl_phase, hphase, hkat]
  · intro s a w hs hrun hsvc hidle htile
    rw [exec_katRequest, execKatRequest, guardWrite_bringup s a _ _ hs (.inr rfl), katAsk_starts (s.reach a.t) w hrun (by simpa using hsvc)
      (by simpa using hidle) (by simpa using htile), reach_bru, done]
  · intro s x htile hsvc
    rw [exec_katRequestDone, execKatRequestDone, katOne_passed s x htile hsvc, done]

end Sys2Proof.Machine

/-! Digests (R310) and the services to the host accelerator (R310 to R328): O21 and O42. -/

namespace Sys2Proof.Machine

/-! ### Digests do not depend on the order of taps (R310) -/

/-- A collective is open. -/
def State.collOpen (s : State) (n : Nat) : Bool := s.srv.colls.any (fun c => c.coll = n)

/-- A collective after a DIG_TAP report: the one that the report names takes the word into its digest (R310). -/
def Coll.tapped (r : Report) (c : Coll) : Coll :=
  if c.coll = rf r 0x26 0 then
    { c with digest := c.digest ^^^ gf64Mul (BitVec.ofNat 64 (rf r 0x26 2)) (gf64Pow c.key (rf r 0x26 1 + 1)), taps := c.taps + 1 }
  else c

theorem Coll.tapped_named {r : Report} {c : Coll} (h : c.coll = rf r 0x26 0) :
    c.tapped r = { c with
      digest := c.digest ^^^ gf64Mul (BitVec.ofNat 64 (rf r 0x26 2)) (gf64Pow c.key (rf r 0x26 1 + 1)), taps := c.taps + 1 } := if_pos h

theorem Coll.tapped_other {r : Report} {c : Coll} (h : c.coll ≠ rf r 0x26 0) : c.tapped r = c := if_neg h

@[simp] theorem Coll.tapped_coll (r : Report) (c : Coll) : (c.tapped r).coll = c.coll := by
  unfold Coll.tapped; split <;> rfl

/-- The key does not change and XOR commutes, so two words enter a digest in either order. -/
theorem Coll.tapped_comm (x y : Report) (c : Coll) : (c.tapped x).tapped y = (c.tapped y).tapped x := by
  have hx' := tapped_coll y c
  have hy' := tapped_coll x c
  by_cases hx : c.coll = rf x 0x26 0
  · by_cases hy : c.coll = rf y 0x26 0
    · rw [tapped_named (hy'.trans hy), tapped_named (hx'.trans hx), tapped_named hx, tapped_named hy]
      simp only [BitVec.xor_assoc, BitVec.xor_comm (gf64Mul (BitVec.ofNat 64 (rf x 0x26 2)) _)]
    · rw [tapped_other (r := y) (hy'.trans_ne hy), tapped_other (r := y) hy]
  · rw [tapped_other (r := x) (hx'.trans_ne hx), tapped_other (r := x) hx]

/-! Replacing the services does not disturb a count, nor a count the services. -/

theorem setSrv_setSrv (s : State) (x y : SvcSt) : (s.setSrv x).setSrv y = s.setSrv y := rfl

theorem setSrv_inc (s : State) (x : SvcSt) (f : Fld) : (s.setSrv x).inc f = (s.inc f).setSrv x := rfl

theorem digTap_open (s : State) (r : Report) (h : s.collOpen (rf r 0x26 0) = true) :
    s.digTap r = s.setSrv { s.srv with colls := s.srv.colls.map (Coll.tapped r) } := if_pos h

theorem digTap_unknown (s : State) (r : Report) (h : s.collOpen (rf r 0x26 0) = false) : s.digTap r = s.inc F.SVC_DROP_DIGEST :=
  if_neg (Bool.eq_false_iff.1 h)

/-- A tap opens and closes no collective. -/
@[simp] theorem digTap_collOpen (s : State) (r : Report) (n : Nat) : (s.digTap r).collOpen n = s.collOpen n := by
  cases h : s.collOpen (rf r 0x26 0)
  · rw [digTap_unknown s r h]; rfl
  · rw [digTap_open s r h]
    simp [State.collOpen, Function.comp_def]

theorem digTap_comm (s : State) (x y : Report) : (s.digTap x).digTap y = (s.digTap y).digTap x := by
  have hy' := digTap_collOpen s x (rf y 0x26 0)
  have hx' := digTap_collOpen s y (rf x 0x26 0)
  cases hx : s.collOpen (rf x 0x26 0) <;> cases hy : s.collOpen (rf y 0x26 0) <;> rw [hx] at hx' <;> rw [hy] at hy'
  · rw [digTap_unknown _ y hy', digTap_unknown _ x hx', digTap_unknown s x hx, digTap_unknown s y hy]
  · rw [digTap_open _ y hy', digTap_unknown _ x hx', digTap_unknown s x hx, digTap_open s y hy, setSrv_inc, inc_srv]
  · rw [digTap_unknown _ y hy', digTap_open _ x hx', digTap_open s x hx, digTap_unknown s y hy, setSrv_inc, inc_srv]
  · rw [digTap_open _ y hy', digTap_open _ x hx', digTap_open s x hx, digTap_open s y hy]
    simp only [setSrv_srv, setSrv_setSrv, List.map_map, Function.comp_def, Coll.tapped_comm x y]

theorem digTap_find (s : State) (r : Report) (c : Coll) (h : s.srv.colls.find? (fun k => k.coll = rf r 0x26 0) = some c) :
    (s.digTap r).srv.colls.find? (fun k => k.coll = rf r 0x26 0) = some (c.tapped r) := by
  have hopen : s.collOpen (rf r 0x26 0) = true :=
    List.any_eq_true.2 ⟨c, List.mem_of_find?_eq_some h, List.find?_some (p := fun k : Coll => decide (k.coll = rf r 0x26 0)) h⟩
  rw [digTap_open s r hopen]
  simp only [setSrv_srv, List.find?_map, Function.comp_def, Coll.tapped_coll, h, Option.map_some]

/-- Settles O21: two taps commute collective by collective, and a tap reaches the collective that its report names. -/
theorem digestOrderFree : Obligations.DigestOrderFree := by
  unfold Obligations.DigestOrderFree
  refine ⟨digTap_comm, fun s x c hc => ?_⟩
  have hcoll : c.coll = rf x 0x26 0 := by simpa using List.find?_some hc
  rw [digTap_find s x c hc, Coll.tapped_named hcoll]

/-! ### Reports that a service takes (R307, R309) -/

/-- A report of a service that runs feeds its metrics and has the service's effect. -/
theorem serveReport_runs {s u v : State} {typ : Nat} {r : Report} {runs : State → Bool} (f : State → State) (hu : u = s.takeReport typ r)
    (hruns : runs u = true) (hv : v = u.feedReport typ r) : s.serveReport typ r runs f = f v := by
  subst hu hv; exact if_pos hruns

theorem withTiles_one (s : State) {t : Nat} (f : State → State) (h : t < s.hostTiles) : s.withTiles [t] f = f s :=
  if_neg (by simpa using h)

theorem withTiles_two (s : State) {t u : Nat} (f : State → State) (ht : t < s.hostTiles) (hu : u < s.hostTiles) : s.withTiles [t, u] f = f s :=
  if_neg (by simpa using ⟨ht, hu⟩)

/-! ### Digests (R310 to R313) -/

theorem digOpen_opens (s : State) (r : Report) (hkey : (s.digestKey (rf r 0x25 3)).isSome = true) (hroom : s.srv.colls.length < collLimit s.build)
    (hnew : s.srv.colls.any (fun x => x.coll = rf r 0x25 0) = false) (hlow : rf r 0x25 3 ≤ s.epochOf r.t) (hhigh : s.epochOf r.t ≤ rf r 0x25 3 + 3)
    (hdomain : s.hub = true ∨ rf r 0x25 2 / 2 ^ 17 = s.ident / 2 ^ 17) :
    s.digOpen r = s.setSrv { s.srv with
      colls := s.srv.colls ++ [⟨rf r 0x25 0, rf r 0x25 1, rf r 0x25 2, rf r 0x25 3, BitVec.ofNat 64 ((s.digestKey (rf r 0x25 3)).getD 0), 0, 0, false, 0⟩] } := by
  obtain ⟨k, hk⟩ := Option.isSome_iff_exists.1 hkey
  have hown : (!s.hub && decide (rf r 0x25 2 / 2 ^ 17 ≠ s.ident / 2 ^ 17)) = false := by
    rcases hdomain with h | h <;> simp only [h, ne_eq, not_true_eq_false, decide_false, Bool.and_false, Bool.not_true, Bool.false_and]
  simp only [State.digOpen, hk, hnew, hown, Nat.not_le.2 hroom, Nat.not_lt.2 hlow, Nat.not_lt.2 hhigh, decide_false, Bool.or_self,
    Bool.false_eq_true, if_false, Option.getD_some]

theorem digClose_open (s : State) (r : Report) (k : Coll) (h : s.srv.colls.find? (fun c => c.coll = rf r 0x27 0) = some k) :
    s.digClose r = s.closeColl k (s.epochOf r.t) (r.t / 8) (rf r 0x27 1) false := by
  simp only [State.digClose, h]

theorem collTimeout_due (s : State) (n : Nat) (k : Coll) (h : s.srv.colls.find? (fun c => c.coll = n) = some k)
    (hage : max 1 (s.fld F.SVC_DIG_CFG_COLL_TIMEOUT) ≤ k.age) : s.collTimeout n = s.closeColl k s.tim.epoch s.nowNs 0 true := by
  simp only [State.collTimeout, h, if_pos hage]

theorem digestRx_relayed (s : State) (x : Rx) (hload : s.loaded = true) (hmerge : s.merging = false) : s.digestRx x = s.sendUp 3 x.bytes := by
  simp [State.digestRx, hload, hmerge]

theorem digestRx_taken (s : State) (x : Rx) (hload : s.loaded = true) (hmerge : s.merging = true) (hlevel : 2 ≤ (s.hashRec x.bytes).level) :
    s.digestRx x = (s.hashRec x.bytes).digestTake x.bytes := by
  simp only [State.digestRx, hload, hmerge, Bool.not_true, Bool.false_eq_true, if_false, if_neg (Nat.not_lt.2 hlevel)]

theorem pairExpiry_root (s : State) (hroot : s.isRoot = true) :
    s.pairExpiry = ((s.srv.held.filter (fun h => h.2 + s.fld F.SVC_DIG_CFG_PAIR_WINDOW ≤ s.tim.epoch)).map (fun h => h.1)).foldl
      (fun (s : State) b => s.unpaired b)
      (s.setSrv { s.srv with held := s.srv.held.filter (fun h => !(h.2 + s.fld F.SVC_DIG_CFG_PAIR_WINDOW ≤ s.tim.epoch)) }) := by
  simp only [State.pairExpiry, hroot, Bool.not_true, Bool.false_eq_true, if_false, List.partition_eq_filter_filter]
  rfl

/-! ### Duplicate sampling (R314 to R316) -/

theorem planWrite_due (s : State) (hon : s.svcOn F.SVC_CTRL_DUP_EN = true) (hnone : s.srv.plans.any (fun p => p.epoch = s.tim.epoch + 1) = false) :
    s.planWrite = (let e := s.tim.epoch + 1
      let p : DupPlan := ⟨e, s.logRate, s.hostTiles, s.sampleKey, s.srv.snap.1, s.srv.snap.2, false, []⟩
      let at_ := s.pair F.SVC_PLAN_LO F.SVC_PLAN_HI / 64 * 64 + (e % 2) * 0x8040
      let masks := padTo 64 ((List.range p.tiles).flatMap (fun t => toLE 8 (p.mask t)))
      let u := s.setSrv { s.srv with plans := s.srv.plans ++ [p] }
      u.setPorts { u.ports with hwrites := u.ports.hwrites ++ (hwriteLines (at_ + 64) .plan masks ++
        [⟨at_, layout 64 [(0, 6, e), (8, 2, p.tiles), (10, 1, p.logRate)], .plan, true⟩]) }) := by
  rw [State.planWrite]
  exact if_neg (by simp [hon, hnone])

section DupResult

variable {s : State} {r : Report} {p : DupPlan} (htile : rf r 0x28 0 < s.hostTiles) (hshadow : rf r 0x28 2 < s.hostTiles)
  (hplan : s.srv.plans.find? (fun p => p.epoch % 256 = rf r 0x28 3 && p.epoch ≤ s.tim.epoch && s.tim.epoch < p.epoch + s.resultWindow) = some p)
  (hsel : p.selects (rf r 0x28 0) (rf r 0x28 1) = true) (hnew : p.reported.contains (rf r 0x28 0, rf r 0x28 1) = false)

/-- The result of a slot is noted in the plan of an epoch. -/
def State.noteResult (s : State) (epoch : Nat) (slot : Nat × Nat) : State :=
  s.setSrv { s.srv with plans := s.srv.plans.map (fun (q : DupPlan) => if q.epoch = epoch then { q with reported := slot :: q.reported } else q) }

include htile hshadow hplan hsel hnew

theorem dupResult_equal (heq : rf r 0x28 4 = rf r 0x28 5) :
    s.dupResult r = (s.noteResult p.epoch (rf r 0x28 0, rf r 0x28 1)).wrapInc F.SVC_DUP_MATCH := by
  rw [State.dupResult, withTiles_two _ _ htile hshadow]
  simp only [hplan, hsel, hnew, heq, Bool.not_true, Bool.false_eq_true, if_false, if_true]
  rfl

/-- Results that differ, of a tile that is its own shadow: the one tile is charged, once. -/
theorem dupResult_differs (hne : rf r 0x28 4 ≠ rf r 0x28 5) (hself : rf r 0x28 2 = rf r 0x28 0) :
    s.dupResult r = (let t := rf r 0x28 0
      let x := s.noteResult p.epoch (t, rf r 0x28 1)
      let y := ((x.touchTile t).inc F.SVC_DUP_STAT_MISMATCH).inc (F.HTILE_DUP_DUP_MISMATCH t)
      (y.finding (r.t / 8) (x.epochOf r.t) 3 t t (rf r 0x28 1) (rf r 0x28 4) (rf r 0x28 5)).charge t (r.t / 8) (x.epochOf r.t)) := by
  rw [State.dupResult, withTiles_two _ _ htile hshadow]
  simp only [hplan, hsel, hnew, hne, hself, Bool.not_true, Bool.false_eq_true, if_false, if_true]
  rfl

end DupResult

theorem windowClose_due (s : State) (p : DupPlan) (h : s.srv.plans.find? (fun p => p.epoch + s.resultWindow ≤ s.tim.epoch) = some p) :
    s.windowClose = (List.range p.tiles).foldl (fun (s : State) t =>
      let n := ((List.range 64).filter (fun i => p.selects t i && !p.reported.contains (t, i))).length
      if n = 0 then s else ((s.touchTile t).add F.SVC_DUP_STAT_MISSED n).add (F.HTILE_DUP_MISSED t) n)
      (s.setSrv { s.srv with plans := s.srv.plans.filter (fun q => q.epoch ≠ p.epoch) }) := by
  simp only [State.windowClose, h]

/-! ### Checks and field tests (R317 to R319) -/

@[simp] theorem touchTile_act (s : State) (t : Nat) (f : Fld) : (s.touchTile t).act f = s.act f := by
  simp [State.touchTile, State.act]

theorem poison_charges (s : State) (r : Report) (k : Nat) (htile : rf r 0x29 0 < s.hostTiles)
    (hk : k = if rf r 0x29 1 = 0xFFF then rf r 0x29 0 else rf r 0x29 1) (hlt : k < s.hostTiles) :
    s.poison r = (let x := ((s.touchTile k).inc F.SVC_CHK_STAT_POISON).inc (F.HTILE_POISON k)
      (x.finding (r.t / 8) (x.epochOf r.t) 4 k (rf r 0x29 0) (rf r 0x29 2) (64 * rf r 0x29 3) 0).charge k (r.t / 8) (x.epochOf r.t)) := by
  simp only [State.poison, ← hk]
  exact withTiles_two _ _ htile hlt

theorem checkRx_equal (s : State) (r : Report) (htile : rf r 0x2A 0 < s.hostTiles) (hchk : rf r 0x2A 1 < s.hostTiles)
    (heq : rf r 0x2A 4 = rf r 0x2A 5) : s.checkRx r = s.inc F.SVC_CHK_STAT_EQUAL := by
  rw [State.checkRx, withTiles_two _ _ htile hchk, if_pos heq]

theorem checkRx_differs (s : State) (r : Report) (htile : rf r 0x2A 0 < s.hostTiles) (hchk : rf r 0x2A 1 < s.hostTiles)
    (hne : rf r 0x2A 4 ≠ rf r 0x2A 5) :
    s.checkRx r = (let k := rf r 0x2A 1
      let x := ((s.touchTile k).inc F.SVC_CHK_STAT_CHECK_FAIL).inc (F.HTILE_POISON_CHECK_FAIL k)
      (x.finding (r.t / 8) (x.epochOf r.t) 5 k (rf r 0x2A 0) (rf r 0x2A 2 + 2 ^ 24 * rf r 0x2A 3) (rf r 0x2A 4) (rf r 0x2A 5)).charge k (r.t / 8)
        (x.epochOf r.t)) := by
  rw [State.checkRx, withTiles_two _ _ htile hchk, if_neg hne]

theorem numeric_none (s : State) (r : Report) (htile : rf r 0x2B 0 < s.hostTiles) (hzero : rf r 0x2B 1 = 0) : s.numeric r = s := by
  rw [State.numeric, withTiles_one _ _ htile, if_pos hzero]

theorem numeric_counted (s : State) (r : Report) (htile : rf r 0x2B 0 < s.hostTiles) (hnan : rf r 0x2B 1 ≠ 0)
    (hfree : s.act F.SVC_CTRL_CHARGE_NAN = 0) :
    s.numeric r = ((s.touchTile (rf r 0x2B 0)).inc F.SVC_CHK_STAT_NAN_REPORTS).inc (F.HTILE_NAN_NAN_REPORTS (rf r 0x2B 0)) := by
  rw [State.numeric, withTiles_one _ _ htile, if_neg hnan]
  exact if_pos ((touchTile_act s _ _).trans hfree)

section FtResult

variable {s : State} {r : Report} {k : Nat} (hk : k = rf r 0x2C 0) (hlt : k < s.hostTiles) (htested : s.tileState k = 1 ∨ s.tileState k = 2)
include hk hlt htested

theorem ftResult_passed (hpass : rf r 0x2C 1 = 1) :
    s.ftResult r = (((s.touchTile k).set (F.HTILE_STATE k) 0).set (F.HTILE_STATE_SCORE k) 0).inc (F.HTILE_NAN_FT_PASS k) := by
  subst hk
  rw [State.ftResult, withTiles_one _ _ hlt, if_neg (by simpa using htested.resolve_left), if_pos hpass]

theorem ftResult_failed (hfail : rf r 0x2C 1 = 0) :
    s.ftResult r = (let x := ((s.touchTile k).set (F.HTILE_STATE k) 3).inc (F.HTILE_NAN_FT_FAIL k)
      x.finding (r.t / 8) (x.epochOf r.t) 8 k 0 (rf r 0x2C 2) (rf r 0x2C 3) 0) := by
  subst hk
  rw [State.ftResult, withTiles_one _ _ hlt, if_neg (by simpa using htested.resolve_left), if_neg (by simp [hfail])]
  rfl

end FtResult

theorem ftTimeout_due (s : State) (k e : Nat) (hen : s.act F.SVC_CTRL_FT_EN = 1) (htested : s.tileState k = 1 ∨ s.tileState k = 2)
    (hasked : s.srv.ftAsked.find? (fun x => x.1 = k) = some (k, e)) (hdue : e + max 1 (s.fld F.SVC_FT_TIMEOUT) ≤ s.tim.epoch) :
    s.ftTimeout k = s.ftRequest k := by
  simp [State.ftTimeout, hasked, hen, htested, hdue]

/-- A privileged write of SVC_FT_REQ, SVC_FT_PEND, SVC_STEP or SVC_DUMP_CTRL is no expert write. -/
theorem guardWrite_service (s : State) (a : Access) (addr : Nat) (f : State → State) (hs : s.servesPriv a = true)
    (haddr : addr ∈ [0x080034, 0x08004C, 0x080054, 0x080058]) : s.guardWrite a addr f = (f (s.reach a.t)).answer a .ok 0 := by
  obtain ⟨hplain, hlow, hmask⟩ : plainAddr addr = true ∧ addr < 0x200000 ∧ expertMask addr = 0 := by
    revert addr; decide
  rw [guardWrite_ok s a addr _ hs hplain hlow, markExpert_id _ _ hmask]

@[simp] theorem reach_svcRuns (s : State) (t : Nat) : (s.reach t).svcRuns = s.svcRuns := by simp [State.svcRuns]

@[simp] theorem reach_testsRun (s : State) (t : Nat) : (s.reach t).testsRun = s.testsRun := by simp [State.testsRun]

@[simp] theorem reach_hostTiles (s : State) (t : Nat) : (s.reach t).hostTiles = s.hostTiles := reach_fld ..

@[simp] theorem reach_tileState (s : State) (t k : Nat) : (s.reach t).tileState k = s.tileState k := reach_fld ..

theorem ftReqTest_normal (s : State) (w : Word) (hen : s.act F.SVC_CTRL_FT_EN = 1) (hruns : s.testsRun = true)
    (hlt : F.SVC_FT_REQ_TILE.get w < s.hostTiles) (hnormal : s.tileState (F.SVC_FT_REQ_TILE.get w) = 0) :
    s.ftReqTest w = ((s.touchTile (F.SVC_FT_REQ_TILE.get w)).set (F.HTILE_STATE (F.SVC_FT_REQ_TILE.get w)) 2).ftRequest (F.SVC_FT_REQ_TILE.get w) := by
  simp [State.ftReqTest, hen, hruns, hlt, hnormal]

theorem ftReqClear_failed (s : State) (w : Word) (hlt : F.SVC_FT_REQ_TILE.get w < s.hostTiles)
    (hfailed : s.tileState (F.SVC_FT_REQ_TILE.get w) = 3) :
    s.ftReqClear w = (s.touchTile (F.SVC_FT_REQ_TILE.get w)).set (F.HTILE_STATE (F.SVC_FT_REQ_TILE.get w)) 0 := by
  simp [State.ftReqClear, hlt, hfailed]

/-! ### Stepping and latches (R321 to R325) -/

/-- A write of SVC_STEP at its arrival: MODE counts in TEST alone, GRANT always (R321, R323). -/
theorem stepWrite_reach (s : State) (t : Nat) (w : Word) :
    (s.reach t).stepWrite w = ((if s.svc = svcTest then
        ((s.reach t).set F.SVC_STEP_MODE (F.SVC_STEP_MODE.get w)).setSrv
          { s.srv with broke := s.srv.broke && s.fld F.SVC_STEP_MODE = F.SVC_STEP_MODE.get w }
      else s.reach t).add F.SVC_STEP_CREDIT (F.SVC_STEP_GRANT.get w)).gateServe := by
  simp only [State.stepWrite, reach_svc, reach_srv, reach_fld]

theorem cmdMark_latches {s u v : State} {r : Report} (hu : u = (s.takeReport 0x20 r).breakMark r) (hon : u.svcOn F.SVC_CTRL_LATCH_EN = true)
    (hv : v = u.feedReport 0x20 r) (hidle : v.srv.running = none) :
    s.cmdMark r = v.latchStart ⟨r.t, v.epochOf r.t, rf r 0x20 0, rf r 0x20 1 = 1, rf r 0x20 2, v.bracketing⟩ := by
  rw [State.cmdMark, ← hu, if_pos hon, ← hv, State.latchMark]
  exact if_pos (by simp [hidle])

theorem latchDone_last (s : State) (m : Mark) (hrun : s.srv.running = some m) (hleft : s.tal.latchLeft = []) (hask : s.tal.asked = none)
    (hmarks : (s.latchRecord m).srv.marks = []) :
    s.latchDone = (let u := s.latchRecord m
      (u.setTal { u.tal with latched := [] }).setSrv { u.srv with running := none }) := by
  simp [State.latchDone, hrun, hleft, hask, hmarks]

/-! ### PC samples, operation counts and dumps (R326 to R330) -/

theorem pcSample_taken (s : State) (r : Report) (h : s.srv.pcs < s.fld F.SVC_PCS_MAX_PER_EPOCH) :
    s.pcSample r = (let z := s.setSrv { s.srv with pcs := s.srv.pcs + 1 }
      let x := z.originateBare 0x33 4 1 0 (r.t / 8) [(16, toLE 8 (rf r 0x21 1)), (24, toLE 2 (rf r 0x21 0)), (26, toLE 1 (rf r 0x21 2))]
      x.2.toRoute F.TRC_ROUTE_SERVICE x.1) := if_neg (Nat.not_le.2 h)

theorem opcount_new (s : State) (r : Report) (k : Nat) (hk : k = 16 * rf r 0x22 0 + rf r 0x22 1) (hnone : s.srv.ops.find? (fun x => x.1 = k) = none) :
    s.opcount r = s.setSrv { s.srv with ops := (k, min (2 ^ 64 - 1) (rf r 0x22 2)) :: s.srv.ops.filter (fun x => x.1 ≠ k) } := by
  simp only [State.opcount, ← hk, hnone, Nat.zero_add]

theorem opcount_adds (s : State) (r : Report) (k n : Nat) (hk : k = 16 * rf r 0x22 0 + rf r 0x22 1)
    (hsome : s.srv.ops.find? (fun x => x.1 = k) = some (k, n)) :
    s.opcount r = s.setSrv { s.srv with ops := (k, min (2 ^ 64 - 1) (n + rf r 0x22 2)) :: s.srv.ops.filter (fun x => x.1 ≠ k) } := by
  simp only [State.opcount, ← hk, hsome]

theorem tensorTag_match (s : State) (r : Report) (harm : s.on F.SVC_DUMP_CTRL_ARM = true) (hid : rf r 0x23 0 = s.fld F.SVC_DUMP_ID_TENSOR_ID)
    (hstep : rf r 0x23 1 = s.fld F.SVC_DUMP_STEP) :
    s.tensorTag r = s.setSrv { s.srv with tag := some (rf r 0x23 0, rf r 0x23 1, 64 * rf r 0x23 2) } :=
  if_pos (by simp [harm, ← hid, ← hstep])

/-- TENSOR_LEN of the tagged tensor orders its bytes from the Boot Read Port. -/
theorem tensorLen_triggers (s : State) (r : Report) (step addr : Nat) (htag : s.srv.tag = some (rf r 0x24 0, step, addr))
    (harm : s.on F.SVC_DUMP_CTRL_ARM = true) (hfree : s.srv.dump = none) (hlen : rf r 0x24 1 ≠ 0) :
    s.tensorLen r = (let d : Dump := { tensor := rf r 0x24 0, step := step, addr := addr, total := 64 * rf r 0x24 1, hostCrc := rf r 0x24 2,
                                       crcValid := rf r 0x24 3 = 1, held := s.on F.SVC_DUMP_CTRL_HOLD, epoch := s.epochOf r.t, offset := 0, chunk := [],
                                       chunkNs := s.nowNs, crc := 0xFFFFFFFF#32 }
      let z := ((s.set F.SVC_DUMP_CTRL_ARM 0).set F.SVC_DUMP_CTRL_BUSY 1).setSrv { s.srv with tag := none, dump := some d }
      z.setPorts { z.ports with jobs := z.ports.jobs ++ [⟨.dump, addr, 64 * rf r 0x24 1, [], true⟩] }) := by
  simp [State.tensorLen, htag, harm, hfree, hlen]

theorem dumpWrite_test (s : State) (w : Word) (h : s.svc = svcTest) :
    s.dumpWrite w = (s.plainWrite 0x08004C w).setSrv { s.srv with tag := none } := by
  simp [State.dumpWrite, h]

/-- Outside TEST a write keeps HOLD. -/
theorem dumpWrite_elsewhere (s : State) (w : Word) (h : s.svc ≠ svcTest) :
    s.dumpWrite w = (s.plainWrite 0x08004C (F.SVC_DUMP_CTRL_HOLD.put w (s.fld F.SVC_DUMP_CTRL_HOLD))).setSrv { s.srv with tag := none } := by
  simp [State.dumpWrite, h]

/-- Settles O42: each command's meaning by its `exec_` equation, its effect by the lemma about the operation it names. -/
theorem serviceCommands : Obligations.ServiceCommands := by
  unfold Obligations.ServiceCommands
  refine ⟨?_, ?_, ?_, ?_, ?_, ?_, ?_, ?_, ?_, ?_, ?_, ?_, ?_, ?_, ?_, ?_, ?_, ?_, ?_, ?_, ?_, ?_, ?_, ?_, ?_, ?_, ?_, ?_, ?_, ?_, ?_, ?_, ?_⟩
  · intro s u v r hu hon hv hkey hroom hnew hlow hhigh hdomain
    rw [exec_digOpen, execDigOpen, serveReport_runs _ hu hon hv, digOpen_opens v r hkey hroom hnew hlow hhigh hdomain, done]
  · intro s u v r hu hon hv hopen
    rw [exec_digTap, execDigTap, serveReport_runs _ hu hon hv, digTap_open v r hopen, done]
    rfl
  · intro s u v r k hu hon hv hopen
    rw [exec_digClose, execDigClose, serveReport_runs _ hu hon hv, digClose_open v r k hopen, done]
  · intro s n k hopen hage
    rw [exec_collTimeout, execCollTimeout, collTimeout_due s n k hopen hage, done]
  · intro s u r hu htko hload hmerge hlevel
    rw [exec_digestRecord, execDigestRecord, ← hu, atNode_noTakeover _ _ _ _ htko, digestRx_taken u r hload hmerge hlevel, done]
  · intro s u r hu htko hload hmerge
    rw [exec_digestRecord, execDigestRecord, ← hu, atNode_noTakeover _ _ _ _ htko, digestRx_relayed u r hload hmerge, done]
  · intro s hroot
    rw [exec_digestPairExpiry, execDigestPairExpiry, pairExpiry_root s hroot, done]
  · intro s hon hnone
    rw [exec_dupPlanWrite, execDupPlanWrite, planWrite_due s hon hnone, done]
  · intro s u v r p hu hon hv htile hshadow hplan hsel hnew heq
    rw [exec_dupResult, execDupResult, serveReport_runs _ hu hon hv, dupResult_equal htile hshadow hplan hsel hnew heq, done]
    rfl
  · intro s u v r p hu hon hv htile hshadow hplan hsel hnew hne hself
    rw [exec_dupResult, execDupResult, serveReport_runs _ hu hon hv, dupResult_differs htile hshadow hplan hsel hnew hne hself, done]
    rfl
  · intro s p hold
    rw [exec_dupResultWindowClose, execDupResultWindowClose, windowClose_due s p hold, done]
  · intro s u v r k hu hon hv htile hk hlt
    rw [exec_poison, execPoison, serveReport_runs _ hu hon hv, poison_charges v r k htile hk hlt, done]
  · intro s u v r hu hon hv htile hchk heq
    rw [exec_check, execCheck, serveReport_runs _ hu hon hv, checkRx_equal v r htile hchk heq, done]
  · intro s u v r hu hon hv htile hchk hne
    rw [exec_check, execCheck, serveReport_runs _ hu hon hv, checkRx_differs v r htile hchk hne, done]
  · intro s u v r hu hon hv htile hnan hfree
    rw [exec_numeric, execNumeric, serveReport_runs _ hu hon hv, numeric_counted v r htile hnan hfree, done]
  · intro s u v r hu hon hv htile hzero
    rw [exec_numeric, execNumeric, serveReport_runs _ hu hon hv, numeric_none v r htile hzero, done]
  · intro s u v r k hu hon hv hk hlt htested hpass
    rw [exec_ftResult, execFtResult, serveReport_runs _ hu hon hv, ftResult_passed hk hlt htested hpass, done]
  · intro s u v r k hu hon hv hk hlt htested hfail
    rw [exec_ftResult, execFtResult, serveReport_runs _ hu hon hv, ftResult_failed hk hlt htested hfail, done]
  · intro s k e hen htested hasked hdue
    rw [exec_ftTimeout, execFtTimeout, ftTimeout_due s k e hen htested hasked hdue, done]
  · intro s a w k hs hk hen hruns hlt hnormal
    subst hk
    rw [exec_ftReqTest, execFtReqTest, guardWrite_service s a _ _ hs (by decide),
      ftReqTest_normal (s.reach a.t) w (by simpa using hen) (by simpa using hruns) (by simpa using hlt) (by simpa using hnormal), done]
  · intro s a w k hs hk hlt hfailed
    subst hk
    rw [exec_ftReqClear, execFtReqClear, guardWrite_service s a _ _ hs (by decide),
      ftReqClear_failed (s.reach a.t) w (by simpa using hlt) (by simpa using hfailed), done]
  · intro s a w hs
    rw [exec_ftAck, execFtAck, guardWrite_service s a _ _ hs (by decide), State.ftAck, plainWrite_srv, reach_srv, done]
  · intro s a w u hs hu
    rw [exec_stepGrant, execStepGrant, guardWrite_service s a _ _ hs (by decide), stepWrite_reach, ← hu, done]
  · intro s a w u hs hu
    rw [exec_stepModeWrite, execStepModeWrite, guardWrite_service s a _ _ hs (by decide), stepWrite_reach, ← hu, done]
  · intro s u v r m hu hon hv hidle hm
    rw [exec_cmdMark, execCmdMark, cmdMark_latches hu hon hv hidle, ← hm, State.latchStart, done]
  · intro s u m hrun hleft hask hu hmarks
    subst hu
    rw [exec_latchPassDone, execLatchPassDone, latchDone_last s m hrun hleft hask hmarks, done]
  · intro s u v r hu hon hv hroom
    rw [exec_pcSample, execPcSample, serveReport_runs _ hu hon hv, pcSample_taken v r hroom, done]
  · intro s u v r k hu hon hv hk hnone
    rw [exec_opcount, execOpcount, serveReport_runs _ hu hon hv, opcount_new v r k hk hnone, done]
  · intro s u v r k n hu hon hv hk hsome
    rw [exec_opcount, execOpcount, serveReport_runs _ hu hon hv, opcount_adds v r k n hk hsome, done]
  · intro s u v r hu hruns hv harm hid hstep
    rw [exec_tensorTag, execTensorTag, serveReport_runs _ hu hruns hv, tensorTag_match v r harm hid hstep, done]
  · intro s u v r step addr hu hruns hv htag harm hfree hlen
    rw [exec_tensorLen, execTensorLen, serveReport_runs _ hu hruns hv, tensorLen_triggers v r step addr htag harm hfree hlen, done]
  · intro s a w hs htest
    rw [exec_dumpArm, execDumpArm, guardWrite_service s a _ _ hs (by decide), dumpWrite_test (s.reach a.t) w (by simpa using htest), reach_srv, done]
  · intro s a w hs hother
    rw [exec_dumpArm, execDumpArm, guardWrite_service s a _ _ hs (by decide), dumpWrite_elsewhere (s.reach a.t) w (by simpa using hother), reach_srv,
      reach_fld, done]

end Sys2Proof.Machine

/-! A step of the machine with a command waiting (R479): O1. -/

namespace Sys2Proof.Machine

/-! ### The step with a command at the front -/

theorem step_front (s : State) (c : Instr) (rest : List Instr) (h : s.pending = c :: rest) : step s = exec c (s.tail rest) := by
  simp [step, h]

/-- Settles O1: the front command is taken from the queue and run on the rest of the state. -/
theorem stepRunsFront : Obligations.StepRunsFront := by
  unfold Obligations.StepRunsFront
  exact step_front

end Sys2Proof.Machine

/-! AES-GCM in counter mode and the counts of a session's frames (R430, R431): O24 and O25. -/

namespace Sys2Proof.Machine

/-! ### The lengths that AES keeps -/

theorem xorBytes_length (a b : Bytes) : (xorBytes a b).length = min a.length b.length := by simp [xorBytes]

/-- Under a mask of at least its length, XOR undoes itself. -/
theorem xorBytes_xorBytes : ∀ (a b : Bytes), a.length ≤ b.length → xorBytes (xorBytes a b) b = a
  | [], _, _ => rfl
  | x :: a, y :: b, h => by
    have ih := xorBytes_xorBytes a b (by simpa using h)
    simp only [xorBytes] at ih
    simp [xorBytes, ih]

theorem pieces_length (n k : Nat) (bs : Bytes) : (pieces n k bs).length = n := by
  induction n generalizing bs with
  | zero => rfl
  | succ n ih => simp [pieces, ih]

/-- Enough bytes are cut into whole pieces. -/
theorem length_of_mem_pieces {n k : Nat} {bs : Bytes} (h : n * k ≤ bs.length) : ∀ p ∈ pieces n k bs, p.length = k := by
  induction n generalizing bs with
  | zero => simp [pieces]
  | succ n ih =>
    have hk : k ≤ bs.length := le_trans (Nat.le_mul_of_pos_left k n.succ_pos) h
    have hrest : n * k ≤ (bs.drop k).length := by
      rw [List.length_drop]
      rw [Nat.succ_mul] at h
      omega
    simpa [pieces, hk] using ih hrest

theorem length_flatten_of_forall {k : Nat} {l : List Bytes} (h : ∀ p ∈ l, p.length = k) : l.flatten.length = l.length * k := by
  rw [List.length_flatten, List.sum_eq_card_nsmul _ k (by simpa using h), List.length_map, smul_eq_mul]

/-- One step of the key expansion adds a word of four bytes, whichever of its three forms it takes. -/
theorem aesExpandAux_words (n i : Nat) (rc : BitVec 8) (ws : List Bytes) (h8 : 8 ≤ ws.length) (h4 : ∀ w ∈ ws, w.length = 4) :
    (aesExpandAux n i rc ws).length = n + ws.length ∧ ∀ w ∈ aesExpandAux n i rc ws, w.length = 4 := by
  induction n generalizing i rc ws with
  | zero => exact ⟨(Nat.zero_add _).symm, h4⟩
  | succ n ih =>
    have hword (j : Nat) (hj : j < ws.length) : (ws.getD j []).length = 4 := by
      rw [List.getD_eq_getElem _ _ hj]
      exact h4 _ (List.getElem_mem hj)
    have hp := hword 0 (by omega)
    have hq := hword 7 (by omega)
    rw [aesExpandAux]
    refine (ih _ _ _ (by simp only [List.length_cons]; omega) (List.forall_mem_cons.2 ⟨?_, h4⟩)).imp_left fun hlen => by
      rw [hlen, List.length_cons]; omega
    simp only [xorBytes_length, hq]
    split
    · simp only [xorBytes_length, List.length_map, List.length_append, List.length_drop, List.length_take, List.length_cons, List.length_nil, hp]
      rfl
    · split
      · rw [List.length_map, hp, Nat.min_self]
      · rw [hp, Nat.min_self]

/-- A 32-byte key expands to fifteen round keys of sixteen bytes. -/
theorem aesKeys_lengths (key : Bytes) (hkey : key.length = 32) : (aesKeys key).length = 15 ∧ ∀ k ∈ aesKeys key, k.length = 16 := by
  obtain ⟨hcount, hwords⟩ := aesExpandAux_words 52 8 1#8 (pieces 8 4 key).reverse (by simp [pieces_length])
    (fun w hw => length_of_mem_pieces (by omega) w (List.mem_reverse.1 hw))
  refine ⟨pieces_length _ _ _, length_of_mem_pieces ?_⟩
  rw [length_flatten_of_forall (fun w hw => hwords w (List.mem_reverse.1 hw)), List.length_reverse, hcount, List.length_reverse, pieces_length]

theorem aesShift_length (b : Bytes) : (aesShift b).length = 16 := by simp [aesShift]

theorem mixColumns_length (b : Bytes) : ((pieces 4 4 b).flatMap aesMixCol).length = 16 := by
  have hcol (c : Bytes) : (aesMixCol c).length = 4 := rfl
  simp [List.length_flatMap, hcol, pieces_length]

theorem aesRounds_length (ks : List Bytes) (b : Bytes) (hks : ∀ k ∈ ks, k.length = 16) (hb : b.length = 16) : (aesRounds ks b).length = 16 := by
  induction ks generalizing b with
  | nil => exact hb
  | cons k ks ih =>
    rw [List.forall_mem_cons] at hks
    obtain ⟨hk, hrest⟩ := hks
    cases ks with
    | nil => simp [aesRounds, xorBytes_length, aesShift_length, hk]
    | cons k' ks => exact ih _ hrest (by rw [xorBytes_length, mixColumns_length, hk]; rfl)

theorem aesBlock_length (ks : List Bytes) (b : Bytes) (hks : ∀ k ∈ ks, k.length = 16) (hb : b.length = 16) : (aesBlock ks b).length = 16 := by
  cases ks with
  | nil => exact hb
  | cons k ks =>
    rw [List.forall_mem_cons] at hks
    exact aesRounds_length ks _ hks.2 (by rw [xorBytes_length, hb, hks.1]; rfl)

/-! ### Counter mode (R430, R431) -/

/-- One block of counter mode: its key stream of sixteen bytes over the first sixteen bytes, then the rest under the next count. -/
theorem gctrAux_succ (n : Nat) (ks : List Bytes) (iv : Bytes) (c : Nat) (bs : Bytes) :
    gctrAux (n + 1) ks iv c bs = xorBytes (bs.take 16) (aesBlock ks (iv ++ toBE 4 c)) ++ gctrAux n ks iv (c + 1) (bs.drop 16) := rfl

theorem gctrAux_nil (n : Nat) (ks : List Bytes) (iv : Bytes) (c : Nat) : gctrAux n ks iv c [] = [] := by
  induction n generalizing c with
  | zero => rfl
  | succ n ih => simp [gctrAux_succ, xorBytes, ih]

section CounterMode

variable {ks : List Bytes} {iv : Bytes} (hks : ∀ k ∈ ks, k.length = 16) (hiv : iv.length = 12)
include hks hiv

theorem keyStream_length (c : Nat) : (aesBlock ks (iv ++ toBE 4 c)).length = 16 :=
  aesBlock_length ks _ hks (by simp [hiv, toBE])

theorem gctrAux_length (n c : Nat) (bs : Bytes) (h : bs.length ≤ 16 * n) : (gctrAux n ks iv c bs).length = bs.length := by
  induction n generalizing c bs with
  | zero => simp_all [gctrAux]
  | succ n ih =>
    rw [gctrAux_succ, List.length_append, ih _ _ (by rw [List.length_drop]; omega), xorBytes_length, keyStream_length hks hiv]
    simp only [List.length_take, List.length_drop]
    omega

/-- The same key stream over the ciphertext gives the text back. A block that is not the last is whole, so the second pass cuts the ciphertext
where the first cut the text. -/
theorem gctrAux_gctrAux (n c : Nat) (bs : Bytes) (h : bs.length ≤ 16 * n) : gctrAux n ks iv c (gctrAux n ks iv c bs) = bs := by
  induction n generalizing c bs with
  | zero => simp_all [gctrAux]
  | succ n ih =>
    have hstream := keyStream_length hks hiv c
    have hfirst : (xorBytes (bs.take 16) (aesBlock ks (iv ++ toBE 4 c))).length = min 16 bs.length := by
      rw [xorBytes_length, hstream, List.length_take]; omega
    have hback := xorBytes_xorBytes (bs.take 16) (aesBlock ks (iv ++ toBE 4 c)) (by rw [hstream, List.length_take]; omega)
    rw [gctrAux_succ n ks iv c bs, gctrAux_succ]
    rcases le_total 16 bs.length with hwhole | hshort
    · rw [List.take_left' (by omega), List.drop_left' (by omega), hback, ih _ _ (by rw [List.length_drop]; omega), List.take_append_drop]
    · rw [List.drop_eq_nil_of_le hshort, gctrAux_nil, List.append_nil, List.take_of_length_le (by omega), List.drop_eq_nil_of_le (by omega),
        gctrAux_nil, List.append_nil, hback, List.take_of_length_le hshort]

end CounterMode

/-- Settles O24: the expanded key holds round keys of sixteen bytes, so the key stream covers each block. -/
theorem sealedFrames : Obligations.SealedFrames := by
  unfold Obligations.SealedFrames
  intro key iv txt hkey hiv
  have hks := (aesKeys_lengths key hkey).2
  have hblocks : txt.length ≤ 16 * ((txt.length + 15) / 16) := by omega
  have hlen : (gcmCrypt key iv txt).length = txt.length := gctrAux_length hks hiv _ 2 txt hblocks
  refine ⟨?_, hlen⟩
  rw [gcmCrypt, hlen]
  exact gctrAux_gctrAux hks hiv _ 2 txt hblocks

/-! ### Counts of frames (R430) -/

section PresentKey

variable {s : State} {p : Nat} {env body : Bytes} {x : Sess} (hone : s.lnk.sess.filter (fun x => x.port = p && x.formed) = [x])
  (hid : x.keyId = le env 8 4) (hkey : x.rxKey ≠ []) (hsalt : slice (slice env 12 12) 0 4 = slice x.rxKey 32 4)
  (htag : gcmTag (x.rxKey.take 32) (slice env 12 12) (env.take 24) body = slice env 24 16)
include hone hid hkey hsalt htag

/-- A count that has come before is a replay. -/
theorem decrypt_replay (hold : le env 16 8 % 2 ^ 61 < x.rxNext.getD (le env 16 8 / 2 ^ 61) 0) :
    s.decrypt p env body = some (none, s.inc F.SEC_LINK_STAT_REPLAY) := by
  simp only [State.decrypt, hone, List.find?_cons, hid, hkey, hsalt, htag, if_pos hold, ne_eq, not_false_eq_true, decide_true, Bool.and_self]

/-- A count above every one before it opens the frame, and becomes the last. -/
theorem decrypt_accepts (hnew : x.rxNext.getD (le env 16 8 / 2 ^ 61) 0 ≤ le env 16 8 % 2 ^ 61) :
    s.decrypt p env body = some (some (gcmCrypt (x.rxKey.take 32) (slice env 12 12) body), s.putSess { x with
      rxNext := modNth x.rxNext (le env 16 8 / 2 ^ 61) (fun _ => le env 16 8 % 2 ^ 61 + 1), overlap := x.overlap || x.oldRxKey ≠ [] }) := by
  simp only [State.decrypt, hone, List.find?_cons, hid, hkey, hsalt, htag, if_neg (Nat.not_lt.2 hnew), ne_eq, not_false_eq_true, decide_true,
    Bool.and_self]

end PresentKey

/-- Settles O25: the session is the only one formed on the port, and its present key opens the frame, so its own next count decides. -/
theorem replayRefused : Obligations.ReplayRefused := by
  unfold Obligations.ReplayRefused
  intro s p env body x hone hid hkey hsalt htag
  exact ⟨decrypt_replay hone hid hkey hsalt htag, decrypt_accepts hone hid hkey hsalt htag⟩

end Sys2Proof.Machine

/-! The Pyrmeide root: sessions, domain keys, seals, the version floor, debug levels and attestation (R419 to R433): O23 and O45. -/

namespace Sys2Proof.Machine

/-! ### Privileged writes that mark nothing -/

/-- A register outside the windows whose fields no Profile governs. -/
def unmarkedAddr (addr : Nat) : Bool := plainAddr addr && decide (addr < 0x200000) && expertMask addr == 0

/-- A privileged write of such a register has its own effect and is answered OK. -/
theorem guardWrite_unmarked {s : State} {a : Access} {addr : Nat} (f : State → State) (hs : s.servesPriv a = true)
    (haddr : unmarkedAddr addr = true) : s.guardWrite a addr f = (f (s.reach a.t)).answer a .ok 0 := by
  simp only [unmarkedAddr, Bool.and_eq_true, decide_eq_true_eq, beq_iff_eq] at haddr
  obtain ⟨⟨hplain, hlow⟩, hmask⟩ := haddr
  rw [guardWrite_ok s a addr _ hs hplain hlow, markExpert_id _ _ hmask]

/-! ### The version floor (R419) -/

theorem floorSet_above (s : State) (w : Word) (h : s.fld F.SEC_FLOOR_GEN < w.toNat % 65536) :
    s.floorSet w = (s.set F.SEC_FLOOR_GEN (w.toNat % 65536)).secChange 0 (w.toNat % 65536) 4 := if_neg (Nat.not_le.2 h)

theorem floorSet_ignored (s : State) (w : Word) (h : w.toNat % 65536 ≤ s.fld F.SEC_FLOOR_GEN) : s.floorSet w = s := if_pos h

theorem floorSet_floor (s : State) (w : Word) : (s.floorSet w).fld F.SEC_FLOOR_GEN = max (s.fld F.SEC_FLOOR_GEN) (w.toNat % 65536) := by
  rcases Nat.lt_or_ge (s.fld F.SEC_FLOOR_GEN) (w.toNat % 65536) with h | h
  · rw [floorSet_above s w h, fld_secChange _ _ _ _ _ (by decide), State.fld_set_same _ _ _ (by decide), max_eq_right h.le]
    exact Nat.mod_mod _ _
  · rw [floorSet_ignored s w h, max_eq_left h]

@[simp] theorem floorSet_ports (s : State) (w : Word) : (s.floorSet w).ports = s.ports := by
  unfold State.floorSet
  dsimp only
  split
  · rfl
  · simp

theorem exec_floorSet_allowed (s : State) (a : Access) (w : Word) (hs : s.servesPriv a = true) :
    exec (.floorSet a w) s = .next (State.settle (((s.reach a.t).floorSet w).answer a .ok 0)) := by
  rw [exec_floorSet, execFloorSet, guardWrite_unmarked _ hs (by decide), done]

theorem exec_floorSet_ignored (s : State) (a : Access) (w : Word) (hs : s.servesPriv a = true)
    (h : w.toNat % 65536 ≤ s.fld F.SEC_FLOOR_GEN) : exec (.floorSet a w) s = .next (State.settle ((s.reach a.t).answer a .ok 0)) := by
  rw [exec_floorSet_allowed s a w hs, floorSet_ignored _ w (by rwa [reach_fld])]

/-- Settles O23: the floor is read through the answer and the settling, neither of which writes its word. -/
theorem floorWrites : Obligations.FloorWrites := by
  unfold Obligations.FloorWrites
  intro s a w hs
  have hpow : (((s.reach a.t).floorSet w).answer a .ok 0).ports.powered = true := by
    simpa [State.answer] using ((servesPriv_iff s a).1 hs).1
  refine ⟨exec_floorSet_ignored s a w hs, _, exec_floorSet_allowed s a w hs, ?_⟩
  rw [settle_fld _ hpow _ (by decide) (by decide), answer_fld, floorSet_floor, reach_fld]

/-! ### Sessions (R429, R430) -/

theorem keyxRx_answers (s v : State) (x : Rx) (y : Sess) (hruns : s.keyxRuns x.port = true)
    (hv : v = (match s.sessAt x.port (le x.bytes 20 4 % 2 ^ 20) with
      | none => s.startKeyx x.port (le x.bytes 20 4 % 2 ^ 20) 1
      | some y => if !y.formed || y.nextId ≠ y.keyId then s else s.startKeyx x.port (le x.bytes 20 4 % 2 ^ 20) (if x.enc then y.keyId + 1 else 1)))
    (hy : v.sessAt x.port (le x.bytes 20 4 % 2 ^ 20) = some y) :
    s.keyxRx x = (let z : Sess := { y with peerNonce := slice x.bytes 24 16, peerEph := slice x.bytes 40 96 }
      (v.putSess z).sendAttest z) := by
  subst hv
  simp only [State.keyxRx, hruns, Bool.not_true, Bool.false_eq_true, if_false]
  split
  next h => exact absurd (h.symm.trans hy) (by simp)
  next z h =>
    cases Option.some.inj (h.symm.trans hy)
    rfl

theorem attestRx_session (s : State) (x : Rx) (y : Sess) (hruns : s.keyxRuns x.port = true) (hy : s.sessAt x.port (recSource x.bytes) = some y) :
    s.attestRx x = if !s.attestOk y x.bytes || !s.helloNames x.port x.bytes then s.peerFail x.port
      else
        let v := if bits (le x.bytes 480 1) 4 3 = 2 then s.inc F.SEC_KEY_STAT_OPEN_PEERS else s
        if y.formed && y.nextId = y.keyId then v else v.formSession y false := by
  simp only [State.attestRx, hruns, hy, Bool.not_true, Bool.false_eq_true, if_false]

theorem credentialRx_session (s : State) (x : Rx) (y : Sess) (hruns : s.keyxRuns x.port = true)
    (hy : s.sessAt x.port (recSource x.bytes) = some y) :
    s.credentialRx x = if !s.authentic 5 (slice x.bytes 32 224) then (s.authReject x.port 3).peerFail x.port
      else if y.peerEph = [] || slice x.bytes 16 16 ≠ bindNonce y.myNonce y.peerEph
          || !ecdsaVerify (slice x.bytes 32 96) (sha384 (slice x.bytes 0 256)) (slice x.bytes 256 96)
          || !s.mayOperate || !s.helloNames x.port x.bytes then s.peerFail x.port
      else if y.formed && y.nextId = y.keyId then s else s.formSession y true := by
  simp only [State.credentialRx, hruns, hy, Bool.not_true, Bool.false_eq_true, if_false]

theorem sessionRetry_one (s : State) (x : Sess) (hhello : s.lstate x.port = lsHello) (hone : s.lnk.sess = [x]) (hopen : x.formed = false) :
    s.sessionRetry x.port = s.startKeyx x.port x.peer 1 := by
  simp [State.sessionRetry, hhello, hone, hopen]

theorem rekey_one (s : State) (x : Sess) (hone : s.lnk.sess = [x]) (hformed : x.formed = true) (hid : x.nextId = x.keyId)
    (hcount : x.txCtr.any (fun n => 2 ^ 32 ≤ n) = true) : s.rekey x.port = s.startKeyx x.port x.peer (x.keyId + 1) := by
  simp only [State.rekey, hone, List.filter_cons, hformed, hid, hcount]
  simp

/-! ### Domain keys (R433) -/

theorem domainKeyRx_admitted (s v z : State) (x : Rx) (henc : x.enc = true) (hadm : s.admits 3 x.port x.bytes = true)
    (hv : v = s.setSec { s.sec with
      dkeys := s.sec.dkeys.filter (fun k => k.1 ≠ le x.bytes 16 4) ++ [(le x.bytes 16 4, le x.bytes 24 6, slice x.bytes 32 32)] })
    (hz : z = (if le x.bytes 24 6 ≤ v.tim.epoch && v.domainKeyAt v.tim.epoch = some (slice x.bytes 32 32) then v.dkeyInForce (le x.bytes 16 4) else v)) :
    s.domainKeyRx x = (z.lnk.sess.filter (fun y => y.formed && y.port ≠ x.port && z.downPorts.contains y.port)).foldl (fun (s : State) y =>
        s.send y.port 2 (if s.on (F.LNK_PORT_FUNC_SWITCHED y.port) then 1 else 0) y.peer x.bytes) z := by
  subst hz hv
  simp only [State.domainKeyRx, henc, hadm, Bool.not_true, Bool.or_self, Bool.false_eq_true, if_false]

/-! ### Seals of children (R426, R427) -/

theorem sealArrives_relayed (s : State) (x : Rx) (hload : s.loaded = true) (hmerge : s.merging = false) :
    s.sealArrives x = s.sendUp 3 x.bytes := by
  simp [State.sealArrives, hload, hmerge]

/-- A seal whose sender is known and whose SEQ is not behind the round's: a gap, a wrong hash, or a round that goes on to be checked. -/
theorem sealArrives_judged (s : State) (x : Rx) (r y : Round) (hload : s.loaded = true) (hmerge : s.merging = true) (hr : r = s.roundOf (recKey x.bytes))
    (hknown : (s.sec.rounds.all (fun y => y.key ≠ recKey x.bytes) && (childFor s.children (recKey x.bytes) x.port).isNone) = false)
    (hseq : seqOld r.nextSeq (recSeq x.bytes) = false)
    (hy : y = { r with recs := [x.bytes], nextSeq := some ((recSeq x.bytes + 1) % 2 ^ 32) }) :
    s.sealArrives x = (let b := x.bytes
      let key := recKey b
      if !roundGapless r.recs b then ((s.putRound y).dropArrival key).chainFail F.SEC_CHAIN_STAT_GAP key 5
      else if r.chain.any (fun c => c ≠ slice b 48 48) || !roundHash r.recs b then ((s.putRound y).dropArrival key).chainFail F.SEC_CHAIN_STAT_HASH_FAIL key 5
      else
        let v := s.putRound { y with chain := some (slice b 96 48), epoch := some (le b 16 6) }
        let z := v.setSec { v.sec with
          verify := if r.chain.isNone then ⟨key, b, s.sec.roundNo⟩ :: v.sec.verify else v.sec.verify ++ [⟨key, b, s.sec.roundNo⟩] }
        if r.unverified then z.dropArrival key else z.roundChecked key (le b 16 6) (r.recs ++ [b]) (slice b 96 48)) := by
  subst hy hr
  cases hchain : (s.roundOf (recKey x.bytes)).chain with
  | none => simp only [State.sealArrives, hload, hmerge, hknown, hseq, hchain, Option.any_none, Bool.not_true, Bool.or_self, Bool.false_eq_true, if_false]
  | some c => simp only [State.sealArrives, hload, hmerge, hknown, hseq, hchain, Option.any_some, Bool.not_true, Bool.or_self, Bool.false_eq_true, if_false]

theorem verifyDone_head (s v : State) (j : VerJob) (rest : List VerJob) (hverify : s.sec.verify = j :: rest)
    (hv : v = s.setSec { s.sec with verify := rest }) :
    s.verifyDone = (let x := v.verifySeal j.record
      if x.1 then (x.2.markChild j.key false).showUnverified
      else ((x.2.markChild j.key true).chainFail F.SEC_CHAIN_STAT_SIG_FAIL j.key 6).showUnverified) := by
  subst hv
  simp only [State.verifyDone, hverify]

theorem lagExpiry_one (s : State) (j : VerJob) (hverify : s.sec.verify = [j]) (hlag : j.round + max 1 (s.fld F.SEC_CTRL_LAG) ≤ s.sec.roundNo) :
    s.lagExpiry = ((s.setSec { s.sec with verify := [] }).inc F.SEC_CHAIN_STAT_LAG_EXCEEDED).secChange 0 0 5 := by
  simp [State.lagExpiry, hverify, hlag]

/-! ### Debug levels (R420) -/

theorem debugWrite_lowers (s v : State) (w : Word) (hv : v = s.plainWrite 0x0B0018 w) (hlife : v.lifecycle ≠ 4)
    (hlower : bits w.toNat 1 0 < v.debug) : s.debugWrite w = v.setDebug (bits w.toNat 1 0) := by
  subst hv
  simp [State.debugWrite, hlife, hlower, hlower.ne]

/-- In lifecycle 1 and 2 a raise takes a token, which the Boot Read Port fetches. -/
theorem debugWrite_fetches (s v : State) (w : Word) (hv : v = s.plainWrite 0x0B0018 w) (hlife : v.lifecycle = 1 ∨ v.lifecycle = 2)
    (hraise : v.debug < bits w.toNat 1 0) (hlevel : bits w.toNat 1 0 < 3) (hgo : bit w.toNat 2 = true) (hidle : v.on F.SEC_DBG_BUSY = false)
    (hsrc : v.on F.SEC_DBG_SRC = false) :
    s.debugWrite w = (let x := (v.setSec { v.sec with tokenLevel := bits w.toNat 1 0, token := none }).set F.SEC_DBG_BUSY 1
      x.setPorts { x.ports with jobs := x.ports.jobs ++ [⟨.token, x.pair F.SEC_TOKEN_LO F.SEC_TOKEN_HI / 16 * 16, 144, [], true⟩] }) := by
  subst hv
  have hsrc' (z : SecSt) : (((s.plainWrite 0x0B0018 w).setSec z).set F.SEC_DBG_BUSY 1).on F.SEC_DBG_SRC = false := by
    rw [State.on, fld_set _ _ _ _ (by decide), setSec_fld]; exact hsrc
  have hlife4 : (s.plainWrite 0x0B0018 w).lifecycle ≠ 4 := by omega
  have hlife03 : ¬((s.plainWrite 0x0B0018 w).lifecycle = 0 ∨ (s.plainWrite 0x0B0018 w).lifecycle = 3) := by omega
  simp [State.debugWrite, hlife4, hlife03, hraise.ne', Nat.not_lt.2 hraise.le, hlevel.ne, hgo, hidle, hsrc']

theorem tokenChecked_fetched (s v : State) (t : Bytes) (htoken : s.sec.token = some t)
    (hv : v = (s.setSec { s.sec with token := none }).set F.SEC_DBG_BUSY 0) :
    s.tokenChecked = (let until_ := le t 8 8
      if t.length < 144 then v.debugRefuse
      else if le t 0 4 ≠ tokenMagic || !v.authentic 4 (t.take 144) || (v.lifecycle = 2 && slice t 116 8 = List.replicate 8 0) then
        (v.authReject 0 3).debugRefuse
      else if le t 4 1 < v.sec.tokenLevel || (until_ ≠ 0 && until_ ≤ v.tim.epoch) || v.lifecycle = 4 then v.debugRefuse
      else
        let z := if v.debug < v.sec.tokenLevel then v.setDebug v.sec.tokenLevel else v
        z.setSec { z.sec with notAfter := if until_ = 0 then none else some until_ }) := by
  subst hv
  simp only [State.tokenChecked, htoken]

theorem debugExpiry_due (s : State) (e : Nat) (hafter : s.sec.notAfter = some e) (hopen : e ≤ s.tim.epoch) :
    s.debugExpiry = (s.setSec { s.sec with notAfter := none }).setDebug 0 := by
  simp only [State.debugExpiry, hafter, if_pos hopen]

/-! ### Attestation on request (R422) -/

theorem attestAsk_forms (s v : State) (w : Word) (hv : v = s.plainWrite 0x0B0024 w) (hgo : bit w.toNat 0 = true) (hidle : v.on F.SEC_ATT_BUSY = false) :
    s.attestAsk w = (v.setSec { v.sec with forming := some ((List.range 4).flatMap (fun i => toLE 4 (v.fld (F.SEC_ATT_NONCE i)))) }).set F.SEC_ATT_BUSY 1 := by
  subst hv
  simp [State.attestAsk, hgo, hidle]

theorem attestDone_formed (s : State) (n : Bytes) (h : s.sec.forming = some n) :
    s.attestDone = (let x := s.attest n
      ((x.2.setSec { x.2.sec with forming := none, window := x.1 }).set F.SEC_ATT_BUSY 0).set F.SEC_ATT_DONE 1) := by
  simp only [State.attestDone, h]

/-- Settles O45: each command's meaning by its `exec_` equation, its effect by the lemma about the operation it names. -/
theorem securityCommands : Obligations.SecurityCommands := by
  unfold Obligations.SecurityCommands
  refine ⟨?_, ?_, ?_, ?_, ?_, ?_, ?_, ?_, ?_, ?_, ?_, ?_, ?_, ?_, ?_, ?_, ?_, ?_, ?_⟩
  · intro s u r v y z hu hruns hv hy hz
    rw [exec_keyx, execKeyx, ← hu, keyxRx_answers u v r y hruns hv hy, ← hz, done]
  · intro s u r y hu hruns hy
    rw [exec_attestationRecord, execAttestationRecord, ← hu, attestRx_session u r y hruns hy, State.peerFail, done]
  · intro s u r y hu hruns hy
    rw [exec_credentialRecord, execCredentialRecord, ← hu, credentialRx_session u r y hruns hy, State.peerFail, State.peerFail, done]
  · intro s p x hhello hone hport hopen
    subst hport
    rw [exec_sessionRetry, execSessionRetry, sessionRetry_one s x hhello hone hopen, done]
  · intro s p x hone hport hformed hid hcount
    subst hport
    rw [exec_rekey, execRekey, rekey_one s x hone hformed hid hcount, done]
  · intro s p
    rw [exec_keyOverlapExpiry, execKeyOverlapExpiry, State.overlapEnds, done]
  · intro s u r v z hu henc hadm hv hz
    rw [exec_domainKeyRecord, execDomainKeyRecord, ← hu, domainKeyRx_admitted u v z r henc hadm hv hz, done]
  · intro s u r hu htko hload hmerge
    rw [exec_sealRecord, execSealRecord, ← hu, atNode_noTakeover _ _ _ _ htko, sealArrives_relayed u r hload hmerge, done]
  · intro s u r x y hu htko hload hmerge hx hknown hseq hy
    rw [exec_sealRecord, execSealRecord, ← hu, atNode_noTakeover _ _ _ _ htko, sealArrives_judged u r x y hload hmerge hx hknown hseq hy, done]
  · intro s v j rest hverify hv
    rw [exec_sigVerifyDone, execSigVerifyDone, verifyDone_head s v j rest hverify hv, done]
  · intro s j hverify hlag
    rw [exec_verifyLagExpiry, execVerifyLagExpiry, lagExpiry_one s j hverify hlag, done]
  · intro s a w hs habove
    rw [exec_floorSet_allowed s a w hs, floorSet_above _ w (by rwa [reach_fld])]
  · exact exec_floorSet_ignored
  · intro s v a w hs hv hlife hlower
    rw [exec_debugLevelRequest, execDebugLevelRequest, guardWrite_unmarked _ hs (by decide), debugWrite_lowers _ v w hv hlife hlower, done]
  · intro s v a w hs hv hlife hraise hlevel hgo hidle hsrc
    rw [exec_debugLevelRequest, execDebugLevelRequest, guardWrite_unmarked _ hs (by decide),
      debugWrite_fetches _ v w hv hlife hraise hlevel hgo hidle hsrc, done]
  · intro s v t htoken hv
    rw [exec_tokenChecked, execTokenChecked, tokenChecked_fetched s v t htoken hv, State.debugRefuse, State.debugRefuse, done]
  · intro s e hafter hopen
    rw [exec_debugTokenExpiry, execDebugTokenExpiry, debugExpiry_due s e hafter hopen, done]
  · intro s v a w hs hv hgo hidle
    rw [exec_attestationRequest, execAttestationRequest, guardWrite_unmarked _ hs (by decide), attestAsk_forms _ v w hv hgo hidle, done]
  · intro s n hforming
    rw [exec_attestationFormed, execAttestationFormed, attestDone_formed s n hforming, done]

end Sys2Proof.Machine

/-! Power states (R468, R470): O32. -/

namespace Sys2Proof.Machine

/-! ### Power states (R468 to R470) -/

/-- QUIET asked for in RUN waits, when nothing bars it. -/
theorem powerAsk_quiet (s : State) (a : Access) (w : Word) (htarget : F.BLK_POWER_REQ_TARGET.get w = 1) (hrun : s.power = 0)
    (hnone : s.on F.BLK_POWER_PEND_VALID = false) (hfree : s.powerBarred = false) :
    s.powerAsk a w = ((s.set F.BLK_POWER_PEND_VALID 1).set F.BLK_POWER_PEND_TARGET 1).setBru
      { s.bru with powEpoch := s.tim.epoch, powNs := s.nowNs, holdRun := false } := by
  have hpower (b : BruSt) : ((((s.set F.BLK_POWER_PEND_VALID 1).set F.BLK_POWER_PEND_TARGET 1).setBru b).power) = 0 := by
    rw [State.power, setBru_fld, fld_set _ _ _ _ (by decide), fld_set _ _ _ _ (by decide)]; exact hrun
  simp only [State.powerAsk, htarget, hrun, hnone, hfree, hpower]
  rfl

/-- HOLD follows QUIET once nothing sent upward is held for an acknowledgement. -/
theorem powerDone_hold (s : State) (hpend : s.on F.BLK_POWER_PEND_VALID = true) (hquiet : s.power = 1) (htarget : s.fld F.BLK_POWER_PEND_TARGET = 2)
    (hacked : s.red.retained = []) : s.powerDone = s.cancelPower.enterHold := by
  have hmet : s.powerMet = true := by simp [State.powerMet, hquiet, htarget, hacked]
  simp [State.powerDone, hpend, hmet, hquiet, htarget]

theorem tryStart_noMerge (s : State) (epoch : Nat) (h : s.mergeFor epoch = none) : s.tryStart epoch = s := by simp only [State.tryStart, h]

/-- A notice about an epoch that has no merge yet, on a unit that runs no takeover. -/
theorem powerRx_noMerge (s : State) (x : Rx) (htko : s.tko = none) (hstate : le x.bytes 24 1 ≠ 0) (hmerge : s.mergeFor (le x.bytes 32 6) = none) :
    s.powerRx x = s.setRed { s.red with
      absentEpochs := (peerKey x.bytes, le x.bytes 32 6) :: s.red.absentEpochs.filter (fun k => k ≠ (peerKey x.bytes, le x.bytes 32 6)) } := by
  have hstart (k : List (Nat × Nat)) : (s.setRed { s.red with absentEpochs := k }).tryStart (le x.bytes 32 6)
      = s.setRed { s.red with absentEpochs := k } := tryStart_noMerge _ _ hmerge
  rw [State.powerRx, if_neg hstate, eachNode_noTakeover _ _ (by rw [hstart]; exact htko), hstart]

/-- Settles O32: each command's meaning by its `exec_` equation, its effect by the lemma about the operation it names. -/
theorem powerCommands : Obligations.PowerCommands := by
  unfold Obligations.PowerCommands
  refine ⟨?_, ?_, ?_⟩
  · intro s a w hs htarget hrun hnone hfree
    rw [exec_powerRequest, execPowerRequest, guardWrite_unmarked _ hs (by decide),
      powerAsk_quiet _ a w htarget (by simpa using hrun) (by simpa using hnone) hfree, reach_bru, reach_epoch, done]
  · intro s hpend hquiet htarget hacked
    rw [exec_powerTransitionDone, execPowerTransitionDone, powerDone_hold s hpend hquiet htarget hacked, State.enterHold, done]
  · intro s r htko hstate hmerge
    rw [exec_powerNotice, execPowerNotice, powerRx_noMerge _ r (by simpa using htko) hstate (by simpa [State.mergeFor] using hmerge), done]
    simp

end Sys2Proof.Machine

/-! Placements of children and the link layer (R339 to R358, R386): O22 and O43. -/

namespace Sys2Proof.Machine

/-! ### Placements are told apart by PGEN (R358) -/

theorem pgenNewer_iff (a b : Nat) (hb : b < 65536) :
    pgenNewer a b = true ↔ 0 < (a + 65536 - b) % 65536 ∧ (a + 65536 - b) % 65536 < 32768 := by
  rw [pgenNewer, decide_eq_true_iff, Nat.mod_eq_of_lt hb]

theorem pgenTake_first (s : State) (key g epoch : Nat) (h : s.lnk.pgenSeen.find? (fun p => p.1 = key) = none) :
    s.pgenTake key g epoch = some (s.setLnk { s.lnk with pgenSeen := (key, g, epoch) :: s.lnk.pgenSeen }) := by
  simp only [State.pgenTake, h]

theorem pgenTake_again (s : State) (key g epoch g0 e0 : Nat) (h : s.lnk.pgenSeen.find? (fun p => p.1 = key) = some (key, g0, e0)) :
    s.pgenTake key g epoch =
      if pgenNewer g g0 = true then some (s.setLnk { s.lnk with pgenSeen := (key, g, epoch) :: s.lnk.pgenSeen.filter (fun p => p.1 ≠ key) })
      else if g = g0 then some s else if epoch < e0 then some s else none := by
  simp only [State.pgenTake, h]
  by_cases hg : g = g0 <;> by_cases he : epoch < e0 <;> simp [hg, he]

/-- A summary for an epoch whose merge has not started, in time and of the catalogue in force, is stale by its PGEN alone. -/
theorem takeSummary_stale (s u : State) (x : Summary) (port : Nat) (c : Child) (key : Nat) (bundle : Option (Nat × List Bytes))
    (hu : u = s.setRed { s.red with absentKeys := s.red.absentKeys.filter (fun k => k.1 ≠ key && k.1 ≠ c.key) }) (hexcl : c.excl = false)
    (hcat : (readHead x.head).catId = u.catIdAt (readHead x.head).epoch) (hepoch : (readHead x.head).epoch ≤ u.tim.epoch)
    (hstart : u.mergeStarted (readHead x.head).epoch = false) (hlevel : u.level ≠ 5)
    (hpgen : u.pgenTake key (readHead x.head).pgen (readHead x.head).epoch = none) :
    s.takeSummary x port c key bundle = u.inc F.LNK_PGEN_STAT_STALE := by
  have hstart' : s.mergeStarted (readHead x.head).epoch = false := by rw [← hstart, hu]; rfl
  simp only [State.takeSummary, ← hu, hstart', hexcl, ← hcat, Nat.not_lt.2 hepoch, hlevel, hpgen, ne_eq, not_true_eq_false, decide_false,
    Bool.false_and, Bool.or_self, Bool.false_eq_true, if_false]

/-- Settles O22: the comparison, the three answers of `pgenTake`, and what a summary that it refuses counts. -/
theorem pgenRule : Obligations.PgenRule := by
  unfold Obligations.PgenRule
  exact ⟨fun a b _ => pgenNewer_iff a b, pgenTake_first, pgenTake_again, fun s u x port c key => takeSummary_stale s u x port c key none⟩

/-! ### Groups out (R339, R345, R346) -/

section GroupSend

variable {s : State} {p t : Nat} {l : LinkSt} (hl : s.link p = some l) (hup : s.lstate p ≠ lsDown) (hpow : s.ports.powered = true)
include hl hup hpow

theorem groupSend_resends (g : List Bytes) (rest : List (List Bytes)) (h : l.resend = g :: rest) :
    s.groupSend p t = (s.modLink p (fun (l : LinkSt) => { l with resend := rest, prev := g.tail, wire := g })).inc (F.LNK_PORT_REPLAY_REPLAYS p) := by
  simp [State.groupSend, hl, hup, hpow, h]

theorem groupSend_new (h : l.resend = []) (hroom : l.sentGroups.length < 64) :
    s.groupSend p t = (let v := (s.fillSlots p t 15).2.inbandLeft p
      v.modLink p (fun (l : LinkSt) =>
        let xs := (s.fillSlots p t 15).1
        let g := v.controlFlit l l.gseq (xs.map (fun x => x.1)) :: xs.map (fun x => x.2)
        { l with gseq := (l.gseq + 1) % 2 ^ 32, prev := g.tail, wire := g, sentGroups := l.sentGroups ++ [g], askRetry := false })) := by
  simp [State.groupSend, hl, hup, hpow, h, Nat.not_le.2 hroom]

end GroupSend

/-! ### Groups in (R340, R346) -/

/-- A group as it is held: its control flit and its fifteen payload flits, each cut to 64 bytes. -/
def heldGroup (ctl : Bytes) (g : List Bytes) : List Bytes := ctl :: (List.range 15).map (fun i => slice (g.tail.getD i []) 0 64)

section GroupReceived

variable {s : State} {p t : Nat} {g : List Bytes} {l : LinkSt} {ctl : Bytes} (hl : s.link p = some l) (hup : s.lstate p ≠ lsDown)
  (hpow : s.ports.powered = true) (hctl : ctl = slice (g.headD []) 0 64)
include hl hup hpow hctl

theorem groupRx_first (hcrc : le ctl 60 4 = crc32c (ctl.take 60)) (hheld : l.rxHeld = none) (hseq : le ctl 0 4 = l.rxNext) :
    s.groupRx p t g = (s.controlRx p ctl).modLink p (fun (l : LinkSt) =>
      { l with rxHeld := some (heldGroup ctl g), rxHeldT := t, rxNext := (le ctl 0 4 + 1) % 2 ^ 32, waiting := false }) := by
  simp only [State.groupRx, heldGroup, hl, hup, hpow, ← hctl, hcrc, hheld, hseq, decide_false, decide_true, Bool.not_true, Bool.or_self,
    Bool.false_eq_true, if_false, if_true]

/-- The check over the payload of the group before it lets that group be delivered. -/
theorem groupRx_delivers (h : List Bytes) (hcrc : le ctl 60 4 = crc32c (ctl.take 60)) (hheld : l.rxHeld = some h)
    (hpayload : le ctl 28 4 = crc32c h.tail.flatten) (hseq : le ctl 0 4 = l.rxNext) :
    s.groupRx p t g = ((s.deliverGroup p l.rxHeldT h).controlRx p ctl).modLink p (fun (l : LinkSt) =>
      { l with rxHeld := some (heldGroup ctl g), rxHeldT := t, rxNext := (le ctl 0 4 + 1) % 2 ^ 32, waiting := false }) := by
  simp only [State.groupRx, heldGroup, hl, hup, hpow, ← hctl, hcrc, hheld, hpayload, hseq, decide_false, decide_true, Bool.not_true, Bool.or_self,
    Bool.false_eq_true, if_false, if_true]

theorem groupRx_bad (hcrc : le ctl 60 4 ≠ crc32c (ctl.take 60)) (hheld : l.rxHeld = none) :
    s.groupRx p t g = (s.modLink p (fun (x : LinkSt) => { x with rxHeld := none, rxNext := l.rxNext, askRetry := true, waiting := true })).inc
      (F.LNK_PORT_REPLAY_GROUP_ERR p) := by
  simp only [State.groupRx, hl, hup, hpow, ← hctl, hcrc, hheld, decide_false, Bool.not_true, Bool.not_false, Bool.or_self, Bool.true_or,
    Bool.false_eq_true, if_false, if_true]

end GroupReceived

/-! ### Silence, link up and ageing (R347, R348, R354) -/

theorem portDown_falls (s : State) (p : Nat) (hup : s.lstate p ≠ lsDown) :
    s.portDown p = (let a := s.modLink p (fun _ => { newLink p with heldReset := (s.link p).any (fun l => l.heldReset) })
      let b := a.setLnk { a.lnk with sess := a.lnk.sess.filter (fun x => x.port ≠ p) }
      let c := b.setTim { b.tim with used := b.tim.used.filter (fun x => x ≠ p) }
      let d := (c.setLstate p lsDown).inc (F.LNK_PORT_MISC_DOWN_COUNT p)
      (if d.fld F.BRU_INBAND_TGT_PORT = p then d.set F.BRU_INBAND_BUSY 0 else d).eachNode State.upCheck) := if_neg hup

theorem linkUp_rises (s v : State) (p : Nat) (hp : p < s.build.ports) (hdown : s.lstate p = lsDown) (hpow : s.ports.powered = true)
    (hbar : s.portBarred p = false) (hv : v = (s.modLink p (fun _ => newLink p)).setLstate p lsHello) :
    s.linkUp p = (v.sendHello p).sendNotice p := by
  simp [State.linkUp, hdown, hpow, hbar, Nat.not_le.2 hp, hv]

/-- One aged frame that waits alone, of no class whose age is told otherwise, is dropped and counted. -/
theorem ageOut_one (s : State) (p n : Nat) (l : LinkSt) (f : Frame) (hl : s.link p = some l) (hone : l.txq = [f])
    (hlimit : s.ageLimit f = some n) (hage : f.since + n ≤ s.nowNs) (htime : f.cls ≠ 1) (hreq : f.cls ≠ 2) :
    s.ageOut p = (s.modLink p (fun (l : LinkSt) => { l with txq := l.txq.filter (fun x =>
        !((s.ageLimit x).any (fun n => x.since + n ≤ s.nowNs) && (x.cls ≠ 1 || newerOf [f] x))) })).inc (F.LNK_PORT_MISC_AGED p) := by
  simp [State.ageOut, hl, hone, hlimit, hage, htime, hreq]

/-! ### Control requests and responses (R349, R350, R355, R386) -/

theorem privCheck_plain (s : State) (port : Nat) (enc : Bool) (b : Bytes) (h : crPriv b = false) : s.privCheck port enc b = (false, s) := by
  simp [State.privCheck, h]

/-- A request that is not privileged, after market open, with room in the queue and in its Stall's share. -/
theorem requestRx_queued (s : State) (x : Rx) (hin : s.ports.inReset = false) (hpower : s.power ≠ 2) (hphase : 1 < s.fld F.BRU_STATUS_PHASE)
    (hload : s.loaded = true) (htray : (bit (crAddr x.bytes) 47 && s.hub) = false) (hpriv : crPriv x.bytes = false) (hopen : s.preOpen = false)
    (hroom : s.lnk.ctl.length < 64)
    (hshare : (s.lnk.ctl.filter (fun y => !y.priv && y.stall = recStall x.bytes)).length < max 1 (s.fld F.LNK_SVC_STALL_OUT)) :
    s.requestRx x = (let q := ctlOf x.port s.nowNs x.enc false x.bytes
      s.setLnk { s.lnk with ctl := s.lnk.ctl ++ [{ q with addr := if bit q.addr 47 then q.addr % 2 ^ 24 else q.addr }] }) := by
  simp only [State.requestRx, privCheck_plain _ _ _ _ hpriv, hin, hpower, Nat.not_le.2 hphase, hload, hpriv, hopen, Nat.not_le.2 hroom, ctlOf, htray,
    Nat.not_le.2 hshare, decide_false, Bool.not_false, Bool.not_true, Bool.or_self, Bool.and_false, Bool.false_eq_true, if_false]
  rfl

theorem requestRx_inReset (s : State) (x : Rx) (hin : s.ports.inReset = true) :
    s.requestRx x = s.respondAbsent (ctlOf x.port s.nowNs x.enc (crPriv x.bytes) x.bytes) := by
  simp [State.requestRx, hin]

theorem completeRequest_ok (s : State) (txn status : Nat) (d : Word) (o : CtlOut) (ho : s.lnk.out.find? (fun o => o.txn = txn) = some o)
    (htray : o.tray = true) (hstatus : status = stOk ∨ status = stLate) :
    s.completeRequest txn status d = (let v := s.setLnk { s.lnk with out := s.lnk.out.filter (fun y => y.txn ≠ txn) }
      v.setPorts { v.ports with answer := some ⟨o.src, .ok, d⟩ }) := by
  simp [State.completeRequest, ho, htray, hstatus]

/-- A status that is no success, no denial and no wrong address asks the host to try again. -/
theorem completeRequest_retry (s : State) (txn status : Nat) (d : Word) (o : CtlOut) (ho : s.lnk.out.find? (fun o => o.txn = txn) = some o)
    (htray : o.tray = true) (hstatus : status ∉ [stOk, stLate, stDenied, stDecode]) :
    s.completeRequest txn status d = (let u := s.setLnk { s.lnk with out := s.lnk.out.filter (fun y => y.txn ≠ txn) }
      let v := (u.inc F.LNK_TRAY_STAT_ERRORS).set F.LNK_TRAY_STAT_LAST_STATUS status
      v.setPorts { v.ports with answer := some ⟨o.src, .retry, 0⟩ }) := by
  simp only [List.mem_cons, List.not_mem_nil, or_false, not_or] at hstatus
  obtain ⟨hok, hlate, hdenied, hdecode⟩ := hstatus
  simp [State.completeRequest, ho, htray, hok, hlate, hdenied, hdecode]

theorem responseRx_ok (s : State) (x : Rx) (o : CtlOut) (hstatus : le x.bytes 20 1 = stOk ∨ le x.bytes 20 1 = stLate)
    (ho : s.lnk.out.find? (fun o => o.txn = crTxn x.bytes) = some o) (htray : o.tray = true) :
    s.responseRx x = (let v := s.setLnk { s.lnk with out := s.lnk.out.filter (fun y => y.txn ≠ crTxn x.bytes) }
      v.setPorts { v.ports with answer := some ⟨o.src, .ok, BitVec.ofNat 32 (le x.bytes 24 4)⟩ }) := by
  have haway : le x.bytes 20 1 ≠ stAbsent ∧ le x.bytes 20 1 ≠ stUpdating := by
    rcases hstatus with h | h <;> rw [h] <;> decide
  simp only [State.responseRx, haway, decide_false, Bool.or_self, Bool.false_and, Bool.false_eq_true, if_false]
  exact completeRequest_ok s _ _ _ o ho htray hstatus

theorem controlTimeout_tray (s : State) (txn : Nat) (o : CtlOut) (ho : s.lnk.out.find? (fun o => o.txn = txn) = some o) (htray : o.tray = true) :
    s.controlTimeout txn = (let u := s.inc F.LNK_SVC_STAT2_TIMEOUT
      let v := ((u.setLnk { u.lnk with out := u.lnk.out.filter (fun y => y.txn ≠ txn) }).inc F.LNK_TRAY_STAT_ERRORS).set F.LNK_TRAY_STAT_LAST_STATUS stTimeout
      v.setPorts { v.ports with answer := some ⟨o.src, .retry, 0⟩ }) := by
  have hany : s.lnk.out.any (fun o => o.txn = txn) = true := List.any_eq_true.2 ⟨o, List.mem_of_find?_eq_some ho, by simpa using List.find?_some ho⟩
  rw [State.controlTimeout, if_pos hany]
  exact completeRequest_retry (s.inc F.LNK_SVC_STAT2_TIMEOUT) txn stTimeout 0 o ho htray (by decide)

/-! ### The tray window (R355) -/

section TrayWindow

variable {s u : State} {a : Access} {addr : Nat} {write : Bool} {w : Word} (hu : u = s.reach a.t) (hserves : u.serves = true)
  (haddr : trayAddr addr = true) (hsrc : a.src ≠ .xlp) (hjudge : u.judge a addr write = .ok)
include hu hserves haddr hsrc hjudge

/-- The access becomes a request to the Spoke of the slot, and waits for its response. -/
theorem trayAccess_sent {src p : Nat} (htarget : u.slotTarget (u.fld F.LNK_TRAY_SEL_SLOT) = some (src, p)) (hup : u.lstate p = lsUp) :
    s.trayAccess a addr write w = (let txn := u.lnk.nextTxn
      let off := 2 ^ 47 + u.fld F.LNK_TRAY_SEL_SLOT * 2 ^ 24 + u.fld F.LNK_TRAY_SEL_PAGE * 2 ^ 20 + addr % 2 ^ 20
      let x := u.originate 0x50 2 1 a.stall.toNat u.nowNs
        [(16, toLE 4 txn), (20, toLE 1 (b2n write)), (21, toLE 1 (b2n (privileged a))), (22, toLE 2 (u.fld F.LNK_SVC_TIMEOUT_US)), (24, toLE 8 off),
          (32, toLE 4 (if write then w.toNat else 0))]
      let v := x.2.setLnk { x.2.lnk with nextTxn := (txn + 1) % 2 ^ 32, out := x.2.lnk.out ++ [⟨txn, a.src, true, x.2.nowNs⟩] }
      (v.setPorts { v.ports with answer := none }).send p 2 1 src x.1) := by
  simp only [State.trayAccess, ← hu, hserves, haddr, hsrc, hjudge, htarget, hup, ne_eq, not_false_eq_true, not_true_eq_false, decide_true,
    Bool.and_self, Bool.not_true, Bool.false_eq_true, if_false, if_true]

theorem trayAccess_noChild (htarget : u.slotTarget (u.fld F.LNK_TRAY_SEL_SLOT) = none) :
    s.trayAccess a addr write w = (((u.inc F.LNK_SVC_STAT2_NO_ROUTE).inc F.LNK_TRAY_STAT_ERRORS).set F.LNK_TRAY_STAT_LAST_STATUS stNoRoute).answer
      a .retry 0 := by
  simp only [State.trayAccess, ← hu, hserves, haddr, hsrc, hjudge, htarget, ne_eq, not_false_eq_true, decide_true, Bool.and_self, Bool.not_true,
    Bool.false_eq_true, if_false, if_true]

end TrayWindow

/-- Settles O43: each command's meaning by its `exec_` equation, its effect by the lemma about the operation it names. -/
theorem linkCommands : Obligations.LinkCommands := by
  unfold Obligations.LinkCommands
  refine ⟨?_, ?_, ?_, ?_, ?_, ?_, ?_, ?_, ?_, ?_, ?_, ?_, ?_, ?_⟩
  · intro s u p t l g rest hu hl hup hpow h
    rw [exec_groupSend, execGroupSend, ← hu, groupSend_resends hl hup hpow g rest h, done]
  · intro s u v p t l hu hl hup hpow h hroom hv
    subst hv
    rw [exec_groupSend, execGroupSend, ← hu, groupSend_new hl hup hpow h hroom, done]
  · intro s u p t g l ctl hu hl hup hpow hctl hcrc hheld hseq
    rw [exec_groupReceived, execGroupReceived, ← hu, groupRx_first hl hup hpow hctl hcrc hheld hseq, heldGroup, done]
  · intro s u p t g h l ctl hu hl hup hpow hctl hcrc hheld hpayload hseq
    rw [exec_groupReceived, execGroupReceived, ← hu, groupRx_delivers hl hup hpow hctl h hcrc hheld hpayload hseq, heldGroup, done]
  · intro s u p t g l ctl hu hl hup hpow hctl hcrc hheld
    rw [exec_groupReceived, execGroupReceived, ← hu, groupRx_bad hl hup hpow hctl hcrc hheld, done]
  · intro s p hup
    rw [exec_linkSilenceTimeout, execLinkSilenceTimeout, portDown_falls s p hup, done]
  · intro s u v p t hu hp hdown hpow hbar hv
    rw [exec_linkUp, execLinkUp, ← hu, linkUp_rises u v p hp hdown hpow hbar hv, done]
  · intro s p n l f hl hone hlimit hage htime hreq
    rw [exec_frameAgeExpiry, execFrameAgeExpiry, ageOut_one s p n l f hl hone hlimit hage htime hreq, done]
  · intro s u r hu hin hpower hphase hload htray hpriv hopen hroom hshare
    rw [exec_controlRequest, execControlRequest, ← hu, requestRx_queued u r hin hpower hphase hload htray hpriv hopen hroom hshare, done]
  · intro s u r hu hin
    rw [exec_controlRequest, execControlRequest, ← hu, requestRx_inReset u r hin, done]
  · intro s u r o hu hstatus ho htray
    rw [exec_controlResponse, execControlResponse, ← hu, responseRx_ok u r o hstatus ho htray, done]
  · intro s txn o ho htray
    rw [exec_controlTimeout, execControlTimeout, controlTimeout_tray s txn o ho htray, done]
  · intro s u a addr src p write w hu hserves haddr hsrc hjudge htarget hup
    rw [exec_trayWindowAccess, execTrayWindowAccess, trayAccess_sent hu hserves haddr hsrc hjudge htarget hup, done]
  · intro s u a addr write w hu hserves haddr hsrc hjudge htarget
    rw [exec_trayWindowAccess, execTrayWindowAccess, trayAccess_noChild hu hserves haddr hsrc hjudge htarget, done]

end Sys2Proof.Machine

/-! Link management: HELLO, discovery, heartbeat, takeover, broadcast, spare admission and split views (R351 to R362): O44. -/

namespace Sys2Proof.Machine

/-! ### HELLO and the cabling plan (R354) -/

theorem helloRx_heard (s v : State) (x : Rx) (hdown : s.lstate x.port ≠ lsDown) (hrelay : s.lstate x.port ≠ lsRelay)
    (hv : v = ((s.set (F.LNK_PORT_PEER_PEER_ID x.port) (le x.bytes 20 4 % 2 ^ 20)).set (F.LNK_PORT_STATE_PEER_PORT x.port) (le x.bytes 24 1)).modLink
      x.port (fun (l : LinkSt) => { l with heard := true })) :
    s.helloRx x = if v.loaded then v.planCheck x.port else v := by
  subst hv
  simp only [State.helloRx, hdown, hrelay, decide_false, Bool.or_self, Bool.false_eq_true, if_false]

theorem planCheck_miscabled (s : State) (p : Nat)
    (hplan : s.planMet p (s.fld (F.LNK_PORT_PEER_PEER_ID p)) (s.fld (F.LNK_PORT_STATE_PEER_PORT p)) = false) (hswap : s.swapMate p = none)
    (hnew : s.lstate p ≠ lsMiscabled) :
    s.planCheck p = (s.setLstate p lsMiscabled).log 0x33 0 p (s.fld (F.LNK_PORT_STATE_PEER_PORT p)) := by
  simp only [State.planCheck, hplan, hswap, hnew, Bool.false_eq_true, if_false]

/-! ### Chain discovery (R352, R353) -/

theorem discoveryPeriod_runs (s : State) (h : s.fld F.LNK_DISC_PERIOD ≠ 0) : s.discoveryPeriod = s.chainEnds.foldl State.discoverOn s := if_neg h

/-- A DISCOVER from the head end, at a member whose ports are not turned. -/
theorem discoverRx_head (s : State) (x : Rx) (hhub : s.hub = false) (hload : s.loaded = true) (hen : s.on F.LNK_CTRL_DISC_EN = true)
    (hfunc : s.fld (F.LNK_PORT_FUNC x.port) = 1) (hhead : le x.bytes 17 1 = 0) (hturn : s.lnk.turned = false) :
    s.discoverRx x = (let p := x.port
      let hops := le x.bytes 18 1
      let hubPort := le x.bytes 19 1
      let a := s.setLnk { s.lnk with endA := some (p, hops), aFresh := true }
      let b := (a.funcPorts 1).foldl (fun (s : State) q => s.set (F.LNK_PORT_STATE_HEAD_SIDE q) (b2n (q = p))) a
      let c := b.set (F.LNK_PORT_STATE_CHAIN_POS p) (min hops 15)
      let d := c.mgmtEach [p] 3 [(17, toLE 1 0), (18, toLE 1 hops), (19, toLE 1 hubPort), (20, toLE 4 c.ident)]
      d.mgmtEach ((d.funcPorts 1).filter (fun q => q ≠ p && d.lstate q = lsUp)) 2 [(17, toLE 1 0), (18, toLE 1 (hops + 1)), (19, toLE 1 hubPort)]) := by
  simp only [State.discoverRx, hhub, hload, hen, hfunc, hhead, hturn, ne_eq, not_true_eq_false, zero_ne_one, decide_false, decide_true, Bool.not_true,
    Bool.or_self, Bool.false_and, Bool.and_false, Bool.false_eq_true, if_false, if_true]

theorem discReplyRx_passed (s : State) (x : Rx) (e : Nat × Nat) (hhub : s.hub = false) (hhead : le x.bytes 17 1 = 0) (he : s.lnk.endA = some e)
    (hother : e.1 ≠ x.port) : s.discReplyRx x = s.sendPeer e.1 2 x.bytes := by
  simp only [State.discReplyRx, hhub, hhead, he, hother, Bool.not_false, if_false, if_true]

theorem discReplyRx_kept (s : State) (x : Rx) (k : Nat × Nat × Nat × Nat) (hhub : s.hub = true)
    (hk : k = (le x.bytes 19 1, le x.bytes 17 1, le x.bytes 18 1, le x.bytes 20 4 % 2 ^ 20)) (hkids : s.children = []) :
    s.discReplyRx x = s.setLnk { s.lnk with
      replies := s.lnk.replies.filter (fun r => !(r.2.1 = k.2.1 && (r.2.2.2 = k.2.2.2 || (r.1 = k.1 && r.2.2.1 = k.2.2.1)))) ++ [k]
      answers := s.lnk.answers ++ [k] } := by
  subst hk
  have hkids' (n : LnkSt) : (s.setLnk n).children = [] := hkids
  simp only [State.discReplyRx, hhub, hkids', List.find?_nil, Bool.not_true, Bool.false_eq_true, if_false]

/-! ### Heartbeat and takeover (R359, R360) -/

theorem sendHeartbeat_hub (s : State) (p : Nat) (hsib : s.sibPort = some p) (hhub : s.hub = true) (hinj : s.injecting 4 = false) :
    s.sendHeartbeat = s.mgmtEach [p] 4 [(20, toLE 4 s.ident), (24, toLE 6 s.lastMerged)] := by
  simp [State.sendHeartbeat, hsib, hhub, hinj]

theorem heartbeatRx_sibling (s : State) (x : Rx) (hsib : s.sibPort = some x.port) :
    s.heartbeatRx x = s.setLnk { s.lnk with heartbeat := some (le x.bytes 20 4 % 2 ^ 20, le x.bytes 24 6) } := if_pos hsib.symm

/-- TAKE goes to the sibling, and the second node starts under its identity with the next PGEN. -/
theorem takeOver_takes (s : State) (hhub : s.hub = true) (hsib : s.sibUp = true) (hen : s.on F.LNK_CTRL_TKO_EN = true) (htko : s.tko = none) :
    s.takeOver = (let p := s.fld F.LNK_TKO_SIB_PORT
      let node := (s.lnk.heartbeat.map (fun h => h.1)).getD (s.fld (F.LNK_PORT_PEER_PEER_ID p))
      let g := (s.lnk.tkoPgen + 1) % 65536
      let x := s.mgmtEach [p] 5 [(20, toLE 4 node), (24, toLE 2 g)]
      let y := (x.setLnk { x.lnk with tkoPgen := g }).setTko (some ⟨node, g, 0, { initRed with tbl := 256 }, zeros 48, [], 0, zeros 48, [], []⟩)
      ((y.set F.LNK_TKO_TAKEN 1).inc F.LNK_TKO_STAT_TAKEOVERS).tkoEvent 0) := by
  simp only [State.takeOver, hhub, hsib, hen, htko, Option.isNone_none, Bool.and_self, Bool.not_true, Bool.false_eq_true, if_false]

theorem takeOver_refused (s : State) (hsib : s.sibUp = false) : s.takeOver = s.tkoRefuse := by
  simp [State.takeOver, hsib]

/-- The sibling's last merged epoch lies behind the epoch sealed here. -/
theorem takeDetect_behind (s v : State) (e last id : Nat) (hv : v = s.reachNs (s.tim.sealNs + 1000 * s.fld F.LNK_TKO_DETECT_US))
    (hsealed : v.tim.sealedEpoch = some e) (hbeat : v.lnk.heartbeat = some (id, last)) (hbehind : last < e) (hhub : v.hub = true)
    (hsib : v.sibUp = true) (hen : v.on F.LNK_CTRL_TKO_EN = true) (htko : v.tko = none) : s.takeDetect = v.takeOver := by
  simp only [State.takeDetect, ← hv, hsealed, hbeat, hbehind, hhub, hsib, hen, htko, Option.isNone_none, decide_true, Bool.and_self, if_true]

theorem askHandback_pending (s : State) (htko : s.tko.isSome = true) (hsib : s.sibUp = true) (hahead : s.tim.epoch < s.tkoTarget) :
    s.askHandback = s.setLnk { s.lnk with handback := some s.tkoTarget } := by
  simp [State.askHandback, htko, hsib, hahead]

/-- TAKE from the sibling, naming this unit: its down-ports relay. -/
theorem takeRx_relays (s : State) (x : Rx) (hsib : s.sibPort = some x.port) (hme : le x.bytes 20 4 % 2 ^ 20 = s.ident)
    (hnew : s.on F.LNK_TKO_RELAYING = false) (hhub : s.hub = true) (hen : s.on F.LNK_CTRL_TKO_EN = true) :
    s.takeRx x = (let g := le x.bytes 24 2
      let down := s.downPorts.filter (fun p => s.lstate p = lsUp)
      let a := down.foldl (fun (s : State) p => s.setLstate p lsRelay) ((s.setLnk { s.lnk with pgen := g }).set F.LNK_TKO_RELAYING 1)
      ((a.mgmtEach down 6 [(20, toLE 4 a.ident), (24, toLE 2 g)]).tkoEvent 1).recovered 4) := by
  simp only [State.takeRx, hsib, hme, hnew, hhub, hen, ne_eq, not_true_eq_false, decide_false, Bool.or_self, Bool.and_self, Bool.not_true,
    Bool.false_eq_true, if_false]

theorem takeoverRx_handsBack (s : State) (x : Rx) (hrelay : s.on F.LNK_TKO_RELAYING = true) (hsib : s.sibPort = some x.port)
    (hme : le x.bytes 20 4 % 2 ^ 20 = s.ident) : s.takeoverRx x = s.endRelay (le x.bytes 24 2) :=
  if_pos (by simp only [hrelay, hsib, hme, decide_true, Bool.and_self])

theorem takeoverRx_pathChange (s : State) (x : Rx) (hrelay : s.on F.LNK_TKO_RELAYING = false) : s.takeoverRx x = s.pathChange := by
  simp [State.takeoverRx, hrelay]

/-! ### Broadcast (R356) -/

theorem chunkRx_eq (s : State) (x : Rx) (y : Bcast) (fresh room : Bool)
    (hy : y = (s.lnk.bcast.find? (fun y => y.object = bcObject x.bytes)).getD ⟨bcObject x.bytes, bcTotal x.bytes, [], x.port⟩)
    (hfresh : fresh = y.chunks.all (fun c => c.1 ≠ bcOffset x.bytes))
    (hroom : room = decide (s.stagedBytes + (slice x.bytes 64 (bcBytes x.bytes)).length ≤ 1024 * s.fld F.INF_STORE_FREE_KIB)) :
    s.chunkRx x = (let now : Bcast := if fresh && room then { y with chunks := y.chunks ++ [(bcOffset x.bytes, slice x.bytes 64 (bcBytes x.bytes))] } else y
      let v := s.setLnk { s.lnk with bcast := s.lnk.bcast.filter (fun y => y.object ≠ bcObject x.bytes) ++ [now] }
      let z := (v.bcastPorts x.port).foldl (fun (s : State) p => s.send p 4 3 0 x.bytes) v
      if bcOffset x.bytes + bcBytes x.bytes = now.total then
        now.lacking.foldl (fun (s : State) k => s.mgmtEach [x.port] 8 [(20, toLE 4 (bcObject x.bytes)), (24, toLE 4 k)]) z
      else z) := by
  subst hroom hfresh hy
  rfl

theorem nackRx_held (s : State) (x : Rx) (y : Bcast) (k : Nat × Bytes) (hy : s.lnk.bcast.find? (fun y => y.object = le x.bytes 20 4) = some y)
    (hk : y.chunks.find? (fun c => c.1 = le x.bytes 24 4) = some k) :
    s.nackRx x = (let body : List (Nat × Bytes) :=
        [(16, toLE 4 (le x.bytes 20 4)), (20, toLE 4 (le x.bytes 24 4)), (24, toLE 4 y.total), (28, toLE 2 k.2.length), (64, k.2)]
      let r := s.originateBare 0x2E 4 64 0 s.nowNs body
      r.2.sendPeer x.port 4 r.1) := by
  simp only [State.nackRx, hy, hk]

/-! ### Spare admission (R361) -/

theorem spareAdmit_ready (s : State) (hready : s.fld F.LNK_SPARE_STATE = 2) (hahead : s.tim.epoch < s.tkoTarget) :
    s.spareAdmit = s.setLnk { s.lnk with spareEpoch := some s.tkoTarget } := by
  simp [State.spareAdmit, hready, hahead]

/-- A row waits for the epoch's others; with the last of them the candidate's digest goes out. -/
theorem feedRx_candidate (s : State) (x : Rx) (hload : s.loaded = true) (hhub : s.hub = false) :
    s.feedRx x = (let b := x.bytes
      let rows := s.lnk.candRows.filter (fun y => le y 16 6 = le b 16 6 && le y 23 1 ≠ le b 23 1) ++ [b]
      if rows.length < max 1 (le b 24 1) then s.setLnk { s.lnk with candRows := rows }
      else
        let v := s.setLnk { s.lnk with candRows := [] }
        let scores := (sortBy (fun y => le y 23 1) rows).flatMap (fun y => match (v.slot (le y 22 1)).cur with
          | some im => if le b 24 1 = 0 then [] else scoreBytes im (readInputs y (le y 26 2))
          | none => [])
        v.sendShadowDig (le b 16 6) v.ident scores) := if_neg (by simp [hload, hhub])

theorem shadowDigRx_below (s : State) (x : Rx) (hlevel : s.level ≠ 2) : s.shadowDigRx x = s.sendUp 2 x.bytes := if_pos hlevel

/-- At the tray node, the digest of the pair's other Spoke is there and agrees. -/
theorem shadowDigRx_matches (s : State) (x : Rx) (d : Nat × Nat × Nat) (hlevel : s.level = 2)
    (hcand : s.fld F.LNK_SPARE_CAND_SOURCE = le x.bytes 32 4 % 2 ^ 20) (hstate : s.fld F.LNK_SPARE_STATE = 1 ∨ s.fld F.LNK_SPARE_STATE = 2)
    (hd : s.lnk.spareDig.find? (fun d => d.1 = le x.bytes 24 6 && d.2.1 ≠ recSource x.bytes) = some d) (hequal : d.2.2 = le x.bytes 36 8) :
    s.shadowDigRx x = (let v := (s.setLnk { s.lnk with spareDig := s.lnk.spareDig.filter (fun y => y.1 ≠ le x.bytes 24 6) }).inc F.LNK_SPARE_MATCHED
      if v.fld F.LNK_SPARE_STATE = 1 && max 1 (v.fld F.LNK_SPARE_SHADOW_EPOCHS) ≤ v.fld F.LNK_SPARE_MATCHED then (v.set F.LNK_SPARE_STATE 2).spareEvent 1
      else v) := by
  have hstate' : (decide (s.fld F.LNK_SPARE_STATE = 1) || decide (s.fld F.LNK_SPARE_STATE = 2)) = true := by simpa using hstate
  simp only [State.shadowDigRx, hlevel, hcand, hstate', hd, hequal, ne_eq, not_true_eq_false, decide_false, Bool.not_true, Bool.or_self,
    Bool.false_eq_true, if_false, if_true]

/-! ### Split views (R362) -/

theorem splitPersist_told (s v : State) (child row n : Nat)
    (hsplit : s.lnk.splits.find? (fun x => x.1 = child && x.2.1 = row) = some (child, row, n, false)) (hlong : max 1 (s.fld F.LNK_SPLIT_EPOCHS) ≤ n)
    (hv : v = s.setLnk { s.lnk with splits := s.lnk.splits.map (fun x => if x.1 = child && x.2.1 = row then (child, row, n, true) else x) }) :
    s.splitPersist child row = (let x := ((v.inc F.LNK_SPLIT_SPLITS).set F.LNK_SPLIT_LAST_CHILD child).showSplit
      (x.log 0x35 row (x.fld (F.CHILD_B_CHILD_ID child)) n).alertIf F.LNK_CTRL_ALERT_EN 9) := by
  subst hv
  simp only [State.splitPersist, hsplit, Nat.not_lt.2 hlong, decide_false, Bool.or_self, Bool.false_eq_true, if_false]

/-- Settles O44: each command's meaning by its `exec_` equation, its effect by the lemma about the operation it names. -/
theorem topologyCommands : Obligations.TopologyCommands := by
  unfold Obligations.TopologyCommands
  refine ⟨?_, ?_, ?_, ?_, ?_, ?_, ?_, ?_, ?_, ?_, ?_, ?_, ?_, ?_, ?_, ?_, ?_, ?_, ?_, ?_, ?_, ?_, ?_⟩
  · intro s u r v hu hdown hrelay hv
    rw [exec_hello, execHello, ← hu, helloRx_heard u v r hdown hrelay hv, done]
  · intro s u r v hu hdown hrelay hv hload hplan hswap hnew
    rw [exec_hello, execHello, ← hu, helloRx_heard u v r hdown hrelay hv, if_pos hload, planCheck_miscabled v r.port hplan hswap hnew, done]
  · intro s v hv hperiod
    rw [exec_discoveryPeriod, execDiscoveryPeriod, ← hv, discoveryPeriod_runs v hperiod, done]
  · intro s u r hu hhub hload hen hfunc hhead hturn
    rw [exec_discover, execDiscover, ← hu, discoverRx_head u r hhub hload hen hfunc hhead hturn, done]
  · intro s u r e hu hhub hhead he hother
    rw [exec_discReply, execDiscReply, ← hu, discReplyRx_passed u r e hhub hhead he hother, done]
  · intro s u r k hu hhub hk hkids
    rw [exec_discReply, execDiscReply, ← hu, discReplyRx_kept u r k hhub hk hkids, done]
  · intro s p hsib hhub hinj
    rw [exec_heartbeatInterval, execHeartbeatInterval, sendHeartbeat_hub s p hsib hhub hinj, done]
  · intro s u r hu hsib
    rw [exec_heartbeat, execHeartbeat, ← hu, heartbeatRx_sibling u r hsib, done]
  · intro s v e last id hv hsealed hbeat hbehind hhub hsib hen htko
    rw [exec_takeoverDetect, execTakeoverDetect, takeDetect_behind s v e last id hv hsealed hbeat hbehind hhub hsib hen htko,
      takeOver_takes v hhub hsib hen htko, done]
    rfl
  · intro s v a w hs hv hhub hsib hen htko
    rw [exec_tkoTake, execTkoTake, guardWrite_unmarked _ hs (by decide), ← hv, takeOver_takes v hhub hsib hen htko, done]
    rfl
  · intro s v a w hs hv hsib
    rw [exec_tkoTake, execTkoTake, guardWrite_unmarked _ hs (by decide), ← hv, takeOver_refused v hsib, done]
    rfl
  · intro s v a w hs hv htko hsib hahead
    rw [exec_tkoHandback, execTkoHandback, guardWrite_unmarked _ hs (by decide), ← hv, askHandback_pending v htko hsib hahead, done]
  · intro s u r hu hsib hme hnew hhub hen
    rw [exec_take, execTake, ← hu, takeRx_relays u r hsib hme hnew hhub hen, done]
    rfl
  · intro s u r hu hrelay hsib hme
    rw [exec_takeover, execTakeover, ← hu, takeoverRx_handsBack u r hrelay hsib hme, State.endRelay, done]
  · intro s u r hu hrelay
    rw [exec_takeover, execTakeover, ← hu, takeoverRx_pathChange u r hrelay, done]
  · intro s u r y fresh room hu hy hfresh hroom
    rw [exec_bcastChunk, execBcastChunk, ← hu, chunkRx_eq u r y fresh room hy hfresh hroom, done]
  · intro s u r y k hu hy hk
    rw [exec_bcastNack, execBcastNack, ← hu, nackRx_held u r y k hy hk, done]
  · intro s v a w hs hv
    rw [exec_spareStart, execSpareStart, guardWrite_unmarked _ hs (by decide), ← hv, State.spareBegin, done]
    rfl
  · intro s v a w hs hv hready hahead
    rw [exec_spareAdmit, execSpareAdmit, guardWrite_unmarked _ hs (by decide), ← hv, spareAdmit_ready v hready hahead, done]
  · intro s u r hu hload hhub
    rw [exec_shadowFeed, execShadowFeed, ← hu]
    exact congrArg done (feedRx_candidate u r hload hhub)
  · intro s u r hu hlevel
    rw [exec_shadowDig, execShadowDig, ← hu, shadowDigRx_below u r hlevel, done]
  · intro s u r d hu hlevel hcand hstate hd hequal
    rw [exec_shadowDig, execShadowDig, ← hu, shadowDigRx_matches u r d hlevel hcand hstate hd hequal, done]
  · intro s v child row n hsplit hlong hv
    rw [exec_splitViewPersist, execSplitViewPersist, splitPersist_told s v child row n hsplit hlong hv, done]

end Sys2Proof.Machine

/-! Configuration images in service (R402 to R406): O46. -/

namespace Sys2Proof.Machine

/-! ### Staging, commit and abort (R402 to R406) -/

theorem imgStage_fetches (s : State) (hmay : s.mayStage = true) (hidle : s.imgState = imIdle) (hsrc : s.on F.BLK_IMG_CTRL_SRC = false) :
    s.imgStage = (s.setPorts { s.ports with
      jobs := s.ports.jobs ++ [⟨.stageImage, s.pair F.BLK_IMG_SRC_LO F.BLK_IMG_SRC_HI / 16 * 16, s.fld F.BLK_IMG_LEN_LENGTH, [], true⟩] }).set
        F.BLK_IMG_STAT_STATE imFetching := by
  simp [State.imgStage, hmay, hidle, hsrc]

theorem imgStage_rejected (s : State) (hmay : s.mayStage = false) : s.imgStage = s.imgReject 0x15 := by
  simp [State.imgStage, hmay]

/-- A staged image with a target beyond the next epoch takes its place at that epoch's boundary. -/
theorem imgCommit_pending (s : State) (hmay : s.mayStage = true) (hstaged : s.imgState = imStaged) (hahead : s.tim.epoch + 1 < s.imgTarget) :
    s.imgCommit = ((s.openWindows).setImg { s.openWindows.img with target := s.imgTarget }).set F.BLK_IMG_STAT_STATE imPending := by
  have hopened : ¬ s.imgTarget ≤ s.tim.epoch := by omega
  simp only [State.imgCommit, hmay, hstaged, hopened, hahead.ne', ne_eq, not_true_eq_false, decide_false, Bool.not_true, Bool.false_and, Bool.or_self,
    Bool.false_eq_true, if_false]

theorem imgAbort_staged (s : State) (hstaged : s.imgState = imStaged) : s.imgAbort = s.imgIdle := by
  have hpending : imStaged ≠ imPending := by decide
  simp only [State.imgAbort, hstaged, hpending, decide_false, decide_true, Bool.or_false, if_false, if_true]

theorem shadowBuild_due (s u : State) (hpending : s.imgState = imPending) (htarget : s.img.target = s.tim.epoch + 1)
    (hu : u = s.reachNs (s.tim.nextNs - 50000)) :
    s.shadowBuild = u.setImg { u.img with built := true, winClosed := true, childClosed := u.childDiffers u.img.staged } := by
  subst hu
  exact if_pos (by simp only [hpending, htarget, decide_true, Bool.and_self])

/-- Settles O46: each command's meaning by its `exec_` equation, its effect by the lemma about the operation it names. -/
theorem imageCommands : Obligations.ImageCommands := by
  unfold Obligations.ImageCommands
  refine ⟨?_, ?_, ?_, ?_, ?_⟩
  · intro s v a w hs hv hmay hidle hsrc
    rw [exec_imageStage, execImageStage, guardWrite_unmarked _ hs (by decide), State.imgWrite, ← hv, imgStage_fetches v hmay hidle hsrc, done]
  · intro s v a w hs hv hmay
    rw [exec_imageStage, execImageStage, guardWrite_unmarked _ hs (by decide), State.imgWrite, ← hv, imgStage_rejected v hmay, State.imgReject, done]
  · intro s v a w hs hv hmay hstaged hahead
    rw [exec_imageCommit, execImageCommit, guardWrite_unmarked _ hs (by decide), State.imgWrite, ← hv, imgCommit_pending v hmay hstaged hahead, done]
  · intro s v a w hs hv hstaged
    rw [exec_imageAbort, execImageAbort, guardWrite_unmarked _ hs (by decide), State.imgWrite, ← hv, imgAbort_staged v hstaged, State.imgIdle, done]
  · intro s u hpending htarget hu
    rw [exec_imageShadowBuild, execImageShadowBuild, shadowBuild_due s u hpending htarget hu, done]

end Sys2Proof.Machine

/-! Continuity: checkpoints, restore, Kiosk pairs and injected faults (R445 to R458): O47. -/

namespace Sys2Proof.Machine

/-! ### Checkpoints (R445, R447) -/

/-- The target epoch of a checkpoint, in CON_CKPT_EPOCH. -/
def State.ckptTarget (s : State) : Nat := s.fld F.CON_CKPT_EPOCH_LO + 2 ^ 32 * s.fld F.CON_CKPT_EPOCH_HI_EPOCH

theorem ckptAsk_pending (s : State) (hnone : s.con.ckptAt = none) (hcopy : s.con.copy = none) (hahead : s.tim.epoch < s.ckptTarget) :
    s.ckptAsk = (s.setCon { s.con with ckptAt := some s.ckptTarget }).set F.CON_CKPT_STAT_STATE 1 :=
  if_neg (by
    simp only [hnone, hcopy, Option.isSome_none, Bool.or_self, Bool.false_or, decide_eq_true_eq]
    exact Nat.not_le.2 hahead)

theorem ckptAsk_late (s : State) (hpast : s.ckptTarget ≤ s.tim.epoch) : s.ckptAsk = s.set F.CON_CKPT_STAT_LAST_CAUSE 1 :=
  if_pos (by rw [Bool.or_eq_true, decide_eq_true_iff]; exact Or.inr hpast)

theorem ckptFinish_written (s : State) (k : Copy) (hcopy : s.con.copy = some k) (htrailer : k.trailer = true) (hacked : k.acked = k.data.length)
    (hheld : k.held = false) :
    s.ckptFinish = (((((s.setCon { s.con with copy := none }).freeShadows k.shadow.length).set F.CON_CKPT_STAT_STATE 3).inc
      F.CON_CKPT_STAT_CKPTS).conEvent 0 0 0).gateServe := by
  simp only [State.ckptFinish, hcopy, htrailer, hacked, hheld, decide_true, Bool.and_self, Bool.not_true, Bool.false_eq_true, if_false]

theorem ckptAbort_abandons (s : State) (h : s.con.ckptAt.isSome = true ∨ s.con.copy.isSome = true) : s.ckptAbort = s.abandon 3 :=
  if_pos (by simpa using h)

/-! ### Restore (R450, R451) -/

/-- The restore's header is ordered from the Boot Read Port. -/
def State.orderRestore (s : State) : State :=
  s.setPorts { s.ports with jobs := s.ports.jobs ++ [⟨.restore, s.pair F.CON_CKPT_ADDR_LO F.CON_CKPT_ADDR_HI / 64 * 64, 256, [], false⟩] }

theorem restoreAsk_ready (s : State) (hidle : s.fld F.CON_RST_STAT_STATE ≠ 1) (hsvc : s.svc = svcBringup) (hphase : s.fld F.BRU_STATUS_PHASE = 5) :
    s.restoreAsk = (s.set F.CON_RST_STAT_STATE 1).orderRestore := by
  have hup : ¬((svcBringup = svcTest) ∨ (svcBringup = svcService)) := by decide
  simp [State.restoreAsk, State.orderRestore, hidle, hsvc, hphase, hup]

/-- In TEST or SERVICE a restore takes the unit through RECOVERY. -/
theorem restoreAsk_running (s : State) (hidle : s.fld F.CON_RST_STAT_STATE ≠ 1) (hsvc : s.svc = svcTest ∨ s.svc = svcService) :
    s.restoreAsk = ((s.set F.CON_RST_STAT_STATE 1).enterRecovery 0x12).orderRestore := by
  have hup : (decide (s.svc = svcTest) || decide (s.svc = svcService)) = true := by simpa using hsvc
  simp only [State.restoreAsk, State.orderRestore, hidle, hup, decide_false, Bool.or_true, Bool.not_true, Bool.or_self, Bool.false_eq_true, if_false,
    if_true]

/-! ### Kiosk pairs (R453, R454) -/

theorem kioskTimeout_waiting (s u : State) (p : Nat) (hwait : s.con.kiosk.waiting.contains p = true)
    (hu : u = s.reachNs (s.con.kiosk.startNs + 1000 * s.fld F.CON_KSK_STAT_START_US)) :
    s.kioskTimeout p = (let v := (((u.setCon { u.con with kiosk := ⟨1 - u.con.kiosk.half, [], 0⟩ }).conEvent 6 p 0).restoreImage).mdlRevert
      ((v.set F.BLK_IMG_STAT_FAILED 1).alertIf F.BLK_IMG_CTRL_ALERT_EN 0).enterRecovery 0x11) := by
  subst hu
  exact if_neg (by simp only [hwait, Bool.not_true, Bool.false_eq_true, not_false_eq_true])

/-- Of continuity's state an event moves the epoch of the last severe one alone. -/
theorem raiseEvent_con (s : State) (e : LEvt) : ∃ n, (s.raiseEvent e).con = { s.con with sevEpoch := n } := by
  by_cases hstate : s.led.state = 2
  · exact ⟨s.con.sevEpoch, by rw [raiseEvent_mirrorOnly s e hstate, mirrorEvent_con]⟩
  · refine ⟨(s.counted e.kept).con.sevEpoch, ?_⟩
    rw [raiseEvent_counted s e hstate]
    split
    · rw [noteLoss_con, loseEvent_con]; rfl
    · rfl

/-- A mismatch of a pair with nothing loading or staging is counted and logged, and no job is dropped. -/
theorem lockstep_idlePair (s : State) (p : Nat) (hload : s.con.kioskLoad = false) (hstage : s.con.kioskStage = false) :
    s.lockstep p = (s.inc F.CON_KSK_STAT_MISMATCHES).conEvent 7 p 0 := by
  obtain ⟨n, hcon⟩ : ∃ n, ((s.inc F.CON_KSK_STAT_MISMATCHES).conEvent 7 p 0).con = { s.con with sevEpoch := n } := raiseEvent_con _ _
  unfold State.lockstep
  generalize (s.inc F.CON_KSK_STAT_MISMATCHES).conEvent 7 p 0 = u at hcon ⊢
  have huload : u.con.kioskLoad = false := by rw [hcon]; exact hload
  have hustage : u.con.kioskStage = false := by rw [hcon]; exact hstage
  have hkeep : { u.con with kioskLoad := false, kioskStage := false } = u.con :=
    (by rw [huload, hustage] : { u.con with kioskLoad := u.con.kioskLoad, kioskStage := u.con.kioskStage }
      = { u.con with kioskLoad := false, kioskStage := false }).symm
  simp only [huload, hustage, Bool.false_and, Bool.not_false, Bool.false_eq_true, if_false, setPorts_con, hkeep]
  rw [List.filter_eq_self.2]
  · rfl
  · intro j _
    split <;> rfl

/-! ### Injected faults (R455 to R458) -/

theorem fiArm_test (s : State) (operator : Bool) (hsvc : s.svc = svcTest) :
    s.fiArm operator = ((s.setCon { s.con with fiDone := [] }).set F.CON_FI_CTRL_ARMED 1).fiShow := by
  simp [State.fiArm, hsvc]

/-- In SERVICE only an operator arms the schedule. -/
theorem fiArm_refused (s : State) (hsvc : s.svc = svcService) : s.fiArm false = s.set F.CON_FI_CTRL_REFUSED 1 := by
  have htest : svcService ≠ svcTest := by decide
  simp [State.fiArm, hsvc, htest]

theorem fiDue_falls (s u v : State) (i : Nat) (hnext : s.fiNext = some i) (harmed : s.on F.CON_FI_CTRL_ARMED = true)
    (hepoch : s.fiEpoch i = s.tim.epoch) (hu : u = s.reachNs (s.tim.openNs + 1000 * s.fld (F.CON_FI_C_OFFSET_US i)))
    (hv : v = (u.setCon { u.con with fiDone := u.con.fiDone ++ [i] }).fiShow) :
    s.fiDue = if u.fiSkips then (v.inc F.CON_FI_STAT_SKIPPED).conEvent 5 (u.fld (F.CON_FI_B_CLASS i)) 0
      else v.injectFault (u.fld (F.CON_FI_B_CLASS i)) (v.fld (F.CON_FI_C_TARGET i)) (v.fld (F.CON_FI_D_DURATION_US i)) := by
  subst hv hu
  simp only [State.fiDue, hnext, harmed, hepoch, ne_eq, not_true_eq_false, decide_false, Bool.not_true, Bool.or_self, Bool.false_eq_true, if_false]

/-- The end of a fault that held no merge back. -/
theorem fiEnd_over (s u : State) (i : Inject) (hinject : s.con.inject = some i) (hactive : i.active = true) (hu : u = s.reachNs i.untilNs)
    (hcls : i.cls ≠ 4) : s.fiEnd = u.setCon { u.con with inject := some { i with active := false } } := by
  subst hu
  simp only [State.fiEnd, hinject, hactive, hcls, Bool.not_true, Bool.false_eq_true, if_false]

/-- Settles O47: each command's meaning by its `exec_` equation, its effect by the lemma about the operation it names. -/
theorem continuityCommands : Obligations.ContinuityCommands := by
  unfold Obligations.ContinuityCommands
  refine ⟨?_, ?_, ?_, ?_, ?_, ?_, ?_, ?_, ?_, ?_, ?_, ?_, ?_, ?_, ?_⟩
  · intro s v a w hs hv hnone hcopy hahead
    rw [exec_ckpt, execCkpt, guardWrite_unmarked _ hs (by decide), State.conWrite, ← hv, ckptAsk_pending v hnone hcopy hahead, State.ckptTarget, done]
  · intro s v a w hs hv hpast
    rw [exec_ckpt, execCkpt, guardWrite_unmarked _ hs (by decide), State.conWrite, ← hv, ckptAsk_late v hpast, done]
  · intro s k hcopy htrailer hacked hheld
    rw [exec_ckptCopyDone, execCkptCopyDone, ckptFinish_written s k hcopy htrailer hacked hheld, done]
  · intro s v a w hs hv h
    rw [exec_ckptAbort, execCkptAbort, guardWrite_unmarked _ hs (by decide), State.conWrite, ← hv, ckptAbort_abandons v h, done]
  · intro s v a w hs hv hidle hsvc hphase
    rw [exec_restore, execRestore, guardWrite_unmarked _ hs (by decide), State.conWrite, ← hv, restoreAsk_ready v hidle hsvc hphase,
      State.orderRestore, done]
  · intro s v a w hs hv hidle hsvc
    rw [exec_restore, execRestore, guardWrite_unmarked _ hs (by decide), State.conWrite, ← hv, restoreAsk_running v hidle hsvc,
      State.orderRestore, done]
  · intro s v b err hfetched hv
    subst hv
    rw [exec_restoreApplied, execRestoreApplied, State.restoreApply, hfetched, done]
  · intro s v a w hs hv
    rw [exec_kioskReady, execKioskReady, guardWrite_unmarked _ hs (by decide), State.kioskReady, ← hv, done]
    rfl
  · intro s u p hwait hu
    rw [exec_kioskStartTimeout, execKioskStartTimeout, kioskTimeout_waiting s u p hwait hu, done]
  · intro s p hload hstage
    rw [exec_lockstepMismatch, execLockstepMismatch, lockstep_idlePair s p hload hstage, done]
  · intro s v a w hs hv hsvc
    rw [exec_fiArm, execFiArm, guardWrite_unmarked _ hs (by decide), ← hv, fiArm_test v _ hsvc, done]
  · intro s v a w hs hv hsvc hoperator
    rw [exec_fiArm, execFiArm, guardWrite_unmarked _ hs (by decide), hoperator, ← hv, fiArm_refused v hsvc, done]
  · intro s v a w hs hv
    rw [exec_fiDisarm, execFiDisarm, guardWrite_unmarked _ hs (by decide), ← hv, State.disarm, done]
  · intro s u v i hnext harmed hepoch hu hv
    rw [exec_fiEntryDue, execFiEntryDue, fiDue_falls s u v i hnext harmed hepoch hu hv, done]
  · intro s u i hinject hactive hu hcls
    rw [exec_fiDurationEnd, execFiDurationEnd, fiEnd_over s u i hinject hactive hu hcls, done]

end Sys2Proof.Machine
